-- ==== Sys2Proof/Word.lean ====
section
/-! DEFINITION. The plain types that commands and the state share: instants, who sends a
Hexsum message and how, object addresses, TLPs, fabric packets, link flits. -/

namespace Sys2Proof

/-- An instant of orchard time in units of 2^-16 ns, the 80-bit TIME format of R8. -/
abbrev Time := Nat

/-- One nanosecond in the TIME format of R8. -/
abbrev ns (n : Nat) : Time := n * 65536

/-- One microsecond. -/
abbrev us (n : Nat) : Time := n * 65536000

/-- One millisecond. -/
abbrev ms (n : Nat) : Time := n * 65536000000

/-- The path on which a Hexsum request arrives (table of R313). Sessions are rows 0 to 15 of
1800 and MCTP endpoints rows 16 to 31 (R337). -/
inductive Path where
  | udp (session : Nat)
  | mctpSmbus (endpoint : Nat)
  | mctpI3c (endpoint : Nat)
  | smMailbox
  | mailbox (partition : Nat)
  | firmware
  | debugPort
  deriving DecidableEq, Repr

/-- The principals of R313. -/
inductive Principal where
  | sh
  | fa
  | tn (partition : Nat)
  | fw
  | dbg
  deriving DecidableEq, Repr

/-- The envelope of a Hexsum request: its path and the header fields of R322. -/
structure Req where
  path : Path
  tag : Nat := 0
  version : Nat := 1
  size : Nat := 0
  active : Bool := false
  deriving DecidableEq, Repr

/-- An address of R323: index, subindex and, when ROW is 1, the row key. -/
structure ObjAddr where
  idx : Nat
  sub : Nat
  row : Option Nat := none
  deriving DecidableEq, Repr

/-- A write entry of R323: address, type code, and the octets of its value as they are sent (R311). -/
structure WEntry where
  addr : ObjAddr
  ty : Nat
  octets : List Nat
  deriving DecidableEq, Repr

/-- Length of a written value in bytes. -/
def WEntry.len (e : WEntry) : Nat := e.octets.length

/-- A written value: its octets as one number, most significant byte first (R311). -/
def WEntry.val (e : WEntry) : Nat := e.octets.foldl (fun a b => a * 256 + b % 256) 0

/-- The sub-lists of R134 (codes of R127). -/
inductive Sub where
  | posted
  | nonPosted
  | completion
  deriving DecidableEq, Repr

/-- The kinds of TLP that the rules tell apart. -/
inductive TlpKind where
  | memWrite
  | memRead
  | atomic
  | cfgRead
  | cfgWrite
  | ioReq
  | msgRoot
  | msgId
  | msgBroadcast
  | cpl
  deriving DecidableEq, Repr

/-- What an IDE check of R258 finds on a TLP. -/
inductive IdeCheck where
  | plain
  | secure
  | failed
  | misrouted
  deriving DecidableEq, Repr

/-- What the link or transaction layer finds wrong with a received TLP (R298): a Malformed TLP, a Receiver
Overflow, a Flow Control or a Data Link Protocol Error; or what the chip finds on its way to a queue: a parity error or
overrun in the crossing of its tile or in one of its quadrant (R13), an ECC error in a memory that holds its context, or
one there that ECC corrects. -/
inductive TlpFault where
  | malformed
  | overflow
  | flowControl
  | dataLink
  | crossing
  | innerCrossing
  | uncorrectable
  | corrected
  deriving DecidableEq, Repr

/-- A TLP as it is received or sent at a port. `hdr` and `data` are its bytes of header (with
OHC and prefix) and of data in flit-mode form; `prefixes` the number of its prefixes outside Flit mode, a dword each;
`header` its first 32 bytes as one number. Of a TLP under IDE, `stream` is its stream, 0 the Link stream and n + 1
Selective stream n, `kBit` its key set and `pcrc` whether it carries a PCRC. -/
structure Tlp where
  kind : TlpKind := .memWrite
  rid : Nat := 0
  tag : Nat := 0
  tc : Nat := 0
  ro : Bool := false
  ido : Bool := false
  nosnoop : Bool := false
  at10 : Bool := false
  addr : Nat := 0
  data : Nat := 0
  hdr : Nat := 16
  prefixes : Nat := 0
  target : Nat := 0
  cplId : Nat := 0
  status : Nat := 0
  lower : Nat := 0
  byteCount : Nat := 0
  value : Nat := 0
  msgCode : Nat := 0
  poisoned : Bool := false
  ecrc : Option Bool := none
  ide : IdeCheck := .plain
  stream : Nat := 0
  kBit : Bool := false
  pcrc : Bool := false
  fault : Option TlpFault := none
  header : Nat := 0
  deriving DecidableEq, Repr

/-- A TLP with the fields of its fabric packet header (R195) and what its ingress chip noted
for the sampler (R409). `internal` marks orchard-internal traffic of step 2 of R130; `twin`
is 0, or 1 and 2 for the copies A and B of R185. -/
structure Pkt where
  dest : Nat := 0
  src : Nat := 0
  part : Nat := 0
  internal : Bool := false
  cls : Nat := 0
  colour : Nat := 0
  twin : Nat := 0
  pseqValid : Bool := false
  salvage : Bool := false
  seq : Nat := 0
  hop : Nat := 0
  pipOffset : Nat := 0
  orchAddr : Nat := 0
  tlp : Tlp := {}
  inPort : Nat := 0
  inTime : Time := 0
  viaWindow : Bool := false
  /-- A cell of it is lost: 1 with a buffer bank (R306), 2 with a spill block (R307). -/
  lost : Nat := 0
  mf : Bool := false
  rsv : Nat := 0
  /-- An Unsupported Request that a chip generated (R119). -/
  ur : Bool := false
  /-- A copy beside the first of a multicast write or a twin: it brings no credit back (R104, R185). -/
  copy : Bool := false
  deriving DecidableEq, Repr

/-- A hello of R56. -/
structure Hello where
  node : Nat
  serial : Nat
  plane : Nat
  orchard : Nat
  healthy : Bool
  rootClass : Nat
  rootNode : Nat
  hops : Nat
  keeper : Nat
  port : Nat
  deriving DecidableEq, Repr

/-- The parameters of a CONTROL message of R215 and R245. -/
structure Ctl where
  op : Nat
  kind : Nat := 0
  reqId : Nat := 0
  reason : Nat := 0
  phase : Nat := 0
  lane : Nat := 0
  width : Nat := 0
  laneOffset : Nat := 0
  rate : Nat := 0
  swapFlit : Nat := 0
  mins : List Nat := []
  deriving DecidableEq, Repr

/-- The payload of an INIT flit (R198). -/
structure Init where
  node : Nat
  width : Nat
  port : Nat
  gen : Nat
  peerSeen : Bool
  seqKept : Bool
  serial : Nat
  poolUnits : Nat
  mins : List Nat
  held : List Nat
  rxLastGood : Nat
  txNextSeq : Nat
  ackCoalesce : Nat
  resumeGranule : Nat
  ackTimer : Nat
  deriving DecidableEq, Repr

/-- The part of a packet that one DATA flit carries (R197): how many granules, whether the
packet begins and ends in this flit, and the granule of the packet at which the part starts. -/
structure Part where
  pkt : Pkt
  granules : Nat
  first : Bool
  last : Bool
  start : Nat := 0
  deriving DecidableEq, Repr

/-- What a flit carries beside its header: parts of packets in order, or one CONTROL message,
or the fields of INIT. -/
inductive Payload where
  | idle
  | data (parts : List Part)
  | control (m : Ctl)
  | init (i : Init)
  deriving DecidableEq, Repr

/-- A flit: `header` the 96 bits of R193, `timing` the 16 bits of R32. `noise` is what the line added on the way
to the 512 bytes sent: places and the values added there (R190 to R192). -/
structure Flit where
  header : Nat
  payload : Payload
  timing : Nat := 0
  noise : List (Nat × Nat) := []
  deriving DecidableEq, Repr

/-- A training block of R228, as received on a lane. `skew` is by how many picoseconds the receiver finds the lane
behind the earliest lane of its port (R230). -/
structure TBlock where
  sync : Nat
  laneIndex : Nat
  width : Nat
  rate : Nat
  node : Nat
  stage : Nat
  eqOp : Nat
  eqArg : Nat
  eqNum : Nat
  echoNum : Nat
  echoStatus : Nat
  /-- CHECK, bits [15:0]. -/
  check : Nat := 0
  skew : Nat := 0
  deriving DecidableEq, Repr

/-- A function that enumeration finds below a device port (R65): routing position, kind of
4200.04, position of the parent physical function, identity (vendor and device ID), identity of its
virtual functions, TotalVFs, First VF Offset and VF Stride, for each BAR its number, base and size (log 2)
and its type (low four bits), and where its capabilities lie. -/
structure FnInfo where
  pos : Nat
  kind : Nat := 0
  parentPos : Nat := 0
  ids : Nat := 0
  vfIds : Nat := 0
  totalVfs : Nat := 0
  bars : List (Nat × Nat × Nat) := []
  vfBars : List (Nat × Nat × Nat) := []
  /-- Types of the BARs and VF BARs, by number. -/
  types : List (Nat × Nat) := []
  vfTypes : List (Nat × Nat) := []
  vfOffset : Nat := 1
  vfStride : Nat := 1
  /-- Offsets of its Resizable BAR Control registers, each with the BAR that it sizes (R96). -/
  rebars : List (Nat × Nat) := []
  /-- Places of the PCI Express, AER and SR-IOV capabilities. -/
  pcieCap : Nat := 0x40
  aerCap : Nat := 0x100
  sriovCap : Nat := 0x160
  ide : Bool := false
  mpsCap : Nat := 5
  /-- Tag sizes it completes: 0 8-bit, 1 10-bit, 2 14-bit (R85). -/
  tagSize : Nat := 2
  deriving DecidableEq, Repr

/-- A configuration request of a host: target bus, device and function, register (byte offset),
and for a write its value. -/
structure CfgReq where
  bus : Nat
  dev : Nat
  fn : Nat
  reg : Nat
  write : Bool := false
  value : Nat := 0
  rid : Nat := 0
  tag : Nat := 0
  deriving DecidableEq, Repr

/-- The registers of a grafted function that R74 virtualises. -/
inductive ShadowReg where
  | sriovControl
  | maxPayload
  | linkControl
  | aerMask
  | aerSeverity
  | aerCorMask
  | initiateFlr
  deriving DecidableEq, Repr

end Sys2Proof
end

