-- ==== Sys2Proof/Config.lean ====
section
/-! DEFINITION. What an implementation or a single part fixes, and the free values: constants
without a body, so that nothing can be proved about their value. -/

namespace Sys2Proof.Config

/-- Free choice (log 5): which of several free numbers the DK5120 takes when the manual names
none. Applied to the counter State.fresh. -/
opaque choice : Nat → Nat

/-- The chip's random source of R385, applied to State.fresh (log 5). -/
opaque random : Nat → Nat

/-- The part is of grade DK5120-T, else of grade DK5120-C (1000.03, R4, log 6). -/
opaque gradeT : Bool

/-- Offset of the PTM Control register in a management function's configuration space (R40, log 11). -/
opaque ptmControl : Nat

/-- 1000.04, unique serial number (R4, log 6). -/
opaque chipSerial : Nat

/-- 1802.07, set at manufacture (R337, log 6). -/
opaque mgmtMac : Nat

/-- B201.05, SHA-384 of the DeviceID ECDSA public key (R378, log 6). -/
opaque deviceIdHash : Nat

/-- The fused LC_SECURED bit of the part as delivered (R375, log 6). -/
opaque lcSecured : Bool

/-- The fused LC_RETURNED bit of the part as delivered (R375, log 6). -/
opaque lcReturned : Bool

/-- B010.01 as delivered (R388, log 6). -/
opaque rollbackFused : Nat

/-- B010.02 as delivered (R388, log 6). -/
opaque rollbackMirror : Nat

/-- B010.04 as delivered (R388, log 6). -/
opaque keysetRevoked : Nat

/-- Fields .01 to .04 of B100[bank] as delivered (R388, log 6). -/
opaque fwBank : Nat → Nat → Nat

/-- B201.01 and .02 as delivered (R388, log 6). -/
opaque hssLeaf : Nat → Nat

/-- Fused hash ECDSA_HASH[k] (R375, log 6). -/
opaque ecdsaHash : Nat → Nat

/-- Fused hash LMS_HASH[k] (R375, log 6). -/
opaque lmsHash : Nat → Nat

/-- IRQ_PRIORITY and IRQ_TARGET as Odtaku sets them at start (R370, log 6). -/
opaque irqPriority : Nat → Nat

/-- See irqPriority. -/
opaque irqTarget : Nat → Nat

/-- SHA-384 of FIPS 180-4 over a list of octets, as one number (R373, log 10). -/
opaque sha384 : List Nat → Nat

/-- ECDSA P-384 verification of FIPS 186-5: key, message, signature (R373, log 10). -/
opaque ecdsaVerify : List Nat → List Nat → List Nat → Bool

/-- LMS verification of RFC 8554: key, message, signature (R373, log 10). -/
opaque lmsVerify : List Nat → List Nat → List Nat → Bool

/-- The type names of an LMS public key: true for LMS_SHA256_M32_H20 with
LMOTS_SHA256_N32_W8 (R373, log 10). -/
opaque lmsTypeOk : List Nat → Bool

/-- CRC-32 of a profile's contents (R333): the manual names neither polynomial nor encoding (log 10). -/
opaque profileCrc : List (Nat × Nat × Nat) → Nat

/-- Digest of a measurement's content (R380): the manual gives no encoding of it (log 10). -/
opaque measurement : Nat → List Nat → Nat

/-- The servo of R33 and R39 (second order, 100 Hz): its coefficients are not stated. Last
correction and measured offset to new correction, in ppb before the limit (log 5). -/
opaque servo : Int → Int → Int

/-- Value at reset of a configuration register that PCI Express Base 6.2 and not the manual
defines: element of the virtual hierarchy, byte offset (log 11). -/
opaque cfgReset : Nat → Nat → Nat

/-- Error signature octets and other response bodies that the manual leaves to a standard (log 10). -/
opaque spdmBody : Nat → Nat → Nat

/-- Free value (log 5): a value the manual does not state, applied to State.fresh. -/
opaque freeValue : Nat → Nat

/-- Tag size that the host at a host port completes: 0 8-bit, 1 10-bit, 2 14-bit (R85, log 6). -/
opaque hostTagSize : Nat → Nat

/-- Completer ID with which the host of a partition completes (R111, log 6). -/
opaque hostCplId : Nat → Nat

/-- An object's value on another chip of the orchard: node, object's place in the dictionary, row.
The model holds one chip (log 1). -/
opaque remote : Nat → Nat → Nat → Nat

/-- Ranges that the BARs of a function decode where another chip's host holds it: base and size (log 2) by GFID
(R98, log 1). -/
opaque remoteBars : Nat → List (Nat × Nat)

/-- A PCI Express port of another chip has trained in Flit mode: node, port (log 1). -/
opaque remoteFlit : Nat → Nat → Bool

/-- Cells of another chip's buffer that are neither scheduled nor shared: node (R137, log 1). -/
opaque remoteParts : Nat → Nat

/-- Which of several reservations of one source port, destination port and class a packet from another chip belongs to,
where its range does not tell: destination, orchard address (log 86). -/
opaque rsvChoice : Nat → Nat → Nat

/-- Which of several next hops of equal length the keeper takes: node, destination (log 5). -/
opaque routeChoice : Nat → Nat → Nat

/-- TX_TAPS of the presets of PCI Express Base 6.2 at 64.0 GT/s, which FL-64 uses (R232, log 21). -/
opaque presetFl64 : Nat → Nat

/-- Octets of an IPFIX message of RFC 7011 from its fields: domain, export time, sequence, templates,
template number, records (R415, log 10). -/
opaque ipfixOctets : List Nat → Nat

/-- Byte of a TLP in the flit-mode form of PCI Express Base 6.2: what the TLP says, place (R197, log 10). -/
opaque tlpOctet : List Nat → Nat → Nat

/-- Addresses of the identity registers behind 1000.01 to 1000.04 (R368, log 80). -/
opaque identityReg : Nat → Bool

/-- Sizes of the pair-A and pair-B sections in bytes, from the first 32 bytes of an image's code (R398): the
layout of the section table is not given. -/
opaque sectionSizes : List Nat → Nat × Nat

/-- Answer of the DOE mailbox to a data object of CMA/SPDM or Secured CMA/SPDM, in dwords: the contents are those of the
standards and of the host's session (R259, log 10). -/
opaque doeReply : List Nat → List Nat

/-- Lane Margining Status from a command of Lane Margining at the Receiver and the monitor's eye height and width
(R253, log 10). -/
opaque margining : Nat → Nat → Nat → Nat

end Sys2Proof.Config
end

