-- ==== Sys2Proof/Machine/Dict.lean ====
section
/-! DEFINITION. The object dictionary: the objects of the manual's object tables by name, with
address, type, rights, apply class, default, range and whether a profile stores them
(R310 to R316, R337 to R344 and the object table of each chapter). -/

namespace Sys2Proof.Machine

/-- Every object of the dictionary, under the manual's name. -/
inductive Obj where
  | PART_NUMBER
  | STEPPING
  | GRADE
  | CHIP_SERIAL
  | SESSION_STATE
  | SESSION_PRINCIPAL
  | SESSION_TRANSPORT
  | SESSION_PEER
  | SESSION_OPENED
  | SESSION_REQUESTS
  | SESSION_CLOSE
  | HEXSUM_IDLE_TIMEOUT
  | HEXSUM_ENABLE
  | REQUESTS_REFUSED
  | DUPLICATES_SERVED
  | MGMT_ETH_MODE
  | MGMT_IPV4_ADDR
  | MGMT_IPV4_PREFIX
  | MGMT_IPV6_ADDR
  | MGMT_IPV6_PREFIX
  | MGMT_MAC
  | TRUST_HASH
  | TRUST_PRINCIPAL
  | TRUST_VALID
  | FA_PARTITION
  | PIP_PERIOD
  | ORCHARD_TIME
  | PIP_COUNTER
  | PIP_ANCHOR_TIME
  | PIP_ANCHOR_NUMBER
  | SOURCE_ENABLE
  | TREF_CLK_FREQ
  | PTP_DOMAIN
  | ACTIVE_SOURCE
  | TIME_CLASS
  | TIME_ROOT
  | PARENT_PORT
  | TOD_SECONDS
  | LINK_ASYMMETRY
  | LINK_DELAY
  | LINK_OFFSET
  | HOST_TIME_OFFSET
  | HOST_PTM_VALID
  | EPOCH_KIND
  | EPOCH_OFFER_1
  | EPOCH_OFFER_2
  | EPOCH_OFFER_3
  | EPOCH_OFFER_4
  | EPOCH_STATE
  | APPLIED_EPOCH
  | NOT_READY
  | EPOCH_RESULT
  | TIME_STEP
  | PORT_ROLE
  | PORT_WIDTH
  | MAX_RATE
  | LINK_WIDTH
  | LINK_RATE
  | TRAIN_STATE
  | LANE_ORDER
  | TRAIN_FAIL_CAUSE
  | RETRAIN_INTERVAL
  | FAILED_LANES
  | DEGRADE_ACTION
  | RETRAIN
  | CAP_SHED
  | ASPM_L1_ALLOW
  | L1_IDLE_TIME
  | L0P_ENABLE
  | PRESENCE_SOURCE
  | PERST_IN_SEL
  | DP_STATE
  | FUNDAMENTAL_RESET
  | PERST_PULSE
  | TRAIN_TIMEOUT
  | SURPRISE_DOWNS
  | NONFLIT_ALLOW
  | OL_STATE
  | ACK_COALESCE
  | ACK_TIMER
  | REPLAY_TIMEOUT
  | REPLAY_LIMIT
  | LINK_DOWN_TIME
  | POOL_BYTES
  | LEAK_THRESHOLD
  | TX_NEXT_SEQ
  | RX_EXPECTED
  | UNACKED
  | RETAINED
  | FLITS_REPLAYED
  | NAKS_SENT
  | NAKS_RECEIVED
  | FEC_CORRECTED
  | BAD_FLITS
  | CREDIT_DEFICIT
  | REINITS_PLANNED
  | REINITS_UNPLANNED
  | LINK_DOWNS
  | LAST_DOWN_CAUSE
  | PACKETS_SALVAGED
  | COLLISIONS
  | WITHDRAW
  | WITHDRAWN
  | STALE_ACKS
  | DEDUP_DISCARDS
  | ORDER_GAPS
  | STREAM_RESETS
  | VC_MIN_SET
  | VC_MIN_EFFECTIVE
  | VC_HELD
  | VC_RETURNED
  | VC_DEFICIT
  | VC_TX_OUTSTANDING
  | LANE_STATE
  | POLARITY_INVERTED
  | TX_TAPS
  | EYE_HEIGHT
  | EYE_WIDTH
  | CORRECTED_RATE
  | MARGIN_THRESHOLD
  | ERROR_RATE_THRESHOLD
  | PRBS_GEN
  | PRBS_CHECK
  | PRBS_LOCK
  | BIT_ERRORS
  | SYMBOL_ERRORS
  | COUNTER_CLEAR
  | MARGIN_TRIGGERS
  | SPARE_PORT
  | SPARE_AUTO
  | SPARE_STATE
  | SPARE_LANE
  | SPARE_SWAPS
  | SPARE_VERIFY_LIMIT
  | SPARE_COMMAND
  | IDE_MODE
  | IDE_STREAMS_ACTIVE
  | IDE_CHECK_FAILS
  | IDE_KEY_REFRESHES
  | IDE_REKEY_INTERVAL
  | HOST_NODE
  | HOST_PORT
  | PARTITION_STATE
  | VDSB_COUNT
  | FORERUNNER_MODE
  | MPS_LIMIT
  | PRESENTED_VENDOR_ID
  | PRESENTED_SUBSYSTEM_ID
  | UNGRAFT_TIMEOUT
  | CFG_FW_PENDING
  | PARTITION_QUIESCE
  | NODE_ID
  | PLANE
  | ORCHARD_ID
  | ORCHARD_MEMBERS
  | KEEPER_NODE
  | STANDBY_NODE
  | KEEPER_ROLE
  | KEEPER_CHANGES
  | LIVE_MEMBERS
  | NEIGHBOUR_NODE
  | NEIGHBOUR_PORT
  | NEIGHBOUR_STATE
  | NEIGHBOUR_SERIAL
  | MF_STATE
  | MF_FLR_COUNT
  | MF_FLR_DISCARDS
  | MF_PIP_IRQ
  | MF_TELEMETRY_PERIOD
  | PARTITION
  | GFID
  | KIND
  | VDSB
  | VFUNC
  | ACTION
  | GRAFT_STATE
  | GRAFT_RESULT
  | GRAFT_REQUEST
  | AUTO_REGRAFT
  | GRAFT_COMMIT
  | FN_NODE
  | FN_PORT
  | FN_POSITION
  | FN_KIND
  | PARENT_PF
  | PRESENT
  | HELD_BY
  | FN_IDS
  | SRIOV_NUMVFS
  | PRIMARY_PORT
  | ALTERNATE_PORT
  | TWIN_A_PORT
  | TWIN_B_PORT
  | HOPS
  | ROUTE_VALID
  | ACTIVE_PORT
  | ROUTE_GENERATION
  | FAST_REROUTES
  | HOP_LIMIT_DISCARDS
  | TWIN_PLANE_BREACH
  | LOC_NODE
  | LOC_PORT
  | AP_PARTITION
  | AP_BASE
  | AP_SIZE_LOG2
  | AP_TARGET
  | AP_OFFSET
  | AP_SOURCE
  | AP_BAR
  | AP_STATE
  | PW_BASE
  | PW_SIZE_LOG2
  | PW_TARGET
  | PW_OFFSET
  | PW_ACCESS
  | PW_KIND
  | PW_GRANTOR
  | PW_STATE
  | WINDOW_COMMIT
  | ACTIVE_GENERATION
  | STAGED_ROWS
  | WINDOW_DISCARD
  | GRANT_PAIRS
  | INGRESS_REFUSALS
  | EGRESS_REFUSALS
  | HOST_RX_TLPS
  | HOST_RX_BYTES
  | HOST_TX_TLPS
  | HOST_TX_BYTES
  | RED_TLPS
  | MC_MEMBERS
  | MC_TARGET
  | MC_OFFSET
  | MC_GRANTOR
  | CPL_TIMEOUT
  | TAG_QUOTA
  | TAGS_LIVE
  | TAGS_QUARANTINED
  | CPL_TIMEOUTS
  | UNEXPECTED_CPLS
  | ORDER_HOLDS
  | UR_GENERATED
  | TAGS_FREE
  | TO_STORM_LIMIT
  | ORDER_HOLD_TIMEOUT
  | ORDER_HOLD_EXPIRIES
  | UNOWNED_CPLS
  | TAG_ENTRY
  | FQ_KEY
  | FQ_STATE
  | FQ_CELLS_ONCHIP
  | FQ_CELLS_SPILLED
  | FQ_SPILL_ENTRIES
  | FQ_WEIGHT
  | FQ_START_TAG
  | FQ_TOKENS
  | FQ_WEIGHT_SET
  | SPILL_THRESHOLD
  | YELLOW_SPILL_THRESHOLD
  | CR_PARTITION
  | CR_TC_MASK
  | CR_TYPE_MASK
  | CR_ADDR_BASE
  | CR_ADDR_SIZE_LOG2
  | CR_CLASS
  | CR_VALID
  | TC_CLASS_MAP
  | M_ALGO
  | M_MODE
  | M_UNIT
  | M_CIR
  | M_CBS
  | M_PIR_EIR
  | M_PBS_EBS
  | M_RECOVER
  | M_GREEN
  | M_YELLOW
  | M_RED
  | M_WITHHOLDING
  | METER_A
  | METER_B
  | LOSSY_CLASSES
  | RED_DISCARDS
  | WITHHOLD_EVENTS
  | SC_SHAPE_RATE
  | SC_SHAPE_BURST
  | SC_WEIGHT
  | SC_FAIR_MODE
  | SC_VIRTUAL_TIME
  | SC_TX_TLPS
  | SC_TX_BYTES
  | SC_SHAPED_CLOCKS
  | SC_DISCARDS
  | LEN_OVERHEAD
  | FQS_RATE
  | FQS_BURST
  | TOTAL_CELLS
  | SCHED_PARTITION_CELLS
  | SPILL_RESERVE_CELLS
  | SHARED_POOL_CELLS
  | SHARED_FREE_CELLS
  | MIN_RESERVED_CELLS
  | FREE_QUEUES
  | QUEUE_WAITS
  | DRAIN_WINDOW
  | SPILL_BLOCKS_USED
  | SPILL_BYTES_WRITTEN
  | QUEUES_IN_SPILL
  | SCHED_PARTITION_FULL
  | SPILL_PATH_FULL
  | MIN_CELLS
  | ALPHA_CODE
  | CELLS_USED
  | SHARED_USED
  | POOL_DENIALS
  | BRAMBLE_POLICY
  | BRAMBLE_BUDGET
  | BRAMBLE_PASSES
  | LEAKS_FOUND
  | LEAKS_RECLAIMED
  | LAST_LEAK_CELL
  | RSV_SRC_NODE
  | RSV_SRC_PORT
  | RSV_DST_NODE
  | RSV_DST_PORT
  | RSV_CLASS
  | RSV_ADDR_BASE
  | RSV_ADDR_SIZE_LOG2
  | RSV_BYTES_PER_PIP
  | RSV_TLPS_PER_PIP
  | RSV_DEADLINE_REQ
  | RSV_TWIN
  | RSV_ACTION
  | RSV_STATE
  | RSV_DEADLINE_GRANTED
  | RSV_RESULT
  | RSV_REFUSE_DETAIL
  | RSV_PATH_BOUND
  | RSV_REQUEST
  | RSV_ACCEPTED
  | RSV_HELD
  | RSV_OVERSIZE
  | RSV_LATE
  | TWIN_DUPLICATES
  | TWIN_LOST
  | TWIN_WINDOW_DISCARDS
  | RSV_COMMIT
  | RSV_GRANTED
  | GL_ENTRY
  | GL_LENGTH
  | GL_CYCLE_PIPS
  | GL_BANK_STATE
  | GL_ACTIVE_BANK
  | GL_CURRENT_ENTRY
  | GATE_SWITCH
  | GS_RESULT
  | GS_BLOCKING_RSV
  | SP_ENABLE
  | SP_STATE
  | SP_SEAT_DEBOUNCE
  | SP_SENSE_GAIN
  | SP_LIMIT
  | SP_INRUSH_LIMIT
  | SP_INRUSH_TIMEOUT
  | SP_FAULT_TIME
  | SP_FAST_TRIP_PCT
  | SP_VSENSE_RATIO
  | SP_PG_THRESHOLD
  | SP_UV_THRESHOLD
  | SP_PG_DEBOUNCE
  | SP_OFF_TIME
  | SP_PERST_DELAY
  | SP_SHARE_ENABLE
  | SP_SHARE_MIN
  | SP_I_A
  | SP_I_B
  | SP_V_RAIL
  | SP_SHARE_DUTY
  | SP_TRIP_CAUSE
  | SP_TRIPS
  | SP_FEED_STATUS
  | SP_PG_HELD
  | SP_OFF_REMAINING
  | SP_PRESENCE
  | ERROR_LOG
  | LOG_NEXT_SEQ
  | LOG_OVERFLOWS
  | LOG_OPEN
  | PERSISTENT_LOG
  | HUSK_STATE
  | HUSK_RELEASE
  | HUSK_CAUSE
  | HUSK_CAUSE_SEQ
  | HUSK_SINCE
  | HUSK_DRAINED
  | HUSK_RETRAINED
  | HUSK_DISCARDS
  | HUSK_COMMAND
  | ERR_POLICY
  | REGION_AUTO_RESTART
  | REGION_RESTART_LIMIT
  | REGION_RESTART
  | REGION_ISOLATIONS
  | UNIT_CYCLES
  | UNIT_KIND
  | FILT_PRIV
  | FILT_GFID
  | FILT_GFID_MASK
  | FILT_ADDR_BASE
  | FILT_ADDR_SIZE_LOG2
  | FILT_CLASS
  | CTR_EVENT
  | CTR_PORT
  | CTR_FILTER
  | CTR_VALUE
  | CTR_OVERFLOW
  | CTR_CLEAR
  | SAMPLE_ENABLE
  | SAMPLE_PORT
  | SAMPLE_FILTER_UNIT
  | SAMPLE_INTERVAL
  | SAMPLE_DEST
  | SAMPLE_PARTITION
  | SAMPLES_TAKEN
  | SAMPLES_DROPPED
  | SAMPLE_CLEAR
  | SAMPLE_RECORD
  | MR_PORT
  | MR_DIRECTION
  | MR_PARTITION
  | MR_CLASS_MASK
  | MR_DEST_PARTITION
  | MR_VALID
  | MR_RATE
  | MR_CAPTURED
  | MR_DROPPED
  | IPFIX_ANCHOR
  | IPFIX_PERIOD
  | IPFIX_TEMPLATES
  | IPFIX_SENT
  | IPFIX_DROPPED
  | IPFIX_MESSAGE
  | ENGINE_BUDGET
  | ENGINE_PASSES
  | LIFECYCLE_STATE
  | TOKEN_CHALLENGE
  | TOKEN_SUBMIT
  | DEBUG_LOCK
  | TOKEN_RESULT
  | LIFECYCLE_PENDING
  | TOKEN_BUFFER
  | ROLLBACK_FUSED
  | ROLLBACK_MIRROR
  | SVN_COMMIT
  | KEYSET_REVOKED
  | FW_BANK_STATE
  | FW_VERSION
  | FW_SVN
  | FW_KEYSET
  | FW_LOADED_BYTES
  | FW_ERASE
  | FW_WRITE
  | FW_VERIFY
  | FW_SWITCH
  | FW_OP_STATE
  | FW_TRIAL_TIME
  | FW_SWITCH_RESULT
  | MEAS_VALUE
  | MEAS_CHANGES
  | HSS_TOP_Q
  | HSS_BOTTOM_Q
  | HSS_NEXT_READY
  | HSS_FORFEITED
  | DEVICE_ID_HASH
  | ORCHARD_RESET
  | PORT_RESET
  | PARTITION_RESET
  | LAST_RESET
  | FORWARDING_AT
  | BIST_FAILED
  | ROWS_REMAPPED
  | CELLS_WITHHELD
  | MB_IN_STATE
  | MB_OUT_STATE
  | MB_COLLISIONS
  | MB_DB_TO_FW
  | MB_DB_TO_FW_MASK
  | MB_MESSAGES_IN
  | MB_MESSAGES_OUT
  | PAIR_A_STATE
  | PAIR_B_STATE
  | PAIR_A_STOPS
  | PAIR_B_STOPS
  | PAIR_RESTART_LIMIT
  | PAIR_RESTART
  | ACU_FENCE
  | ACCESS_DENIALS
  | DEBUG_DENIALS
  | LAST_DENIAL
  | IRQ_PRIORITY
  | IRQ_SENSE
  | IRQ_TARGET
  | IRQ_ENABLE
  | IRQ_PENDING
  | IRQ_COUNT
  | GROUP_BITS_A
  | GROUP_BITS_B
  | ACU_REGIONS_A0
  | ACU_REGIONS_A1
  | ACU_REGIONS_B0
  | ACU_REGIONS_B1
  | ACU_REGIONS_DMA
  | ACU_REGIONS_HOST
  | ACU_REGIONS_DEBUG
  | MPU_REGIONS_A0
  | MPU_REGIONS_A1
  | MPU_REGIONS_B0
  | MPU_REGIONS_B1
  | ACTIVE_PROFILE
  | PROFILE_DIRTY
  | LOAD_SOURCE
  | DEFAULT_PROFILE
  | PROFILE_SWITCH
  | PS_RESULT
  | PS_DIFF_CLASS
  | PS_FIRST_QB
  | PROFILE_SAVE
  | PROFILE_ERASE
  | PROF_VALID
  | PROF_GENERATION
  | PROF_SAVED
  | PROF_NAME
  | PROF_CHECK
  | THROTTLE_TEMP
  | AVS_MODE
  | REGION_STATE
  | POWER_CAP
  | COOLING
  | POWER_EST
  | CAP_STEP
  | CAP_UNMET
  | CAP_STEPS_TAKEN
  | CLOCK_MODE
  | REF_OFFSET
  | REF_STATE
  | CORE_REF_TILE
  | GPIO_IN
  | GPIO_EVENT_MASK
  | TEMP
  | TEMP_PEAK
  | VDD_MV
  | VDD_SET_MV
  | LIMIT_FLAGS
  | THROTTLE_LEVEL
  | PEAK_CLEAR
  deriving DecidableEq, Repr

/-- Types of R311. `oct n` is an OCTSTR of n bytes, `octs` and `vis` a string of at most n. -/
inductive Ty where
  | bool | u8 | u16 | u32 | u64 | i16 | i32 | i64 | time
  | oct (n : Nat)
  | octs (n : Nat)
  | vis (n : Nat)
  | record
  deriving DecidableEq, Repr

/-- Apply classes of R316. -/
inductive Cls where
  | L | P | E | Q | B
  deriving DecidableEq, Repr

/-- How an object is addressed (R310, R312): alone, as a field of each row of a table, or as an
array whose elements are subindices 1 to n. An element n of an array is kept at row n - 1. -/
inductive Shape where
  | one
  | tab
  | arr (n : Nat)
  deriving DecidableEq, Repr

/-- One object: address, type, rights of SH, FA and TN (1 r, 2 w, 4 x), apply class, default,
intervals of the values allowed (none: every value of the type) and whether every profile
stores it (R341, R342). -/
structure ObjDef where
  obj : Obj
  idx : Nat
  sub : Nat
  ty : Ty
  shape : Shape
  sh : Nat
  fa : Nat
  tn : Nat
  cls : Cls
  dflt : Nat
  rng : List (Nat × Nat)
  prof : Bool
  deriving DecidableEq, Repr


/-- The definition of an object. -/
def Obj.info : Obj → ObjDef
  | .PART_NUMBER => ⟨.PART_NUMBER, 0x1000, 0x01, .u32, .one, 1, 1, 1, .L, 20768, [], false⟩
  | .STEPPING => ⟨.STEPPING, 0x1000, 0x02, .u8, .one, 1, 1, 1, .L, 176, [], false⟩
  | .GRADE => ⟨.GRADE, 0x1000, 0x03, (.vis 64), .one, 1, 1, 1, .L, 0, [], false⟩
  | .CHIP_SERIAL => ⟨.CHIP_SERIAL, 0x1000, 0x04, .u64, .one, 1, 1, 0, .L, 0, [], false⟩
  | .SESSION_STATE => ⟨.SESSION_STATE, 0x1800, 0x01, .u8, .tab, 1, 1, 0, .L, 0, [], false⟩
  | .SESSION_PRINCIPAL => ⟨.SESSION_PRINCIPAL, 0x1800, 0x02, .u8, .tab, 1, 1, 0, .L, 0, [], false⟩
  | .SESSION_TRANSPORT => ⟨.SESSION_TRANSPORT, 0x1800, 0x03, .u8, .tab, 1, 1, 0, .L, 0, [], false⟩
  | .SESSION_PEER => ⟨.SESSION_PEER, 0x1800, 0x04, (.oct 18), .tab, 1, 1, 0, .L, 0, [], false⟩
  | .SESSION_OPENED => ⟨.SESSION_OPENED, 0x1800, 0x05, .time, .tab, 1, 1, 0, .L, 0, [], false⟩
  | .SESSION_REQUESTS => ⟨.SESSION_REQUESTS, 0x1800, 0x06, .u64, .tab, 1, 1, 0, .L, 0, [], false⟩
  | .SESSION_CLOSE => ⟨.SESSION_CLOSE, 0x1800, 0x07, .record, .tab, 4, 0, 0, .L, 0, [], false⟩
  | .HEXSUM_IDLE_TIMEOUT => ⟨.HEXSUM_IDLE_TIMEOUT, 0x1801, 0x01, .u32, .one, 3, 0, 0, .P, 300, [(30, 86400)], true⟩
  | .HEXSUM_ENABLE => ⟨.HEXSUM_ENABLE, 0x1801, 0x02, .u8, .one, 3, 0, 0, .P, 7, [], true⟩
  | .REQUESTS_REFUSED => ⟨.REQUESTS_REFUSED, 0x1801, 0x03, .u32, .one, 1, 1, 0, .L, 0, [], false⟩
  | .DUPLICATES_SERVED => ⟨.DUPLICATES_SERVED, 0x1801, 0x04, .u32, .one, 1, 1, 0, .L, 0, [], false⟩
  | .MGMT_ETH_MODE => ⟨.MGMT_ETH_MODE, 0x1802, 0x01, .u8, .one, 3, 0, 0, .B, 1, [(0, 2)], false⟩
  | .MGMT_IPV4_ADDR => ⟨.MGMT_IPV4_ADDR, 0x1802, 0x02, .u32, .one, 3, 0, 0, .L, 0, [], false⟩
  | .MGMT_IPV4_PREFIX => ⟨.MGMT_IPV4_PREFIX, 0x1802, 0x03, .u8, .one, 3, 0, 0, .L, 24, [(8, 30)], false⟩
  | .MGMT_IPV6_ADDR => ⟨.MGMT_IPV6_ADDR, 0x1802, 0x04, (.oct 16), .one, 3, 0, 0, .L, 0, [], false⟩
  | .MGMT_IPV6_PREFIX => ⟨.MGMT_IPV6_PREFIX, 0x1802, 0x05, .u8, .one, 3, 0, 0, .L, 64, [(16, 126)], false⟩
  | .MGMT_MAC => ⟨.MGMT_MAC, 0x1802, 0x07, (.oct 6), .one, 1, 1, 0, .L, 0, [], false⟩
  | .TRUST_HASH => ⟨.TRUST_HASH, 0x1810, 0x01, (.oct 48), .tab, 3, 0, 0, .L, 0, [], false⟩
  | .TRUST_PRINCIPAL => ⟨.TRUST_PRINCIPAL, 0x1810, 0x02, .u8, .tab, 3, 0, 0, .L, 1, [(1, 2)], false⟩
  | .TRUST_VALID => ⟨.TRUST_VALID, 0x1810, 0x03, .bool, .tab, 3, 0, 0, .L, 0, [], false⟩
  | .FA_PARTITION => ⟨.FA_PARTITION, 0x1820, 0x01, .bool, .tab, 3, 1, 0, .L, 0, [], false⟩
  | .PIP_PERIOD => ⟨.PIP_PERIOD, 0x2001, 0x00, .u8, .one, 3, 3, 1, .E, 1, [(0, 4)], true⟩
  | .ORCHARD_TIME => ⟨.ORCHARD_TIME, 0x2002, 0x00, .time, .one, 1, 1, 1, .L, 0, [], false⟩
  | .PIP_COUNTER => ⟨.PIP_COUNTER, 0x2003, 0x00, .u32, .one, 1, 1, 1, .L, 0, [], false⟩
  | .PIP_ANCHOR_TIME => ⟨.PIP_ANCHOR_TIME, 0x2004, 0x01, .time, .one, 1, 1, 1, .L, 0, [], false⟩
  | .PIP_ANCHOR_NUMBER => ⟨.PIP_ANCHOR_NUMBER, 0x2004, 0x02, .u64, .one, 1, 1, 1, .L, 0, [], false⟩
  | .SOURCE_ENABLE => ⟨.SOURCE_ENABLE, 0x2010, 0x01, .u8, .one, 3, 3, 0, .P, 7, [], true⟩
  | .TREF_CLK_FREQ => ⟨.TREF_CLK_FREQ, 0x2010, 0x02, .u8, .one, 3, 3, 0, .B, 0, [(0, 1)], true⟩
  | .PTP_DOMAIN => ⟨.PTP_DOMAIN, 0x2010, 0x03, .u8, .one, 3, 3, 0, .P, 0, [(0, 127)], true⟩
  | .ACTIVE_SOURCE => ⟨.ACTIVE_SOURCE, 0x2010, 0x04, .u8, .one, 1, 1, 0, .L, 3, [], false⟩
  | .TIME_CLASS => ⟨.TIME_CLASS, 0x2010, 0x05, .u8, .one, 1, 1, 0, .L, 3, [], false⟩
  | .TIME_ROOT => ⟨.TIME_ROOT, 0x2010, 0x06, .u8, .one, 1, 1, 0, .L, 0, [], false⟩
  | .PARENT_PORT => ⟨.PARENT_PORT, 0x2010, 0x07, .u16, .one, 1, 1, 0, .L, 65535, [], false⟩
  | .TOD_SECONDS => ⟨.TOD_SECONDS, 0x2010, 0x08, .u64, .one, 3, 0, 0, .L, 0, [], false⟩
  | .LINK_ASYMMETRY => ⟨.LINK_ASYMMETRY, 0x2020, 0x01, .i32, .tab, 3, 3, 0, .P, 0, [], true⟩
  | .LINK_DELAY => ⟨.LINK_DELAY, 0x2020, 0x02, .u32, .tab, 1, 1, 0, .L, 0, [], false⟩
  | .LINK_OFFSET => ⟨.LINK_OFFSET, 0x2020, 0x03, .i32, .tab, 1, 1, 0, .L, 0, [], false⟩
  | .HOST_TIME_OFFSET => ⟨.HOST_TIME_OFFSET, 0x2030, 0x01, .i64, .tab, 1, 1, 1, .L, 0, [], false⟩
  | .HOST_PTM_VALID => ⟨.HOST_PTM_VALID, 0x2030, 0x02, .bool, .tab, 1, 1, 1, .L, 0, [], false⟩
  | .EPOCH_KIND => ⟨.EPOCH_KIND, 0x2100, 0x01, .u8, .tab, 1, 1, 0, .L, 0, [], false⟩
  | .EPOCH_OFFER_1 => ⟨.EPOCH_OFFER_1, 0x2100, 0x02, .time, .tab, 1, 1, 0, .L, 0, [], false⟩
  | .EPOCH_OFFER_2 => ⟨.EPOCH_OFFER_2, 0x2100, 0x03, .time, .tab, 1, 1, 0, .L, 0, [], false⟩
  | .EPOCH_OFFER_3 => ⟨.EPOCH_OFFER_3, 0x2100, 0x04, .time, .tab, 1, 1, 0, .L, 0, [], false⟩
  | .EPOCH_OFFER_4 => ⟨.EPOCH_OFFER_4, 0x2100, 0x05, .time, .tab, 1, 1, 0, .L, 0, [], false⟩
  | .EPOCH_STATE => ⟨.EPOCH_STATE, 0x2100, 0x06, .u8, .tab, 1, 1, 0, .L, 0, [], false⟩
  | .APPLIED_EPOCH => ⟨.APPLIED_EPOCH, 0x2100, 0x07, .time, .tab, 1, 1, 0, .L, 0, [], false⟩
  | .NOT_READY => ⟨.NOT_READY, 0x2100, 0x08, .u16, .tab, 1, 1, 0, .L, 65535, [], false⟩
  | .EPOCH_RESULT => ⟨.EPOCH_RESULT, 0x2100, 0x09, .u16, .tab, 1, 1, 0, .L, 0, [], false⟩
  | .TIME_STEP => ⟨.TIME_STEP, 0x2101, 0x01, .record, .one, 4, 0, 0, .E, 0, [], false⟩
  | .PORT_ROLE => ⟨.PORT_ROLE, 0x3000, 0x01, .u8, .tab, 3, 3, 0, .Q, 0, [(0, 3)], true⟩
  | .PORT_WIDTH => ⟨.PORT_WIDTH, 0x3000, 0x02, .u8, .tab, 3, 3, 0, .Q, 0, [(0, 2), (4, 4), (8, 8), (16, 16)], true⟩
  | .MAX_RATE => ⟨.MAX_RATE, 0x3000, 0x03, .u8, .tab, 3, 3, 0, .Q, 6, [(1, 6), (16, 17)], true⟩
  | .LINK_WIDTH => ⟨.LINK_WIDTH, 0x3000, 0x04, .u8, .tab, 1, 1, 0, .L, 0, [], false⟩
  | .LINK_RATE => ⟨.LINK_RATE, 0x3000, 0x05, .u8, .tab, 1, 1, 0, .L, 0, [], false⟩
  | .TRAIN_STATE => ⟨.TRAIN_STATE, 0x3000, 0x06, .u8, .tab, 1, 1, 0, .L, 0, [], false⟩
  | .LANE_ORDER => ⟨.LANE_ORDER, 0x3000, 0x07, .u8, .tab, 1, 1, 0, .L, 0, [], false⟩
  | .TRAIN_FAIL_CAUSE => ⟨.TRAIN_FAIL_CAUSE, 0x3000, 0x08, .u8, .tab, 1, 1, 0, .L, 0, [], false⟩
  | .RETRAIN_INTERVAL => ⟨.RETRAIN_INTERVAL, 0x3000, 0x09, .u32, .tab, 3, 3, 0, .P, 100000, [(1000, 10000000)], true⟩
  | .FAILED_LANES => ⟨.FAILED_LANES, 0x3000, 0x0A, .u16, .tab, 1, 1, 0, .L, 0, [], false⟩
  | .DEGRADE_ACTION => ⟨.DEGRADE_ACTION, 0x3000, 0x0B, .bool, .tab, 3, 3, 0, .P, 1, [], true⟩
  | .RETRAIN => ⟨.RETRAIN, 0x3000, 0x0C, .record, .tab, 4, 4, 0, .L, 0, [], false⟩
  | .CAP_SHED => ⟨.CAP_SHED, 0x3000, 0x0D, .bool, .tab, 3, 3, 0, .P, 0, [], true⟩
  | .ASPM_L1_ALLOW => ⟨.ASPM_L1_ALLOW, 0x3100, 0x01, .bool, .tab, 3, 3, 0, .P, 1, [], true⟩
  | .L1_IDLE_TIME => ⟨.L1_IDLE_TIME, 0x3100, 0x02, .u32, .tab, 3, 3, 0, .P, 100, [(10, 1000000)], true⟩
  | .L0P_ENABLE => ⟨.L0P_ENABLE, 0x3100, 0x03, .bool, .tab, 3, 3, 0, .Q, 0, [], true⟩
  | .PRESENCE_SOURCE => ⟨.PRESENCE_SOURCE, 0x3100, 0x04, .u8, .tab, 3, 3, 0, .Q, 0, [(0, 2)], true⟩
  | .PERST_IN_SEL => ⟨.PERST_IN_SEL, 0x3100, 0x05, .bool, .tab, 3, 3, 0, .Q, 1, [], true⟩
  | .DP_STATE => ⟨.DP_STATE, 0x3100, 0x06, .u8, .tab, 1, 1, 0, .L, 0, [], false⟩
  | .FUNDAMENTAL_RESET => ⟨.FUNDAMENTAL_RESET, 0x3100, 0x07, .record, .tab, 4, 4, 0, .L, 0, [], false⟩
  | .PERST_PULSE => ⟨.PERST_PULSE, 0x3100, 0x08, .u32, .tab, 3, 3, 0, .P, 1000, [(100, 1000000)], true⟩
  | .TRAIN_TIMEOUT => ⟨.TRAIN_TIMEOUT, 0x3100, 0x09, .u32, .tab, 3, 3, 0, .P, 1000, [(100, 60000)], true⟩
  | .SURPRISE_DOWNS => ⟨.SURPRISE_DOWNS, 0x3100, 0x0A, .u32, .tab, 1, 1, 0, .L, 0, [], false⟩
  | .NONFLIT_ALLOW => ⟨.NONFLIT_ALLOW, 0x3100, 0x0B, .bool, .tab, 3, 3, 0, .Q, 1, [], true⟩
  | .OL_STATE => ⟨.OL_STATE, 0x3200, 0x01, .u8, .tab, 1, 1, 0, .L, 0, [], false⟩
  | .ACK_COALESCE => ⟨.ACK_COALESCE, 0x3200, 0x02, .u8, .tab, 3, 3, 0, .P, 16, [(1, 255)], true⟩
  | .ACK_TIMER => ⟨.ACK_TIMER, 0x3200, 0x03, .u16, .tab, 3, 3, 0, .P, 200, [(20, 5000)], true⟩
  | .REPLAY_TIMEOUT => ⟨.REPLAY_TIMEOUT, 0x3200, 0x04, .u32, .tab, 3, 3, 0, .P, 2000, [(1000, 50000)], true⟩
  | .REPLAY_LIMIT => ⟨.REPLAY_LIMIT, 0x3200, 0x05, .u8, .tab, 3, 3, 0, .P, 4, [(2, 15)], true⟩
  | .LINK_DOWN_TIME => ⟨.LINK_DOWN_TIME, 0x3200, 0x06, .u32, .tab, 3, 3, 0, .P, 50000, [(1000, 10000000)], true⟩
  | .POOL_BYTES => ⟨.POOL_BYTES, 0x3200, 0x07, .u32, .tab, 3, 3, 0, .Q, 0, [(65536, 4194304)], true⟩
  | .LEAK_THRESHOLD => ⟨.LEAK_THRESHOLD, 0x3200, 0x08, .u8, .tab, 3, 3, 0, .P, 8, [(1, 32)], true⟩
  | .TX_NEXT_SEQ => ⟨.TX_NEXT_SEQ, 0x3200, 0x09, .u16, .tab, 1, 1, 0, .L, 0, [], false⟩
  | .RX_EXPECTED => ⟨.RX_EXPECTED, 0x3200, 0x0A, .u16, .tab, 1, 1, 0, .L, 0, [], false⟩
  | .UNACKED => ⟨.UNACKED, 0x3200, 0x0B, .u16, .tab, 1, 1, 0, .L, 0, [], false⟩
  | .RETAINED => ⟨.RETAINED, 0x3200, 0x0C, .u16, .tab, 1, 1, 0, .L, 0, [], false⟩
  | .FLITS_REPLAYED => ⟨.FLITS_REPLAYED, 0x3200, 0x0D, .u64, .tab, 1, 1, 0, .L, 0, [], false⟩
  | .NAKS_SENT => ⟨.NAKS_SENT, 0x3200, 0x0E, .u32, .tab, 1, 1, 0, .L, 0, [], false⟩
  | .NAKS_RECEIVED => ⟨.NAKS_RECEIVED, 0x3200, 0x0F, .u32, .tab, 1, 1, 0, .L, 0, [], false⟩
  | .FEC_CORRECTED => ⟨.FEC_CORRECTED, 0x3200, 0x10, .u64, .tab, 1, 1, 0, .L, 0, [], false⟩
  | .BAD_FLITS => ⟨.BAD_FLITS, 0x3200, 0x11, .u32, .tab, 1, 1, 0, .L, 0, [], false⟩
  | .CREDIT_DEFICIT => ⟨.CREDIT_DEFICIT, 0x3200, 0x12, .u32, .tab, 1, 1, 0, .L, 0, [], false⟩
  | .REINITS_PLANNED => ⟨.REINITS_PLANNED, 0x3200, 0x13, .u32, .tab, 1, 1, 0, .L, 0, [], false⟩
  | .REINITS_UNPLANNED => ⟨.REINITS_UNPLANNED, 0x3200, 0x14, .u32, .tab, 1, 1, 0, .L, 0, [], false⟩
  | .LINK_DOWNS => ⟨.LINK_DOWNS, 0x3200, 0x15, .u32, .tab, 1, 1, 0, .L, 0, [], false⟩
  | .LAST_DOWN_CAUSE => ⟨.LAST_DOWN_CAUSE, 0x3200, 0x16, .u8, .tab, 1, 1, 0, .L, 0, [], false⟩
  | .PACKETS_SALVAGED => ⟨.PACKETS_SALVAGED, 0x3200, 0x17, .u64, .tab, 1, 1, 0, .L, 0, [], false⟩
  | .COLLISIONS => ⟨.COLLISIONS, 0x3200, 0x18, .u32, .tab, 1, 1, 0, .L, 0, [], false⟩
  | .WITHDRAW => ⟨.WITHDRAW, 0x3200, 0x19, .record, .tab, 4, 4, 0, .L, 0, [], false⟩
  | .WITHDRAWN => ⟨.WITHDRAWN, 0x3200, 0x1A, .bool, .tab, 1, 1, 0, .L, 0, [], false⟩
  | .STALE_ACKS => ⟨.STALE_ACKS, 0x3200, 0x1B, .u32, .tab, 1, 1, 0, .L, 0, [], false⟩
  | .DEDUP_DISCARDS => ⟨.DEDUP_DISCARDS, 0x3201, 0x01, .u64, .one, 1, 1, 0, .L, 0, [], false⟩
  | .ORDER_GAPS => ⟨.ORDER_GAPS, 0x3201, 0x02, .u32, .one, 1, 1, 0, .L, 0, [], false⟩
  | .STREAM_RESETS => ⟨.STREAM_RESETS, 0x3201, 0x03, .u32, .one, 1, 1, 0, .L, 0, [], false⟩
  | .VC_MIN_SET => ⟨.VC_MIN_SET, 0x3210, 0x01, .u32, .tab, 3, 3, 0, .P, 72, [(67, 65536)], true⟩
  | .VC_MIN_EFFECTIVE => ⟨.VC_MIN_EFFECTIVE, 0x3210, 0x02, .u32, .tab, 1, 1, 0, .L, 72, [], false⟩
  | .VC_HELD => ⟨.VC_HELD, 0x3210, 0x03, .u32, .tab, 1, 1, 0, .L, 0, [], false⟩
  | .VC_RETURNED => ⟨.VC_RETURNED, 0x3210, 0x04, .u32, .tab, 1, 1, 0, .L, 0, [], false⟩
  | .VC_DEFICIT => ⟨.VC_DEFICIT, 0x3210, 0x05, .i32, .tab, 1, 1, 0, .L, 0, [], false⟩
  | .VC_TX_OUTSTANDING => ⟨.VC_TX_OUTSTANDING, 0x3210, 0x06, .u32, .tab, 1, 1, 0, .L, 0, [], false⟩
  | .LANE_STATE => ⟨.LANE_STATE, 0x3400, 0x01, .u8, .tab, 1, 1, 0, .L, 0, [], false⟩
  | .POLARITY_INVERTED => ⟨.POLARITY_INVERTED, 0x3400, 0x02, .bool, .tab, 1, 1, 0, .L, 0, [], false⟩
  | .TX_TAPS => ⟨.TX_TAPS, 0x3400, 0x03, .u32, .tab, 1, 1, 0, .L, 16384, [], false⟩
  | .EYE_HEIGHT => ⟨.EYE_HEIGHT, 0x3400, 0x04, .u8, .tab, 1, 1, 0, .L, 0, [], false⟩
  | .EYE_WIDTH => ⟨.EYE_WIDTH, 0x3400, 0x05, .u8, .tab, 1, 1, 0, .L, 0, [], false⟩
  | .CORRECTED_RATE => ⟨.CORRECTED_RATE, 0x3400, 0x06, .u32, .tab, 1, 1, 0, .L, 0, [], false⟩
  | .MARGIN_THRESHOLD => ⟨.MARGIN_THRESHOLD, 0x3400, 0x07, .u8, .tab, 3, 3, 0, .P, 40, [], true⟩
  | .ERROR_RATE_THRESHOLD => ⟨.ERROR_RATE_THRESHOLD, 0x3400, 0x08, .u32, .tab, 3, 3, 0, .P, 1000, [], true⟩
  | .PRBS_GEN => ⟨.PRBS_GEN, 0x3400, 0x09, .u8, .tab, 3, 3, 0, .Q, 0, [(0, 5)], false⟩
  | .PRBS_CHECK => ⟨.PRBS_CHECK, 0x3400, 0x0A, .u8, .tab, 3, 3, 0, .Q, 0, [(0, 5)], false⟩
  | .PRBS_LOCK => ⟨.PRBS_LOCK, 0x3400, 0x0B, .bool, .tab, 1, 1, 0, .L, 0, [], false⟩
  | .BIT_ERRORS => ⟨.BIT_ERRORS, 0x3400, 0x0C, .u64, .tab, 1, 1, 0, .L, 0, [], false⟩
  | .SYMBOL_ERRORS => ⟨.SYMBOL_ERRORS, 0x3400, 0x0D, .u64, .tab, 1, 1, 0, .L, 0, [], false⟩
  | .COUNTER_CLEAR => ⟨.COUNTER_CLEAR, 0x3400, 0x0E, .record, .tab, 4, 4, 0, .L, 0, [], false⟩
  | .MARGIN_TRIGGERS => ⟨.MARGIN_TRIGGERS, 0x3400, 0x0F, .u32, .tab, 1, 1, 0, .L, 0, [], false⟩
  | .SPARE_PORT => ⟨.SPARE_PORT, 0x3410, 0x01, .u16, .tab, 3, 3, 0, .Q, 65535, [(0, 511), (65535, 65535)], true⟩
  | .SPARE_AUTO => ⟨.SPARE_AUTO, 0x3410, 0x02, .bool, .tab, 3, 3, 0, .P, 1, [], true⟩
  | .SPARE_STATE => ⟨.SPARE_STATE, 0x3410, 0x03, .u8, .tab, 1, 1, 0, .L, 0, [], false⟩
  | .SPARE_LANE => ⟨.SPARE_LANE, 0x3410, 0x04, .u8, .tab, 1, 1, 0, .L, 255, [], false⟩
  | .SPARE_SWAPS => ⟨.SPARE_SWAPS, 0x3410, 0x05, .u32, .tab, 1, 1, 0, .L, 0, [], false⟩
  | .SPARE_VERIFY_LIMIT => ⟨.SPARE_VERIFY_LIMIT, 0x3410, 0x06, .u32, .tab, 3, 3, 0, .P, 100, [(0, 100000)], true⟩
  | .SPARE_COMMAND => ⟨.SPARE_COMMAND, 0x3410, 0x07, .record, .tab, 4, 4, 0, .L, 0, [], false⟩
  | .IDE_MODE => ⟨.IDE_MODE, 0x3600, 0x01, .u8, .tab, 3, 3, 0, .Q, 1, [(0, 2)], true⟩
  | .IDE_STREAMS_ACTIVE => ⟨.IDE_STREAMS_ACTIVE, 0x3600, 0x02, .u8, .tab, 1, 1, 0, .L, 0, [], false⟩
  | .IDE_CHECK_FAILS => ⟨.IDE_CHECK_FAILS, 0x3600, 0x03, .u32, .tab, 1, 1, 0, .L, 0, [], false⟩
  | .IDE_KEY_REFRESHES => ⟨.IDE_KEY_REFRESHES, 0x3600, 0x04, .u32, .tab, 1, 1, 0, .L, 0, [], false⟩
  | .IDE_REKEY_INTERVAL => ⟨.IDE_REKEY_INTERVAL, 0x3600, 0x05, .u32, .tab, 3, 3, 0, .P, 86400, [(0, 0), (60, 31536000)], true⟩
  | .HOST_NODE => ⟨.HOST_NODE, 0x4000, 0x01, .u8, .tab, 3, 3, 1, .Q, 255, [(0, 31), (255, 255)], true⟩
  | .HOST_PORT => ⟨.HOST_PORT, 0x4000, 0x02, .u16, .tab, 3, 3, 1, .Q, 65535, [(0, 511), (65535, 65535)], true⟩
  | .PARTITION_STATE => ⟨.PARTITION_STATE, 0x4000, 0x03, .u8, .tab, 1, 1, 1, .L, 0, [], false⟩
  | .VDSB_COUNT => ⟨.VDSB_COUNT, 0x4000, 0x04, .u16, .tab, 3, 3, 1, .Q, 16, [(1, 256)], true⟩
  | .FORERUNNER_MODE => ⟨.FORERUNNER_MODE, 0x4000, 0x05, .bool, .tab, 3, 3, 1, .Q, 0, [], true⟩
  | .MPS_LIMIT => ⟨.MPS_LIMIT, 0x4000, 0x06, .u8, .tab, 3, 3, 1, .Q, 1, [(0, 5)], true⟩
  | .PRESENTED_VENDOR_ID => ⟨.PRESENTED_VENDOR_ID, 0x4000, 0x07, .u16, .tab, 3, 3, 1, .B, 8103, [], true⟩
  | .PRESENTED_SUBSYSTEM_ID => ⟨.PRESENTED_SUBSYSTEM_ID, 0x4000, 0x08, .u16, .tab, 3, 3, 1, .B, 0, [], true⟩
  | .UNGRAFT_TIMEOUT => ⟨.UNGRAFT_TIMEOUT, 0x4000, 0x09, .u32, .tab, 3, 3, 1, .P, 30000, [(1000, 600000)], true⟩
  | .CFG_FW_PENDING => ⟨.CFG_FW_PENDING, 0x4000, 0x0A, .u8, .tab, 1, 1, 1, .L, 0, [], false⟩
  | .PARTITION_QUIESCE => ⟨.PARTITION_QUIESCE, 0x4000, 0x0B, .record, .tab, 4, 4, 0, .L, 0, [], false⟩
  | .NODE_ID => ⟨.NODE_ID, 0x4001, 0x01, .u8, .one, 3, 1, 0, .B, 0, [(0, 31)], true⟩
  | .PLANE => ⟨.PLANE, 0x4001, 0x02, .u8, .one, 3, 1, 0, .B, 0, [(0, 2)], true⟩
  | .ORCHARD_ID => ⟨.ORCHARD_ID, 0x4001, 0x03, .u32, .one, 3, 1, 0, .B, 0, [], true⟩
  | .ORCHARD_MEMBERS => ⟨.ORCHARD_MEMBERS, 0x4001, 0x04, .u32, .one, 3, 1, 0, .P, 1, [], true⟩
  | .KEEPER_NODE => ⟨.KEEPER_NODE, 0x4002, 0x01, .u8, .one, 1, 1, 0, .L, 255, [], false⟩
  | .STANDBY_NODE => ⟨.STANDBY_NODE, 0x4002, 0x02, .u8, .one, 1, 1, 0, .L, 255, [], false⟩
  | .KEEPER_ROLE => ⟨.KEEPER_ROLE, 0x4002, 0x03, .u8, .one, 1, 1, 0, .L, 0, [], false⟩
  | .KEEPER_CHANGES => ⟨.KEEPER_CHANGES, 0x4002, 0x04, .u32, .one, 1, 1, 0, .L, 0, [], false⟩
  | .LIVE_MEMBERS => ⟨.LIVE_MEMBERS, 0x4002, 0x05, .u32, .one, 1, 1, 0, .L, 0, [], false⟩
  | .NEIGHBOUR_NODE => ⟨.NEIGHBOUR_NODE, 0x4010, 0x01, .u8, .tab, 1, 1, 0, .L, 255, [], false⟩
  | .NEIGHBOUR_PORT => ⟨.NEIGHBOUR_PORT, 0x4010, 0x02, .u16, .tab, 1, 1, 0, .L, 65535, [], false⟩
  | .NEIGHBOUR_STATE => ⟨.NEIGHBOUR_STATE, 0x4010, 0x03, .u8, .tab, 1, 1, 0, .L, 0, [], false⟩
  | .NEIGHBOUR_SERIAL => ⟨.NEIGHBOUR_SERIAL, 0x4010, 0x04, .u64, .tab, 1, 1, 0, .L, 0, [], false⟩
  | .MF_STATE => ⟨.MF_STATE, 0x4020, 0x01, .u8, .tab, 1, 1, 1, .L, 0, [], false⟩
  | .MF_FLR_COUNT => ⟨.MF_FLR_COUNT, 0x4020, 0x02, .u32, .tab, 1, 1, 1, .L, 0, [], false⟩
  | .MF_FLR_DISCARDS => ⟨.MF_FLR_DISCARDS, 0x4020, 0x03, .u32, .tab, 1, 1, 1, .L, 0, [], false⟩
  | .MF_PIP_IRQ => ⟨.MF_PIP_IRQ, 0x4020, 0x04, .bool, .tab, 3, 3, 3, .P, 0, [], true⟩
  | .MF_TELEMETRY_PERIOD => ⟨.MF_TELEMETRY_PERIOD, 0x4020, 0x05, .u16, .tab, 3, 3, 3, .P, 0, [(0, 1024)], true⟩
  | .PARTITION => ⟨.PARTITION, 0x4100, 0x01, .u16, .tab, 3, 3, 1, .E, 65535, [(0, 4095), (65535, 65535)], true⟩
  | .GFID => ⟨.GFID, 0x4100, 0x02, .u16, .tab, 3, 3, 1, .E, 0, [], true⟩
  | .KIND => ⟨.KIND, 0x4100, 0x03, .u8, .tab, 3, 3, 1, .E, 0, [(0, 2)], true⟩
  | .VDSB => ⟨.VDSB, 0x4100, 0x04, .u16, .tab, 3, 3, 1, .E, 0, [(0, 255)], true⟩
  | .VFUNC => ⟨.VFUNC, 0x4100, 0x05, .u8, .tab, 3, 3, 1, .E, 0, [], true⟩
  | .ACTION => ⟨.ACTION, 0x4100, 0x07, .u8, .tab, 3, 3, 0, .E, 0, [(0, 3)], true⟩
  | .GRAFT_STATE => ⟨.GRAFT_STATE, 0x4100, 0x08, .u8, .tab, 1, 1, 1, .L, 0, [], false⟩
  | .GRAFT_RESULT => ⟨.GRAFT_RESULT, 0x4100, 0x09, .u16, .tab, 1, 1, 1, .L, 0, [], false⟩
  | .GRAFT_REQUEST => ⟨.GRAFT_REQUEST, 0x4100, 0x0A, .u32, .tab, 1, 1, 0, .L, 0, [], false⟩
  | .AUTO_REGRAFT => ⟨.AUTO_REGRAFT, 0x4100, 0x0B, .bool, .tab, 3, 3, 1, .P, 1, [], true⟩
  | .GRAFT_COMMIT => ⟨.GRAFT_COMMIT, 0x4110, 0x01, .record, .one, 4, 4, 0, .E, 0, [], false⟩
  | .FN_NODE => ⟨.FN_NODE, 0x4200, 0x01, .u8, .tab, 1, 1, 0, .L, 255, [], true⟩
  | .FN_PORT => ⟨.FN_PORT, 0x4200, 0x02, .u16, .tab, 1, 1, 0, .L, 65535, [], true⟩
  | .FN_POSITION => ⟨.FN_POSITION, 0x4200, 0x03, .u16, .tab, 1, 1, 0, .L, 0, [], true⟩
  | .FN_KIND => ⟨.FN_KIND, 0x4200, 0x04, .u8, .tab, 1, 1, 0, .L, 0, [], true⟩
  | .PARENT_PF => ⟨.PARENT_PF, 0x4200, 0x05, .u16, .tab, 1, 1, 0, .L, 0, [], true⟩
  | .PRESENT => ⟨.PRESENT, 0x4200, 0x06, .bool, .tab, 1, 1, 0, .L, 0, [], false⟩
  | .HELD_BY => ⟨.HELD_BY, 0x4200, 0x07, .u16, .tab, 1, 1, 0, .L, 65535, [], false⟩
  | .FN_IDS => ⟨.FN_IDS, 0x4200, 0x08, .u32, .tab, 1, 1, 0, .L, 0, [], true⟩
  | .SRIOV_NUMVFS => ⟨.SRIOV_NUMVFS, 0x4200, 0x09, .u16, .tab, 3, 3, 0, .Q, 0, [], true⟩
  | .PRIMARY_PORT => ⟨.PRIMARY_PORT, 0x5000, 0x01, .u16, .tab, 1, 1, 0, .E, 65535, [], false⟩
  | .ALTERNATE_PORT => ⟨.ALTERNATE_PORT, 0x5000, 0x02, .u16, .tab, 1, 1, 0, .E, 65535, [], false⟩
  | .TWIN_A_PORT => ⟨.TWIN_A_PORT, 0x5000, 0x03, .u16, .tab, 1, 1, 0, .E, 65535, [], false⟩
  | .TWIN_B_PORT => ⟨.TWIN_B_PORT, 0x5000, 0x04, .u16, .tab, 1, 1, 0, .E, 65535, [], false⟩
  | .HOPS => ⟨.HOPS, 0x5000, 0x05, .u8, .tab, 1, 1, 0, .E, 255, [], false⟩
  | .ROUTE_VALID => ⟨.ROUTE_VALID, 0x5000, 0x06, .bool, .tab, 1, 1, 0, .E, 0, [], false⟩
  | .ACTIVE_PORT => ⟨.ACTIVE_PORT, 0x5000, 0x07, .u16, .tab, 1, 1, 0, .L, 65535, [], false⟩
  | .ROUTE_GENERATION => ⟨.ROUTE_GENERATION, 0x5001, 0x01, .u32, .one, 1, 1, 0, .L, 0, [], false⟩
  | .FAST_REROUTES => ⟨.FAST_REROUTES, 0x5001, 0x02, .u32, .one, 1, 1, 0, .L, 0, [], false⟩
  | .HOP_LIMIT_DISCARDS => ⟨.HOP_LIMIT_DISCARDS, 0x5001, 0x03, .u32, .one, 1, 1, 0, .L, 0, [], false⟩
  | .TWIN_PLANE_BREACH => ⟨.TWIN_PLANE_BREACH, 0x5001, 0x04, .u32, .one, 1, 1, 0, .L, 0, [], false⟩
  | .LOC_NODE => ⟨.LOC_NODE, 0x5020, 0x01, .u8, .tab, 1, 1, 0, .E, 255, [], false⟩
  | .LOC_PORT => ⟨.LOC_PORT, 0x5020, 0x02, .u16, .tab, 1, 1, 0, .E, 65535, [], false⟩
  | .AP_PARTITION => ⟨.AP_PARTITION, 0x5100, 0x01, .u16, .tab, 1, 1, 1, .L, 65535, [], false⟩
  | .AP_BASE => ⟨.AP_BASE, 0x5100, 0x02, .u64, .tab, 1, 1, 1, .L, 0, [], false⟩
  | .AP_SIZE_LOG2 => ⟨.AP_SIZE_LOG2, 0x5100, 0x03, .u8, .tab, 1, 1, 1, .L, 12, [], false⟩
  | .AP_TARGET => ⟨.AP_TARGET, 0x5100, 0x04, .u16, .tab, 1, 1, 1, .L, 0, [], false⟩
  | .AP_OFFSET => ⟨.AP_OFFSET, 0x5100, 0x05, .u64, .tab, 1, 1, 1, .L, 0, [], false⟩
  | .AP_SOURCE => ⟨.AP_SOURCE, 0x5100, 0x06, .u8, .tab, 1, 1, 1, .L, 0, [], false⟩
  | .AP_BAR => ⟨.AP_BAR, 0x5100, 0x07, .u8, .tab, 1, 1, 1, .L, 0, [], false⟩
  | .AP_STATE => ⟨.AP_STATE, 0x5100, 0x08, .u8, .tab, 1, 1, 1, .L, 0, [], false⟩
  | .PW_BASE => ⟨.PW_BASE, 0x5200, 0x01, .u64, .tab, 3, 3, 1, .E, 0, [], true⟩
  | .PW_SIZE_LOG2 => ⟨.PW_SIZE_LOG2, 0x5200, 0x02, .u8, .tab, 3, 3, 1, .E, 12, [(12, 63)], true⟩
  | .PW_TARGET => ⟨.PW_TARGET, 0x5200, 0x03, .u16, .tab, 3, 3, 1, .E, 0, [], true⟩
  | .PW_OFFSET => ⟨.PW_OFFSET, 0x5200, 0x04, .u64, .tab, 3, 3, 1, .E, 0, [], true⟩
  | .PW_ACCESS => ⟨.PW_ACCESS, 0x5200, 0x05, .u8, .tab, 3, 3, 1, .E, 0, [(0, 31)], true⟩
  | .PW_KIND => ⟨.PW_KIND, 0x5200, 0x06, .u8, .tab, 3, 3, 1, .E, 0, [(0, 1)], true⟩
  | .PW_GRANTOR => ⟨.PW_GRANTOR, 0x5200, 0x07, .u16, .tab, 3, 3, 1, .E, 65535, [(0, 4095), (65535, 65535)], true⟩
  | .PW_STATE => ⟨.PW_STATE, 0x5200, 0x08, .u8, .tab, 1, 1, 1, .L, 0, [], false⟩
  | .WINDOW_COMMIT => ⟨.WINDOW_COMMIT, 0x5210, 0x01, .record, .one, 4, 4, 0, .E, 0, [], false⟩
  | .ACTIVE_GENERATION => ⟨.ACTIVE_GENERATION, 0x5210, 0x02, .u32, .one, 1, 1, 1, .L, 0, [], false⟩
  | .STAGED_ROWS => ⟨.STAGED_ROWS, 0x5210, 0x03, .u32, .one, 1, 1, 0, .L, 0, [], false⟩
  | .WINDOW_DISCARD => ⟨.WINDOW_DISCARD, 0x5210, 0x04, .record, .one, 4, 4, 0, .L, 0, [], false⟩
  | .GRANT_PAIRS => ⟨.GRANT_PAIRS, 0x5210, 0x05, .u32, .one, 1, 1, 0, .L, 0, [], false⟩
  | .INGRESS_REFUSALS => ⟨.INGRESS_REFUSALS, 0x5300, 0x01, .u32, .tab, 1, 1, 1, .L, 0, [], false⟩
  | .EGRESS_REFUSALS => ⟨.EGRESS_REFUSALS, 0x5300, 0x02, .u32, .tab, 1, 1, 1, .L, 0, [], false⟩
  | .HOST_RX_TLPS => ⟨.HOST_RX_TLPS, 0x5300, 0x03, .u64, .tab, 1, 1, 1, .L, 0, [], false⟩
  | .HOST_RX_BYTES => ⟨.HOST_RX_BYTES, 0x5300, 0x04, .u64, .tab, 1, 1, 1, .L, 0, [], false⟩
  | .HOST_TX_TLPS => ⟨.HOST_TX_TLPS, 0x5300, 0x05, .u64, .tab, 1, 1, 1, .L, 0, [], false⟩
  | .HOST_TX_BYTES => ⟨.HOST_TX_BYTES, 0x5300, 0x06, .u64, .tab, 1, 1, 1, .L, 0, [], false⟩
  | .RED_TLPS => ⟨.RED_TLPS, 0x5300, 0x07, .u64, .tab, 1, 1, 1, .L, 0, [], false⟩
  | .MC_MEMBERS => ⟨.MC_MEMBERS, 0x5400, 0x01, .u8, .tab, 3, 3, 0, .E, 0, [(0, 32)], true⟩
  | .MC_TARGET => ⟨.MC_TARGET, 0x5410, 0x01, .u16, .tab, 3, 3, 0, .E, 0, [], true⟩
  | .MC_OFFSET => ⟨.MC_OFFSET, 0x5410, 0x02, .u64, .tab, 3, 3, 0, .E, 0, [], true⟩
  | .MC_GRANTOR => ⟨.MC_GRANTOR, 0x5410, 0x03, .u16, .tab, 3, 3, 0, .E, 65535, [(0, 4095), (65535, 65535)], true⟩
  | .CPL_TIMEOUT => ⟨.CPL_TIMEOUT, 0x5500, 0x01, .u32, .tab, 3, 3, 1, .P, 9000, [(40, 64000000)], true⟩
  | .TAG_QUOTA => ⟨.TAG_QUOTA, 0x5500, 0x02, .u32, .tab, 3, 3, 1, .P, 8192, [(64, 262144)], true⟩
  | .TAGS_LIVE => ⟨.TAGS_LIVE, 0x5500, 0x03, .u32, .tab, 1, 1, 1, .L, 0, [], false⟩
  | .TAGS_QUARANTINED => ⟨.TAGS_QUARANTINED, 0x5500, 0x04, .u32, .tab, 1, 1, 1, .L, 0, [], false⟩
  | .CPL_TIMEOUTS => ⟨.CPL_TIMEOUTS, 0x5500, 0x05, .u32, .tab, 1, 1, 1, .L, 0, [], false⟩
  | .UNEXPECTED_CPLS => ⟨.UNEXPECTED_CPLS, 0x5500, 0x06, .u32, .tab, 1, 1, 1, .L, 0, [], false⟩
  | .ORDER_HOLDS => ⟨.ORDER_HOLDS, 0x5500, 0x07, .u32, .tab, 1, 1, 1, .L, 0, [], false⟩
  | .UR_GENERATED => ⟨.UR_GENERATED, 0x5500, 0x08, .u32, .tab, 1, 1, 1, .L, 0, [], false⟩
  | .TAGS_FREE => ⟨.TAGS_FREE, 0x5501, 0x01, .u32, .one, 1, 1, 0, .L, 262144, [], false⟩
  | .TO_STORM_LIMIT => ⟨.TO_STORM_LIMIT, 0x5501, 0x02, .u16, .one, 3, 3, 0, .P, 64, [], true⟩
  | .ORDER_HOLD_TIMEOUT => ⟨.ORDER_HOLD_TIMEOUT, 0x5501, 0x03, .u32, .one, 3, 3, 0, .P, 10000, [(1000, 1000000)], true⟩
  | .ORDER_HOLD_EXPIRIES => ⟨.ORDER_HOLD_EXPIRIES, 0x5501, 0x04, .u32, .one, 1, 1, 0, .L, 0, [], false⟩
  | .UNOWNED_CPLS => ⟨.UNOWNED_CPLS, 0x5501, 0x05, .u32, .one, 1, 1, 0, .L, 0, [], false⟩
  | .TAG_ENTRY => ⟨.TAG_ENTRY, 0x5510, 0x00, (.oct 32), .tab, 1, 0, 0, .L, 0, [], false⟩
  | .FQ_KEY => ⟨.FQ_KEY, 0x6000, 0x01, .u32, .tab, 1, 1, 1, .L, 0, [], false⟩
  | .FQ_STATE => ⟨.FQ_STATE, 0x6000, 0x02, .u8, .tab, 1, 1, 1, .L, 0, [], false⟩
  | .FQ_CELLS_ONCHIP => ⟨.FQ_CELLS_ONCHIP, 0x6000, 0x03, .u32, .tab, 1, 1, 1, .L, 0, [], false⟩
  | .FQ_CELLS_SPILLED => ⟨.FQ_CELLS_SPILLED, 0x6000, 0x04, .u32, .tab, 1, 1, 1, .L, 0, [], false⟩
  | .FQ_SPILL_ENTRIES => ⟨.FQ_SPILL_ENTRIES, 0x6000, 0x05, .u32, .tab, 1, 1, 1, .L, 0, [], false⟩
  | .FQ_WEIGHT => ⟨.FQ_WEIGHT, 0x6000, 0x06, .u16, .tab, 1, 1, 1, .P, 256, [], false⟩
  | .FQ_START_TAG => ⟨.FQ_START_TAG, 0x6000, 0x07, .u64, .tab, 1, 1, 1, .L, 0, [], false⟩
  | .FQ_TOKENS => ⟨.FQ_TOKENS, 0x6000, 0x08, .i64, .tab, 1, 1, 1, .L, 0, [], false⟩
  | .FQ_WEIGHT_SET => ⟨.FQ_WEIGHT_SET, 0x6010, 0x01, .u16, .tab, 3, 3, 1, .P, 256, [(1, 65535)], true⟩
  | .SPILL_THRESHOLD => ⟨.SPILL_THRESHOLD, 0x6010, 0x02, .u32, .tab, 3, 3, 1, .P, 16384, [(256, 1048576)], true⟩
  | .YELLOW_SPILL_THRESHOLD => ⟨.YELLOW_SPILL_THRESHOLD, 0x6010, 0x03, .u32, .tab, 3, 3, 1, .P, 4096, [(0, 1048576)], true⟩
  | .CR_PARTITION => ⟨.CR_PARTITION, 0x6020, 0x01, .u16, .tab, 3, 3, 0, .P, 65535, [(0, 4095), (65535, 65535)], true⟩
  | .CR_TC_MASK => ⟨.CR_TC_MASK, 0x6020, 0x02, .u8, .tab, 3, 3, 0, .P, 255, [], true⟩
  | .CR_TYPE_MASK => ⟨.CR_TYPE_MASK, 0x6020, 0x03, .u8, .tab, 3, 3, 0, .P, 7, [], true⟩
  | .CR_ADDR_BASE => ⟨.CR_ADDR_BASE, 0x6020, 0x04, .u64, .tab, 3, 3, 0, .P, 0, [], true⟩
  | .CR_ADDR_SIZE_LOG2 => ⟨.CR_ADDR_SIZE_LOG2, 0x6020, 0x05, .u8, .tab, 3, 3, 0, .P, 0, [(0, 0), (12, 63)], true⟩
  | .CR_CLASS => ⟨.CR_CLASS, 0x6020, 0x06, .u8, .tab, 3, 3, 0, .P, 0, [(0, 5)], true⟩
  | .CR_VALID => ⟨.CR_VALID, 0x6020, 0x07, .bool, .tab, 3, 3, 0, .P, 0, [], true⟩
  | .TC_CLASS_MAP => ⟨.TC_CLASS_MAP, 0x6030, 0x01, .u32, .tab, 3, 3, 1, .P, 0, [], true⟩
  | .M_ALGO => ⟨.M_ALGO, 0x6100, 0x01, .u8, .tab, 3, 3, 0, .P, 0, [(0, 2)], true⟩
  | .M_MODE => ⟨.M_MODE, 0x6100, 0x02, .u8, .tab, 3, 3, 0, .P, 0, [(0, 1)], true⟩
  | .M_UNIT => ⟨.M_UNIT, 0x6100, 0x03, .u8, .tab, 3, 3, 0, .P, 0, [(0, 1)], true⟩
  | .M_CIR => ⟨.M_CIR, 0x6100, 0x04, .u32, .tab, 3, 3, 0, .P, 1000, [(1, 1700000)], true⟩
  | .M_CBS => ⟨.M_CBS, 0x6100, 0x05, .u32, .tab, 3, 3, 0, .P, 65536, [(1, 4294967295)], true⟩
  | .M_PIR_EIR => ⟨.M_PIR_EIR, 0x6100, 0x06, .u32, .tab, 3, 3, 0, .P, 2000, [(0, 1700000)], true⟩
  | .M_PBS_EBS => ⟨.M_PBS_EBS, 0x6100, 0x07, .u32, .tab, 3, 3, 0, .P, 131072, [(1, 4294967295)], true⟩
  | .M_RECOVER => ⟨.M_RECOVER, 0x6100, 0x08, .u32, .tab, 3, 3, 0, .P, 8192, [], true⟩
  | .M_GREEN => ⟨.M_GREEN, 0x6100, 0x09, .u64, .tab, 1, 1, 0, .L, 0, [], false⟩
  | .M_YELLOW => ⟨.M_YELLOW, 0x6100, 0x0A, .u64, .tab, 1, 1, 0, .L, 0, [], false⟩
  | .M_RED => ⟨.M_RED, 0x6100, 0x0B, .u64, .tab, 1, 1, 0, .L, 0, [], false⟩
  | .M_WITHHOLDING => ⟨.M_WITHHOLDING, 0x6100, 0x0C, .bool, .tab, 1, 1, 0, .L, 0, [], false⟩
  | .METER_A => ⟨.METER_A, 0x6110, 0x01, .u32, .tab, 3, 3, 1, .P, 4294967295, [(0, 262143), (4294967295, 4294967295)], true⟩
  | .METER_B => ⟨.METER_B, 0x6110, 0x02, .u32, .tab, 3, 3, 1, .P, 4294967295, [(0, 262143), (4294967295, 4294967295)], true⟩
  | .LOSSY_CLASSES => ⟨.LOSSY_CLASSES, 0x6120, 0x01, .u8, .one, 3, 3, 0, .P, 0, [(0, 31)], true⟩
  | .RED_DISCARDS => ⟨.RED_DISCARDS, 0x6120, 0x02, .u32, .one, 1, 1, 0, .L, 0, [], false⟩
  | .WITHHOLD_EVENTS => ⟨.WITHHOLD_EVENTS, 0x6120, 0x03, .u32, .one, 1, 1, 0, .L, 0, [], false⟩
  | .SC_SHAPE_RATE => ⟨.SC_SHAPE_RATE, 0x6200, 0x01, .u32, .tab, 3, 3, 0, .P, 0, [(0, 1700000)], true⟩
  | .SC_SHAPE_BURST => ⟨.SC_SHAPE_BURST, 0x6200, 0x02, .u32, .tab, 3, 3, 0, .P, 65536, [(0, 4294967295)], true⟩
  | .SC_WEIGHT => ⟨.SC_WEIGHT, 0x6200, 0x03, .u16, .tab, 3, 3, 0, .P, 256, [(1, 65535)], true⟩
  | .SC_FAIR_MODE => ⟨.SC_FAIR_MODE, 0x6200, 0x04, .u8, .tab, 3, 3, 0, .P, 0, [(0, 1)], true⟩
  | .SC_VIRTUAL_TIME => ⟨.SC_VIRTUAL_TIME, 0x6200, 0x05, .u64, .tab, 1, 1, 0, .L, 0, [], false⟩
  | .SC_TX_TLPS => ⟨.SC_TX_TLPS, 0x6200, 0x06, .u64, .tab, 1, 1, 0, .L, 0, [], false⟩
  | .SC_TX_BYTES => ⟨.SC_TX_BYTES, 0x6200, 0x07, .u64, .tab, 1, 1, 0, .L, 0, [], false⟩
  | .SC_SHAPED_CLOCKS => ⟨.SC_SHAPED_CLOCKS, 0x6200, 0x08, .u64, .tab, 1, 1, 0, .L, 0, [], false⟩
  | .SC_DISCARDS => ⟨.SC_DISCARDS, 0x6200, 0x09, .u64, .tab, 1, 1, 0, .L, 0, [], false⟩
  | .LEN_OVERHEAD => ⟨.LEN_OVERHEAD, 0x6201, 0x01, .i16, .tab, 3, 3, 0, .P, 0, [(0, 127), (65504, 65535)], true⟩
  | .FQS_RATE => ⟨.FQS_RATE, 0x6210, 0x01, .u32, .tab, 3, 3, 1, .P, 0, [(0, 1700000)], true⟩
  | .FQS_BURST => ⟨.FQS_BURST, 0x6210, 0x02, .u32, .tab, 3, 3, 1, .P, 65536, [], true⟩
  | .TOTAL_CELLS => ⟨.TOTAL_CELLS, 0x6300, 0x01, .u32, .one, 1, 1, 0, .L, 1048576, [], false⟩
  | .SCHED_PARTITION_CELLS => ⟨.SCHED_PARTITION_CELLS, 0x6300, 0x02, .u32, .one, 1, 1, 0, .E, 0, [], false⟩
  | .SPILL_RESERVE_CELLS => ⟨.SPILL_RESERVE_CELLS, 0x6300, 0x03, .u32, .one, 3, 3, 0, .P, 32768, [(4096, 262144)], true⟩
  | .SHARED_POOL_CELLS => ⟨.SHARED_POOL_CELLS, 0x6300, 0x04, .u32, .one, 1, 1, 0, .L, 0, [], false⟩
  | .SHARED_FREE_CELLS => ⟨.SHARED_FREE_CELLS, 0x6300, 0x05, .u32, .one, 1, 1, 0, .L, 0, [], false⟩
  | .MIN_RESERVED_CELLS => ⟨.MIN_RESERVED_CELLS, 0x6300, 0x06, .u32, .one, 1, 1, 0, .L, 0, [], false⟩
  | .FREE_QUEUES => ⟨.FREE_QUEUES, 0x6300, 0x07, .u32, .one, 1, 1, 0, .L, 1048576, [], false⟩
  | .QUEUE_WAITS => ⟨.QUEUE_WAITS, 0x6300, 0x08, .u32, .one, 1, 1, 0, .L, 0, [], false⟩
  | .DRAIN_WINDOW => ⟨.DRAIN_WINDOW, 0x6300, 0x09, .u16, .one, 3, 3, 0, .P, 256, [(64, 4096)], true⟩
  | .SPILL_BLOCKS_USED => ⟨.SPILL_BLOCKS_USED, 0x6300, 0x0A, .u32, .one, 1, 1, 0, .L, 0, [], false⟩
  | .SPILL_BYTES_WRITTEN => ⟨.SPILL_BYTES_WRITTEN, 0x6300, 0x0B, .u64, .one, 1, 1, 0, .L, 0, [], false⟩
  | .QUEUES_IN_SPILL => ⟨.QUEUES_IN_SPILL, 0x6300, 0x0C, .u32, .one, 1, 1, 0, .L, 0, [], false⟩
  | .SCHED_PARTITION_FULL => ⟨.SCHED_PARTITION_FULL, 0x6300, 0x0D, .u32, .one, 1, 1, 0, .L, 0, [], false⟩
  | .SPILL_PATH_FULL => ⟨.SPILL_PATH_FULL, 0x6300, 0x0E, .u32, .one, 1, 1, 0, .L, 0, [], false⟩
  | .MIN_CELLS => ⟨.MIN_CELLS, 0x6310, 0x01, .u32, .tab, 3, 3, 0, .P, 32, [(0, 1048576)], true⟩
  | .ALPHA_CODE => ⟨.ALPHA_CODE, 0x6310, 0x02, .u8, .tab, 3, 3, 0, .P, 6, [(0, 9)], true⟩
  | .CELLS_USED => ⟨.CELLS_USED, 0x6310, 0x03, .u32, .tab, 1, 1, 0, .L, 0, [], false⟩
  | .SHARED_USED => ⟨.SHARED_USED, 0x6310, 0x04, .u32, .tab, 1, 1, 0, .L, 0, [], false⟩
  | .POOL_DENIALS => ⟨.POOL_DENIALS, 0x6310, 0x05, .u32, .tab, 1, 1, 0, .L, 0, [], false⟩
  | .BRAMBLE_POLICY => ⟨.BRAMBLE_POLICY, 0x6400, 0x01, .u8, .one, 3, 3, 0, .P, 0, [(0, 1)], true⟩
  | .BRAMBLE_BUDGET => ⟨.BRAMBLE_BUDGET, 0x6400, 0x02, .u16, .one, 3, 3, 0, .P, 8, [(1, 256)], true⟩
  | .BRAMBLE_PASSES => ⟨.BRAMBLE_PASSES, 0x6400, 0x03, .u32, .one, 1, 1, 0, .L, 0, [], false⟩
  | .LEAKS_FOUND => ⟨.LEAKS_FOUND, 0x6400, 0x04, .u32, .one, 1, 1, 0, .L, 0, [], false⟩
  | .LEAKS_RECLAIMED => ⟨.LEAKS_RECLAIMED, 0x6400, 0x05, .u32, .one, 1, 1, 0, .L, 0, [], false⟩
  | .LAST_LEAK_CELL => ⟨.LAST_LEAK_CELL, 0x6400, 0x06, .u32, .one, 1, 1, 0, .L, 4294967295, [], false⟩
  | .RSV_SRC_NODE => ⟨.RSV_SRC_NODE, 0x7000, 0x01, .u8, .tab, 3, 3, 0, .E, 255, [(0, 31), (255, 255)], false⟩
  | .RSV_SRC_PORT => ⟨.RSV_SRC_PORT, 0x7000, 0x02, .u16, .tab, 3, 3, 0, .E, 65535, [(0, 511), (65535, 65535)], false⟩
  | .RSV_DST_NODE => ⟨.RSV_DST_NODE, 0x7000, 0x03, .u8, .tab, 3, 3, 0, .E, 255, [(0, 31), (255, 255)], false⟩
  | .RSV_DST_PORT => ⟨.RSV_DST_PORT, 0x7000, 0x04, .u16, .tab, 3, 3, 0, .E, 65535, [(0, 511), (65535, 65535)], false⟩
  | .RSV_CLASS => ⟨.RSV_CLASS, 0x7000, 0x05, .u8, .tab, 3, 3, 0, .E, 7, [(6, 7)], false⟩
  | .RSV_ADDR_BASE => ⟨.RSV_ADDR_BASE, 0x7000, 0x06, .u64, .tab, 3, 3, 0, .E, 0, [], false⟩
  | .RSV_ADDR_SIZE_LOG2 => ⟨.RSV_ADDR_SIZE_LOG2, 0x7000, 0x07, .u8, .tab, 3, 3, 0, .E, 12, [(12, 63)], false⟩
  | .RSV_BYTES_PER_PIP => ⟨.RSV_BYTES_PER_PIP, 0x7000, 0x08, .u32, .tab, 3, 3, 0, .E, 0, [(64, 268435455)], false⟩
  | .RSV_TLPS_PER_PIP => ⟨.RSV_TLPS_PER_PIP, 0x7000, 0x09, .u16, .tab, 3, 3, 0, .E, 0, [(1, 65535)], false⟩
  | .RSV_DEADLINE_REQ => ⟨.RSV_DEADLINE_REQ, 0x7000, 0x0A, .u32, .tab, 3, 3, 0, .E, 0, [], false⟩
  | .RSV_TWIN => ⟨.RSV_TWIN, 0x7000, 0x0B, .bool, .tab, 3, 3, 0, .E, 0, [], false⟩
  | .RSV_ACTION => ⟨.RSV_ACTION, 0x7000, 0x0C, .u8, .tab, 3, 3, 0, .E, 0, [(0, 2)], false⟩
  | .RSV_STATE => ⟨.RSV_STATE, 0x7000, 0x0D, .u8, .tab, 1, 1, 0, .L, 0, [], false⟩
  | .RSV_DEADLINE_GRANTED => ⟨.RSV_DEADLINE_GRANTED, 0x7000, 0x0E, .u32, .tab, 1, 1, 0, .L, 0, [], false⟩
  | .RSV_RESULT => ⟨.RSV_RESULT, 0x7000, 0x0F, .u16, .tab, 1, 1, 0, .L, 0, [], false⟩
  | .RSV_REFUSE_DETAIL => ⟨.RSV_REFUSE_DETAIL, 0x7000, 0x10, .u16, .tab, 1, 1, 0, .L, 0, [], false⟩
  | .RSV_PATH_BOUND => ⟨.RSV_PATH_BOUND, 0x7000, 0x11, .u32, .tab, 1, 1, 0, .L, 0, [], false⟩
  | .RSV_REQUEST => ⟨.RSV_REQUEST, 0x7000, 0x12, .u32, .tab, 1, 1, 0, .L, 0, [], false⟩
  | .RSV_ACCEPTED => ⟨.RSV_ACCEPTED, 0x7000, 0x13, .u64, .tab, 1, 1, 0, .L, 0, [], false⟩
  | .RSV_HELD => ⟨.RSV_HELD, 0x7000, 0x14, .u64, .tab, 1, 1, 0, .L, 0, [], false⟩
  | .RSV_OVERSIZE => ⟨.RSV_OVERSIZE, 0x7000, 0x15, .u32, .tab, 1, 1, 0, .L, 0, [], false⟩
  | .RSV_LATE => ⟨.RSV_LATE, 0x7000, 0x16, .u64, .tab, 1, 1, 0, .L, 0, [], false⟩
  | .TWIN_DUPLICATES => ⟨.TWIN_DUPLICATES, 0x7000, 0x17, .u64, .tab, 1, 1, 0, .L, 0, [], false⟩
  | .TWIN_LOST => ⟨.TWIN_LOST, 0x7000, 0x18, .u32, .tab, 1, 1, 0, .L, 0, [], false⟩
  | .TWIN_WINDOW_DISCARDS => ⟨.TWIN_WINDOW_DISCARDS, 0x7000, 0x19, .u32, .tab, 1, 1, 0, .L, 0, [], false⟩
  | .RSV_COMMIT => ⟨.RSV_COMMIT, 0x7010, 0x01, .record, .one, 4, 4, 0, .E, 0, [], false⟩
  | .RSV_GRANTED => ⟨.RSV_GRANTED, 0x7010, 0x02, .u32, .one, 1, 1, 0, .L, 0, [], false⟩
  | .GL_ENTRY => ⟨.GL_ENTRY, 0x7100, 0x00, .u32, .tab, 3, 3, 0, .E, 0, [(8192, 4294967295)], false⟩
  | .GL_LENGTH => ⟨.GL_LENGTH, 0x7101, 0x01, .u16, .tab, 3, 3, 0, .E, 0, [(0, 1024)], false⟩
  | .GL_CYCLE_PIPS => ⟨.GL_CYCLE_PIPS, 0x7101, 0x02, .u8, .tab, 3, 3, 0, .E, 1, [(1, 16)], false⟩
  | .GL_BANK_STATE => ⟨.GL_BANK_STATE, 0x7101, 0x03, .u8, .tab, 1, 1, 0, .L, 0, [], false⟩
  | .GL_ACTIVE_BANK => ⟨.GL_ACTIVE_BANK, 0x7102, 0x01, .u8, .tab, 1, 1, 0, .L, 255, [], false⟩
  | .GL_CURRENT_ENTRY => ⟨.GL_CURRENT_ENTRY, 0x7102, 0x02, .u16, .tab, 1, 1, 0, .L, 0, [], false⟩
  | .GATE_SWITCH => ⟨.GATE_SWITCH, 0x7110, 0x01, .record, .one, 4, 4, 0, .E, 0, [], false⟩
  | .GS_RESULT => ⟨.GS_RESULT, 0x7110, 0x02, .u16, .one, 1, 1, 0, .L, 0, [], false⟩
  | .GS_BLOCKING_RSV => ⟨.GS_BLOCKING_RSV, 0x7110, 0x03, .u32, .one, 1, 1, 0, .L, 4294967295, [], false⟩
  | .SP_ENABLE => ⟨.SP_ENABLE, 0x8000, 0x01, .bool, .tab, 3, 3, 0, .L, 0, [], true⟩
  | .SP_STATE => ⟨.SP_STATE, 0x8000, 0x02, .u8, .tab, 1, 1, 0, .L, 0, [], false⟩
  | .SP_SEAT_DEBOUNCE => ⟨.SP_SEAT_DEBOUNCE, 0x8000, 0x03, .u16, .tab, 3, 3, 0, .P, 50, [(10, 1000)], true⟩
  | .SP_SENSE_GAIN => ⟨.SP_SENSE_GAIN, 0x8000, 0x04, .u16, .tab, 3, 3, 0, .Q, 100, [(5, 1000)], true⟩
  | .SP_LIMIT => ⟨.SP_LIMIT, 0x8000, 0x05, .u32, .tab, 3, 3, 0, .P, 5500, [(100, 100000)], true⟩
  | .SP_INRUSH_LIMIT => ⟨.SP_INRUSH_LIMIT, 0x8000, 0x06, .u32, .tab, 3, 3, 0, .P, 3000, [(100, 100000)], true⟩
  | .SP_INRUSH_TIMEOUT => ⟨.SP_INRUSH_TIMEOUT, 0x8000, 0x07, .u32, .tab, 3, 3, 0, .P, 50000, [(1000, 500000)], true⟩
  | .SP_FAULT_TIME => ⟨.SP_FAULT_TIME, 0x8000, 0x08, .u32, .tab, 3, 3, 0, .P, 1000, [(50, 100000)], true⟩
  | .SP_FAST_TRIP_PCT => ⟨.SP_FAST_TRIP_PCT, 0x8000, 0x09, .u16, .tab, 3, 3, 0, .P, 200, [(150, 400)], true⟩
  | .SP_VSENSE_RATIO => ⟨.SP_VSENSE_RATIO, 0x8000, 0x0A, .u16, .tab, 3, 3, 0, .Q, 12500, [(1000, 50000)], true⟩
  | .SP_PG_THRESHOLD => ⟨.SP_PG_THRESHOLD, 0x8000, 0x0B, .u32, .tab, 3, 3, 0, .P, 11040, [], true⟩
  | .SP_UV_THRESHOLD => ⟨.SP_UV_THRESHOLD, 0x8000, 0x0C, .u32, .tab, 3, 3, 0, .P, 10800, [], true⟩
  | .SP_PG_DEBOUNCE => ⟨.SP_PG_DEBOUNCE, 0x8000, 0x0D, .u32, .tab, 3, 3, 0, .P, 1000, [(100, 100000)], true⟩
  | .SP_OFF_TIME => ⟨.SP_OFF_TIME, 0x8000, 0x0E, .u32, .tab, 3, 3, 0, .P, 200, [(200, 10000)], true⟩
  | .SP_PERST_DELAY => ⟨.SP_PERST_DELAY, 0x8000, 0x0F, .u32, .tab, 3, 3, 0, .P, 100, [(100, 1000)], true⟩
  | .SP_SHARE_ENABLE => ⟨.SP_SHARE_ENABLE, 0x8000, 0x10, .bool, .tab, 3, 3, 0, .P, 1, [], true⟩
  | .SP_SHARE_MIN => ⟨.SP_SHARE_MIN, 0x8000, 0x11, .u32, .tab, 3, 3, 0, .P, 500, [], true⟩
  | .SP_I_A => ⟨.SP_I_A, 0x8000, 0x12, .u32, .tab, 1, 1, 0, .L, 0, [], false⟩
  | .SP_I_B => ⟨.SP_I_B, 0x8000, 0x13, .u32, .tab, 1, 1, 0, .L, 0, [], false⟩
  | .SP_V_RAIL => ⟨.SP_V_RAIL, 0x8000, 0x14, .u32, .tab, 1, 1, 0, .L, 0, [], false⟩
  | .SP_SHARE_DUTY => ⟨.SP_SHARE_DUTY, 0x8000, 0x15, .u16, .tab, 1, 1, 0, .L, 512, [], false⟩
  | .SP_TRIP_CAUSE => ⟨.SP_TRIP_CAUSE, 0x8000, 0x16, .u8, .tab, 1, 1, 0, .L, 0, [], false⟩
  | .SP_TRIPS => ⟨.SP_TRIPS, 0x8000, 0x17, .u32, .tab, 1, 1, 0, .L, 0, [], false⟩
  | .SP_FEED_STATUS => ⟨.SP_FEED_STATUS, 0x8000, 0x18, .u8, .tab, 1, 1, 0, .L, 0, [], false⟩
  | .SP_PG_HELD => ⟨.SP_PG_HELD, 0x8000, 0x19, .u32, .tab, 1, 1, 0, .L, 0, [], false⟩
  | .SP_OFF_REMAINING => ⟨.SP_OFF_REMAINING, 0x8000, 0x1A, .u32, .tab, 1, 1, 0, .L, 0, [], false⟩
  | .SP_PRESENCE => ⟨.SP_PRESENCE, 0x8000, 0x1B, .u8, .tab, 1, 1, 0, .L, 0, [], false⟩
  | .ERROR_LOG => ⟨.ERROR_LOG, 0x9000, 0x00, (.oct 64), .tab, 1, 1, 1, .L, 0, [], false⟩
  | .LOG_NEXT_SEQ => ⟨.LOG_NEXT_SEQ, 0x9001, 0x01, .u32, .one, 1, 1, 0, .L, 0, [], false⟩
  | .LOG_OVERFLOWS => ⟨.LOG_OVERFLOWS, 0x9001, 0x02, .u32, .one, 1, 1, 0, .L, 0, [], false⟩
  | .LOG_OPEN => ⟨.LOG_OPEN, 0x9001, 0x03, .u16, .one, 1, 1, 0, .L, 0, [], false⟩
  | .PERSISTENT_LOG => ⟨.PERSISTENT_LOG, 0x9002, 0x00, (.oct 64), .tab, 1, 1, 1, .L, 0, [], false⟩
  | .HUSK_STATE => ⟨.HUSK_STATE, 0x9100, 0x01, .u8, .tab, 1, 1, 1, .L, 0, [], false⟩
  | .HUSK_RELEASE => ⟨.HUSK_RELEASE, 0x9100, 0x02, .record, .tab, 4, 4, 0, .P, 0, [], false⟩
  | .HUSK_CAUSE => ⟨.HUSK_CAUSE, 0x9100, 0x03, .u16, .tab, 1, 1, 1, .L, 0, [], false⟩
  | .HUSK_CAUSE_SEQ => ⟨.HUSK_CAUSE_SEQ, 0x9100, 0x04, .u32, .tab, 1, 1, 1, .L, 0, [], false⟩
  | .HUSK_SINCE => ⟨.HUSK_SINCE, 0x9100, 0x05, .time, .tab, 1, 1, 1, .L, 0, [], false⟩
  | .HUSK_DRAINED => ⟨.HUSK_DRAINED, 0x9100, 0x06, .bool, .tab, 1, 1, 1, .L, 0, [], false⟩
  | .HUSK_RETRAINED => ⟨.HUSK_RETRAINED, 0x9100, 0x07, .bool, .tab, 1, 1, 0, .L, 0, [], false⟩
  | .HUSK_DISCARDS => ⟨.HUSK_DISCARDS, 0x9100, 0x08, .u64, .tab, 1, 1, 1, .L, 0, [], false⟩
  | .HUSK_COMMAND => ⟨.HUSK_COMMAND, 0x9100, 0x09, .record, .tab, 4, 4, 0, .L, 0, [], false⟩
  | .ERR_POLICY => ⟨.ERR_POLICY, 0x9200, 0x01, .u8, .tab, 3, 3, 0, .P, 0, [(0, 2)], true⟩
  | .REGION_AUTO_RESTART => ⟨.REGION_AUTO_RESTART, 0x9300, 0x01, .bool, .one, 3, 3, 0, .P, 1, [], true⟩
  | .REGION_RESTART_LIMIT => ⟨.REGION_RESTART_LIMIT, 0x9300, 0x02, .u8, .one, 3, 3, 0, .P, 3, [(1, 16)], true⟩
  | .REGION_RESTART => ⟨.REGION_RESTART, 0x9300, 0x03, .record, .one, 4, 4, 0, .L, 0, [], false⟩
  | .REGION_ISOLATIONS => ⟨.REGION_ISOLATIONS, 0x9310, 0x01, .u32, .tab, 1, 1, 0, .L, 0, [], false⟩
  | .UNIT_CYCLES => ⟨.UNIT_CYCLES, 0xA000, 0x01, .u64, .tab, 1, 1, 0, .L, 0, [], false⟩
  | .UNIT_KIND => ⟨.UNIT_KIND, 0xA000, 0x02, .u8, .tab, 1, 1, 0, .L, 0, [], false⟩
  | .FILT_PRIV => ⟨.FILT_PRIV, 0xA000, 0x03, .u8, .tab, 3, 3, 0, .P, 15, [], false⟩
  | .FILT_GFID => ⟨.FILT_GFID, 0xA000, 0x04, .u16, .tab, 3, 3, 0, .P, 0, [], false⟩
  | .FILT_GFID_MASK => ⟨.FILT_GFID_MASK, 0xA000, 0x05, .u16, .tab, 3, 3, 0, .P, 0, [], false⟩
  | .FILT_ADDR_BASE => ⟨.FILT_ADDR_BASE, 0xA000, 0x06, .u64, .tab, 3, 3, 0, .P, 0, [], false⟩
  | .FILT_ADDR_SIZE_LOG2 => ⟨.FILT_ADDR_SIZE_LOG2, 0xA000, 0x07, .u8, .tab, 3, 3, 0, .P, 0, [(0, 0), (12, 63)], false⟩
  | .FILT_CLASS => ⟨.FILT_CLASS, 0xA000, 0x08, .u8, .tab, 3, 3, 0, .P, 255, [], false⟩
  | .CTR_EVENT => ⟨.CTR_EVENT, 0xA010, 0x01, .u16, .tab, 3, 3, 0, .P, 0, [], true⟩
  | .CTR_PORT => ⟨.CTR_PORT, 0xA010, 0x02, .u16, .tab, 3, 3, 0, .P, 65535, [(0, 511), (65535, 65535)], false⟩
  | .CTR_FILTER => ⟨.CTR_FILTER, 0xA010, 0x03, .bool, .tab, 3, 3, 0, .P, 1, [], false⟩
  | .CTR_VALUE => ⟨.CTR_VALUE, 0xA010, 0x04, .u64, .tab, 1, 1, 0, .L, 0, [], false⟩
  | .CTR_OVERFLOW => ⟨.CTR_OVERFLOW, 0xA010, 0x05, .bool, .tab, 1, 1, 0, .L, 0, [], false⟩
  | .CTR_CLEAR => ⟨.CTR_CLEAR, 0xA010, 0x06, .record, .tab, 4, 4, 0, .L, 0, [], false⟩
  | .SAMPLE_ENABLE => ⟨.SAMPLE_ENABLE, 0xA100, 0x01, .bool, .one, 3, 3, 0, .P, 0, [], true⟩
  | .SAMPLE_PORT => ⟨.SAMPLE_PORT, 0xA100, 0x02, .u16, .one, 3, 3, 0, .P, 65535, [(0, 511), (65535, 65535)], true⟩
  | .SAMPLE_FILTER_UNIT => ⟨.SAMPLE_FILTER_UNIT, 0xA100, 0x03, .u8, .one, 3, 3, 0, .P, 255, [(0, 63), (255, 255)], true⟩
  | .SAMPLE_INTERVAL => ⟨.SAMPLE_INTERVAL, 0xA100, 0x04, .u32, .one, 3, 3, 0, .P, 1024, [(1, 16777216)], true⟩
  | .SAMPLE_DEST => ⟨.SAMPLE_DEST, 0xA100, 0x05, .u8, .one, 3, 3, 0, .P, 0, [(0, 2)], true⟩
  | .SAMPLE_PARTITION => ⟨.SAMPLE_PARTITION, 0xA100, 0x06, .u16, .one, 3, 3, 0, .P, 65535, [(0, 4095), (65535, 65535)], true⟩
  | .SAMPLES_TAKEN => ⟨.SAMPLES_TAKEN, 0xA100, 0x07, .u64, .one, 1, 1, 0, .L, 0, [], false⟩
  | .SAMPLES_DROPPED => ⟨.SAMPLES_DROPPED, 0xA100, 0x08, .u32, .one, 1, 1, 0, .L, 0, [], false⟩
  | .SAMPLE_CLEAR => ⟨.SAMPLE_CLEAR, 0xA100, 0x09, .record, .one, 4, 4, 0, .L, 0, [], false⟩
  | .SAMPLE_RECORD => ⟨.SAMPLE_RECORD, 0xA110, 0x00, (.oct 64), .tab, 1, 1, 1, .L, 0, [], false⟩
  | .MR_PORT => ⟨.MR_PORT, 0xA200, 0x01, .u16, .tab, 3, 3, 0, .P, 65535, [(0, 511), (65535, 65535)], true⟩
  | .MR_DIRECTION => ⟨.MR_DIRECTION, 0xA200, 0x02, .u8, .tab, 3, 3, 0, .P, 0, [(0, 2)], true⟩
  | .MR_PARTITION => ⟨.MR_PARTITION, 0xA200, 0x03, .u16, .tab, 3, 3, 0, .P, 65535, [(0, 4095), (65535, 65535)], true⟩
  | .MR_CLASS_MASK => ⟨.MR_CLASS_MASK, 0xA200, 0x04, .u8, .tab, 3, 3, 0, .P, 255, [], true⟩
  | .MR_DEST_PARTITION => ⟨.MR_DEST_PARTITION, 0xA200, 0x05, .u16, .tab, 3, 3, 0, .P, 65535, [(0, 4095), (65535, 65535)], true⟩
  | .MR_VALID => ⟨.MR_VALID, 0xA200, 0x06, .bool, .tab, 3, 3, 0, .P, 0, [], true⟩
  | .MR_RATE => ⟨.MR_RATE, 0xA200, 0x07, .u32, .tab, 3, 3, 0, .P, 10000, [], true⟩
  | .MR_CAPTURED => ⟨.MR_CAPTURED, 0xA200, 0x08, .u64, .tab, 1, 1, 0, .L, 0, [], false⟩
  | .MR_DROPPED => ⟨.MR_DROPPED, 0xA200, 0x09, .u64, .tab, 1, 1, 0, .L, 0, [], false⟩
  | .IPFIX_ANCHOR => ⟨.IPFIX_ANCHOR, 0xA300, 0x01, .u8, .tab, 3, 0, 0, .P, 255, [(0, 15), (255, 255)], true⟩
  | .IPFIX_PERIOD => ⟨.IPFIX_PERIOD, 0xA300, 0x02, .u32, .tab, 3, 0, 0, .P, 8000, [(1, 65535)], true⟩
  | .IPFIX_TEMPLATES => ⟨.IPFIX_TEMPLATES, 0xA300, 0x03, .u8, .tab, 3, 0, 0, .P, 3, [(0, 3)], true⟩
  | .IPFIX_SENT => ⟨.IPFIX_SENT, 0xA300, 0x04, .u64, .tab, 1, 1, 0, .L, 0, [], false⟩
  | .IPFIX_DROPPED => ⟨.IPFIX_DROPPED, 0xA300, 0x05, .u32, .tab, 1, 1, 0, .L, 0, [], false⟩
  | .IPFIX_MESSAGE => ⟨.IPFIX_MESSAGE, 0xA310, 0x00, (.octs 1024), .arr 4, 1, 1, 0, .L, 0, [], false⟩
  | .ENGINE_BUDGET => ⟨.ENGINE_BUDGET, 0xA400, 0x00, .u16, .arr 6, 3, 3, 0, .P, 0, [(1, 256)], true⟩
  | .ENGINE_PASSES => ⟨.ENGINE_PASSES, 0xA401, 0x00, .u32, .arr 6, 1, 1, 0, .L, 0, [], false⟩
  | .LIFECYCLE_STATE => ⟨.LIFECYCLE_STATE, 0xB000, 0x01, .u8, .one, 1, 1, 1, .L, 0, [], false⟩
  | .TOKEN_CHALLENGE => ⟨.TOKEN_CHALLENGE, 0xB000, 0x02, .record, .one, 4, 0, 0, .L, 0, [], false⟩
  | .TOKEN_SUBMIT => ⟨.TOKEN_SUBMIT, 0xB000, 0x03, .record, .one, 4, 0, 0, .L, 0, [], false⟩
  | .DEBUG_LOCK => ⟨.DEBUG_LOCK, 0xB000, 0x04, .record, .one, 4, 0, 0, .L, 0, [], false⟩
  | .TOKEN_RESULT => ⟨.TOKEN_RESULT, 0xB000, 0x05, .u16, .one, 1, 1, 0, .L, 0, [], false⟩
  | .LIFECYCLE_PENDING => ⟨.LIFECYCLE_PENDING, 0xB000, 0x06, .u8, .one, 1, 1, 0, .L, 255, [], false⟩
  | .TOKEN_BUFFER => ⟨.TOKEN_BUFFER, 0xB001, 0x00, (.oct 512), .tab, 2, 0, 0, .L, 0, [], false⟩
  | .ROLLBACK_FUSED => ⟨.ROLLBACK_FUSED, 0xB010, 0x01, .u8, .one, 1, 1, 0, .L, 0, [], false⟩
  | .ROLLBACK_MIRROR => ⟨.ROLLBACK_MIRROR, 0xB010, 0x02, .u16, .one, 1, 1, 0, .L, 0, [], false⟩
  | .SVN_COMMIT => ⟨.SVN_COMMIT, 0xB010, 0x03, .record, .one, 4, 0, 0, .L, 0, [], false⟩
  | .KEYSET_REVOKED => ⟨.KEYSET_REVOKED, 0xB010, 0x04, .u8, .one, 1, 1, 0, .L, 0, [], false⟩
  | .FW_BANK_STATE => ⟨.FW_BANK_STATE, 0xB100, 0x01, .u8, .tab, 1, 1, 0, .L, 0, [], false⟩
  | .FW_VERSION => ⟨.FW_VERSION, 0xB100, 0x02, .u32, .tab, 1, 1, 0, .L, 0, [], false⟩
  | .FW_SVN => ⟨.FW_SVN, 0xB100, 0x03, .u8, .tab, 1, 1, 0, .L, 0, [], false⟩
  | .FW_KEYSET => ⟨.FW_KEYSET, 0xB100, 0x04, .u8, .tab, 1, 1, 0, .L, 0, [], false⟩
  | .FW_LOADED_BYTES => ⟨.FW_LOADED_BYTES, 0xB100, 0x05, .u32, .tab, 1, 1, 0, .L, 0, [], false⟩
  | .FW_ERASE => ⟨.FW_ERASE, 0xB110, 0x01, .record, .one, 4, 0, 0, .L, 0, [], false⟩
  | .FW_WRITE => ⟨.FW_WRITE, 0xB110, 0x02, .record, .one, 4, 0, 0, .L, 0, [], false⟩
  | .FW_VERIFY => ⟨.FW_VERIFY, 0xB110, 0x03, .record, .one, 4, 0, 0, .L, 0, [], false⟩
  | .FW_SWITCH => ⟨.FW_SWITCH, 0xB110, 0x04, .record, .one, 4, 0, 0, .E, 0, [], false⟩
  | .FW_OP_STATE => ⟨.FW_OP_STATE, 0xB110, 0x05, .u8, .one, 1, 1, 0, .L, 0, [], false⟩
  | .FW_TRIAL_TIME => ⟨.FW_TRIAL_TIME, 0xB110, 0x06, .u32, .one, 3, 0, 0, .P, 60, [(10, 3600)], true⟩
  | .FW_SWITCH_RESULT => ⟨.FW_SWITCH_RESULT, 0xB110, 0x07, .u16, .one, 1, 1, 0, .L, 0, [], false⟩
  | .MEAS_VALUE => ⟨.MEAS_VALUE, 0xB200, 0x01, (.oct 48), .tab, 1, 1, 0, .L, 0, [], false⟩
  | .MEAS_CHANGES => ⟨.MEAS_CHANGES, 0xB200, 0x02, .u32, .tab, 1, 1, 0, .L, 0, [], false⟩
  | .HSS_TOP_Q => ⟨.HSS_TOP_Q, 0xB201, 0x01, .u32, .one, 1, 1, 0, .L, 0, [], false⟩
  | .HSS_BOTTOM_Q => ⟨.HSS_BOTTOM_Q, 0xB201, 0x02, .u32, .one, 1, 1, 0, .L, 0, [], false⟩
  | .HSS_NEXT_READY => ⟨.HSS_NEXT_READY, 0xB201, 0x03, .bool, .one, 1, 1, 0, .L, 0, [], false⟩
  | .HSS_FORFEITED => ⟨.HSS_FORFEITED, 0xB201, 0x04, .u32, .one, 1, 1, 0, .L, 0, [], false⟩
  | .DEVICE_ID_HASH => ⟨.DEVICE_ID_HASH, 0xB201, 0x05, (.oct 48), .one, 1, 1, 0, .L, 0, [], false⟩
  | .ORCHARD_RESET => ⟨.ORCHARD_RESET, 0xB300, 0x01, .record, .one, 4, 0, 0, .L, 0, [], false⟩
  | .PORT_RESET => ⟨.PORT_RESET, 0xB300, 0x02, .record, .one, 4, 4, 0, .L, 0, [], false⟩
  | .PARTITION_RESET => ⟨.PARTITION_RESET, 0xB300, 0x03, .record, .one, 4, 4, 0, .L, 0, [], false⟩
  | .LAST_RESET => ⟨.LAST_RESET, 0xB300, 0x04, .u8, .one, 1, 1, 0, .L, 0, [], false⟩
  | .FORWARDING_AT => ⟨.FORWARDING_AT, 0xB300, 0x05, .u32, .one, 1, 1, 0, .L, 0, [], false⟩
  | .BIST_FAILED => ⟨.BIST_FAILED, 0xB300, 0x06, .u16, .one, 1, 1, 0, .L, 0, [], false⟩
  | .ROWS_REMAPPED => ⟨.ROWS_REMAPPED, 0xB300, 0x07, .u32, .one, 1, 1, 0, .L, 0, [], false⟩
  | .CELLS_WITHHELD => ⟨.CELLS_WITHHELD, 0xB300, 0x08, .u32, .one, 1, 1, 0, .L, 0, [], false⟩
  | .MB_IN_STATE => ⟨.MB_IN_STATE, 0xC000, 0x01, .u8, .tab, 1, 1, 1, .L, 0, [], false⟩
  | .MB_OUT_STATE => ⟨.MB_OUT_STATE, 0xC000, 0x02, .u8, .tab, 1, 1, 1, .L, 0, [], false⟩
  | .MB_COLLISIONS => ⟨.MB_COLLISIONS, 0xC000, 0x03, .u32, .tab, 1, 1, 1, .L, 0, [], false⟩
  | .MB_DB_TO_FW => ⟨.MB_DB_TO_FW, 0xC000, 0x04, .u32, .tab, 1, 1, 1, .L, 0, [], false⟩
  | .MB_DB_TO_FW_MASK => ⟨.MB_DB_TO_FW_MASK, 0xC000, 0x05, .u32, .tab, 1, 1, 0, .L, 4294967295, [], false⟩
  | .MB_MESSAGES_IN => ⟨.MB_MESSAGES_IN, 0xC000, 0x06, .u64, .tab, 1, 1, 1, .L, 0, [], false⟩
  | .MB_MESSAGES_OUT => ⟨.MB_MESSAGES_OUT, 0xC000, 0x07, .u64, .tab, 1, 1, 1, .L, 0, [], false⟩
  | .PAIR_A_STATE => ⟨.PAIR_A_STATE, 0xC010, 0x01, .u8, .one, 1, 1, 0, .L, 0, [], false⟩
  | .PAIR_B_STATE => ⟨.PAIR_B_STATE, 0xC010, 0x02, .u8, .one, 1, 1, 0, .L, 0, [], false⟩
  | .PAIR_A_STOPS => ⟨.PAIR_A_STOPS, 0xC010, 0x03, .u32, .one, 1, 1, 0, .L, 0, [], false⟩
  | .PAIR_B_STOPS => ⟨.PAIR_B_STOPS, 0xC010, 0x04, .u32, .one, 1, 1, 0, .L, 0, [], false⟩
  | .PAIR_RESTART_LIMIT => ⟨.PAIR_RESTART_LIMIT, 0xC010, 0x05, .u8, .one, 3, 0, 0, .P, 3, [(1, 16)], true⟩
  | .PAIR_RESTART => ⟨.PAIR_RESTART, 0xC010, 0x06, .record, .one, 4, 0, 0, .L, 0, [], false⟩
  | .ACU_FENCE => ⟨.ACU_FENCE, 0xC020, 0x01, .record, .one, 0, 0, 0, .L, 0, [], false⟩
  | .ACCESS_DENIALS => ⟨.ACCESS_DENIALS, 0xC020, 0x02, .u32, .one, 1, 1, 0, .L, 0, [], false⟩
  | .DEBUG_DENIALS => ⟨.DEBUG_DENIALS, 0xC020, 0x03, .u32, .one, 1, 1, 0, .L, 0, [], false⟩
  | .LAST_DENIAL => ⟨.LAST_DENIAL, 0xC020, 0x04, .u64, .one, 1, 1, 0, .L, 0, [], false⟩
  | .IRQ_PRIORITY => ⟨.IRQ_PRIORITY, 0xC100, 0x01, .u8, .tab, 1, 1, 0, .L, 0, [], false⟩
  | .IRQ_SENSE => ⟨.IRQ_SENSE, 0xC100, 0x02, .u8, .tab, 1, 1, 0, .L, 0, [], false⟩
  | .IRQ_TARGET => ⟨.IRQ_TARGET, 0xC100, 0x03, .u8, .tab, 1, 1, 0, .L, 0, [], false⟩
  | .IRQ_ENABLE => ⟨.IRQ_ENABLE, 0xC100, 0x04, .bool, .tab, 1, 1, 0, .L, 0, [], false⟩
  | .IRQ_PENDING => ⟨.IRQ_PENDING, 0xC100, 0x05, .bool, .tab, 1, 1, 0, .L, 0, [], false⟩
  | .IRQ_COUNT => ⟨.IRQ_COUNT, 0xC100, 0x06, .u32, .tab, 1, 1, 0, .L, 0, [], false⟩
  | .GROUP_BITS_A => ⟨.GROUP_BITS_A, 0xC110, 0x01, .u8, .one, 1, 1, 0, .L, 3, [], false⟩
  | .GROUP_BITS_B => ⟨.GROUP_BITS_B, 0xC110, 0x02, .u8, .one, 1, 1, 0, .L, 3, [], false⟩
  | .ACU_REGIONS_A0 => ⟨.ACU_REGIONS_A0, 0xC201, 0x00, .u64, .arr 64, 1, 0, 0, .L, 0, [], false⟩
  | .ACU_REGIONS_A1 => ⟨.ACU_REGIONS_A1, 0xC202, 0x00, .u64, .arr 64, 1, 0, 0, .L, 0, [], false⟩
  | .ACU_REGIONS_B0 => ⟨.ACU_REGIONS_B0, 0xC203, 0x00, .u64, .arr 64, 1, 0, 0, .L, 0, [], false⟩
  | .ACU_REGIONS_B1 => ⟨.ACU_REGIONS_B1, 0xC204, 0x00, .u64, .arr 64, 1, 0, 0, .L, 0, [], false⟩
  | .ACU_REGIONS_DMA => ⟨.ACU_REGIONS_DMA, 0xC205, 0x00, .u64, .arr 64, 1, 0, 0, .L, 0, [], false⟩
  | .ACU_REGIONS_HOST => ⟨.ACU_REGIONS_HOST, 0xC206, 0x00, .u64, .arr 64, 1, 0, 0, .L, 0, [], false⟩
  | .ACU_REGIONS_DEBUG => ⟨.ACU_REGIONS_DEBUG, 0xC207, 0x00, .u64, .arr 64, 1, 0, 0, .L, 0, [], false⟩
  | .MPU_REGIONS_A0 => ⟨.MPU_REGIONS_A0, 0xC211, 0x00, .u64, .arr 16, 1, 0, 0, .L, 0, [], false⟩
  | .MPU_REGIONS_A1 => ⟨.MPU_REGIONS_A1, 0xC212, 0x00, .u64, .arr 16, 1, 0, 0, .L, 0, [], false⟩
  | .MPU_REGIONS_B0 => ⟨.MPU_REGIONS_B0, 0xC213, 0x00, .u64, .arr 16, 1, 0, 0, .L, 0, [], false⟩
  | .MPU_REGIONS_B1 => ⟨.MPU_REGIONS_B1, 0xC214, 0x00, .u64, .arr 16, 1, 0, 0, .L, 0, [], false⟩
  | .ACTIVE_PROFILE => ⟨.ACTIVE_PROFILE, 0xD001, 0x01, .u8, .one, 1, 1, 1, .L, 255, [], false⟩
  | .PROFILE_DIRTY => ⟨.PROFILE_DIRTY, 0xD001, 0x02, .bool, .one, 1, 1, 0, .L, 0, [], false⟩
  | .LOAD_SOURCE => ⟨.LOAD_SOURCE, 0xD001, 0x03, .u8, .one, 1, 1, 0, .L, 0, [], false⟩
  | .DEFAULT_PROFILE => ⟨.DEFAULT_PROFILE, 0xD002, 0x01, .u8, .one, 3, 3, 0, .L, 0, [(0, 3)], false⟩
  | .PROFILE_SWITCH => ⟨.PROFILE_SWITCH, 0xD010, 0x01, .record, .one, 4, 4, 0, .E, 0, [], false⟩
  | .PS_RESULT => ⟨.PS_RESULT, 0xD010, 0x02, .u16, .one, 1, 1, 0, .L, 0, [], false⟩
  | .PS_DIFF_CLASS => ⟨.PS_DIFF_CLASS, 0xD010, 0x03, .u8, .one, 1, 1, 0, .L, 0, [], false⟩
  | .PS_FIRST_QB => ⟨.PS_FIRST_QB, 0xD010, 0x04, .u64, .one, 1, 1, 0, .L, 18446744073709551615, [], false⟩
  | .PROFILE_SAVE => ⟨.PROFILE_SAVE, 0xD011, 0x01, .record, .one, 4, 4, 0, .L, 0, [], false⟩
  | .PROFILE_ERASE => ⟨.PROFILE_ERASE, 0xD012, 0x01, .record, .one, 4, 0, 0, .L, 0, [], false⟩
  | .PROF_VALID => ⟨.PROF_VALID, 0xD020, 0x01, .bool, .tab, 1, 1, 0, .L, 0, [], false⟩
  | .PROF_GENERATION => ⟨.PROF_GENERATION, 0xD020, 0x02, .u32, .tab, 1, 1, 0, .L, 0, [], false⟩
  | .PROF_SAVED => ⟨.PROF_SAVED, 0xD020, 0x03, .time, .tab, 1, 1, 0, .L, 0, [], false⟩
  | .PROF_NAME => ⟨.PROF_NAME, 0xD020, 0x04, (.vis 32), .tab, 3, 3, 0, .L, 0, [], false⟩
  | .PROF_CHECK => ⟨.PROF_CHECK, 0xD020, 0x05, .u32, .tab, 1, 1, 0, .L, 0, [], false⟩
  | .THROTTLE_TEMP => ⟨.THROTTLE_TEMP, 0xE000, 0x01, .u8, .one, 3, 3, 0, .P, 100, [(85, 105)], true⟩
  | .AVS_MODE => ⟨.AVS_MODE, 0xE000, 0x03, .u8, .one, 3, 1, 0, .B, 0, [(0, 1)], true⟩
  | .REGION_STATE => ⟨.REGION_STATE, 0xE001, 0x00, .u8, .arr 15, 1, 1, 0, .L, 4, [], false⟩
  | .POWER_CAP => ⟨.POWER_CAP, 0xE010, 0x01, .u32, .one, 3, 1, 0, .P, 420, [(200, 520)], true⟩
  | .COOLING => ⟨.COOLING, 0xE010, 0x02, .u8, .one, 3, 1, 0, .B, 0, [(0, 1)], true⟩
  | .POWER_EST => ⟨.POWER_EST, 0xE010, 0x03, .u32, .one, 1, 1, 0, .L, 0, [], false⟩
  | .CAP_STEP => ⟨.CAP_STEP, 0xE010, 0x04, .u8, .one, 1, 1, 0, .L, 0, [], false⟩
  | .CAP_UNMET => ⟨.CAP_UNMET, 0xE010, 0x05, .bool, .one, 1, 1, 0, .L, 0, [], false⟩
  | .CAP_STEPS_TAKEN => ⟨.CAP_STEPS_TAKEN, 0xE010, 0x06, .u32, .one, 1, 1, 0, .L, 0, [], false⟩
  | .CLOCK_MODE => ⟨.CLOCK_MODE, 0xE020, 0x00, .u8, .arr 8, 3, 3, 0, .Q, 1, [(0, 2)], true⟩
  | .REF_OFFSET => ⟨.REF_OFFSET, 0xE021, 0x00, .i16, .arr 8, 1, 1, 0, .L, 0, [], false⟩
  | .REF_STATE => ⟨.REF_STATE, 0xE022, 0x00, .u8, .arr 8, 1, 1, 0, .L, 0, [], false⟩
  | .CORE_REF_TILE => ⟨.CORE_REF_TILE, 0xE023, 0x00, .u8, .one, 1, 1, 0, .L, 0, [], false⟩
  | .GPIO_IN => ⟨.GPIO_IN, 0xE030, 0x01, .u16, .one, 1, 1, 0, .L, 0, [], false⟩
  | .GPIO_EVENT_MASK => ⟨.GPIO_EVENT_MASK, 0xE030, 0x02, .u16, .one, 3, 3, 0, .P, 0, [], true⟩
  | .TEMP => ⟨.TEMP, 0xE100, 0x01, .i16, .tab, 1, 1, 0, .L, 0, [], false⟩
  | .TEMP_PEAK => ⟨.TEMP_PEAK, 0xE100, 0x02, .i16, .tab, 1, 1, 0, .L, 0, [], false⟩
  | .VDD_MV => ⟨.VDD_MV, 0xE100, 0x03, .u16, .tab, 1, 1, 0, .L, 0, [], false⟩
  | .VDD_SET_MV => ⟨.VDD_SET_MV, 0xE100, 0x04, .u16, .tab, 1, 1, 0, .L, 750, [], false⟩
  | .LIMIT_FLAGS => ⟨.LIMIT_FLAGS, 0xE100, 0x05, .u8, .tab, 1, 1, 0, .L, 0, [], false⟩
  | .THROTTLE_LEVEL => ⟨.THROTTLE_LEVEL, 0xE100, 0x06, .u8, .tab, 1, 1, 0, .L, 8, [], false⟩
  | .PEAK_CLEAR => ⟨.PEAK_CLEAR, 0xE100, 0x07, .record, .tab, 4, 4, 0, .L, 0, [], false⟩

namespace Dict

/-- Objects 1000h to 1820h. -/
def part0 : List Obj :=
  [.PART_NUMBER, .STEPPING, .GRADE, .CHIP_SERIAL, .SESSION_STATE,
   .SESSION_PRINCIPAL, .SESSION_TRANSPORT, .SESSION_PEER, .SESSION_OPENED, .SESSION_REQUESTS,
   .SESSION_CLOSE, .HEXSUM_IDLE_TIMEOUT, .HEXSUM_ENABLE, .REQUESTS_REFUSED, .DUPLICATES_SERVED,
   .MGMT_ETH_MODE, .MGMT_IPV4_ADDR, .MGMT_IPV4_PREFIX, .MGMT_IPV6_ADDR, .MGMT_IPV6_PREFIX,
   .MGMT_MAC, .TRUST_HASH, .TRUST_PRINCIPAL, .TRUST_VALID, .FA_PARTITION]

/-- Objects 2001h to 2030h. -/
def part1 : List Obj :=
  [.PIP_PERIOD, .ORCHARD_TIME, .PIP_COUNTER, .PIP_ANCHOR_TIME, .PIP_ANCHOR_NUMBER,
   .SOURCE_ENABLE, .TREF_CLK_FREQ, .PTP_DOMAIN, .ACTIVE_SOURCE, .TIME_CLASS,
   .TIME_ROOT, .PARENT_PORT, .TOD_SECONDS, .LINK_ASYMMETRY, .LINK_DELAY,
   .LINK_OFFSET, .HOST_TIME_OFFSET, .HOST_PTM_VALID]

/-- Objects 2100h to 2101h. -/
def part2 : List Obj :=
  [.EPOCH_KIND, .EPOCH_OFFER_1, .EPOCH_OFFER_2, .EPOCH_OFFER_3, .EPOCH_OFFER_4,
   .EPOCH_STATE, .APPLIED_EPOCH, .NOT_READY, .EPOCH_RESULT, .TIME_STEP]

/-- Objects 3000h to 3100h. -/
def part3 : List Obj :=
  [.PORT_ROLE, .PORT_WIDTH, .MAX_RATE, .LINK_WIDTH, .LINK_RATE,
   .TRAIN_STATE, .LANE_ORDER, .TRAIN_FAIL_CAUSE, .RETRAIN_INTERVAL, .FAILED_LANES,
   .DEGRADE_ACTION, .RETRAIN, .CAP_SHED, .ASPM_L1_ALLOW, .L1_IDLE_TIME,
   .L0P_ENABLE, .PRESENCE_SOURCE, .PERST_IN_SEL, .DP_STATE, .FUNDAMENTAL_RESET,
   .PERST_PULSE, .TRAIN_TIMEOUT, .SURPRISE_DOWNS, .NONFLIT_ALLOW]

/-- Objects 3200h to 3200h. -/
def part4 : List Obj :=
  [.OL_STATE, .ACK_COALESCE, .ACK_TIMER, .REPLAY_TIMEOUT, .REPLAY_LIMIT,
   .LINK_DOWN_TIME, .POOL_BYTES, .LEAK_THRESHOLD, .TX_NEXT_SEQ, .RX_EXPECTED,
   .UNACKED, .RETAINED, .FLITS_REPLAYED, .NAKS_SENT, .NAKS_RECEIVED,
   .FEC_CORRECTED, .BAD_FLITS, .CREDIT_DEFICIT, .REINITS_PLANNED, .REINITS_UNPLANNED,
   .LINK_DOWNS, .LAST_DOWN_CAUSE, .PACKETS_SALVAGED, .COLLISIONS, .WITHDRAW,
   .WITHDRAWN, .STALE_ACKS]

/-- Objects 3201h to 3400h. -/
def part5 : List Obj :=
  [.DEDUP_DISCARDS, .ORDER_GAPS, .STREAM_RESETS, .VC_MIN_SET, .VC_MIN_EFFECTIVE,
   .VC_HELD, .VC_RETURNED, .VC_DEFICIT, .VC_TX_OUTSTANDING, .LANE_STATE,
   .POLARITY_INVERTED, .TX_TAPS, .EYE_HEIGHT, .EYE_WIDTH, .CORRECTED_RATE,
   .MARGIN_THRESHOLD, .ERROR_RATE_THRESHOLD, .PRBS_GEN, .PRBS_CHECK, .PRBS_LOCK,
   .BIT_ERRORS, .SYMBOL_ERRORS, .COUNTER_CLEAR, .MARGIN_TRIGGERS]

/-- Objects 3410h to 3600h. -/
def part6 : List Obj :=
  [.SPARE_PORT, .SPARE_AUTO, .SPARE_STATE, .SPARE_LANE, .SPARE_SWAPS,
   .SPARE_VERIFY_LIMIT, .SPARE_COMMAND, .IDE_MODE, .IDE_STREAMS_ACTIVE, .IDE_CHECK_FAILS,
   .IDE_KEY_REFRESHES, .IDE_REKEY_INTERVAL]

/-- Objects 4000h to 4010h. -/
def part7 : List Obj :=
  [.HOST_NODE, .HOST_PORT, .PARTITION_STATE, .VDSB_COUNT, .FORERUNNER_MODE,
   .MPS_LIMIT, .PRESENTED_VENDOR_ID, .PRESENTED_SUBSYSTEM_ID, .UNGRAFT_TIMEOUT, .CFG_FW_PENDING,
   .PARTITION_QUIESCE, .NODE_ID, .PLANE, .ORCHARD_ID, .ORCHARD_MEMBERS,
   .KEEPER_NODE, .STANDBY_NODE, .KEEPER_ROLE, .KEEPER_CHANGES, .LIVE_MEMBERS,
   .NEIGHBOUR_NODE, .NEIGHBOUR_PORT, .NEIGHBOUR_STATE, .NEIGHBOUR_SERIAL]

/-- Objects 4020h to 4200h. -/
def part8 : List Obj :=
  [.MF_STATE, .MF_FLR_COUNT, .MF_FLR_DISCARDS, .MF_PIP_IRQ, .MF_TELEMETRY_PERIOD,
   .PARTITION, .GFID, .KIND, .VDSB, .VFUNC,
   .ACTION, .GRAFT_STATE, .GRAFT_RESULT, .GRAFT_REQUEST, .AUTO_REGRAFT,
   .GRAFT_COMMIT, .FN_NODE, .FN_PORT, .FN_POSITION, .FN_KIND,
   .PARENT_PF, .PRESENT, .HELD_BY, .FN_IDS, .SRIOV_NUMVFS]

/-- Objects 5000h to 5100h. -/
def part9 : List Obj :=
  [.PRIMARY_PORT, .ALTERNATE_PORT, .TWIN_A_PORT, .TWIN_B_PORT, .HOPS,
   .ROUTE_VALID, .ACTIVE_PORT, .ROUTE_GENERATION, .FAST_REROUTES, .HOP_LIMIT_DISCARDS,
   .TWIN_PLANE_BREACH, .LOC_NODE, .LOC_PORT, .AP_PARTITION, .AP_BASE,
   .AP_SIZE_LOG2, .AP_TARGET, .AP_OFFSET, .AP_SOURCE, .AP_BAR,
   .AP_STATE]

/-- Objects 5200h to 5410h. -/
def part10 : List Obj :=
  [.PW_BASE, .PW_SIZE_LOG2, .PW_TARGET, .PW_OFFSET, .PW_ACCESS,
   .PW_KIND, .PW_GRANTOR, .PW_STATE, .WINDOW_COMMIT, .ACTIVE_GENERATION,
   .STAGED_ROWS, .WINDOW_DISCARD, .GRANT_PAIRS, .INGRESS_REFUSALS, .EGRESS_REFUSALS,
   .HOST_RX_TLPS, .HOST_RX_BYTES, .HOST_TX_TLPS, .HOST_TX_BYTES, .RED_TLPS,
   .MC_MEMBERS, .MC_TARGET, .MC_OFFSET, .MC_GRANTOR]

/-- Objects 5500h to 5510h. -/
def part11 : List Obj :=
  [.CPL_TIMEOUT, .TAG_QUOTA, .TAGS_LIVE, .TAGS_QUARANTINED, .CPL_TIMEOUTS,
   .UNEXPECTED_CPLS, .ORDER_HOLDS, .UR_GENERATED, .TAGS_FREE, .TO_STORM_LIMIT,
   .ORDER_HOLD_TIMEOUT, .ORDER_HOLD_EXPIRIES, .UNOWNED_CPLS, .TAG_ENTRY]

/-- Objects 6000h to 6030h. -/
def part12 : List Obj :=
  [.FQ_KEY, .FQ_STATE, .FQ_CELLS_ONCHIP, .FQ_CELLS_SPILLED, .FQ_SPILL_ENTRIES,
   .FQ_WEIGHT, .FQ_START_TAG, .FQ_TOKENS, .FQ_WEIGHT_SET, .SPILL_THRESHOLD,
   .YELLOW_SPILL_THRESHOLD, .CR_PARTITION, .CR_TC_MASK, .CR_TYPE_MASK, .CR_ADDR_BASE,
   .CR_ADDR_SIZE_LOG2, .CR_CLASS, .CR_VALID, .TC_CLASS_MAP]

/-- Objects 6100h to 6200h. -/
def part13 : List Obj :=
  [.M_ALGO, .M_MODE, .M_UNIT, .M_CIR, .M_CBS,
   .M_PIR_EIR, .M_PBS_EBS, .M_RECOVER, .M_GREEN, .M_YELLOW,
   .M_RED, .M_WITHHOLDING, .METER_A, .METER_B, .LOSSY_CLASSES,
   .RED_DISCARDS, .WITHHOLD_EVENTS, .SC_SHAPE_RATE, .SC_SHAPE_BURST, .SC_WEIGHT,
   .SC_FAIR_MODE, .SC_VIRTUAL_TIME, .SC_TX_TLPS, .SC_TX_BYTES, .SC_SHAPED_CLOCKS,
   .SC_DISCARDS]

/-- Objects 6201h to 6310h. -/
def part14 : List Obj :=
  [.LEN_OVERHEAD, .FQS_RATE, .FQS_BURST, .TOTAL_CELLS, .SCHED_PARTITION_CELLS,
   .SPILL_RESERVE_CELLS, .SHARED_POOL_CELLS, .SHARED_FREE_CELLS, .MIN_RESERVED_CELLS, .FREE_QUEUES,
   .QUEUE_WAITS, .DRAIN_WINDOW, .SPILL_BLOCKS_USED, .SPILL_BYTES_WRITTEN, .QUEUES_IN_SPILL,
   .SCHED_PARTITION_FULL, .SPILL_PATH_FULL, .MIN_CELLS, .ALPHA_CODE, .CELLS_USED,
   .SHARED_USED, .POOL_DENIALS]

/-- Objects 6400h to 6400h. -/
def part15 : List Obj :=
  [.BRAMBLE_POLICY, .BRAMBLE_BUDGET, .BRAMBLE_PASSES, .LEAKS_FOUND, .LEAKS_RECLAIMED,
   .LAST_LEAK_CELL]

/-- Objects 7000h to 7000h. -/
def part16 : List Obj :=
  [.RSV_SRC_NODE, .RSV_SRC_PORT, .RSV_DST_NODE, .RSV_DST_PORT, .RSV_CLASS,
   .RSV_ADDR_BASE, .RSV_ADDR_SIZE_LOG2, .RSV_BYTES_PER_PIP, .RSV_TLPS_PER_PIP, .RSV_DEADLINE_REQ,
   .RSV_TWIN, .RSV_ACTION, .RSV_STATE, .RSV_DEADLINE_GRANTED, .RSV_RESULT,
   .RSV_REFUSE_DETAIL, .RSV_PATH_BOUND, .RSV_REQUEST, .RSV_ACCEPTED, .RSV_HELD,
   .RSV_OVERSIZE, .RSV_LATE, .TWIN_DUPLICATES, .TWIN_LOST, .TWIN_WINDOW_DISCARDS]

/-- Objects 7010h to 7110h. -/
def part17 : List Obj :=
  [.RSV_COMMIT, .RSV_GRANTED, .GL_ENTRY, .GL_LENGTH, .GL_CYCLE_PIPS,
   .GL_BANK_STATE, .GL_ACTIVE_BANK, .GL_CURRENT_ENTRY, .GATE_SWITCH, .GS_RESULT,
   .GS_BLOCKING_RSV]

/-- Objects 8000h to 8000h. -/
def part18 : List Obj :=
  [.SP_ENABLE, .SP_STATE, .SP_SEAT_DEBOUNCE, .SP_SENSE_GAIN, .SP_LIMIT,
   .SP_INRUSH_LIMIT, .SP_INRUSH_TIMEOUT, .SP_FAULT_TIME, .SP_FAST_TRIP_PCT, .SP_VSENSE_RATIO,
   .SP_PG_THRESHOLD, .SP_UV_THRESHOLD, .SP_PG_DEBOUNCE, .SP_OFF_TIME, .SP_PERST_DELAY,
   .SP_SHARE_ENABLE, .SP_SHARE_MIN, .SP_I_A, .SP_I_B, .SP_V_RAIL,
   .SP_SHARE_DUTY, .SP_TRIP_CAUSE, .SP_TRIPS, .SP_FEED_STATUS, .SP_PG_HELD,
   .SP_OFF_REMAINING, .SP_PRESENCE]

/-- Objects 9000h to 9310h. -/
def part19 : List Obj :=
  [.ERROR_LOG, .LOG_NEXT_SEQ, .LOG_OVERFLOWS, .LOG_OPEN, .PERSISTENT_LOG,
   .HUSK_STATE, .HUSK_RELEASE, .HUSK_CAUSE, .HUSK_CAUSE_SEQ, .HUSK_SINCE,
   .HUSK_DRAINED, .HUSK_RETRAINED, .HUSK_DISCARDS, .HUSK_COMMAND, .ERR_POLICY,
   .REGION_AUTO_RESTART, .REGION_RESTART_LIMIT, .REGION_RESTART, .REGION_ISOLATIONS]

/-- Objects A000h to A110h. -/
def part20 : List Obj :=
  [.UNIT_CYCLES, .UNIT_KIND, .FILT_PRIV, .FILT_GFID, .FILT_GFID_MASK,
   .FILT_ADDR_BASE, .FILT_ADDR_SIZE_LOG2, .FILT_CLASS, .CTR_EVENT, .CTR_PORT,
   .CTR_FILTER, .CTR_VALUE, .CTR_OVERFLOW, .CTR_CLEAR, .SAMPLE_ENABLE,
   .SAMPLE_PORT, .SAMPLE_FILTER_UNIT, .SAMPLE_INTERVAL, .SAMPLE_DEST, .SAMPLE_PARTITION,
   .SAMPLES_TAKEN, .SAMPLES_DROPPED, .SAMPLE_CLEAR, .SAMPLE_RECORD]

/-- Objects A200h to A401h. -/
def part21 : List Obj :=
  [.MR_PORT, .MR_DIRECTION, .MR_PARTITION, .MR_CLASS_MASK, .MR_DEST_PARTITION,
   .MR_VALID, .MR_RATE, .MR_CAPTURED, .MR_DROPPED, .IPFIX_ANCHOR,
   .IPFIX_PERIOD, .IPFIX_TEMPLATES, .IPFIX_SENT, .IPFIX_DROPPED, .IPFIX_MESSAGE,
   .ENGINE_BUDGET, .ENGINE_PASSES]

/-- Objects B000h to B200h. -/
def part22 : List Obj :=
  [.LIFECYCLE_STATE, .TOKEN_CHALLENGE, .TOKEN_SUBMIT, .DEBUG_LOCK, .TOKEN_RESULT,
   .LIFECYCLE_PENDING, .TOKEN_BUFFER, .ROLLBACK_FUSED, .ROLLBACK_MIRROR, .SVN_COMMIT,
   .KEYSET_REVOKED, .FW_BANK_STATE, .FW_VERSION, .FW_SVN, .FW_KEYSET,
   .FW_LOADED_BYTES, .FW_ERASE, .FW_WRITE, .FW_VERIFY, .FW_SWITCH,
   .FW_OP_STATE, .FW_TRIAL_TIME, .FW_SWITCH_RESULT, .MEAS_VALUE, .MEAS_CHANGES]

/-- Objects B201h to B300h. -/
def part23 : List Obj :=
  [.HSS_TOP_Q, .HSS_BOTTOM_Q, .HSS_NEXT_READY, .HSS_FORFEITED, .DEVICE_ID_HASH,
   .ORCHARD_RESET, .PORT_RESET, .PARTITION_RESET, .LAST_RESET, .FORWARDING_AT,
   .BIST_FAILED, .ROWS_REMAPPED, .CELLS_WITHHELD]

/-- Objects C000h to C201h. -/
def part24 : List Obj :=
  [.MB_IN_STATE, .MB_OUT_STATE, .MB_COLLISIONS, .MB_DB_TO_FW, .MB_DB_TO_FW_MASK,
   .MB_MESSAGES_IN, .MB_MESSAGES_OUT, .PAIR_A_STATE, .PAIR_B_STATE, .PAIR_A_STOPS,
   .PAIR_B_STOPS, .PAIR_RESTART_LIMIT, .PAIR_RESTART, .ACU_FENCE, .ACCESS_DENIALS,
   .DEBUG_DENIALS, .LAST_DENIAL, .IRQ_PRIORITY, .IRQ_SENSE, .IRQ_TARGET,
   .IRQ_ENABLE, .IRQ_PENDING, .IRQ_COUNT, .GROUP_BITS_A, .GROUP_BITS_B,
   .ACU_REGIONS_A0]

/-- Objects C202h to C214h. -/
def part25 : List Obj :=
  [.ACU_REGIONS_A1, .ACU_REGIONS_B0, .ACU_REGIONS_B1, .ACU_REGIONS_DMA, .ACU_REGIONS_HOST,
   .ACU_REGIONS_DEBUG, .MPU_REGIONS_A0, .MPU_REGIONS_A1, .MPU_REGIONS_B0, .MPU_REGIONS_B1]

/-- Objects D001h to D020h. -/
def part26 : List Obj :=
  [.ACTIVE_PROFILE, .PROFILE_DIRTY, .LOAD_SOURCE, .DEFAULT_PROFILE, .PROFILE_SWITCH,
   .PS_RESULT, .PS_DIFF_CLASS, .PS_FIRST_QB, .PROFILE_SAVE, .PROFILE_ERASE,
   .PROF_VALID, .PROF_GENERATION, .PROF_SAVED, .PROF_NAME, .PROF_CHECK]

/-- Objects E000h to E100h. -/
def part27 : List Obj :=
  [.THROTTLE_TEMP, .AVS_MODE, .REGION_STATE, .POWER_CAP, .COOLING,
   .POWER_EST, .CAP_STEP, .CAP_UNMET, .CAP_STEPS_TAKEN, .CLOCK_MODE,
   .REF_OFFSET, .REF_STATE, .CORE_REF_TILE, .GPIO_IN, .GPIO_EVENT_MASK,
   .TEMP, .TEMP_PEAK, .VDD_MV, .VDD_SET_MV, .LIMIT_FLAGS,
   .THROTTLE_LEVEL, .PEAK_CLEAR]

/-- The parts of the dictionary, each under the highest index it holds. -/
def parts : List (Nat × List Obj) :=
  [(0x1820, part0),
   (0x2030, part1),
   (0x2101, part2),
   (0x3100, part3),
   (0x3200, part4),
   (0x3400, part5),
   (0x3600, part6),
   (0x4010, part7),
   (0x4200, part8),
   (0x5100, part9),
   (0x5410, part10),
   (0x5510, part11),
   (0x6030, part12),
   (0x6200, part13),
   (0x6310, part14),
   (0x6400, part15),
   (0x7000, part16),
   (0x7110, part17),
   (0x8000, part18),
   (0x9310, part19),
   (0xA110, part20),
   (0xA401, part21),
   (0xB200, part22),
   (0xB300, part23),
   (0xC201, part24),
   (0xC214, part25),
   (0xD020, part26),
   (0xE100, part27)]

/-- Every object of the dictionary. -/
def all : List Obj := parts.flatMap (·.2)

/-- The part that holds an index. -/
def partOf : List (Nat × List Obj) → Nat → List Obj
  | [], _ => []
  | (hi, l) :: rest, i => if i ≤ hi then l else partOf rest i

/-- The objects of one index (R310). -/
def atIndex (i : Nat) : List Obj := (partOf parts i).filter (·.info.idx = i)

/-- The table objects of R341 and B001, with their capacities in rows. -/
def rowCounts : List (Nat × Nat) :=
  [(0x1800, 32), (0x1810, 16), (0x1820, 4096), (0x2020, 512), (0x2030, 4096), (0x2100, 64),
   (0x3000, 512), (0x3100, 512), (0x3200, 512), (0x3210, 4096), (0x3400, 544), (0x3410, 32),
   (0x3600, 512), (0x4000, 4096), (0x4010, 512), (0x4020, 4096), (0x4100, 65536), (0x4200, 65536),
   (0x5000, 32), (0x5020, 65536), (0x5100, 65536), (0x5200, 1048576), (0x5300, 4096), (0x5400, 1024),
   (0x5410, 32768), (0x5500, 4096), (0x5510, 262144), (0x6000, 1048576), (0x6010, 32776), (0x6020, 1024),
   (0x6030, 4096), (0x6100, 262144), (0x6110, 32776), (0x6200, 4096), (0x6201, 512), (0x6210, 32776),
   (0x6310, 4096), (0x7000, 16384), (0x7100, 1048576), (0x7101, 1024), (0x7102, 512), (0x8000, 64),
   (0x9000, 4096), (0x9002, 256), (0x9100, 4608), (0x9200, 36), (0x9310, 14), (0xA000, 96),
   (0xA010, 768), (0xA110, 65536), (0xA200, 256), (0xA300, 4), (0xB001, 5), (0xB100, 2),
   (0xB200, 64), (0xC000, 4097), (0xC100, 2048), (0xD020, 4), (0xE100, 15)]

/-- Rows of the table at an index (R341); none where it is no table. -/
def rows (i : Nat) : Option Nat := rowCounts.lookup i

end Dict


end Sys2Proof.Machine
end

