-- ==== Sys2Proof/Machine/Work.lean ====
section
/-! DEFINITION. What epoch requests carry, and the prepare message that brings one to a chip (R46, R92). -/

namespace Sys2Proof.Machine

open Sys2Proof

/-- An accepted value that is not in force yet: object, row, value and, for class P, the pip at
whose edge it applies (R44, R316). -/
structure Held where
  obj : Obj
  row : Nat
  val : Nat
  pip : Nat := 0
  deriving DecidableEq, Repr

/-- A row of 5000 as a route push carries it (R88, R92). -/
structure RouteRow where
  node : Nat
  primary : Nat
  alternate : Nat
  twinA : Nat
  twinB : Nat
  hops : Nat
  valid : Bool
  deriving DecidableEq, Repr

/-- A fabric link that the keeper holds in the topology (R58). -/
structure LinkRec where
  node : Nat
  port : Nat
  nbr : Nat
  nbrPort : Nat
  /-- Its end at `node` has withdrawn it (R213). -/
  withdrawn : Bool := false
  deriving DecidableEq, Repr

/-- A route push (R92): the rows of 5000 and, where another chip computed it, those of 5020 (GFID, node, port); the
links that its routes were computed over, without withdrawn ones and all; and what the new paths make of
reservations: row, state and bound (R179). -/
structure Push where
  rows : List RouteRow
  locs : Option (List (Nat × Nat × Nat)) := none
  avoid : List LinkRec := []
  all : List LinkRec := []
  outcomes : List (Nat × Nat × Nat) := []
  deriving DecidableEq, Repr

/-- What an epoch request carries (R46). A commit of reservations carries its rows, admitted and released, and the
values of the admitted ones. -/
inductive Work where
  | profile (n : Nat) (force : Nat) (nodes : Nat)
  | gates (banks : List Nat)
  | routes (push : Push)
  | grafts (rows : List Nat)
  | windows (rows : List Held)
  | reservations (rows : List Nat) (vals : List Held)
  | firmware (nodes : Nat)
  | period (v : Nat)
  | step (ns : Int)
  deriving DecidableEq, Repr

/-- A prepare message of another chip's keeper (R46 step 1): what the request is, and the staged values that the
units load. -/
structure Prep where
  kind : Nat
  offers : List Time
  units : List (Nat × Nat)
  work : Work
  rows : List Held := []
  deriving DecidableEq, Repr

end Sys2Proof.Machine
end

