-- ==== Sys2Proof/Syntax.lean ====
section
/-! DEFINITION. The commands of the DK5120: one constructor per row of spec/opcode_table.json. -/

namespace Sys2Proof

/-- A command. `t` is the orchard time of the event or of the arrival of the request (log 2);
`req` the envelope of a Hexsum request; `offers` the epochs it offers (R325). -/
inductive Instr where
  /-- PIP_EDGE (R41). The pip edge of pip n arrives at OT(n) as each region sees it, and everything bound to the edge happens. -/
  | pipEdge (ptm : List (Nat × Int))
  /-- SHADOW_SET_CLOSE (R44). 5 µs before an edge, Odtaku closes the set of shadowed values for that edge. -/
  | shadowSetClose (t : Time)
  /-- ENGINE_BUDGET_EXHAUSTED (R50). A background engine's per-pip budget counts down to zero and the engine pauses until the next edge. `engine` is n of A400, or 7 for Bramble; `wrong` what a scrub found: 0 nothing, 1 corrected, 2 uncorrectable. -/
  | engineBudgetExhausted (t : Time) (engine : Nat) (region : Nat) (wrong : Nat)
  /-- IPFIX_MESSAGE_SEND (R414). An IPFIX message of the current snapshot is sent as a PUSH over the export period. -/
  | ipfixMessageSend (t : Time) (c : Nat)
  /-- GATE_ENTRY_START (R181). The previous gate entry's duration ends, and the next entry's mask is applied at the port. -/
  | gateEntryStart (t : Time) (port : Nat)
  /-- TREF_PPS_EDGE (R38). A rising edge on TREF_PPS_IN is stamped and checked for time-source qualification; `clk` says that TREF_CLK_IN is present. -/
  | trefPpsEdge (t : Time) (clk : Bool)
  /-- TREF_LOST (R38). TREF is declared lost on clock absence for 10 µs, a missing PPS edge after 1.1 s, or an edge deviating by more than 100 ns. -/
  | trefLost (t : Time)
  /-- PTP_MESSAGE_RECEIVE (R39). A PTP message on the management Ethernet port is timestamped and fed to the client servo. -/
  | ptpMessageReceive (t : Time) (domain : Nat) (offset : Int)
  /-- TIME_SOURCE_QUALIFIED (R29). A time source meets its qualification condition, and the chip's time class is re-graded. -/
  | timeSourceQualified (t : Time) (source : Nat)
  /-- TIME_ROOT_DISPLACE (R30). A chip that has held a better time class for 10 s displaces the current time root. -/
  | timeRootDisplace (t : Time)
  /-- TIME_MARKER_SEND (R33). An end sends a timing marker in one flit of every 512 and stamps its departure. -/
  | timeMarkerSend (t : Time) (port : Nat)
  /-- PTM_REQUEST (R40). A PTM request on a device port is answered with orchard time as PTM root. -/
  | ptmRequest (t : Time) (port : Nat)
  /-- TIME_STEP (R36). The shelf manager requests a whole-millisecond step of orchard time as a kind-6 epoch change. -/
  | timeStep (t : Time) (req : Req) (offers : List Time) (step : Int)
  /-- PIP_PERIOD_WRITE (R43). A write of PIP_PERIOD with epoch offers is checked and opens a kind-5 epoch change. -/
  | pipPeriodWrite (t : Time) (req : Req) (offers : List Time) (e : WEntry)
  /-- UNIT_READY (R46). A unit finishes loading the new state into its shadow bank and reports ready to the keeper. `prep` is the prepare message that the unit answers, where another chip is keeper. -/
  | unitReady (t : Time) (request : Nat) (node : Nat) (region : Nat) (isolated : Bool) (prep : Option Machine.Prep)
  /-- GUARD_POINT (R46). At G = E − 2P the keeper decides to commit, or moves or cancels the change. -/
  | guardPoint (t : Time) (request : Nat)
  /-- DECISION_RESEND (R46). The keeper resends the commit decision on both planes every 10 µs until every chip acknowledges. -/
  | decisionResend (t : Time) (request : Nat) (acks : List Nat)
  /-- DECISION_QUERY (R48). A ready unit with no decision at E − P asks the keeper and the standby keeper for it. -/
  | decisionQuery (t : Time) (request : Nat) (region : Nat) (answer : Bool)
  /-- EPOCH_APPLY (R46). At the edge of E every unit holding a commit decision swaps banks, and a unit without a decision is isolated. -/
  | epochApply (request : Nat)
  /-- HELLO_SEND (R56). Each trained fabric port sends a hello every 100 µs. -/
  | helloSend (t : Time) (port : Nat)
  /-- HELLO_RECEIVE (R57). A received hello is checked and sets the neighbour state: up, or refused for a stated reason. -/
  | helloReceive (t : Time) (port : Nat) (h : Hello)
  /-- NEIGHBOUR_DOWN (R56). Three hello intervals pass without a hello, and the neighbour is down. -/
  | neighbourDown (t : Time) (port : Nat)
  /-- LINK_STATE_MESSAGE (R58). The keeper receives a link-state message and opens a route push; `withdrawn` says that the link is withdrawn (R213). -/
  | linkStateMessage (t : Time) (node : Nat) (port : Nat) (nbr : Nat) (nbrPort : Nat) (up : Bool) (withdrawn : Bool)
  /-- KEEPER_TAKEOVER (R60). The standby keeper, having received no beacon for three pips, becomes keeper at the next edge. -/
  | keeperTakeover (t : Time)
  /-- KEEPER_HANDOVER (R61). A lower-numbered chip that has been healthy for 10 s, with no change pending, takes the keeper role at a pip edge. -/
  | keeperHandover (t : Time) (node : Nat)
  /-- KEEPER_COLD_ELECTION (R390). In an island that has never had a keeper, the lowest healthy node ID becomes keeper at the first edge at which the island knows it. -/
  | keeperColdElection (t : Time)
  /-- DEVICE_ENUMERATION (R65). Odtaku enumerates the device below a device port whose link is up and requests GFIDs from the keeper. -/
  | deviceEnumeration (t : Time) (port : Nat) (fns : List FnInfo)
  /-- SRIOV_NUMVFS_WRITE (R66). A write of SRIOV_NUMVFS sets VF Enable and NumVFs of a physical function. -/
  | sriovNumvfsWrite (t : Time) (req : Req) (gfid : Nat) (value : Nat)
  /-- PARTITION_BIND_WRITE (R72). A write of HOST_NODE or HOST_PORT binds or unbinds a partition to a host port. -/
  | partitionBindWrite (t : Time) (req : Req) (p : Nat) (node : Option Nat) (port : Option Nat)
  /-- PARTITION_WAIT_TIMEOUT (R72). 900 ms after reset deassertion or binding, a waiting partition becomes active with its applied grafts. -/
  | partitionWaitTimeout (t : Time) (p : Nat)
  /-- PARTITION_QUIESCE (R72). The command quiesces an active partition or resumes a quiesced one. -/
  | partitionQuiesce (t : Time) (req : Req) (p : Nat) (arg : Nat)
  /-- HOST_CONFIG_REQUEST (R70). A host configuration request to the virtual hierarchy is completed in hardware, or passed to firmware, or forwarded to a grafted function. -/
  | hostConfigRequest (t : Time) (port : Nat) (c : CfgReq)
  /-- CONFIG_FW_COMPLETION (R70). Firmware on pair A completes an extended-capability configuration request. -/
  | configFwCompletion (t : Time) (p : Nat)
  /-- HOST_CONFIG_SHADOW_WRITE (R74). A host write to a virtualised register of a grafted function updates its per-graft shadow or is discarded. -/
  | hostConfigShadowWrite (t : Time) (p : Nat) (g : Nat) (reg : ShadowReg) (value : Nat) (rid : Nat) (tag : Nat)
  /-- GRAFT_ACTION_WRITE (R453). A write of a graft row's ACTION stages, withdraws or starts an ungraft, or is refused. -/
  | graftActionWrite (t : Time) (req : Req) (g : Nat) (action : Nat)
  /-- GRAFT_COMMIT (R76). The command checks every staged graft row and opens one kind-3 request. -/
  | graftCommit (t : Time) (req : Req) (offers : List Time)
  /-- HOST_SLOT_POWER_CONTROL (R79). A host write to a virtual bridge's Power Controller Control or Link Disable starts an ungraft, or discards traffic, or resets the function. -/
  | hostSlotPowerControl (t : Time) (p : Nat) (k : Nat) (powerOff : Bool) (linkDisable : Bool)
  /-- UNGRAFT_TIMEOUT (R78). UNGRAFT_TIMEOUT expires without a host power-off, and the ungraft proceeds as forced. -/
  | ungraftTimeout (t : Time) (g : Nat)
  /-- HOST_SECONDARY_BUS_RESET (R81). A host Secondary Bus Reset on a bridge resets its grafted function according to the graft's kind. -/
  | hostSecondaryBusReset (t : Time) (p : Nat) (k : Nat)
  /-- HOST_FUNCTION_LEVEL_RESET (R81). A host Initiate Function Level Reset of a grafted function is forwarded or discarded, and its tag entries are quarantined. -/
  | hostFunctionLevelReset (t : Time) (p : Nat) (g : Nat)
  /-- TLP_INGRESS_PARSE (R83). A TLP received whole at a port is parsed, given a partition and source GFID, decoded, checked, classified, metered and admitted to the buffer. -/
  | tlpIngressParse (t : Time) (port : Nat) (tlp : Tlp)
  /-- MGMT_FUNCTION_MEMORY_ACCESS (R269). A host memory request to the management function's BAR0 is completed inside the DK5120. -/
  | mgmtFunctionMemoryAccess (t : Time) (p : Nat) (write : Bool) (offset : Nat) (bytes : List Nat) (rid tag : Nat)
  /-- MF_REGISTER_WRITE (R269). A host write to a BAR0 register without behaviour of its own updates it. -/
  | mfRegisterWrite (t : Time) (p : Nat) (offset : Nat) (value : Nat)
  /-- HOST_BAR_WRITE (R96). A host write of a grafted function's BAR is recorded and forwarded, and the old aperture is deactivated. -/
  | hostBarWrite (t : Time) (p : Nat) (g : Nat) (gfid : Nat) (bar : Nat) (base : Nat) (rid : Nat) (tag : Nat)
  /-- APERTURE_ACTIVATE (R96). When the BAR write's completion returns, Odtaku activates the aperture and releases the completion to the host. -/
  | apertureActivate (t : Time) (p : Nat) (gfid : Nat) (bar : Nat)
  /-- VF_BAR_EMULATE (R97). A host access to a presented virtual function's BAR or Memory Space Enable is completed by Odtaku and sets its aperture. -/
  | vfBarEmulate (t : Time) (p : Nat) (g : Nat) (c : CfgReq)
  /-- SCHEDULER_SELECT (R153). An egress port selects the next flow queue by class priority and start tag, runs the dequeue check and takes a TLP. -/
  | schedulerSelect (t : Time) (port : Nat)
  /-- FLOW_CONTROL_UPDATE (R151). A credit return on a port unparks the port's parked queues. -/
  | flowControlUpdate (t : Time) (port : Nat) (posted nonPosted cpl : Nat × Nat)
  /-- SHAPER_CONFORM (R156). A shaper bucket's refill reaches zero, and its queue or class becomes eligible again. -/
  | shaperConform (t : Time) (port : Nat) (cls : Nat) (key : Option Nat)
  /-- CREDIT_WITHHOLD_END (R161). A withholding meter's recovery bucket reaches M_RECOVER, and the held-back credits are returned. -/
  | creditWithholdEnd (t : Time) (meter : Nat)
  /-- TAG_DEADLINE (R113). A live tag entry's DEADLINE passes, and the sweep moves it to quarantine. -/
  | tagDeadline (t : Time) (port : Nat) (tag : Nat)
  /-- TAG_QUARANTINE_END (R113). A quarantined tag entry's QUARANTINE_END passes, and the entry is freed. -/
  | tagQuarantineEnd (t : Time) (port : Nat) (tag : Nat)
  /-- CPL_TIMEOUT_STORM (R117). The timeouts of one egress port in one pip reach TO_STORM_LIMIT, and the storm trigger fires. -/
  | cplTimeoutStorm (t : Time) (port : Nat)
  /-- FABRIC_PACKET_ARRIVE (R220). A non-twin fabric packet from a fabric port is de-duplicated against its stream count and linked, held or discarded. -/
  | fabricPacketArrive (t : Time) (port : Nat) (pkt : Pkt)
  /-- ORDER_HOLD_TIMEOUT (R124). A packet held for ORDER_HOLD_TIMEOUT releases every held packet of its stream and records the expiry. -/
  | orderHoldTimeout (t : Time) (stream : Nat)
  /-- PATH_CHANGE_FLAGGING_END (R123). The ORDER_HOLD_TIMEOUT after a port change toward a node ends, and packets are no longer flagged. -/
  | pathChangeFlaggingEnd (t : Time) (node : Nat)
  /-- TWIN_COPY_ARRIVE (R186). A twin copy at the delivering edge chip is de-duplicated into the reservation window and drained in order. -/
  | twinCopyArrive (t : Time) (port : Nat) (pkt : Pkt)
  /-- TWIN_SKEW_TIMEOUT (R186). The twin timer expires, and the missing sequences are skipped and counted lost. -/
  | twinSkewTimeout (t : Time) (r : Nat)
  /-- SPILL_BLOCK_CLOSE (R141). A spill block closes with 16 cells, or when no cell has reached its staging for 1 µs. -/
  | spillBlockClose (t : Time) (key : Nat) (sub : Sub)
  /-- SPILL_BLOCK_WRITTEN (R141). A block write to HBM completes, and its cells are freed from the buffer. -/
  | spillBlockWritten (t : Time) (key : Nat) (sub : Sub)
  /-- DRAIN_BLOCK_READ (R142). A sub-list whose head list is below DRAIN_WINDOW starts reading its oldest closed block. -/
  | drainBlockRead (t : Time) (key : Nat) (sub : Sub)
  /-- DRAIN_BLOCK_LINKED (R142). A drained block's cells are linked to the head list, or its TLPs are discarded on uncorrectable ECC, and the block is freed. -/
  | drainBlockLinked (t : Time) (key : Nat) (sub : Sub) (eccOk : Bool)
  /-- SPILL_EXIT (R143). A queue whose segments are empty and whose blocks are idle leaves spill and relinks its staging. -/
  | spillExit (t : Time) (key : Nat)
  /-- RECEIVE_FIFO_RESUME (R14). A TLP waiting in a receive FIFO for room, a queue, credit or the spill path proceeds once it becomes available. -/
  | receiveFifoResume (t : Time) (port : Nat)
  /-- BRAMBLE_PASS_END (R145). A Bramble pass ends: marked cells' leak counts rise, and leaks are reported or reclaimed. -/
  | bramblePassEnd (t : Time)
  /-- RSV_ACTION_WRITE (R176). A write of RSV_ACTION stages a reservation row for admission or release. -/
  | rsvActionWrite (t : Time) (req : Req) (r : Nat) (action : Nat)
  /-- RSV_COMMIT (R176). The command submits every staged reservation row to pair B for admission. -/
  | rsvCommit (t : Time) (req : Req) (offers : List Time)
  /-- RSV_ADMISSION_DONE (R176). Pair B finishes admission, writes the outcomes and opens the kind-3 request. -/
  | rsvAdmissionDone (t : Time)
  /-- RSV_READMIT (R179). Pair B reruns the bound for a reservation whose path changed or whose port retrained. -/
  | rsvReadmit (t : Time) (r : Nat)
  /-- GL_BANK_WRITE (R182). A write to a gate-list entry or bank header of an inactive or staged bank stages that bank. -/
  | glBankWrite (t : Time) (req : Req) (bank : Nat) (entry : Option Nat) (length : Option Nat) (cycle : Option Nat) (value : Nat)
  /-- GATE_SWITCH (R183). The command checks and re-admits the staged gate banks and opens one kind-2 request. -/
  | gateSwitch (t : Time) (req : Req) (offers : List Time)
  /-- FLIT_TRANSMIT (R194). The link sends the next flit: a replay, DATA, CONTROL or IDLE, with one credit return. `upset` are bits of the sender's counts that have turned over: of R[v] (true) or C[v], channel, bit (R214). -/
  | flitTransmit (t : Time) (port : Nat) (upset : List (Bool × Nat × Nat))
  /-- FLIT_RECEIVE (R203). A received flit is decoded and checked, its acknowledgement and credit return are acted on, and its payload is accepted or discarded. -/
  | flitReceive (t : Time) (port : Nat) (flit : Flit)
  /-- ACK_TIMER_EXPIRY (R204). The ack timer reaches ACK_TIMER, and an acknowledgement is due. -/
  | ackTimerExpiry (t : Time) (port : Nat)
  /-- NAK_REPEAT (R205). 1 µs passes without an accepted flit, and the NAK is repeated. -/
  | nakRepeat (t : Time) (port : Nat)
  /-- REPLAY_TIMEOUT (R207). No valid acknowledgement advances O for the replay timeout, and a replay starts at O. -/
  | replayTimeout (t : Time) (port : Nat)
  /-- INIT_FLIT_RECEIVE (R199). A good INIT flit sets PEER_SEEN, brings the end to ACTIVE with adopted parameters, or sends it into REINIT. -/
  | initFlitReceive (t : Time) (port : Nat) (init : Init)
  /-- INIT_TIMEOUT (R200). 10 ms in INIT without reaching ACTIVE starts a physical retrain. -/
  | initTimeout (t : Time) (port : Nat)
  /-- REINIT_TIMEOUT (R200). 100 µs in REINIT, and the link is declared down with cause 2. -/
  | reinitTimeout (t : Time) (port : Nat)
  /-- BLOCK_LOCK_LOST (R233). After 8 consecutive bad flits, or lost deskew, the receiver loses block lock. -/
  | blockLockLost (t : Time) (port : Nat)
  /-- LINK_DOWN_TIME_EXPIRY (R218). A loss of block lock that sparing has not cured persists for LINK_DOWN_TIME. -/
  | linkDownTimeExpiry (t : Time) (port : Nat)
  /-- SALVAGE_COMPLETE (R219). The last packet waiting in replay memory is salvaged once the spill reserve takes it, and the port may reach ACTIVE again. -/
  | salvageComplete (t : Time) (port : Nat)
  /-- CREDIT_POOL_AUDIT (R212). The audit computes the per-channel credit deficit and reports a rise. -/
  | creditPoolAudit (t : Time) (port : Nat) (held : List Nat)
  /-- WITHDRAW (R213). The command withdraws a fabric port and reinitialises it. -/
  | withdraw (t : Time) (req : Req) (port : Nat)
  /-- WITHDRAW_REINIT_REQUEST (R213). Once the avoiding push has applied and no flit is retained, the withdrawing end sends a REQUEST of kind 1. -/
  | withdrawReinitRequest (t : Time) (port : Nat)
  /-- POOL_UPDATE (R211). The sender applies the eight effective minimums carried in a received POOL_UPDATE. -/
  | poolUpdate (t : Time) (port : Nat) (mins : List Nat)
  /-- REQUEST (R216). A received link CONTROL REQUEST is granted, refused, or settled by the collision rule. -/
  | request (t : Time) (port : Nat) (m : Ctl)
  /-- GRANT (R216). A received GRANT lets the requester proceed with its request. -/
  | grant (t : Time) (port : Nat) (m : Ctl)
  /-- REFUSE (R216). A received REFUSE ends the requester's request with the given reason. -/
  | refuse (t : Time) (port : Nat) (m : Ctl)
  /-- DONE (R216). A received DONE ends a standing request and lets a deferred request be reissued. -/
  | done (t : Time) (port : Nat) (m : Ctl)
  /-- DETECT_RETRY (R227). Receiver detection on a fabric port is retried every 12 ms. -/
  | detectRetry (t : Time) (port : Nat) (first : Bool) (last : Bool)
  /-- TRAINING_BLOCK_RECEIVE (R228). A received training block advances the lane's training stage and equalisation requests. -/
  | trainingBlockReceive (t : Time) (lane : Nat) (b : TBlock)
  /-- TRAIN_STAGE_TIMEOUT (R227). A training stage's limit passes with a lane not meeting its condition, and training fails or a spare substitutes. -/
  | trainStageTimeout (t : Time) (port : Nat)
  /-- RETRAIN_INTERVAL_EXPIRY (R227). After a training failure, RETRAIN_INTERVAL expires and training restarts. -/
  | retrainIntervalExpiry (t : Time) (port : Nat)
  /-- MARGIN_SAMPLE (R240). The margin monitor samples a lane's eye and corrected rate, and may trigger. -/
  | marginSample (t : Time) (lane : Nat) (height : Nat) (width : Nat) (corrected : Option Nat)
  /-- SPARE_COMMAND (R246). The command sends TRAIN and then SWAP for a named lane. -/
  | spareCommand (t : Time) (req : Req) (spare : Nat) (lane : Nat)
  /-- SPARE_TRAINED (R244). Stage 5 passes at both ends, and the spare mirrors the named lane and becomes ready. -/
  | spareTrained (t : Time) (spare : Nat)
  /-- SPARE_READY_TIMEOUT (R244). A spare ready for 100 ms with no SWAP request is parked. -/
  | spareReadyTimeout (t : Time) (spare : Nat)
  /-- SWAP_FLIT_REACHED (R247). The receive count reaches the partner's SWAP_FLIT, and the receiver takes the lane from the spare. -/
  | swapFlitReached (t : Time) (port : Nat)
  /-- RETRAIN (R251). The command retrains a host or device link, or withdraws a fabric port and physically retrains it. -/
  | retrain (t : Time) (req : Req) (port : Nat)
  /-- COUNTER_CLEAR (R238). The command clears a lane's error and trigger counters. -/
  | counterClear (t : Time) (req : Req) (lane : Nat)
  /-- PORT_CFG_WRITE (R224). A write of a port's role, width or rate is checked, absorbs covered ports, and resizes the pools. -/
  | portCfgWrite (t : Time) (req : Req) (port : Nat) (role : Option Nat) (width : Option Nat) (rate : Option Nat)
  /-- DATA_LINK_UP (R262). A host or device port reaches Data Link Layer up, and IDE, enumeration or husk retraining proceed. -/
  | dataLinkUp (t : Time) (port : Nat) (width : Nat) (rate : Nat) (flitMode : Bool)
  /-- TRAIN_TIMEOUT (R262). TRAIN_TIMEOUT passes without Data Link Layer up, and PERST_OUT_N is pulsed for a retry. -/
  | trainTimeout (t : Time) (port : Nat)
  /-- SURPRISE_DOWN (R262). The link of a device port drops with presence intact, and the port is husked. -/
  | surpriseDown (t : Time) (port : Nat)
  /-- HOST_LINK_DOWN (R265). The link of a host port goes down, and its partition resets without a husk. -/
  | hostLinkDown (t : Time) (node : Nat) (port : Nat)
  /-- HOT_RESET_RECEIVE (R396). A Hot Reset received on a host port resets its partition. -/
  | hotResetReceive (t : Time) (node : Nat) (port : Nat)
  /-- HOST_PERST_ASSERT (R264). HOST_PERST_N low for 1 µs or more holds the host port in Detect and resets the partition. -/
  | hostPerstAssert (t : Time) (cluster : Nat)
  /-- HOST_PERST_DEASSERT (R264). HOST_PERST_N rises, and the port leaves Detect within 1 ms. -/
  | hostPerstDeassert (t : Time) (cluster : Nat)
  /-- ASPM_L1_ENTRY (R255). A host port idle for L1_IDLE_TIME with L1 allowed initiates ASPM L1. -/
  | aspmL1Entry (t : Time) (port : Nat)
  /-- DEVICE_L1_REQUEST (R255). An L1 request from a device is accepted, or refused with PM_Active_State_Nak while a reservation names the port. -/
  | deviceL1Request (t : Time) (port : Nat)
  /-- IDE_KM_MESSAGE (R259). An IDE_KM or SPDM message through the virtual upstream bridge DOE is answered by the responder. -/
  | ideKmMessage (t : Time) (port : Nat) (stream : Nat) (setKeys : Bool)
  /-- IDE_REKEY (R259). IDE_REKEY_INTERVAL expires on a device port, and Odtaku refreshes the keys. -/
  | ideRekey (t : Time) (port : Nat)
  /-- FUNDAMENTAL_RESET (R267). The command pulses PERST_OUT_N of the port's cluster. -/
  | fundamentalReset (t : Time) (req : Req) (port : Nat)
  /-- PERST_PULSE_END (R267). PERST_PULSE ends, and PERST_OUT_N is released. -/
  | perstPulseEnd (t : Time) (cluster : Nat)
  /-- MF_FUNCTION_LEVEL_RESET (R272). A host FLR of the management function discards its pending TLPs, quarantines its tags and deactivates BAR0. -/
  | mfFunctionLevelReset (t : Time) (p : Nat)
  /-- MF_RESET_COMPLETE (R272). The management function reset completes with its registers at reset value and its mailboxes emptied. -/
  | mfResetComplete (t : Time) (p : Nat)
  /-- RING_BATCH_WRITE (R412). The management function writes a batch of staged ring entries and the head mirror to host memory. -/
  | ringBatchWrite (t : Time) (p : Nat) (ring : Nat)
  /-- HOST_DPC_SOFTWARE_TRIGGER (R274). A host write of DPC Software Trigger triggers the bridge's DPC. -/
  | hostDpcSoftwareTrigger (t : Time) (p : Nat) (k : Nat)
  /-- HOST_DPC_STATUS_CLEAR (R275). A host clears DPC Trigger Status, and the bridge presents its functions again once they are present. -/
  | hostDpcStatusClear (t : Time) (p : Nat) (k : Nat)
  /-- SP_ENABLE_WRITE (R280). A write of SP_ENABLE moves the slot channel between disabled, held off, empty and powering off. -/
  | spEnableWrite (t : Time) (req : Req) (c : Nat) (value : Nat)
  /-- PRESENCE_CHANGE (R280). A presence input holds a new level for 100 ns, and the channel restarts debounce, seats or breaks. -/
  | presenceChange (t : Time) (c : Nat) (long : Bool) (short : Bool)
  /-- SEAT_DEBOUNCE_END (R281). Seating debounce and off-time have both ended, and both gate enables go high. -/
  | seatDebounceEnd (t : Time) (c : Nat)
  /-- POWER_GOOD (R283). The power-good count reaches SP_PG_DEBOUNCE, and the channel turns on. -/
  | powerGood (t : Time) (c : Nat) (l : List (Nat × Nat × Nat × Nat))
  /-- PERST_DELAY_END (R283). SP_PERST_DELAY after power-good ends, and PERST_OUT_N may be deasserted. -/
  | perstDelayEnd (t : Time) (c : Nat)
  /-- FAULT_TIMER_EXPIRY (R284). The fault timer reaches SP_FAULT_TIME, and the channel trips with cause 1 or 2. -/
  | faultTimerExpiry (t : Time) (c : Nat) (l : List (Nat × Nat × Nat × Nat))
  /-- FAST_TRIP (R285). A feed current crosses the fast-trip comparator level, and the channel trips with cause 3. -/
  | fastTrip (t : Time) (c : Nat) (iA : Nat) (iB : Nat)
  /-- INRUSH_TIMEOUT (R282). The channel has been in inrush for SP_INRUSH_TIMEOUT, and it trips with cause 4. -/
  | inrushTimeout (t : Time) (c : Nat)
  /-- UNDERVOLTAGE_TRIP (R286). The rail stays below SP_UV_THRESHOLD for 50 samples, and the channel trips with cause 5. -/
  | undervoltageTrip (t : Time) (c : Nat) (l : List (Nat × Nat × Nat × Nat))
  /-- FAULT_TIMER_CLEAR (R284). Ten samples clearly below the limit clear the fault timer. -/
  | faultTimerClear (t : Time) (c : Nat) (l : List (Nat × Nat × Nat × Nat))
  /-- OFF_TIME_END (R289). SP_OFF_TIME since the gates fell ends. -/
  | offTimeEnd (t : Time) (c : Nat)
  /-- COMMANDED_GATE_OFF (R292). 100 µs after a commanded power-off, the gate enables fall and off-time starts. -/
  | commandedGateOff (t : Time) (c : Nat)
  /-- SHARE_ADJUST (R293). Every 100 µs the share loop moves the share-trim duty toward balance. -/
  | shareAdjust (t : Time) (c : Nat) (l : List (Nat × Nat × Nat × Nat))
  /-- SHARE_OUT_OF_RANGE (R293). The feed difference stays above 10 % for 100 ms, and an event is raised. -/
  | shareOutOfRange (t : Time) (c : Nat)
  /-- FEED_LOST (R294). A feed below 1/16 of the other for 1 ms is marked lost, and the share loop freezes. -/
  | feedLost (t : Time) (c : Nat) (l : List (Nat × Nat × Nat × Nat))
  /-- FEED_RETURN (R294). A lost feed above 1/4 of the other for 10 ms returns, and the share loop resumes. -/
  | feedReturn (t : Time) (c : Nat) (l : List (Nat × Nat × Nat × Nat))
  /-- HUSK_DRAINED (R304). No flow queue holds a cell of the husked unit any longer, and HUSK_DRAINED is set. -/
  | huskDrained (t : Time) (row : Nat)
  /-- HUSK_COMMAND (R309). The command husks a port or partition with 0x2006. -/
  | huskCommand (t : Time) (req : Req) (row : Nat)
  /-- HUSK_RELEASE (R305). The command checks the release conditions and schedules the release at the next pip edge. -/
  | huskRelease (t : Time) (req : Req) (row : Nat)
  /-- REGION_RESTART_HOLD_END (R306). After 10 ms in reset, an isolated region runs its BIST and loads the committed state. -/
  | regionRestartHoldEnd (t : Time) (region : Nat)
  /-- REGION_RESTART (R309). The command restarts an isolated region that reached its restart limit. -/
  | regionRestart (t : Time) (req : Req) (region : Nat)
  /-- REGION_BIST_COMPLETE (R391). A region completes BIST and row repair, and reads running or fails and is isolated. -/
  | regionBistComplete (t : Time) (region : Nat) (failing : List (Nat × Nat))
  /-- QUADRANT_QUEUE_SWEEP_DONE (R306). The hardware sweep that frees the cells of an isolated quadrant's queues completes. -/
  | quadrantQueueSweepDone (t : Time) (region : Nat)
  /-- READ (R323). A Hexsum READ returns one read entry per address. -/
  | read (t : Time) (req : Req) (addrs : List ObjAddr)
  /-- WRITE (R318). A Hexsum WRITE checks its write set and accepts all of its entries or none. -/
  | write (t : Time) (req : Req) (offers : List Time) (entries : List WEntry)
  /-- BLOCK_READ (R324). A Hexsum BLOCK_READ walks subindices or rows and returns as many entries as fit. -/
  | blockRead (t : Time) (req : Req) (start : ObjAddr) (count : Nat) (mode : Nat)
  /-- ROW_READ (R323). A Hexsum ROW_READ returns the named fields of one row. -/
  | rowRead (t : Time) (req : Req) (addr : ObjAddr) (subs : List Nat)
  /-- ROW_WRITE (R318). A Hexsum ROW_WRITE writes fields of one row atomically. -/
  | rowWrite (t : Time) (req : Req) (addr : ObjAddr) (entries : List WEntry)
  /-- SUBSCRIBE (R328). A Hexsum SUBSCRIBE creates or cancels a periodic subscription. -/
  | subscribe (t : Time) (req : Req) (subId : Nat) (period : Nat) (addrs : List ObjAddr)
  /-- ABORT (R329). A Hexsum ABORT drops a request not yet accepted, or cancels a subscription. -/
  | abort (t : Time) (req : Req) (target : Nat) (kind : Nat)
  /-- DTLS_HANDSHAKE (R320). A DTLS 1.3 handshake on the management port opens an authenticated session or is refused. -/
  | dtlsHandshake (t : Time) (anchorHash : Nat) (chainLen : Nat) (optionsOk : Bool) (sigOk : Bool) (cookie : Bool) (peer : Nat)
  /-- SESSION_IDLE_TIMEOUT (R320). A session with no request for HEXSUM_IDLE_TIMEOUT closes. -/
  | sessionIdleTimeout (t : Time) (session : Nat)
  /-- SESSION_CLOSE (R337). The command closes a Hexsum session. -/
  | sessionClose (t : Time) (req : Req) (session : Nat)
  /-- TRUST_ANCHOR_WRITE (R320). A write of a trust anchor row closes every session it authenticated. -/
  | trustAnchorWrite (t : Time) (req : Req) (anchor : Nat) (sub : Nat) (ty : Nat) (len : Nat) (value : Nat)
  /-- MGMT_ADDRESS_WRITE (R321). A change of a management address closes the sessions bound to the old address. -/
  | mgmtAddressWrite (t : Time) (req : Req) (sub : Nat) (ty : Nat) (len : Nat) (value : Nat)
  /-- PROFILE_SAVE (R333). The command writes the chip's profile-stored values into a profile, atomically. -/
  | profileSave (t : Time) (req : Req) (n : Nat)
  /-- PROFILE_ERASE (R333). The command empties a profile that is not active. -/
  | profileErase (t : Time) (req : Req) (n : Nat)
  /-- PROFILE_SWITCH (R334). The command compares profiles on the named chips and opens a kind-1 request. -/
  | profileSwitch (t : Time) (req : Req) (offers : List Time) (n : Nat) (force : Nat) (nodes : Nat)
  /-- WINDOW_COMMIT (R100). The command checks every staged window row and opens one kind-3 request. -/
  | windowCommit (t : Time) (req : Req) (offers : List Time)
  /-- WINDOW_DISCARD (R106). The command resets the window shadow bank to the active bank. -/
  | windowDiscard (t : Time) (req : Req)
  /-- PAIR_STOP (R347). A Gajor pair stops on a lockstep mismatch, an uncorrectable SRAM read or an unhandled fault. -/
  | pairStop (t : Time) (pair : Nat)
  /-- WATCHDOG_EXPIRY (R347). Four pip edges pass without a watchdog write, and the pair stops. -/
  | watchdogExpiry (t : Time) (pair : Nat)
  /-- PAIR_RESTART_COMPLETE (R348). A stopped pair completes its automatic restart, verification and state rebuild, and runs. -/
  | pairRestartComplete (t : Time) (pair : Nat)
  /-- PAIR_RESTART (R370). The command restarts a pair held stopped after its restart limit. -/
  | pairRestart (t : Time) (req : Req) (pair : Nat)
  /-- IRQ_TAKE (R354). The controller takes the most urgent qualifying pending source onto the pair's handler stack. -/
  | irqTake (t : Time) (pair : Nat)
  /-- IRQ_COMPLETE (R355). A write of the completion register pops the handler, re-samples a level source and takes the next source. -/
  | irqComplete (t : Time) (pair : Nat)
  /-- IRQ_CONFIG_WRITE (R356). A firmware write of an interrupt source's priority (field 0), sense (1), target (2), the group field of its pair (3) or its enable (4) applies now or at completion; field 5 sets a software source or a pair doorbell (R352). -/
  | irqConfigWrite (t : Time) (source : Nat) (field : Nat) (value : Nat)
  /-- MB_IN_WRITE (R358). A write to MB_IN stores bytes, and posts the message or records a collision. -/
  | mbInWrite (t : Time) (row : Nat) (offset : Nat) (bytes : List Nat)
  /-- MB_IN_TAKE (R358). Odtaku takes a full MB_IN in one clock and raises the empty interrupt toward the sender. -/
  | mbInTake (t : Time) (row : Nat)
  /-- MB_OUT_PLACE (R359). Odtaku writes MB_OUT, sets OUT_FULL and signals the message-placed interrupt. -/
  | mbOutPlace (t : Time) (row : Nat) (bytes : List Nat)
  /-- MB_TAKE (R359). A write of 1 to MB_TAKE takes MB_OUT and raises the empty interrupt toward Odtaku. -/
  | mbTake (t : Time) (row : Nat) (value : Nat)
  /-- DOORBELL_SET (R360). A write sets doorbell bits toward the other side, which signal unless masked. -/
  | doorbellSet (t : Time) (row : Nat) (toFw : Bool) (bits : Nat)
  /-- DOORBELL_CLEAR (R360). The receiving side clears doorbell bits, and a set in the same clock wins. -/
  | doorbellClear (t : Time) (row : Nat) (toFw : Bool) (bits : Nat) (setBits : Nat)
  /-- SIDEBAND_WINDOW_TRANSACTION (R362). An SMBus or I3C transaction on sideband port 1 reads or writes the shelf manager's mailbox window whole. -/
  | sidebandWindowTransaction (t : Time) (write : Bool) (offset : Nat) (bytes : List Nat) (count : Nat)
  /-- SM_EVENT_CLEAR (R362). A write-1-to-clear of SM_EVENT clears bits and releases ALERT_N. -/
  | smEventClear (t : Time) (bits : Nat)
  /-- MCTP_MESSAGE (R319). A reassembled MCTP message on sideband port 0 is handed to Hexsum or SPDM. -/
  | mctpMessage (t : Time) (i3c : Bool) (endpoint : Nat) (msgType : Nat) (vendor : Nat) (size : Nat)
  /-- I3C_DYNAMIC_ADDRESS (R440). A controller's SETDASA or ENTDAA makes a sideband port an I3C target. -/
  | i3cDynamicAddress (t : Time) (sbPort : Nat) (addr : Nat)
  /-- PROTECTION_DESCRIPTOR_WRITE (R363). A firmware write of a protection or access-control descriptor applies from its write response. -/
  | protectionDescriptorWrite (t : Time) (unit : Nat) (n : Nat) (value : Nat)
  /-- ACU_FENCE (R365). The command returns when every access checked before it has completed. -/
  | acuFence (t : Time) (req : Req)
  /-- ACCESS_DENIAL (R366). A denied interconnect access returns an error and is counted and recorded. Whether it is denied is R364's to say: `master`, `priv` and `access` are coded as in LAST_DENIAL (R370), 7 being the patrol scrub of R350, which reads unchecked; `wrong` counts the wrong bits of the SRAM word that it reads. -/
  | accessDenial (t : Time) (master : Nat) (priv : Nat) (access : Nat) (addr : Nat) (wrong : Nat)
  /-- DEBUG_HALT (R369). A debug halt request halts both cores of a pair. -/
  | debugHalt (t : Time) (pair : Nat)
  /-- DEBUG_RESUME (R369). The debugger resumes a halted pair. -/
  | debugResume (t : Time) (pair : Nat)
  /-- JTAG_INSTRUCTION (R367). A JTAG instruction is loaded and acts, or acts as BYPASS outside reset. `code` is the place of the instruction in the list of R367: 0 BYPASS, 1 IDCODE, 2 SAMPLE/PRELOAD, 3 EXTEST, 4 CLAMP, 5 HIGHZ, 6 EXTEST_PULSE, 7 EXTEST_TRAIN. -/
  | jtagInstruction (t : Time) (code : Nat)
  /-- TOKEN_CHALLENGE (R385). The command returns a fresh 48-byte challenge and invalidates the previous one. -/
  | tokenChallenge (t : Time) (req : Req)
  /-- TOKEN_SUBMIT (R385). The command checks a debug, return or revocation token and acts on it. -/
  | tokenSubmit (t : Time) (req : Req) (len : Nat)
  /-- DEBUG_LOCK (R385). The command discards the debug token, and the chip leaves DEBUG-UNLOCKED at the next warm reset. -/
  | debugLock (t : Time) (req : Req)
  /-- SVN_COMMIT (R376). The command raises the rollback counter through the mirror and the fuses. -/
  | svnCommit (t : Time) (req : Req) (target : Nat)
  /-- SPDM_REQUEST (R379). An SPDM request over DOE or MCTP is answered by pair B, with dual signatures where stated. -/
  | spdmRequest (t : Time) (requester : Nat) (code : Nat) (signed : Bool)
  /-- HSS_TREE_BUILT (R381). Pair B completes building the next bottom tree in the background. -/
  | hssTreeBuilt (t : Time)
  /-- COLD_RESET (R393). PWR_GOOD low resets the chip cold. -/
  | coldReset (t : Time)
  /-- WARM_RESET (R393). SYS_RESET_N low for at least 1 µs, 0x3006 or a return resets the chip warm. -/
  | warmReset (t : Time)
  /-- ORCHARD_RESET (R394). The command warm-resets the named chips, optionally keeping powered slots on. -/
  | orchardReset (t : Time) (req : Req) (nodes : Nat) (keepSlots : Nat)
  /-- RESET_END (R332). The end of a reset latches the profile pins and starts the start-up sequence. -/
  | resetEnd (t : Time) (pinEn : Bool) (sel1 : Bool) (sel0 : Bool)
  /-- PORT_RESET (R395). The command resets one host, device or fabric port. -/
  | portReset (t : Time) (req : Req) (port : Nat)
  /-- PARTITION_RESET (R396). The command resets one partition. -/
  | partitionReset (t : Time) (req : Req) (p : Nat)
  /-- PARTITION_RESET_COMPLETE (R396). At the first edge with every function reset done and the host link up, the partition becomes active. -/
  | partitionResetComplete (t : Time) (p : Nat)
  /-- FW_ERASE (R398). The command erases the standby flash bank. -/
  | fwErase (t : Time) (req : Req) (bank : Nat)
  /-- FW_WRITE (R398). The command writes a piece of an image into the standby bank. -/
  | fwWrite (t : Time) (req : Req) (bank : Nat) (offset : Nat) (bytes : List Nat)
  /-- FW_VERIFY (R398). The command verifies the standby image and its section table. -/
  | fwVerify (t : Time) (req : Req) (bank : Nat)
  /-- FW_SWITCH (R399). The command opens a kind-4 bank-switch request on the named chips. -/
  | fwSwitch (t : Time) (req : Req) (offers : List Time) (nodes : Nat)
  /-- FW_PAIR_RELOAD_DONE (R400). A pair's new section has been loaded, and the pair runs the new image. -/
  | fwPairReloadDone (t : Time) (pair : Nat)
  /-- FW_TRIAL_END (R401). FW_TRIAL_TIME after E passes without a stop, and the new bank's trial ends. -/
  | fwTrialEnd (t : Time)
  /-- CTR_CLEAR (R406). The command sets a counter and its overflow flag to 0. -/
  | ctrClear (t : Time) (req : Req) (key : Nat)
  /-- COUNTER_WRAP (R406). A counter at 2^48 − 1 wraps, sets CTR_OVERFLOW and asserts its interrupt source. -/
  | counterWrap (t : Time) (key : Nat)
  /-- SAMPLE_CLEAR (R410). The command empties the sample buffer. -/
  | sampleClear (t : Time) (req : Req)
  /-- PEAK_CLEAR (R431). The command sets TEMP_PEAK to TEMP. -/
  | peakClear (t : Time) (req : Req) (region : Nat)
  /-- REGION_LIMIT_EXCEEDED (R425). A temperature, supply or reference difference between neighbours passes a limit, and the acting region is throttled or isolated. `limit` is the bit of LIMIT_FLAGS: 1 temperature (values in 1/8 degree), 2 supply (values in mV; one region twice for a rail outside its tolerance), 3 reference (offsets in ppm). -/
  | regionLimitExceeded (t : Time) (limit : Nat) (severe : Bool) (a : Nat) (b : Nat) (va : Int) (vb : Int)
  /-- LIMIT_THROTTLE_END (R425). A difference is back within its limit for 100 ms, and its throttle ends. `limit` as for REGION_LIMIT_EXCEEDED. -/
  | limitThrottleEnd (t : Time) (region : Nat) (limit : Nat)
  /-- THROTTLE_TEMP_EXCEEDED (R426). A region's hottest sensor exceeds THROTTLE_TEMP, and the region throttles. `temp` in 1/8 degree. -/
  | throttleTempExceeded (t : Time) (region : Nat) (temp : Int)
  /-- THROTTLE_LEVEL_STEP (R427). A throttle level falls by 1/8 per ms of cause, or rises by 1/8 per 10 ms clear. `cause` is 0 temperature, 1 gradient, 2 supply. -/
  | throttleLevelStep (t : Time) (region : Nat) (cause : Nat) (up : Bool)
  /-- OVERTEMPERATURE_ISOLATE (R428). A die temperature of 115 °C isolates the region or resets the chip. -/
  | overtemperatureIsolate (t : Time) (region : Nat)
  /-- CORE_REFERENCE_LOST (R422). The tile feeding the core PLLs loses its reference, and the PLLs hold and switch tiles. -/
  | coreReferenceLost (t : Time) (lost : Bool)
  /-- CORE_PLL_RELOCK (R422). The core PLLs relock to the next tile's reference. -/
  | corePllRelock (t : Time)
  /-- CORE_REFERENCE_HOLD_EXPIRY (R422). With no tile reference left for 10 ms, the chip captures 0x3006. -/
  | coreReferenceHoldExpiry (t : Time)
  /-- POWER_CAP_CHECK (R429). Once per ms the power average is compared with POWER_CAP, and a cap step is taken or undone. -/
  | powerCapCheck (t : Time) (average : Nat)
  /-- HBM_COLD_START_READY (R443). A cold HBM stack first reports 0 °C or above, and its region begins BIST. -/
  | hbmColdStartReady (t : Time) (stack : Nat)
  /-- GPIO_CHANGE (R448). A change on an input GPIO with its event bit set raises an event and an interrupt. -/
  | gpioChange (t : Time) (levels : Nat)
  /-- BOOT_IMAGE_ACCEPTED (R389). The ROM finishes verifying a bank, Odtaku starts on both pairs and goes on to select and load the profile. -/
  | bootImageAccepted (t : Time)
  /-- FW_OPERATION_COMPLETE (R398). A flash erase, write or verification of the standby bank completes, FW_OP_STATE returns to 0 and the bank state is set. -/
  | fwOperationComplete (t : Time)
  /-- PROFILE_STORE_COMPLETE (R333). A profile save or erase completes with the generation word write, and the store is free again. -/
  | profileStoreComplete (t : Time)
  /-- FAULT_TIMER_START (R284). A slot sample finds a feed above the limit in force while T is 0; the fault timer starts, the power-good count resets and SP_PG_HELD may advance. -/
  | faultTimerStart (t : Time) (c : Nat) (l : List (Nat × Nat × Nat × Nat))
  /-- PERST_OUT_DEASSERT_DELAY_END (R266). 100 ms after the last assertion condition clears, PERST_OUT_N of a cluster with presence source 1 or 2 is deasserted. -/
  | perstOutDeassertDelayEnd (t : Time) (cluster : Nat)
  /-- VERIFY_STAGE_END (R227). The 1 ms PRBS31 Verify stage of a fabric port ends with each lane's bit errors within the limit, and training moves to Align. -/
  | verifyStageEnd (t : Time) (port : Nat) (errs : List Nat)
  /-- PRBS_CHECKER_LOCK (R237). A lane's pattern checker sees 64 consecutive error-free bits and reports lock. -/
  | prbsCheckerLock (t : Time) (lane : Nat) (bits : List Bool)
  /-- PRBS_CHECKER_LOCK_LOST (R237). A lane's pattern checker finds 32 errors in 256 bits, loses lock and reseeds. -/
  | prbsCheckerLockLost (t : Time) (lane : Nat) (bits : List Bool)
  /-- RECEIVER_DETECT (R261). On a device port with presence source 1, receiver detection in Detect finds a partner and the port's presence is asserted. -/
  | receiverDetect (t : Time) (port : Nat)
  /-- HBM_FAILURE (R298). An HBM stack fails training, refresh or its interface, and 0x3005 is captured and the stack's region is isolated. -/
  | hbmFailure (t : Time) (stack : Nat)
  /-- CONTROL_FATAL (R298). An uncorrectable fault in the time unit or the slot power manager captures 0x3006 and resets the chip warm. -/
  | controlFatal (t : Time)
  deriving DecidableEq, Repr

end Sys2Proof
end

