-- ==== Sys2Proof/Decode.lean ====
section
/-! DEFINITION. The command that a word spells by the bits of the command table. -/

namespace Sys2Proof

/-- The manual's commands have operands and no encoding as words, and the command table gives no row any
bits: no word spells a command. -/
def decodeTableWord (_nbits _w : Nat) : Option Instr := none

end Sys2Proof
end

