-- ==== Sys2Proof/Machine/Memory.lean ====
section
/-! DEFINITION. The external flash as a sparse byte memory in canonical form (R371): rising
addresses, no entry equal to what an unlisted address reads as. -/

namespace Sys2Proof.Machine

/-- A sparse byte memory. -/
abbrev Memory := List Host.Cell

/-- What an unlisted flash byte reads as: an erased byte (log 12). -/
def Memory.blank : BitVec 8 := 0xFF#8

/-- The addresses rise from above `lo`, and no entry is blank. -/
def Memory.above : Nat → Memory → Bool
  | _, [] => true
  | lo, (a, b) :: m => decide (lo ≤ a) && decide (b ≠ Memory.blank) && Memory.above (a + 1) m

/-- The canonical form. -/
def Memory.wf (m : Memory) : Bool := Memory.above 0 m

/-- The byte at an address. -/
def Memory.read : Memory → Nat → BitVec 8
  | [], _ => Memory.blank
  | (k, b) :: m, a => if k = a then b else Memory.read m a

/-- A byte written. -/
def Memory.write : Memory → Nat → BitVec 8 → Memory
  | [], a, v => if v = Memory.blank then [] else [(a, v)]
  | (k, b) :: m, a, v =>
    if k < a then (k, b) :: Memory.write m a v
    else if k = a then (if v = Memory.blank then m else (a, v) :: m)
    else if v = Memory.blank then (k, b) :: m
    else (a, v) :: (k, b) :: m

/-- Bytes written from an address upward. -/
def Memory.writeAll (m : Memory) (a : Nat) : List Nat → Memory
  | [] => m
  | v :: vs => Memory.writeAll (m.write a (BitVec.ofNat 8 v)) (a + 1) vs

/-- A range erased. -/
def Memory.erase (m : Memory) (lo n : Nat) : Memory :=
  m.filter fun c => decide (c.1 < lo) || decide (lo + n ≤ c.1)

/-- Bytes from an address upward, as numbers. -/
def Memory.bytes (m : Memory) (a n : Nat) : List Nat :=
  (List.range n).map fun i => (m.read (a + i)).toNat

end Sys2Proof.Machine
end

