-- ==== Sys2Proof/Machine/Tab.lean ====
section
/-! DEFINITION. Sparse tables: lists of key and value with rising keys, in which a key that is
not listed holds its default and no listed key does. -/

namespace Sys2Proof.Machine

/-- A sparse table with Nat keys. -/
abbrev Tab (α : Type) := List (Nat × α)

/-- The value listed under a key. -/
def Tab.find {α : Type} : Tab α → Nat → Option α
  | [], _ => none
  | (k, v) :: t, i => if k = i then some v else Tab.find t i

/-- The value of a key, where an unlisted key holds `d`. -/
def Tab.getD {α : Type} (t : Tab α) (d : α) (i : Nat) : α := (t.find i).getD d

/-- A key's entry removed. -/
def Tab.erase {α : Type} : Tab α → Nat → Tab α
  | [], _ => []
  | (k, v) :: t, i => if k = i then Tab.erase t i else (k, v) :: Tab.erase t i

/-- A key's entry written at its place in the order. -/
def Tab.set {α : Type} : Tab α → Nat → α → Tab α
  | [], i, a => [(i, a)]
  | (k, v) :: t, i, a =>
    if k = i then (i, a) :: t
    else if i < k then (i, a) :: (k, v) :: t
    else (k, v) :: Tab.set t i a

/-- A key's value written, where an unlisted key holds `d`. -/
def Tab.putD {α : Type} [DecidableEq α] (t : Tab α) (d : α) (i : Nat) (a : α) : Tab α :=
  if a = d then t.erase i else t.set i a

/-- A key's value changed by a function, where an unlisted key holds `d`. -/
def Tab.updD {α : Type} [DecidableEq α] (t : Tab α) (d : α) (i : Nat) (f : α → α) : Tab α :=
  t.putD d i (f (t.getD d i))

/-- The keys listed. -/
def Tab.keys {α : Type} (t : Tab α) : List Nat := t.map (·.1)

/-- The first number from `k` upward that is not in a rising list of used numbers, skipping as
many free numbers as `skip` says. -/
def nthFree : List Nat → Nat → Nat → Nat
  | [], k, skip => k + skip
  | u :: us, k, skip =>
    if u < k then nthFree us k skip
    else if k + skip < u then k + skip
    else nthFree us (u + 1) (skip - (u - k))

end Sys2Proof.Machine
end

