-- ==== Sys2Proof/Machine/State.lean ====
section
/-! DEFINITION. The state of one DK5120: its objects, everything else that the manual gives it,
the record of what it has sent, and the queue of waiting commands; the faults and refusals. -/

namespace Sys2Proof.Machine

open Sys2Proof

/-- An epoch request as the chip holds it (R46 to R49, R340). -/
structure EpochReq where
  num : Nat
  kind : Nat
  offers : List Time
  /-- Position of the offered epoch in force. -/
  cur : Nat := 0
  /-- The affected units: node and region. -/
  units : List (Nat × Nat)
  ready : List (Nat × Nat) := []
  isolated : List (Nat × Nat) := []
  decided : Bool := false
  acks : List Nat := []
  /-- Regions of this chip that hold no decision (R48). -/
  lacking : List Nat := []
  /-- Another chip's request, of which a prepare message has told (R46, R340). -/
  prep : Bool := false
  work : Work
  deriving DecidableEq, Repr

/-- The time unit beside its objects (R28 to R39). -/
structure TimeUnit where
  clkPresent : Bool := false
  ppsRun : Nat := 0
  lastPps : Time := 0
  ptpLocked : Bool := false
  ptpGoodSince : Option Time := none
  /-- Since when the chip has held a class that it improved to (R30). -/
  betterSince : Option Time := none
  /-- Seconds label of the last edge of TREF_PPS_IN (R38). -/
  label : Option Nat := none
  /-- The value of TOD_SECONDS that the label was taken from (R38). -/
  todUsed : Nat := 0
  /-- Anchors and periods that ran before the present anchor, newest first (R41, R43). -/
  eras : List (Time × Time) := []
  /-- Frequency correction in force, ppb. -/
  corr : Int := 0
  rootClass : Nat := 3
  rootHops : Nat := 0
  /-- Last offset that PTP measured, ns. -/
  ptpOffset : Int := 0
  /-- Orchard time has been set from a source since cold reset (R35). -/
  set : Bool := false
  deriving DecidableEq, Repr

/-- The two-way exchange of a fabric port (R32, R33): stamps in 2^-7 ns. -/
structure Marks where
  next : Nat := 0
  /-- Number of the marker that the next flit carries. -/
  mark : Option Nat := none
  /-- Own markers: number and departure stamp of the last and of the one before. -/
  depLast : Option (Nat × Nat) := none
  depPrev : Option (Nat × Nat) := none
  /-- Partner's markers: number and arrival stamp of the last and of the one before. -/
  arrLast : Option (Nat × Nat) := none
  arrPrev : Option (Nat × Nat) := none
  /-- Receive count of the flit that carried the partner's last marker (R33). -/
  arrAt : Nat := 0
  /-- Next fragment to send and the message it comes from. -/
  txFrag : Option (Nat × Nat) := none
  /-- Fragments of the message in hand, by index. -/
  rxFrags : Tab Nat := []
  /-- The next exchange is skipped (R34). -/
  skip : Bool := false
  deriving DecidableEq, Repr

/-- What hellos have told of the neighbour at a fabric port (R56, R31). -/
structure HelloH where
  count : Nat := 0
  last : Time := 0
  healthy : Bool := false
  plane : Nat := 0
  rootClass : Nat := 3
  rootNode : Nat := 0
  hops : Nat := 0
  keeper : Nat := 0xFF
  deriving DecidableEq, Repr

/-- What the chip knows of a member of its island (R55, R59, R61): `heard` where a hello has told it. -/
structure Member where
  heard : Bool := false
  healthy : Bool := false
  since : Time := 0
  plane : Nat := 0
  deriving DecidableEq, Repr

/-- A virtual downstream bridge (R68, R69, R77 to R80, R274, R275). -/
structure Bridge where
  secBus : Nat := 0
  subBus : Nat := 0
  priBus : Nat := 0
  pds : Bool := false
  pdc : Bool := false
  dllla : Bool := false
  dllsc : Bool := false
  abp : Bool := false
  powerOff : Bool := false
  linkDis : Bool := false
  hpIntEn : Bool := false
  dpcEn : Nat := 0
  dpcTrig : Bool := false
  dpcReason : Nat := 0
  uncStatus : Nat := 0
  corStatus : Nat := 0
  /-- A reset of R81 runs until then, and Data Link Layer Link Active returns at the first edge after it. -/
  resetting : Option Time := none
  deriving DecidableEq, Repr

/-- A virtual upstream bridge (R68, R308). -/
structure UpBridge where
  priBus : Nat := 0
  secBus : Nat := 0
  subBus : Nat := 0
  uncStatus : Nat := 0
  corStatus : Nat := 0
  /-- The pip of the last Corrected Internal Error, plus 1. -/
  corPip : Nat := 0
  /-- Dwords written to the DOE mailbox, and those that wait to be read from it (R259). -/
  doeIn : List Nat := []
  doeOut : List Nat := []
  deriving DecidableEq, Repr

/-- What the chip keeps for one graft beside its row (R74, R78, R96, R97). -/
structure GraftH where
  mps : Nat := 0
  aerMask : Nat := 0
  aerSev : Nat := 0
  aerCorMask : Nat := 0
  bars : List (Nat × Nat) := []
  /-- Command register of a presented virtual function as the host wrote it (R97). -/
  cmd : Nat := 0
  mse : Bool := false
  /-- The graft is in force (R77, R78). -/
  inForce : Bool := false
  /-- The bridge presents the function. -/
  shown : Bool := false
  /-- Pip at whose edge Attention Button Pressed is set (R78). -/
  abpPip : Option Nat := none
  /-- Instant at which UNGRAFT_TIMEOUT expires. -/
  expiry : Option Time := none
  /-- The keeper owes the request of R78: its units were busy (log 26). -/
  waits : Bool := false
  /-- Its function went away while the bridge presented it: AUTO_REGRAFT rules its return (R80). -/
  lost : Bool := false
  deriving DecidableEq, Repr

/-- What the chip keeps for a partition (R72, R396, R397). -/
structure PartH where
  /-- State 1 was entered from 0. -/
  from0 : Bool := false
  boundAt : Time := 0
  /-- The host port is held in link-down (R72, state 4). -/
  heldDown : Bool := false
  /-- Resets of functions that have not completed (R396). -/
  resets : Bool := false
  resetInHusk : Bool := false
  deriving DecidableEq, Repr

/-- A BAR write whose completion is withheld (R96): graft, function, BAR and base, what tells the completion,
and the completion once it has come. -/
structure ApPend where
  graft : Nat
  gfid : Nat
  bar : Nat
  base : Nat
  rid : Nat := 0
  tag : Nat := 0
  cpl : Option Pkt := none
  deriving DecidableEq, Repr

/-- A tag-table entry that is not free (R110). -/
structure TagEntry where
  quarantined : Bool := false
  tag : Nat
  port : Nat
  part : Nat
  reqG : Nat
  cplG : Nat
  rid : Nat
  origTag : Nat
  remaining : Nat
  lower : Nat
  tc : Nat := 0
  ido : Bool := false
  ro : Bool := false
  nosnoop : Bool := false
  size : Nat := 2
  /-- Register that a configuration read asks for (R74). -/
  cfgReg : Option Nat := none
  issued : Time
  deadline : Time
  qend : Time
  deriving DecidableEq, Repr

/-- A cell in a list: its index (R17), its flags and stamp (R127); the first cell of a TLP
carries the packet. -/
structure Cel where
  idx : Nat
  first : Bool
  last : Bool
  stamp : Nat
  /-- Valid bytes, minus 1. -/
  bytes : Nat := 255
  pkt : Option Pkt := none
  /-- It passed through HBM (R409). -/
  hbm : Bool := false
  /-- It was salvaged into this queue (R219). -/
  salv : Bool := false
  deriving DecidableEq, Repr

/-- Where a spill block stands (R141 to R143). -/
inductive BlockState where
  | filling
  | writing
  | stored
  | reading
  deriving DecidableEq, Repr

/-- A block of up to 16 cells of a segment (R141). -/
structure Block where
  cells : List Cel
  stack : Nat
  state : BlockState
  /-- Its stack was isolated while it held the block (R307). -/
  lost : Bool := false
  deriving DecidableEq, Repr

/-- A sub-list: head list, segment, staging and the summary of R135 (R134, R141). -/
structure SubQ where
  head : List Cel := []
  seg : List Block := []
  stage : List Cel := []
  sameGfid : Nat := 0
  sameValid : Bool := false
  /-- Last arrival at staging, for the 1 us of R141. -/
  lastStage : Time := 0
  deriving DecidableEq, Repr

/-- An allocated flow queue (R131 to R135, R150 to R156). -/
structure Queue where
  num : Nat
  posted : SubQ := {}
  nonPosted : SubQ := {}
  cpl : SubQ := {}
  stamp : Nat := 0
  weight : Nat := 256
  spillThr : Nat := 16384
  yellowThr : Nat := 4096
  spill : Bool := false
  spillEntries : Nat := 0
  /-- The TLP that sent the queue into spill, while it waits to be staged (R140). -/
  trigger : Option Pkt := none
  /-- HBM stack that takes the queue's next block (R22, R141). -/
  nextStack : Nat := 0
  /-- Cells on chip at the start of a core clock: its number and the count (R140). -/
  occ : Option (Nat × Nat) := none
  /-- Released at this edge; an arrival at that instant keeps the queue (R132). -/
  left : Option Time := none
  tag : Nat := 0
  /-- Port whose scheduler serves the queue. -/
  port : Nat := 0xFFFF
  parked : Bool := false
  tokens : Int := 0
  tokensAt : Time := 0
  /-- The shaper went below zero and has not been found to conform since (R152, R156). -/
  held : Bool := false
  /-- Core clock of the last wake: the queue takes part from the next one on (R152). -/
  woke : Option Nat := none
  /-- Last pip in which the queue held a TLP. -/
  usedPip : Nat := 0
  deriving DecidableEq, Repr

/-- A crossing FIFO of R13: entries it held at an instant. -/
structure XingH where
  fill : Nat := 0
  upto : Time := 0
  deriving DecidableEq, Repr

/-- Why an item waits in a receive FIFO (R14). -/
inductive Wait where
  | parse
  | behind
  | banks
  | queue
  | pool
  | scheduled
  | spill
  | reservation
  | crossing
  | throttled
  deriving DecidableEq, Repr

/-- An item of a receive FIFO: a packet with its egress key, waiting under R14, and what it waits
for. -/
structure RxItem where
  port : Nat
  pkt : Pkt
  why : Wait
  deriving DecidableEq, Repr

/-- An order stream at its delivering chip (R122 to R124, R220). -/
structure Stream where
  count : Nat := 0
  held : List Pkt := []
  deriving DecidableEq, Repr

/-- A token bucket (R155, R156). -/
structure Bucket where
  tokens : Int := 0
  upto : Time := 0
  deriving DecidableEq, Repr

/-- A meter's two buckets and the credits it withholds: ingress port and type (R159, R161). -/
structure MeterH where
  tc : Nat := 0
  tp : Nat := 0
  upto : Time := 0
  on : Bool := false
  holds : List (Nat × Sub) := []
  deriving DecidableEq, Repr

/-- What a chip keeps of a reservation beside its row (R166, R186). -/
structure RsvH where
  bytes : Nat := 0
  tlps : Nat := 0
  seq : Nat := 0
  x : Nat := 0
  /-- Copies that the window holds: sequence, packet, the cells it is charged with. -/
  slots : List (Nat × Pkt × List Nat) := []
  timer : Option Time := none
  deriving DecidableEq, Repr

/-- A reservation that an epoch has released: its row, the values that it had, and until when TLPs accepted before
may be on their way (R178). -/
structure OldRsv where
  row : Nat
  vals : List Held
  till : Time
  deriving DecidableEq, Repr

/-- The gate list in force at a port (R148, R181). -/
structure GateNow where
  mask : Nat := 0xFF
  entry : Nat := 0
  start : Time := 0
  deriving DecidableEq, Repr

/-- A flit in replay memory (R202): its payload, VALID_GRANULES and FIRST_START. -/
structure Slot where
  seq : Nat
  payload : Payload
  granules : Nat
  start : Nat := 63
  deriving DecidableEq, Repr

/-- The link of a fabric port beside its objects (R198 to R219, R233, R234). -/
structure LinkH where
  /-- Entry into the present OL_STATE. -/
  since : Time := 0
  initGen : Nat := 0
  /-- SEQ_KEPT of this INIT or REINIT. -/
  seqKept : Bool := false
  /-- Last good INIT flit received in this INIT or REINIT. -/
  peer : Option Init := none
  /-- INIT_GEN adopted. -/
  peerGen : Nat := 256
  /-- INIT flits still to send after the entry into ACTIVE. -/
  trailing : Nat := 0
  crVc : Nat := 0
  /-- O of R206. -/
  oldest : Nat := 0
  mem : List Slot := []
  /-- Replay in progress: next and last sequence number. -/
  replay : Option (Nat × Nat) := none
  /-- Next flit of a replay after REINIT whose packets count anew, and how many of its granules do not (R199, R210). -/
  recount : Option (Nat × Nat) := none
  /-- ACK_SEQ of the NAK that started the replay in progress. -/
  replayNak : Option Nat := none
  /-- Start of the last replay and how many in a row started there. -/
  replayRow : Nat × Nat := (0, 0)
  /-- Last advance of O, or first flit after none was outstanding. -/
  advAt : Time := 0
  /-- Flits accepted since the last acknowledgement. -/
  owed : Nat := 0
  ackFrom : Time := 0
  ackDue : Bool := false
  nakDue : Bool := false
  nakOpen : Bool := false
  nakAt : Time := 0
  /-- Replay timeout of R199, ns. -/
  timeout : Nat := 2000
  /-- C and R of R210 by channel, each with its parity in bit 21 (R214). -/
  sent : Tab Nat := []
  back : Tab Nat := []
  peerPool : Nat := 0
  peerMins : List Nat := []
  /-- What the partner has set of its minimums, and what reservations raise them to, by channel (R208, R211). -/
  bases : Tab Nat := []
  raised : Tab Nat := []
  /-- ARRIVED of R212 by channel. -/
  arrived : Tab Nat := []
  txCount : Nat := 0
  rxCount : Nat := 0
  good : Nat := 0
  bad : Nat := 0
  lock : Bool := false
  lockLostAt : Option Time := none
  /-- Packet partly received: granules held, sequence number and granule where it began. -/
  rxPart : Option (Pkt × Nat × Nat × Nat) := none
  /-- Granules to drop from the next flit (R199). -/
  resume : Nat := 0
  /-- Packets chosen and not sent yet; the first may be partly sent. -/
  txq : List Pkt := []
  txDone : Nat := 0
  ctlq : List Ctl := []
  reqNum : Nat := 0
  /-- Own request that stands, and whether GRANT has come. -/
  own : Option Ctl := none
  granted : Bool := false
  /-- The partner's request that stands. -/
  theirs : Option Ctl := none
  /-- Request for whose completion this end still has to send DONE (R216). -/
  toDone : Option Ctl := none
  /-- Own request to send again after DONE (R216). -/
  deferred : Option Ctl := none
  /-- SWAP_FLIT of each direction (R247). -/
  swapTx : Option Nat := none
  swapRx : Option Nat := none
  /-- The receiver has switched to the spare (R247, R248). -/
  rxOnSpare : Bool := false
  /-- A swap counts as done, and the physical lane is fed until the link is ACTIVE again (R247). -/
  swapPark : Bool := false
  /-- Request to send once withdrawn and drained (R213, R250, R251). -/
  wanted : Option Ctl := none
  /-- The avoiding push has applied (R213 step 3). -/
  pushed : Bool := false
  salvage : List Pkt := []
  deriving DecidableEq, Repr

/-- Training of a fabric port (R227). -/
structure TrainH where
  stageAt : Time := 0
  /-- Width and rate this end trains to. -/
  width : Nat := 0
  rate : Nat := 0
  /-- First logical lane of a narrowed link (R245). -/
  offset : Nat := 0
  /-- A failure waits for RETRAIN_INTERVAL since then. -/
  failedAt : Option Time := none
  deriving DecidableEq, Repr

/-- A lane (R228 to R240). -/
structure LaneH where
  syncRun : Nat := 0
  sameRun : Nat := 0
  index : Nat := 31
  peerWidth : Nat := 0
  peerRate : Nat := 0
  /-- Picoseconds behind the earliest lane of the port (R230). -/
  skew : Nat := 0
  /-- EQ_OP 4 received; sent. -/
  eqPeerDone : Bool := false
  eqDone : Bool := false
  /-- Last request handled and its status (R231). -/
  eqNum : Nat := 0
  eqStatus : Nat := 0
  /-- Own last request and whether its echo has come. -/
  ownNum : Nat := 0
  ownOp : Nat := 0
  ownArg : Nat := 0
  waitEcho : Bool := false
  lowRun : Nat := 0
  rateRun : Nat := 0
  /-- Corrected symbols in the window of R240 that runs, and when it began. -/
  winCount : Nat := 0
  winAt : Time := 0
  /-- The pattern checker (R237): bits taken to seed it, its register, error-free bits in a row, and the errors of its
  last bits, newest first. -/
  seeded : Nat := 0
  prbs : Nat := 0
  clean : Nat := 0
  wrong : List Bool := []
  deriving DecidableEq, Repr

/-- A spare (R244 to R250). -/
structure SpareH where
  readyAt : Time := 0
  /-- Stage 2 to 5 of its own training, and when it began. -/
  stage : Nat := 0
  stageAt : Time := 0
  /-- Stage 5 has passed at this end, and at the partner's by its blocks (R228, R244). -/
  ownDone : Bool := false
  peerDone : Bool := false
  deriving DecidableEq, Repr

/-- PERST_OUT_N and HOST_PERST_N of a cluster (R264, R266, R267). -/
structure PerstH where
  asserted : Bool := true
  /-- A pulse runs since then, and whether TRAIN_TIMEOUT started it (R262). -/
  pulse : Option (Time × Nat) := none
  retry : Bool := false
  /-- When the last condition of R266 cleared, for sources 1 and 2. -/
  clearAt : Option Time := none
  /-- SP_PERST_DELAY has ended (R283). -/
  powerOk : Bool := false
  /-- HOST_PERST_N has been low for 1 us. -/
  hostLow : Bool := false
  deriving DecidableEq, Repr

/-- A slot power channel (R279 to R294). -/
structure SlotH where
  long : Bool := false
  short : Bool := false
  gates : Bool := false
  /-- Start of the seating debounce. -/
  debFrom : Time := 0
  /-- End of the off-time, which a cold reset starts (R295). -/
  offUntil : Time := ms 200
  stateAt : Time := 0
  /-- The fault timer T and its calm samples (R284). -/
  timer : Nat := 0
  calm : Nat := 0
  /-- The power-good count (R283) and the samples below SP_UV_THRESHOLD (R286), each without a break. -/
  good : Nat := 0
  low : Nat := 0
  /-- The feed currents of the last 100 samples, newest first (R293, R296). -/
  last : List (Nat × Nat) := []
  /-- Samples without a break in which a feed, A 0 and B 1, was below 1/16 of the other, and above 1/4 (R294). -/
  starved : Tab Nat := []
  fed : Tab Nat := []
  /-- The share loop last adjusted, and since when it has found the difference above 10 % (R293). -/
  adjAt : Time := 0
  wideAt : Option Time := none
  /-- A break took the channel out of a state, 3 or 4, then; and since when it was in it (R288). -/
  broke : Option (Time × Nat × Time) := none
  /-- A commanded power-off was accepted then (R292). -/
  offCmd : Option Time := none
  deriving DecidableEq, Repr

/-- A host or device port's link (R253 to R265). -/
structure PPort where
  up : Bool := false
  flit : Bool := true
  /-- Transmit credits that the partner has granted: headers by TLP type, and data of 16 bytes by type + 3
  (R136, R151). -/
  fc : Tab Nat := []
  l1 : Bool := false
  /-- Receiver detection has found a partner (R261). -/
  detected : Bool := false
  /-- Training began then (R262). -/
  trainAt : Time := 0
  /-- The LTSSM is out of Detect. -/
  free : Bool := false
  /-- The IDE keys were last set (R259). -/
  rekeyAt : Time := 0
  /-- Key sets of the IDE streams, a bit each, that the port sends with and takes; and the streams whose next key set
  is set, which the first TLP under it brings into use (R258). -/
  txK : Nat := 0
  rxK : Nat := 0
  rxNew : Nat := 0
  /-- A flow queue that targets the port last gave up a TLP (R255). -/
  busyAt : Time := 0
  deriving DecidableEq, Repr

/-- A ring of a management function (R269, R412). -/
structure RingH where
  staged : List Nat := []
  head : Nat := 0
  tail : Nat := 0
  deriving DecidableEq, Repr

/-- A management function beside its objects (R268 to R272). -/
structure MfH where
  /-- BAR0 registers written, by offset (R269). -/
  regs : Tab Nat := []
  /-- MSI-X pending bits by vector. -/
  pba : Nat := 0
  /-- MSI-X messages that wait for the function's earlier writes (R271). -/
  waiting : List Nat := []
  rings : Tab RingH := []
  /-- Its AER status registers (R273). -/
  uncStatus : Nat := 0
  corStatus : Nat := 0
  deriving DecidableEq, Repr

/-- A subscription (R328). -/
structure SubH where
  id : Nat
  path : Path
  period : Nat
  addrs : List ObjAddr
  seq : Nat := 0
  deriving DecidableEq, Repr

/-- An error as a unit raises it (R298, R299): code, unit kind and number, region, partition, GFIDs,
header and detail. -/
structure Err where
  code : Nat
  kind : Nat
  idx : Nat
  region : Nat := 15
  part : Option Nat := none
  src : Nat := 0
  dst : Nat := 0
  header : Nat := 0
  detail : Nat := 0
  /-- Bit of the host's AER uncorrectable status for an error at a host port (R308). -/
  aer : Nat := 0
  /-- The chip of the unit, where it is not this one (R47). -/
  node : Option Nat := none
  deriving DecidableEq, Repr

/-- A captured record, with the entry of 9000 that holds it (R299). -/
structure Rec where
  entry : Nat
  seq : Nat
  /-- It was captured before the last cold reset, since which LOG_SEQ has counted anew. -/
  old : Bool := false
  time : Time
  err : Err
  cls : Nat
  action : Nat
  node : Nat
  sequels : Nat := 0
  seqCode : Nat := 0
  seqTime : Nat := 0
  seqClasses : Nat := 0
  /-- 0 open; 1 closed; 2 superseded. -/
  state : Nat := 0
  read : Bool := false
  deriving DecidableEq, Repr

/-- The orchard's messages between chips (SC5 traffic), by what they say. -/
inductive MsgKind where
  | prepare
  | ready
  | decision
  | ack
  | query
  | cancel
  | mirror
  | hello
  | linkState
  | beacon
  | handover
  | gfidRequest
  | report
  | partitionReset
  | functionReset
  | huskReport
  deriving DecidableEq, Repr

/-- What the chip has answered, sent and signalled: the model's own record. -/
inductive Out where
  /-- A Hexsum response (R322): code of RESULT, body, DUPLICATE. -/
  | reply (path : Path) (tag code : Nat) (body : List Nat) (dup : Bool)
  /-- A PUSH of R328 or R414: subscription, PUSH_SEQ, pip, values. -/
  | push (path : Path) (sub seq pip : Nat) (vals : List Nat)
  /-- A TLP that leaves a host or device port. -/
  | tlp (port : Nat) (t : Tlp)
  /-- A flit that leaves a fabric port, its 512 bytes (R189), and the PAM4 symbols on each lane and spare (R226,
  R244). -/
  | flit (port : Nat) (f : Flit) (octets : List Nat) (symbols : List (Nat × List Nat))
  /-- A training block or other lane signal (R228, R231). -/
  | train (lane : Nat) (b : TBlock)
  /-- A control message of R215. -/
  | control (port : Nat) (m : Ctl)
  /-- Credits returned at a port: port, type, number of TLPs. -/
  | credit (port : Nat) (ty : Sub) (n : Nat)
  /-- A message to the keeper or to another chip. -/
  | msg (k : MsgKind) (args : List Nat)
  /-- An event that the rule of this number raises. -/
  | event (rule : Nat) (args : List Nat)
  /-- An interrupt to the host of partition p: MSI-X or hot-plug vector. -/
  | msi (p vector : Nat)
  /-- A change of an output pin: rule, index, level. -/
  | pin (rule idx : Nat) (high : Bool)
  /-- A signal to a device or host link: rule and arguments. -/
  | link (rule : Nat) (args : List Nat)
  deriving DecidableEq, Repr

/-- Where the control complex stands after a reset (R389, R374). -/
inductive Boot where
  | reset
  | rom
  | odtaku
  | failed
  deriving DecidableEq, Repr

/-- A throttle cause in force on a region (R425 to R427, R429). -/
structure Throttle where
  level : Nat := 7
  stepAt : Time := 0
  deriving DecidableEq, Repr

/-- A region beside its objects (R306, R425, R427, R443). -/
structure RegionH where
  /-- Instants of its isolations (R306). -/
  isolations : List Time := []
  heldAt : Time := 0
  /-- By cause: 0 temperature, 1 gradient, 2 supply, 4 power cap. -/
  throttles : Tab Throttle := []
  /-- The limits of R425 that isolate and have not cleared. -/
  overLimit : List Nat := []
  /-- Limits of R425, each with the instant at which it was last seen exceeded. -/
  beyond : Tab Time := []
  /-- Cells that the sweep of its lost queue contexts frees (R306). -/
  sweep : List Nat := []
  /-- Its restart has reached BIST (R306). -/
  bist : Bool := false
  deriving DecidableEq, Repr

/-- A Gajor pair (R345 to R349, R369, R400). -/
structure PairH where
  /-- Instants of its stops under R347. -/
  stops : List Time := []
  stoppedAt : Time := 0
  /-- A bank switch reloads it (R400). -/
  reloading : Bool := false
  /-- Active handlers, top first (R354). -/
  stack : List Nat := []
  deriving DecidableEq, Repr

/-- An interrupt source beside its objects (R353, R356). -/
structure IrqH where
  high : Bool := false
  /-- Writes held for the completion: field and value. -/
  held : List (Nat × Nat) := []
  deriving DecidableEq, Repr

/-- A mailbox pair beside its objects (R357 to R362). -/
structure MboxH where
  inB : Tab Nat := []
  outB : Tab Nat := []
  inFull : Bool := false
  collision : Bool := false
  /-- A taken request has not been answered (state 3 of R358). -/
  running : Bool := false
  dbFrom : Nat := 0
  dbMask : Nat := 0xFFFFFFFF
  /-- A Function Level Reset has yet to empty the slots (R272). -/
  late : Bool := false
  smEvent : Nat := 0
  smMask : Nat := 0
  deriving DecidableEq, Repr

/-- A Hexsum session (R320). -/
structure SessH where
  anchor : Nat := 0
  last : Time := 0
  deriving DecidableEq, Repr

/-- An answered request (R326). -/
structure Answer where
  path : Path
  tag : Nat
  code : Nat
  body : List Nat
  deriving DecidableEq, Repr

/-- A profile's contents: object, row, value (R331). -/
structure ProfileH where
  vals : List (Obj × Nat × Nat) := []
  deriving DecidableEq, Repr

/-- A save or an erase in progress (R333): profile, whether it is a save, and the pip at whose edge
the values are taken. -/
structure StoreOp where
  n : Nat
  save : Bool
  pip : Nat := 0
  taken : Option ProfileH := none
  deriving DecidableEq, Repr

/-- Firmware update (R398 to R401). -/
structure FwH where
  /-- Bank of the operation in progress. -/
  bank : Nat := 0
  /-- The switch is staged and ready; the commit decision is recorded. -/
  ready : Bool := false
  decided : Bool := false
  /-- End of the trial, and the bank that ran before. -/
  trialUntil : Option Time := none
  old : Nat := 0
  /-- Pair B switches at the next pip edge. -/
  pairBDue : Bool := false
  deriving DecidableEq, Repr

/-- Security state (R375 to R387). -/
structure Sec where
  challenge : Option Nat := none
  /-- A debug token is held in the locked region. -/
  token : Bool := false
  /-- It is in force: the state is DEBUG-UNLOCKED. -/
  unlocked : Bool := false
  returned : Bool := Config.lcReturned
  secured : Bool := Config.lcSecured
  /-- UDS fuses blown; ZEROISE_DONE. -/
  zeroised : Bool := false
  /-- ACTIVE_TREE of R382. -/
  tree : Nat := Config.hssLeaf 2
  /-- What the Alias certificate that pair B keeps was derived from (R377, R378); empty: none yet. -/
  alias_ : List Nat := []
  /-- HSS signatures of the second in hand: second, total, and by requester. -/
  second : Nat := 0
  total : Nat := 0
  by_ : Tab Nat := []
  deriving DecidableEq, Repr

/-- The sampler (R409, R410). -/
structure Sampler where
  count : Nat := 0
  seq : Nat := 0
  next : Nat := 0
  filled : Nat := 0
  deriving DecidableEq, Repr

/-- An IPFIX collector (R414, R415). -/
structure IpfixH where
  session : Option Nat := none
  seq : Nat := 0
  pushSeq : Nat := 0
  exports : Nat := 0
  /-- Messages of the last export not sent: templates with it, template, data records (R415). -/
  queue : List (Bool × Nat × List (List Nat)) := []
  /-- Deltas count from these snapshot values. -/
  base : List (Obj × Tab Nat) := []
  deriving DecidableEq, Repr

/-- The chip. Every field holds its value of State.reset by default. -/
structure State where
  /-- Orchard time (R8, R28). -/
  now : Time := 0
  /-- Time since cold reset, for the cycle counters of R403. -/
  age : Time := 0
  /-- Pip number of the last edge that arrived (R41). -/
  pip : Nat := 0
  /-- The dictionary: for each object its rows that differ from the default (R10). -/
  objs : List (Obj × Tab Nat) := []
  /-- The model's own counter for free values (log 5). -/
  fresh : Nat := 0
  /-- Accepted class-P values (R44). -/
  pendP : List Held := []
  /-- Pip whose shadow set is closed (R44). -/
  closedPip : Nat := 0
  /-- Staged class-E values (R316). -/
  staged : List Held := []
  /-- Accepted class-B values, in Sterosto (R316). -/
  pendB : List Held := []
  /-- Epoch requests (R46, R340), oldest first. -/
  reqs : List EpochReq := []
  time : TimeUnit := {}
  /-- By fabric port. -/
  marks : Tab Marks := []
  /-- By fabric port. -/
  hellos : Tab HelloH := []
  /-- Ports on which a chip of this node ID with a lower serial number was last heard (R57). -/
  dupPorts : List Nat := []
  /-- By node. -/
  members : Tab Member := []
  topo : List LinkRec := []
  /-- The links that the route tables in force were computed over: first those that avoid withdrawn links, then
  all (R92, R174). -/
  routeTopo : List LinkRec := []
  routeAll : List LinkRec := []
  /-- A route push is to be opened (R58, R92). -/
  pushWanted : Bool := false
  /-- A GFID that left 4200, and when (R64). -/
  gone : Tab Time := []
  /-- By GFID: what enumeration found (R65). -/
  fns : Tab FnInfo := []
  /-- By p × 256 + k. -/
  bridges : Tab Bridge := []
  /-- By partition. -/
  ups : Tab UpBridge := []
  /-- Configuration registers as written, by element and offset (R70). -/
  cfg : Tab (Tab Nat) := []
  /-- Configuration requests that firmware has not completed, by partition (R70). -/
  cfgWait : Tab (List CfgReq) := []
  /-- By graft number. -/
  grafts : Tab GraftH := []
  /-- By partition. -/
  parts : Tab PartH := []
  /-- BAR writes whose aperture is not active yet (R96). -/
  apPend : List ApPend := []
  /-- The grant pairs of the windows in force: source and target GFID (R101). -/
  grantPairs : List (Nat × Nat) := []
  /-- Windows made void by an epoch (R101). -/
  voids : List Nat := []
  /-- Rules and units already recorded in this pip. -/
  seenPip : List (Nat × Nat) := []
  /-- By entry number. -/
  tags : Tab TagEntry := []
  /-- By port × 16384 + tag: when last freed (R109). -/
  tagFree : Tab Time := []
  /-- By port: deadlines passed in this pip (R117). -/
  storm : Tab Nat := []
  /-- By stream: path sequence to send (R122). -/
  txSeq : Tab Nat := []
  /-- By node: end of flagging (R123). -/
  flagUntil : Tab Time := []
  /-- By stream. -/
  streams : Tab Stream := []
  /-- Charge words of allocated cells (R128). -/
  cells : Tab Nat := []
  /-- By cluster: bank of the last cell (R129). -/
  bankRot : Tab Nat := []
  /-- Bramble leak counts by cell (R145). -/
  leaks : Tab Nat := []
  /-- By key of R131. -/
  queues : Tab Queue := []
  /-- By cluster. -/
  rx : Tab (List RxItem) := []
  /-- Free cells of the shared pool at the start of a core clock: its number and the count (R138). -/
  clockF : Option (Nat × Nat) := none
  /-- Cells allocated or linked since Bramble's pass began (R145). -/
  touched : List Nat := []
  /-- The dual-clock FIFOs between regions, by number (R13). -/
  xings : Tab XingH := []
  /-- By e × 8 + c (R155). -/
  buckets : Tab Bucket := []
  /-- By meter. -/
  meters : Tab MeterH := []
  /-- Credits held back: port × 4 + type (R161). -/
  withheld : Tab Nat := []
  /-- By reservation. -/
  rsvs : Tab RsvH := []
  /-- Released reservations whose accepted TLPs may still be on their way (R178). -/
  oldRsvs : List OldRsv := []
  /-- A commit that pair B admits: the request, its offers and its rows (R176). -/
  rsvJob : Option (Req × List Time × List Nat) := none
  /-- By port. -/
  gates : Tab GateNow := []
  /-- Errors raised by the command in hand and not captured yet (R301); empty between commands. -/
  errs : List Err := []
  /-- Records of 9000 (R303), oldest first. -/
  log : List Rec := []
  /-- Records of 9002, newest first (R303). -/
  persist : List Rec := []
  /-- Triggers captured after an accepted husk release, by row of 9100 (R305). -/
  huskAgain : Tab (List Err) := []
  /-- When the release of each husked row was accepted (R305). -/
  releases : Tab Time := []
  /-- By host or device port. -/
  pports : Tab PPort := []
  /-- By fabric port. -/
  links : Tab LinkH := []
  /-- By fabric port. -/
  trains : Tab TrainH := []
  /-- By lane. -/
  lanes : Tab LaneH := []
  /-- By spare. -/
  spares : Tab SpareH := []
  /-- By cluster. -/
  perst : Tab PerstH := []
  /-- By cluster. -/
  slots : Tab SlotH := []
  /-- By partition. -/
  mfs : Tab MfH := []
  /-- Ports whose counters clear when the link next trains (R395). -/
  ctrReset : List Nat := []
  subs : List SubH := []
  /-- From when the spill path takes and gives cells again under the power cap: writes, then reads (R429). -/
  spillDue : Time × Time := (0, 0)
  /-- By region. -/
  regions : Tab RegionH := []
  /-- Cells withheld from the free lists (R392). -/
  badCells : List Nat := []
  /-- Spare rows in use, by region × 256 + memory (R391). -/
  remaps : Tab Nat := []
  boot : Boot := .reset
  /-- When the reset began; its end (R332, R389). -/
  resetAt : Time := 0
  resetEnd : Time := 0
  /-- PROFILE_PIN_EN, PROFILE_SEL1, PROFILE_SEL0 as latched (R332). -/
  latchedPins : Bool × Bool × Bool := (false, false, false)
  /-- By pair: 0 A, 1 B. -/
  pairs : Tab PairH := []
  /-- By source. -/
  irqs : Tab IrqH := []
  /-- By row of C000. -/
  mboxes : Tab MboxH := []
  /-- By row of 1800. -/
  sessions : Tab SessH := []
  /-- Answered requests, newest first (R326). -/
  cache : List Answer := []
  /-- By profile number. -/
  profiles : Tab ProfileH := []
  storeOp : Option StoreOp := none
  /-- Profile that a switch makes the next restart load (R335). -/
  loadNext : Option Nat := none
  /-- Values of a loaded profile that wait for the first kind-3 epoch (R332). -/
  firstEpoch : List Held := []
  flash : Memory := []
  fw : FwH := {}
  sec : Sec := {}
  /-- Sterosto words that a read could not correct and that no write has mended (R351). -/
  badWords : List Nat := []
  /-- Debug-denial records in Sterosto: address, access, lifecycle state (R368). -/
  denials : List (Nat × Nat × Nat) := []
  /-- Statistics of the last pip edge (R408). -/
  snapshot : List (Obj × Tab Nat) := []
  sampler : Sampler := {}
  /-- By destination partition: CAPTURE_SEQ (R411). -/
  captureSeq : Tab Nat := []
  /-- By rule: millisecond and entries in it (R411). -/
  mirrorRate : Tab (Nat × Nat) := []
  /-- By partition: TELEMETRY_SEQ and the values of the last entry (R413). -/
  telemetry : Tab (Nat × List Nat) := []
  /-- By collector. -/
  ipfix : Tab IpfixH := []
  /-- Engines paused until the next edge: engine and region (R50). -/
  paused : List (Nat × Nat) := []
  /-- Since when the average has stayed 10 W below the cap (R429). -/
  capSince : Option Time := none
  /-- Ports parked at step 11, with their roles (R429). -/
  capParked : List (Nat × Nat) := []
  /-- Since when no tile reference remains (R422). -/
  refLostAt : Option Time := none
  /-- By sideband port: dynamic address; a port listed is an I3C target (R440). -/
  i3c : Tab Nat := []
  /-- JTAG instruction in force, by its place in the list of R367; 0 is BYPASS. -/
  jtag : Nat := 0
  /-- Stacks that wait for 0 degrees (R443). -/
  hbmCold : List Nat := []
  /-- What the chip has sent (log 8), oldest first. -/
  out : List Out := []
  /-- The commands that wait, first in, first out. -/
  pending : List Instr := []
  deriving DecidableEq, Repr

/-- Faults. -/
inductive Fault where
  /-- A command names a unit the part does not have (a port above 511, a lane above 543, a
  partition above 4,095 and so on; log 7). Raised by every meaning with such an operand. Safe. -/
  | noSuchUnit
  deriving DecidableEq, Repr

/-- Refusals. -/
inductive Refusal where
  /-- The command has no meaning in this model. Raised by exec only. Safe. -/
  | notModelled (mnemonic : String)
  deriving DecidableEq, Repr

/-- The chip right after a cold reset: every object at its default (R10), everything else empty
or at the value log 9 names. -/
def State.reset : State := {}

/-- The outcome of a command. -/
abbrev Res := Host.Outcome State Fault Refusal

end Sys2Proof.Machine
end

