-- ==== Sys2Proof/Machine/Ops.lean ====
section
/-! DEFINITION. The named operations over the state: objects, time and pips, counters, free
choices, outputs, units, accepted values and epoch requests. -/

namespace Sys2Proof.Machine

open Sys2Proof

/-! ## Defaults and objects -/

/-- Default policy of an error code (R298): 1 husks the port, 0 reports. -/
def errPolicyDefault (code : Nat) : Nat :=
  if code = 0x2007 ∨ code = 0x2008 ∨ code = 0x2009 ∨ code = 0x200A then 1 else 0

/-- Kind of a counter unit (R403): 0 C, 1 Q, 2 T, 3 H, 4 G. -/
def unitKindOf (u : Nat) : Nat :=
  if u < 64 then 0 else if u < 80 then 1 else if u < 88 then 2 else if u < 90 then 3 else 4

/-- Sensing mode that a source's signal requires (R352): 0 level, 1 rising edge. Reserved
sources and the sources that accept any mode hold 0 (log 9). -/
def irqSenseOf (i : Nat) : Nat :=
  if i = 704 ∨ i = 705 ∨ (808 ≤ i ∧ i ≤ 848) ∨ 1024 ≤ i then 1 else 0

/-- Default of the budget of engine n of A400, at row n - 1 (R416). -/
def engineDefault (row : Nat) : Nat := [4, 2, 16, 2, 8, 8].getD row 0

/-- Floor of the budget of engine n of A400, at row n - 1 (R416). -/
def engineFloor (row : Nat) : Nat := [4, 2, 16, 1, 4, 2].getD row 1

/-- Lifecycle code of the fuses with no debug token held (R383). -/
def lifecycleOf (returned secured held : Bool) : Nat :=
  if returned then 3 else if !secured then 0 else if held then 2 else 1

/-- The two ordering codes of R4, "DK5120-T" and "DK5120-C", as VISSTR bytes. -/
def gradeName (t : Bool) : Nat := if t then 0x444B353132302D54 else 0x444B353132302D43

/-- The default of an object's row (R10 and the Default columns). What the part brings from manufacture
fits the type of its object. -/
def Obj.default (o : Obj) (row : Nat) : Nat :=
  match o with
  | .PORT_WIDTH => if row % 8 = 0 then 8 else 0
  | .MIN_CELLS => if row % 8 < 6 then 32 else 0
  | .SC_SHAPE_BURST => if row % 8 < 6 then 65536 else 0
  | .FQS_BURST => if row % 8 < 6 then 65536 else 0
  | .ERR_POLICY => errPolicyDefault row
  | .UNIT_KIND => unitKindOf row
  | .ENGINE_BUDGET => engineDefault row
  | .IRQ_SENSE => irqSenseOf row
  | .IRQ_PRIORITY => Config.irqPriority row
  | .IRQ_TARGET => Config.irqTarget row
  | .GRADE => gradeName Config.gradeT
  | .CHIP_SERIAL => Config.chipSerial % 2 ^ 64
  | .MGMT_MAC => Config.mgmtMac % 2 ^ 48
  | .DEVICE_ID_HASH => Config.deviceIdHash % 2 ^ 384
  | .LIFECYCLE_STATE => lifecycleOf Config.lcReturned Config.lcSecured false
  | .ROLLBACK_FUSED => Config.rollbackFused
  | .ROLLBACK_MIRROR => Config.rollbackMirror
  | .KEYSET_REVOKED => Config.keysetRevoked
  | .FW_BANK_STATE => Config.fwBank row 1
  | .FW_VERSION => Config.fwBank row 2
  | .FW_SVN => Config.fwBank row 3
  | .FW_KEYSET => Config.fwBank row 4
  | .HSS_TOP_Q => Config.hssLeaf 0
  | .HSS_BOTTOM_Q => Config.hssLeaf 1
  | o => o.info.dflt

/-- The rows of an object that differ from the default. -/
def column (t : List (Obj × Tab Nat)) (o : Obj) : Tab Nat :=
  match t with
  | [] => []
  | (k, c) :: t => if k = o then c else column t o

/-- A column replaced. -/
def setColumn (t : List (Obj × Tab Nat)) (o : Obj) (c : Tab Nat) : List (Obj × Tab Nat) :=
  match t with
  | [] => [(o, c)]
  | (k, d) :: t =>
    if k = o then (o, c) :: t
    else if o.ctorIdx < k.ctorIdx then (o, c) :: (k, d) :: t
    else (k, d) :: setColumn t o c

/-- The value in force of an object's row. -/
def State.get (s : State) (o : Obj) (row : Nat := 0) : Nat :=
  (column s.objs o).getD (o.default row) row

/-- A value put in force. -/
def State.put (s : State) (o : Obj) (row : Nat) (v : Nat) : State :=
  { s with objs := setColumn s.objs o ((column s.objs o).putD (o.default row) row v) }

/-- The listed rows of an object. -/
def State.rowsOf (s : State) (o : Obj) : Tab Nat := column s.objs o

/-- Bits of a numeric type. -/
def Ty.bits : Ty → Nat
  | .bool => 1
  | .u8 => 8
  | .u16 => 16
  | .i16 => 16
  | .u32 => 32
  | .i32 => 32
  | .u64 => 64
  | .i64 => 64
  | .time => 80
  | .oct n => 8 * n
  | .octs n => 8 * n
  | .vis n => 8 * n
  | .record => 0

/-- Bytes of a type as written on the wire, for the types of one length (R311). -/
def Ty.bytes : Ty → Nat
  | .bool => 1
  | t => t.bits / 8

/-- A counter object advanced by n. It wraps at its width (log 13). -/
def State.bump (s : State) (o : Obj) (row : Nat := 0) (n : Nat := 1) : State :=
  s.put o row ((s.get o row + n) % 2 ^ o.info.ty.bits)

/-- A signed value as the number its two's complement spells (R311). -/
def ofInt (bits : Nat) (i : Int) : Nat := (i % (2 ^ bits : Nat)).toNat

/-- The signed value of a two's complement number (R311). -/
def toInt (bits : Nat) (n : Nat) : Int :=
  if n < 2 ^ (bits - 1) then n else (n : Int) - (2 ^ bits : Nat)

/-- A Bool as 0 or 1. -/
def b2n (b : Bool) : Nat := if b then 1 else 0

/-- Bits [hi:lo] of a number. -/
def bitsOf (v hi lo : Nat) : Nat := v / 2 ^ lo % 2 ^ (hi + 1 - lo)

/-- Bit n of a number. -/
def bit (v n : Nat) : Bool := v.testBit n

/-- Bits of `a` that are not in `b`. -/
def without (a b : Nat) : Nat := a - (a &&& b)

/-- The numbers below `n` whose bit is set in `m`. -/
def bitList (m n : Nat) : List Nat := (List.range n).filter (m.testBit ·)

/-- A mask of the numbers listed. -/
def maskOf (l : List Nat) : Nat := l.foldl (fun m n => m ||| 2 ^ n) 0

/-- Division rounded up. -/
def ceilDiv (a b : Nat) : Nat := (a + b - 1) / b

/-- A list with duplicates removed, first kept. -/
def nub (l : List Nat) : List Nat :=
  l.foldl (fun acc x => if acc.contains x then acc else acc ++ [x]) []

/-- The same for pairs. -/
def nubP (l : List (Nat × Nat)) : List (Nat × Nat) :=
  l.foldl (fun acc x => if acc.contains x then acc else acc ++ [x]) []

/-! ## Outputs, units and free choices -/

/-- An output recorded (log 8). -/
def State.emit (s : State) (o : Out) : State := { s with out := s.out ++ [o] }

/-- An event of a rule. -/
def State.event (s : State) (rule : Nat) (args : List Nat) : State := s.emit (.event rule args)

/-- A message of the orchard's own traffic. -/
def State.msg (s : State) (k : MsgKind) (args : List Nat) : State := s.emit (.msg k args)

/-- A free choice among n (log 5), and the state after it. -/
def State.pick (s : State) (n : Nat) : Nat × State :=
  (Config.choice s.fresh % n, { s with fresh := s.fresh + 1 })

/-- A free number outside a rising list of used ones, in `lo` to `lo + n - 1` (log 5). -/
def State.pickFree (s : State) (used : List Nat) (lo n : Nat) : Nat × State :=
  let (k, s) := s.pick (n - used.length)
  (nthFree used lo k, s)

/-- A free value (log 5), and the state after it. -/
def State.free (s : State) : Nat × State :=
  (Config.freeValue s.fresh, { s with fresh := s.fresh + 1 })

/-- An error raised by a unit: it is captured when the command ends (R301). -/
def State.raise (s : State) (e : Err) : State := { s with errs := s.errs ++ [e] }

/-! ## The layout of the part (R11, R12, R223) -/

/-- Cluster of a port or lane. -/
def clusterOf (port : Nat) : Nat := port / 8

/-- Tile of a port or of an active lane. -/
def tileOf (port : Nat) : Nat := port / 64

/-- Region of the quadrant that serves a port. -/
def quadRegion (port : Nat) : Nat := 8 + port / 128

/-- The region runs, throttled or not (R27). -/
def State.runs (s : State) (region : Nat) : Bool := s.get .REGION_STATE region ≤ 1

/-- This chip's node ID. -/
def State.node (s : State) : Nat := s.get .NODE_ID

/-- The regions in which a background engine runs: n of A400, and 7 for Bramble (R416). -/
def engineRuns (engine region : Nat) : Bool :=
  match engine with
  | 1 | 4 => region < 15
  | 2 => region = 12 || region = 13
  | 3 => region < 8
  | 5 | 7 => 8 ≤ region && region < 12
  | 6 => (8 ≤ region && region < 12) || region = 14
  | _ => false

/-- The engine has used its budget of this pip in a region (R50). -/
def State.pausedIn (s : State) (engine region : Nat) : Bool := s.paused.contains (engine, region)

/-! ## Time and pips -/

/-- The pip period P in ns (R52). -/
def periodNs (code : Nat) : Nat := [62500, 125000, 250000, 500000, 1000000].getD code 125000

/-- The pip period in force, in TIME units. -/
def State.P (s : State) : Time := ns (periodNs (s.get .PIP_PERIOD))

/-- The edge of pip n (R41), for n at or after the anchor. -/
def State.edge (s : State) (n : Nat) : Time :=
  s.get .PIP_ANCHOR_TIME + (n - s.get .PIP_ANCHOR_NUMBER) * s.P

/-- The pip in which an instant lies (R41). -/
def State.pipAt (s : State) (t : Time) : Nat :=
  s.get .PIP_ANCHOR_NUMBER + (t - s.get .PIP_ANCHOR_TIME) / s.P

/-- An instant is a pip edge (R41): of the grid in force, or before the anchor of the grid that ran then
(R43). -/
def State.isEdge (s : State) (t : Time) : Bool :=
  if s.get .PIP_ANCHOR_TIME ≤ t then (t - s.get .PIP_ANCHOR_TIME) % s.P == 0
  else match s.time.eras.find? fun e => e.1 ≤ t with
    | some (a, p) => (t - a) % p == 0
    | none => (s.get .PIP_ANCHOR_TIME - t) % s.P == 0

/-- The first pip edge more than `d` after an instant, as a pip number. -/
def State.pipAfter (s : State) (t d : Time) : Nat := s.pipAt (t + d) + 1

/-- The first pip edge at least `d` after an instant, as a pip number. -/
def State.pipFrom (s : State) (t d : Time) : Nat :=
  if s.isEdge (t + d) then s.pipAt (t + d) else s.pipAt (t + d) + 1

/-- Time goes on to instant t. Orchard time never runs backwards (R28): an instant that has passed
counts as now (log 2). -/
def State.moveTo (s : State) (t : Time) : State :=
  { s with now := max s.now t, age := s.age + (t - s.now) }

/-! ## Accepted values (R44, R316, R318) -/

/-- The last value held for an object's row in a list. -/
def lastHeld (l : List Held) (o : Obj) (row : Nat) : Option Nat :=
  l.foldl (fun acc h => if h.obj = o ∧ h.row = row then some h.val else acc) none

/-- The list without the values of an object's row. -/
def dropHeld (l : List Held) (o : Obj) (row : Nat) : List Held :=
  l.filter fun h => !(h.obj = o ∧ h.row = row)

/-- The newest accepted value (R318): pending, staged or stored where there is one. -/
def State.newest (s : State) (o : Obj) (row : Nat := 0) : Nat :=
  match o.info.cls with
  | .P => (lastHeld s.pendP o row).getD (s.get o row)
  | .E => (lastHeld s.staged o row).getD (s.get o row)
  | .B => (lastHeld s.pendB o row).getD (s.get o row)
  | _ => s.get o row

/-- The pip at whose edge a class-P value accepted now applies (R44). -/
def State.applyPip (s : State) : Nat := max (s.pipAfter s.now (us 5)) (s.closedPip + 1)

/-- A value accepted into the place its class gives it (R316). L and Q values are in force
within 1 us, which the model takes as at once (log 4). -/
def State.accept (s : State) (o : Obj) (row v : Nat) : State :=
  match o.info.cls with
  | .P => { s with pendP := s.pendP ++ [{ obj := o, row := row, val := v, pip := s.applyPip }] }
  | .E => { s with staged := dropHeld s.staged o row ++ [{ obj := o, row := row, val := v }] }
  | .B => { s with pendB := dropHeld s.pendB o row ++ [{ obj := o, row := row, val := v }] }
  | _ => s.put o row v

/-- A rule records once per pip and unit: true the first time (R103, R112, R133, R168, R171). -/
def State.firstInPip (s : State) (rule unit : Nat) : Bool := !s.seenPip.contains (rule, unit)

/-- The same, noted. -/
def State.noteInPip (s : State) (rule unit : Nat) : State :=
  if s.seenPip.contains (rule, unit) then s else { s with seenPip := s.seenPip ++ [(rule, unit)] }

/-! ## Epoch requests (R45 to R49, R340) -/

/-- The first failing offer's code, or 0 (R45). `extra` is a check of the command's own that
each offer meets after the others. -/
def State.offersFrom (s : State) (acc : Time) (prev : Option Time) (extra : Time → Nat) :
    List Time → Nat
  | [] => 0
  | e :: es =>
    if !s.isEdge e then 0x0301
    else if e ≤ acc then 0x0403
    else if e < acc + 3 * s.P then 0x0402
    else if (prev.map fun p => decide (e < p + 3 * s.P)).getD false then 0x0301
    else if extra e ≠ 0 then extra e
    else s.offersFrom acc (some e) extra es

/-- The checks of R325 and R45 on the offers of a command accepted now. -/
def State.checkOffers (s : State) (offers : List Time) (extra : Time → Nat := fun _ => 0) : Nat :=
  if offers.length = 0 ∨ 4 < offers.length then 0x0301
  else s.offersFrom s.now none extra offers

/-- The request of a number. -/
def State.req (s : State) (n : Nat) : Option EpochReq := s.reqs.find? (·.num = n)

/-- A request has been applied or cancelled (R340). -/
def State.reqOver (s : State) (n : Nat) : Bool :=
  s.get .EPOCH_STATE n == 2 || s.get .EPOCH_STATE n == 4

/-- A request changed. -/
def State.updReq (s : State) (n : Nat) (f : EpochReq → EpochReq) : State :=
  { s with reqs := s.reqs.map fun r => if r.num = n then f r else r }

/-- The requests that are pending: neither applied nor cancelled. -/
def State.pendingReqs (s : State) : List EpochReq := s.reqs.filter fun r => !s.reqOver r.num

/-- Some unit of the list already holds a pending epoch change (R49), or all 64 rows of 2100
hold pending requests (R340). -/
def State.unitsBusy (s : State) (units : List (Nat × Nat)) : Bool :=
  s.pendingReqs.any (fun r => r.units.any units.contains) || 64 ≤ s.pendingReqs.length

/-- Every unit of the nodes listed (a unit is one region of one chip, R46). -/
def unitsOf (nodes : List Nat) : List (Nat × Nat) :=
  nodes.flatMap fun n => (List.range 15).map fun r => (n, r)

/-- The live members of the island (4002.05), this chip always among them. -/
def State.live (s : State) : List Nat :=
  let l := bitList (s.get .LIVE_MEMBERS) 32
  if l.contains s.node then l else l ++ [s.node]

/-- The rows of 2100 of a request that is displaced return to their defaults. -/
def State.clearReqRow (s : State) (n : Nat) : State :=
  [Obj.EPOCH_KIND, .EPOCH_OFFER_1, .EPOCH_OFFER_2, .EPOCH_OFFER_3, .EPOCH_OFFER_4, .EPOCH_STATE,
    .APPLIED_EPOCH, .NOT_READY, .EPOCH_RESULT].foldl (fun s o => s.put o n (o.default n)) s

/-- With 64 requests retained, the oldest applied or cancelled one gives its row (R340). -/
def State.displace (s : State) : State :=
  if s.reqs.length < 64 then s
  else match s.reqs.find? (fun r => s.reqOver r.num) with
    | none => s
    | some r => { s.clearReqRow r.num with reqs := s.reqs.filter (·.num ≠ r.num) }

/-- A request's row of 2100 as it opens. -/
def State.showReq (s : State) (k kind : Nat) (offers : List Time) : State :=
  let s := ((s.put .EPOCH_KIND k kind).put .EPOCH_STATE k 0).put .NOT_READY k 0xFFFF
  let s := ((s.put .EPOCH_OFFER_1 k (offers.getD 0 0)).put .EPOCH_OFFER_2 k (offers.getD 1 0))
  (s.put .EPOCH_OFFER_3 k (offers.getD 2 0)).put .EPOCH_OFFER_4 k (offers.getD 3 0)

/-- A request opened and recorded in 2100 (R46 step 1, R340): its number is a free choice
among the numbers not in use. Prepare messages go to the affected units. -/
def State.openReq (s : State) (kind : Nat) (offers : List Time) (units : List (Nat × Nat))
    (work : Work) : Nat × State :=
  let s := s.displace
  let (k, s) := s.pickFree ((s.reqs.map (·.num)).mergeSort (· ≤ ·)) 0 (2 ^ 32 - 1)
  let r : EpochReq := { num := k, kind := kind, offers := offers, units := units, work := work }
  let s := { s with reqs := s.reqs ++ [r] }
  let s := s.showReq k kind offers
  (k, (s.msg .prepare [k, kind]).msg .mirror [k, kind])

/-- The offered epoch in force of a request. -/
def EpochReq.epoch (r : EpochReq) : Time := r.offers.getD r.cur 0

/-- A reservation is granted somewhere in the orchard (R35, R43): the rows of 7000 are the
whole orchard's (R165). -/
def State.anyGranted (s : State) : Bool := (s.rowsOf .RSV_STATE).any fun r => 3 ≤ r.2 && r.2 ≤ 5

/-! ## Firmware banks and measurements (R371, R380, R388) -/

/-- The active firmware bank: the one that reads 2 (R388). -/
def State.activeFwBank (s : State) : Nat := if s.get .FW_BANK_STATE 1 = 2 then 1 else 0

/-- The other firmware bank. -/
def otherBank (b : Nat) : Nat := if b = 0 then 1 else 0

/-- Flash offset of a bank (R371). -/
def bankBase (b : Nat) : Nat := b * 0x400000

/-- Rows of some objects that differ from the default, as numbers. -/
def State.committed (s : State) (idxs : List Nat) : List Nat :=
  (s.objs.filter fun (c : Obj × Tab Nat) => idxs.contains c.1.info.idx && c.1.info.prof).flatMap fun c =>
    c.2.flatMap fun (r : Nat × Nat) => [c.1.ctorIdx, r.1, r.2]

/-- What a measurement covers (R380), as MCTP reports it. -/
def State.measContent (s : State) (i : Nat) : List Nat :=
  let b := s.activeFwBank
  match i with
  | 2 => s.flash.bytes (bankBase b) 224
  | 3 => [s.get .FW_SVN b, max (s.get .ROLLBACK_FUSED) (s.get .ROLLBACK_MIRROR % 128), s.get .FW_VERSION b]
  | 4 => [s.get .LIFECYCLE_STATE, s.get .LIFECYCLE_PENDING, s.get .KEYSET_REVOKED, s.get .FW_KEYSET b]
  | 5 => if s.get .FW_BANK_STATE (otherBank b) = 0 then List.replicate 224 0 else s.flash.bytes (bankBase (otherBank b)) 224
  | 6 => [s.get .ACTIVE_PROFILE, s.get .PROF_CHECK (s.get .ACTIVE_PROFILE)]
  | 7 => s.committed [0x4000, 0x4100, 0x5200]
  | _ => []

def State.mbox (s : State) (row : Nat) : MboxH := s.mboxes.getD {} row

def State.updMbox (s : State) (row : Nat) (f : MboxH → MboxH) : State :=
  { s with mboxes := s.mboxes.updD {} row f }

end Sys2Proof.Machine
end

