-- ==== Sys2Proof/Machine/Operands.lean ====
section
/-! DEFINITION. The bit layouts that the manual gives: link header, control messages, fabric
packet header, training block (R193, R195, R215, R228, R245), and the sequence arithmetic of R201. -/

namespace Sys2Proof.Machine

open Sys2Proof

/-! ## Link header (R193) -/

/-- A link header from its fields. -/
def linkHeader (seq ackSeq ackKind ftype crVc crCount first valid : Nat) (replay : Bool)
    (node : Nat) : Nat :=
  seq * 2 ^ 80 + ackSeq * 2 ^ 64 + ackKind * 2 ^ 62 + ftype * 2 ^ 58 + crVc * 2 ^ 55 +
    crCount * 2 ^ 34 + first * 2 ^ 28 + valid * 2 ^ 22 + b2n replay * 2 ^ 21 + node * 2 ^ 16

def lhSeq (h : Nat) : Nat := bitsOf h 95 80
def lhAckSeq (h : Nat) : Nat := bitsOf h 79 64
def lhAckKind (h : Nat) : Nat := bitsOf h 63 62
def lhType (h : Nat) : Nat := bitsOf h 61 58
def lhVc (h : Nat) : Nat := bitsOf h 57 55
def lhCount (h : Nat) : Nat := bitsOf h 54 34
def lhFirst (h : Nat) : Nat := bitsOf h 33 28
def lhValid (h : Nat) : Nat := bitsOf h 27 22
def lhNode (h : Nat) : Nat := bitsOf h 20 16

/-! ## Control messages (R215, R245) -/

/-- Granule 0 of a control message. -/
def ctlGranule0 (m : Ctl) : Nat :=
  m.op * 2 ^ 56 + m.kind * 2 ^ 48 + m.reqId * 2 ^ 40 + m.reason * 2 ^ 32

/-- Granule 1 of a message of kinds 2 to 5. -/
def ctlGranule1 (m : Ctl) : Nat :=
  m.phase * 2 ^ 56 + m.lane * 2 ^ 51 + m.width * 2 ^ 48 + m.laneOffset * 2 ^ 44 + m.rate * 2 ^ 42 +
    m.swapFlit

/-- Code of a width (R228). -/
def widthCode (w : Nat) : Nat := if w = 1 then 0 else if w = 2 then 1 else if w = 4 then 2 else if w = 8 then 3 else 4

/-! ## Training block (R228) -/

/-- Bits [127:16] of a training block. -/
def blockBits (b : TBlock) : Nat :=
  b.sync * 2 ^ 80 + b.laneIndex * 2 ^ 75 + b.width * 2 ^ 72 + b.rate * 2 ^ 70 + b.node * 2 ^ 65 + b.stage * 2 ^ 62 +
    b.eqOp * 2 ^ 59 + b.eqArg * 2 ^ 55 + b.eqNum * 2 ^ 51 + b.echoNum * 2 ^ 47 + b.echoStatus * 2 ^ 45

/-- CRC-16 over 112 bits, most significant bit first. -/
def crc16 (n : Nat) : Nat :=
  (List.range 112).foldl (fun c i =>
    if c.testBit 15 ≠ n.testBit (111 - i) then (c * 2) % 2 ^ 16 ^^^ 0x1021 else (c * 2) % 2 ^ 16) 0xFFFF

/-- A training block with its CHECK. -/
def withCheck (b : TBlock) : TBlock := { b with check := crc16 (blockBits b) }

/-- CHECK agrees with the block. -/
def blockOk (b : TBlock) : Bool := b.check = crc16 (blockBits b)

/-! ## Fabric packet header (R195) -/

/-- The 128-bit header of a fabric packet. -/
def fabricHeader (p : Pkt) : Nat :=
  p.dest * 2 ^ 112 + p.src * 2 ^ 96 + (if p.internal then 0 else p.part) * 2 ^ 84 + p.cls * 2 ^ 81 +
    p.colour * 2 ^ 79 + b2n (p.twin ≠ 0) * 2 ^ 78 + b2n p.pseqValid * 2 ^ 77 + b2n p.salvage * 2 ^ 76 +
    p.seq * 2 ^ 52 + p.hop * 2 ^ 47 + p.pipOffset * 2 ^ 15

/-- Granules of a packet (R197). -/
def granulesOf (bytes : Nat) : Nat := ceilDiv (16 + bytes) 8

/-! ## Sequence numbers (R201) -/

/-- dist(a, b) of R201. -/
def seqDist (a b : Nat) : Nat := (a + 65536 - b % 65536) % 65536

/-- a lies after b. -/
def seqAfter (a b : Nat) : Bool := decide (0 < seqDist a b) && decide (seqDist a b < 32768)

/-- a lies before b. -/
def seqBefore (a b : Nat) : Bool := decide (32768 < seqDist a b)

/-- The number after a sequence number. -/
def seqNext (a : Nat) : Nat := (a + 1) % 65536

/-- The number before a sequence number. -/
def seqPrev (a : Nat) : Nat := (a + 65535) % 65536

/-! ## Transmitter taps (R231, R232) -/

/-- TX_TAPS from the magnitudes of C-2, C-1 and C+1, which are zero or negative. -/
def tapsWord (m2 m1 p1 : Nat) : Nat :=
  ofInt 8 (-(m2 : Int)) * 2 ^ 24 + ofInt 8 (-(m1 : Int)) * 2 ^ 16 + (64 - m2 - m1 - p1) * 2 ^ 8 +
    ofInt 8 (-(p1 : Int))

/-- The magnitudes of C-2, C-1 and C+1 in a TX_TAPS word. -/
def tapsOf (w : Nat) : Nat × Nat × Nat :=
  ((-(toInt 8 (bitsOf w 31 24))).toNat, (-(toInt 8 (bitsOf w 23 16))).toNat,
    (-(toInt 8 (bitsOf w 7 0))).toNat)

/-- The limits of R231 on the magnitudes. -/
def tapsOk (m2 m1 p1 : Nat) : Bool :=
  decide (m2 ≤ 6) && decide (m1 ≤ 16) && decide (p1 ≤ 16) && decide (m2 + m1 + p1 ≤ 32)

/-- The FL-106 presets of R232. -/
def flPreset (n : Nat) : Option (Nat × Nat × Nat) :=
  [(0, 0, 0), (0, 4, 0), (0, 8, 0), (0, 0, 6), (0, 4, 6), (0, 8, 6), (2, 8, 4), (2, 12, 8)][n]?

end Sys2Proof.Machine
end

