-- ==== Sys2Proof/Machine/Count.lean ====
section
/-! DEFINITION. Counter units (R403 to R406): which counters see an event, and how they advance. -/

namespace Sys2Proof.Machine

open Sys2Proof

/-- A GFID of a chip (R63). -/
def isChipGfid (g : Nat) : Bool := 1 ≤ g && g ≤ 0x20

/-- A TLP carries an address. -/
def hasAddr (k : TlpKind) : Bool :=
  match k with
  | .memWrite => true
  | .memRead => true
  | .atomic => true
  | .ioReq => true
  | _ => false

/-- The privilege of a TLP as R405 sorts it: 0 tenant, 1 admin, 2 firmware, 3 fabric-internal. -/
def State.privilege (s : State) (p : Pkt) : Nat :=
  if p.internal then 3
  else if isChipGfid p.src then 2
  else if s.get .FA_PARTITION p.part = 1 then 1 else 0

/-- A TLP meets every filter of a unit (R405). -/
def State.meets (s : State) (u : Nat) (p : Pkt) : Bool :=
  let mask := s.get .FILT_GFID_MASK u
  let k := s.get .FILT_ADDR_SIZE_LOG2 u
  let base := s.get .FILT_ADDR_BASE u
  bit (s.get .FILT_PRIV u) (s.privilege p) &&
    (p.src &&& mask = s.get .FILT_GFID u &&& mask) &&
    (k = 0 || (hasAddr p.tlp.kind && base ≤ p.orchAddr && p.orchAddr < base + 2 ^ k)) &&
    bit (s.get .FILT_CLASS u) p.cls

/-- A counter advances by n. Past 2^48 - 1 it wraps, and CTR_OVERFLOW sets (R406). -/
def State.ctrAdd (s : State) (key n : Nat) : State :=
  let v := s.get .CTR_VALUE key + n
  if v < 2 ^ 48 then s.put .CTR_VALUE key v
  else (s.put .CTR_VALUE key (v % 2 ^ 48)).put .CTR_OVERFLOW key 1

/-- The counters of a unit that select an event at a port (R404, R405). -/
def State.ctrKeys (s : State) (u code port : Nat) : List Nat :=
  ((s.rowsOf .CTR_EVENT).filter fun (r : Nat × Nat) =>
    r.1 / 8 = u && r.2 % 1024 = code &&
      (64 ≤ u || s.get .CTR_PORT r.1 = 0xFFFF || s.get .CTR_PORT r.1 = port)).map (·.1)

/-- An event of n at one unit, with the TLP that filters judge where the event is filtered. -/
def State.countAt (s : State) (u code port n : Nat) (p : Option Pkt) : State :=
  (s.ctrKeys u code port).foldl (fun s k =>
    let on := match p with
      | some p => s.get .CTR_FILTER k = 0 || s.meets u p
      | none => true
    if on then s.ctrAdd k n else s) s

/-- An event at a port: its cluster's unit of kind C (R403). -/
def State.countPort (s : State) (port code n : Nat) (p : Pkt) : State :=
  if 512 ≤ port then s else s.countAt (clusterOf port) code port n (some p)

/-- An event in a quadrant: its four units of kind Q. -/
def State.countQuad (s : State) (q code n : Nat) (p : Pkt) : State :=
  (List.range 4).foldl (fun s i => s.countAt (64 + 4 * q + i) code 0xFFFF n (some p)) s

/-- An event at a tile: its unit of kind T. -/
def State.countTile (s : State) (port code n : Nat) : State :=
  s.countAt (80 + tileOf port) code port n none

/-- An event at an HBM stack: its unit of kind H. -/
def State.countStack (s : State) (stack code n : Nat) : State :=
  s.countAt (88 + stack) code 0xFFFF n none

/-- An event in the control complex: its six units of kind G. -/
def State.countControl (s : State) (code n : Nat) : State :=
  (List.range 6).foldl (fun s i => s.countAt (90 + i) code 0xFFFF n none) s

/-- Core clocks counted by the counters on event 0x001 (R404). -/
def State.countClocks (s : State) (n : Nat) : State :=
  (((s.rowsOf .CTR_EVENT).filter fun (r : Nat × Nat) => r.2 % 1024 = 1).map (·.1)).foldl
    (fun s k => s.ctrAdd k n) s

end Sys2Proof.Machine
end

