-- ==== Sys2Proof/Machine/Buffer.lean ====
section
/-! DEFINITION. The cell buffer, the flow queues and the spill path as shared operations
(R126 to R146). -/

namespace Sys2Proof

/-- Bytes of a TLP in flit-mode form: header, OHC, prefix and data. -/
def Tlp.bytes (t : Tlp) : Nat := t.hdr + t.data

/-- Cells of a packet: 16 bytes of fabric header, then the TLP (R126). -/
def Pkt.cells (p : Pkt) : Nat := (16 + p.tlp.bytes + 255) / 256

/-- Sub-list of a TLP, as PCI Express sorts them (R134). -/
def Tlp.sub (t : Tlp) : Sub :=
  match t.kind with
  | .memWrite => .posted
  | .msgRoot => .posted
  | .msgId => .posted
  | .msgBroadcast => .posted
  | .memRead => .nonPosted
  | .atomic => .nonPosted
  | .cfgRead => .nonPosted
  | .cfgWrite => .nonPosted
  | .ioReq => .nonPosted
  | .cpl => .completion

/-- Code of a sub-list (R127). -/
def Sub.code : Sub → Nat
  | .posted => 0
  | .nonPosted => 1
  | .completion => 2

end Sys2Proof

namespace Sys2Proof.Machine

open Sys2Proof

/-! ## Keys and sizes -/

/-- Key of R131. -/
def fqKey (source target route cls : Nat) : Nat :=
  source * 2 ^ 15 + target * 2 ^ 5 + route * 2 ^ 3 + cls

def keySource (k : Nat) : Nat := k / 2 ^ 15
def keyTarget (k : Nat) : Nat := k / 2 ^ 5 % 2 ^ 10
def keyRoute (k : Nat) : Nat := k / 2 ^ 3 % 4
def keyClass (k : Nat) : Nat := k % 8

/-- Row of the tables keyed SOURCE × 8 + CLASS. -/
def keyRow (k : Nat) : Nat := keySource k * 8 + keyClass k

/-- A sub-list of a queue. -/
def Queue.sub (q : Queue) : Sub → SubQ
  | .posted => q.posted
  | .nonPosted => q.nonPosted
  | .completion => q.cpl

/-- A sub-list of a queue replaced. -/
def Queue.setSub (q : Queue) (l : SubQ) : Sub → Queue
  | .posted => { q with posted := l }
  | .nonPosted => { q with nonPosted := l }
  | .completion => { q with cpl := l }

/-- Cells of a sub-list in the buffer, staging included. -/
def SubQ.onChip (l : SubQ) : Nat := l.head.length + l.stage.length

/-- Cells of a sub-list in HBM segments: blocks whose cells still await their write are in the
buffer until it completes (R141). -/
def SubQ.spilled (l : SubQ) : Nat :=
  (l.seg.map fun b => if b.state = .stored ∨ b.state = .reading then b.cells.length else 0).sum

/-- Cells of open or closing blocks, which still hold buffer cells. -/
def SubQ.leaving (l : SubQ) : Nat :=
  (l.seg.map fun b => if b.state = .stored ∨ b.state = .reading then 0 else b.cells.length).sum

def SubQ.isEmpty (l : SubQ) : Bool := l.head.isEmpty && l.seg.isEmpty && l.stage.isEmpty

/-- Cells on chip of a queue (6000.03). -/
def Queue.onChip (q : Queue) : Nat :=
  q.posted.onChip + q.nonPosted.onChip + q.cpl.onChip +
    q.posted.leaving + q.nonPosted.leaving + q.cpl.leaving

/-- Cells of a queue in HBM (6000.04). -/
def Queue.spilled (q : Queue) : Nat := q.posted.spilled + q.nonPosted.spilled + q.cpl.spilled

/-- The queue holds no TLP on chip or in spill. -/
def Queue.isEmpty (q : Queue) : Bool := q.posted.isEmpty && q.nonPosted.isEmpty && q.cpl.isEmpty

/-! ## The four parts of the buffer (R128, R137) -/

/-- Charge word of R128. -/
def chargeWord (pool port cls : Nat) : Nat := pool * 2 ^ 14 + port * 2 ^ 3 + cls

def chargePool (w : Nat) : Nat := w / 2 ^ 14
def chargePort (w : Nat) : Nat := w / 2 ^ 3 % 512
def chargeClass (w : Nat) : Nat := w % 8

/-- Cells charged with a property. -/
def State.charged (s : State) (f : Nat → Bool) : Nat := (s.cells.filter fun c => f c.2).length

/-- Cells charged to a part. -/
def State.poolUsed (s : State) (pool : Nat) : Nat := s.charged fun w => chargePool w = pool

/-- Cells charged to (e, c) in a part. -/
def State.pairUsed (s : State) (pool port cls : Nat) : Nat :=
  s.charged fun w => w = chargeWord pool port cls

/-- Receive pool of a fabric port in bytes: 65,536 times its width by default (R208, R222). -/
def State.poolBytes (s : State) (port : Nat) : Nat :=
  if s.newest .POOL_BYTES port = 0 then 65536 * s.newest .PORT_WIDTH port
  else s.newest .POOL_BYTES port

/-- The ports that are not parked, by the newest accepted role (R137). -/
def State.usedPorts (s : State) : List Nat :=
  (s.rowsOf .PORT_ROLE).keys.filter fun p => s.newest .PORT_ROLE p ≠ 0

/-- Sum of the guaranteed minimums (R137). -/
def State.minReserved (s : State) : Nat :=
  (s.usedPorts.map fun p => ((List.range 6).map fun c => s.get .MIN_CELLS (p * 8 + c)).sum).sum

/-- Standing charge of the fabric receive pools on the shared pool (R208). -/
def State.standing (s : State) : Nat :=
  ((s.usedPorts.filter fun p => s.newest .PORT_ROLE p = 3).map fun p =>
    s.poolBytes p / 256 + 8).sum

/-- Size of the shared pool (R137, R208, R392). -/
def State.sharedPool (s : State) : Nat :=
  1048576 - s.badCells.length - s.get .SCHED_PARTITION_CELLS - s.get .SPILL_RESERVE_CELLS - s.minReserved

/-- Cells that a part of the guaranteed minimums holds beyond its size: the port's charge in the class over
MIN_CELLS, or all of it where the port is parked (R137). -/
def State.minExcess (s : State) : Nat :=
  let ws := nub ((s.cells.map (·.2)).filter fun w => chargePool w = 0)
  (ws.map fun w =>
    s.charged (· = w) -
      (if s.newest .PORT_ROLE (chargePort w) = 0 then 0 else s.get .MIN_CELLS (chargePort w * 8 + chargeClass w))).sum

/-- Cells that a part which has shrunk has not given to the shared pool yet (R137). -/
def State.excess (s : State) : Nat :=
  (s.poolUsed 2 - s.get .SCHED_PARTITION_CELLS) + (s.poolUsed 3 - s.get .SPILL_RESERVE_CELLS) + s.minExcess

/-- The shared pool as it is, less what shrinking parts still hold (R137). -/
def State.sharedSize (s : State) : Nat := s.sharedPool - s.excess

/-- Free cells of the shared pool, with the standing charge taken off. -/
def State.sharedFree (s : State) : Nat := s.sharedSize - s.standing - s.poolUsed 1

/-- Number of the core clock in hand. -/
def State.clockNow (s : State) : Nat := s.age / 65536

/-- F of R138: free cells of the shared pool at the start of the clock. -/
def State.freeAtClock (s : State) : Nat :=
  match s.clockF with
  | some (c, f) => if c = s.clockNow then f else s.sharedFree
  | none => s.sharedFree

/-- F is noted before the first change of a clock (R138). -/
def State.noteClock (s : State) : State :=
  if (s.clockF.map fun (x : Nat × Nat) => x.1) = some s.clockNow then s
  else { s with clockF := some (s.clockNow, s.sharedFree) }

/-- Free cells of the spill reserve. -/
def State.reserveFree (s : State) : Nat := s.get .SPILL_RESERVE_CELLS - s.poolUsed 3

/-- The shared pool would be left below 65,536 cells (R137, R139, R208). -/
def State.poolTooSmall (s : State) : Bool := s.sharedPool < 65536 + s.standing

/-! ## Cells -/

/-- The first free cell of a bank: the cells of bank b are b, b + 64, b + 128, … (R17).
DESIGN CHOICE (log 75): of the free cells of the bank the lowest is taken. -/
def State.freeInBank (s : State) (b : Nat) : Option Nat :=
  let used := (((s.cells.keys ++ s.badCells).filter (· % 64 = b)).map (· / 64)).mergeSort (· ≤ ·)
  if used.length < 16384 then some (nthFree used 0 0 * 64 + b) else none

/-- A bank may supply a cell: its quadrant is neither isolated nor held in reset (R129, R306). -/
def State.bankOk (s : State) (b : Nat) : Bool := s.runs (8 + b / 16)

/-- The next cell in rotation: the banks after the last one, at most 64 looked at (R129). -/
def State.nextCell (s : State) (last : Nat) : Nat → Option Nat
  | 0 => none
  | fuel + 1 =>
    let b := (last + 1) % 64
    match (if s.bankOk b then s.freeInBank b else none) with
    | some c => some c
    | none => s.nextCell b fuel

/-- Cells touched since Bramble's pass began lose their mark (R145). -/
def State.touch (s : State) (cs : List Nat) : State :=
  { s with touched := s.touched ++ cs.filter fun c => !s.touched.contains c }

/-- A cell allocated for a cluster under a charge word (R128, R129). -/
def State.allocCell (s : State) (cluster w : Nat) : Option (Nat × State) :=
  let s := s.noteClock
  match s.nextCell (s.bankRot.getD 63 cluster) 64 with
  | none => none
  | some c =>
    let s := s.touch [c]
    some (c, { s with cells := s.cells.set c w, bankRot := s.bankRot.putD 63 cluster (c % 64),
                      leaks := s.leaks.erase c })

/-- n cells allocated, or none. -/
def State.allocCells (s : State) (cluster w : Nat) : Nat → Option (List Nat × State)
  | 0 => some ([], s)
  | n + 1 =>
    match s.allocCell cluster w with
    | none => none
    | some (c, s) =>
      match s.allocCells cluster w n with
      | none => none
      | some (cs, s) => some (c :: cs, s)

/-- Cells freed: each goes back to the counter its charge word names (R128). -/
def State.freeCells (s : State) (cs : List Nat) : State :=
  let s := s.noteClock
  { s with cells := cs.foldl (fun t c => t.erase c) s.cells,
           leaks := cs.foldl (fun t c => t.erase c) s.leaks }

/-! ## Crossings (R13, R14) -/

/-- The crossings of R13, each of one direction; `up` leads away from the lanes, or to the stack or the control
complex. -/
inductive Xing where
  | tileQuad (cluster : Nat) (up : Bool)
  | quadQuad (a b : Nat)
  | quadHbm (q h : Nat) (up : Bool)
  | quadCtl (q : Nat) (up : Bool)
  | tileCtl (t : Nat) (up : Bool)
  deriving DecidableEq, Repr

/-- Bytes of an entry (R13). -/
def Xing.width : Xing → Nat
  | .tileQuad _ _ => 128
  | .quadQuad _ _ => 2048
  | .quadHbm _ _ _ => 256
  | .quadCtl _ _ => 64
  | .tileCtl _ _ => 4

/-- Entries per direction (R13). -/
def Xing.depth : Xing → Nat
  | .tileQuad _ _ => 32
  | .quadQuad _ _ => 16
  | .quadHbm _ _ _ => 256
  | .quadCtl _ _ => 64
  | .tileCtl _ _ => 16

/-- Number of a crossing in the state. -/
def Xing.num : Xing → Nat
  | .tileQuad c up => c * 2 + b2n up
  | .quadQuad a b => 256 + a * 4 + b
  | .quadHbm q h up => 288 + (q * 2 + h) * 2 + b2n up
  | .quadCtl q up => 320 + q * 2 + b2n up
  | .tileCtl t up => 336 + t * 2 + b2n up

/-- Entries that a crossing holds now. DESIGN CHOICE (log 77): the far side takes one entry a core clock. -/
def State.xFill (s : State) (x : Xing) : Nat :=
  let h := s.xings.getD {} x.num
  h.fill - (s.age / 65536 - h.upto / 65536)

/-- The crossing is full: its source stalls (R14). -/
def State.xFull (s : State) (x : Xing) : Bool := decide (x.depth ≤ s.xFill x)

/-- Bytes put into a crossing; what is over its depth stands at the source, in order (R14). -/
def State.xPut (s : State) (x : Xing) (bytes : Nat) : State :=
  { s with xings := s.xings.putD {} x.num { fill := s.xFill x + ceilDiv bytes x.width, upto := s.age } }

/-- The crossings between a cluster and the quadrant of an egress port; the chip's own traffic comes from the
control complex. -/
def crossingsIn (cluster e : Nat) : List Xing :=
  if 64 ≤ cluster then [.quadCtl (e / 128) false]
  else .tileQuad cluster true :: (if cluster / 16 = e / 128 then [] else [.quadQuad (cluster / 16) (e / 128)])

/-! ## Queues -/

/-- The port whose scheduler serves a key (R88, R131); traffic toward a node that has lost its port without an alternate
waits at PRIMARY_PORT (R91). -/
def State.portOfKey (s : State) (k : Nat) : Nat :=
  let t := keyTarget k
  if t < 512 then t
  else
    let n := t - 512
    if keyRoute k = 1 then s.get .TWIN_A_PORT n
    else if keyRoute k = 2 then s.get .TWIN_B_PORT n
    else if s.get .ACTIVE_PORT n = 0xFFFF then s.get .PRIMARY_PORT n
    else s.get .ACTIVE_PORT n

/-- A queue changed. -/
def State.updQ (s : State) (k : Nat) (f : Queue → Queue) : State :=
  match s.queues.find k with
  | none => s
  | some q => { s with queues := s.queues.set k (f q) }

/-- The allocated queues: those that an edge has not released. -/
def State.liveQueues (s : State) : Tab Queue := s.queues.filter fun x => x.2.left.isNone

/-- A free flow queue taken for a key; it loads its template, and its shaper starts full
(R132, R155; which number is a free choice). -/
def State.freshQueue (s : State) (k : Nat) : Option State :=
  if 1048576 ≤ s.liveQueues.length then none
  else
    let (n, s) := s.pickFree ((s.liveQueues.map (·.2.num)).mergeSort (· ≤ ·)) 0 1048576
    let r := keyRow k
    let q : Queue :=
      { num := n, weight := s.get .FQ_WEIGHT_SET r, spillThr := s.get .SPILL_THRESHOLD r,
        yellowThr := s.get .YELLOW_SPILL_THRESHOLD r, port := s.portOfKey k,
        tokens := s.get .FQS_BURST r * 2 ^ 20, tokensAt := s.age, usedPip := s.pip }
    some { s with queues := s.queues.set k q }

/-- The queue of a key: the one allocated, the one that the edge of this very instant has released, since the
arrival wins, or a free one (R132). -/
def State.allocQueue (s : State) (k : Nat) : Option State :=
  match s.queues.find k with
  | none => s.freshQueue k
  | some q =>
    match q.left with
    | none => some s
    | some t => if t = s.now then some { s with queues := s.queues.set k { q with left := none } } else s.freshQueue k

/-- BYTES of a TLP's last cell (R126, R127). -/
def lastBytes (p : Pkt) : Nat := (15 + p.tlp.bytes) % 256

/-- The cells of a packet as they are linked: the indices in order, the flags, the valid bytes, the stamp. -/
def cellsOf (p : Pkt) (stamp : Nat) : List Nat → Bool → List Cel
  | [], _ => []
  | [c], first => [{ idx := c, first := first, last := true, stamp := stamp, bytes := lastBytes p,
                     pkt := if first then some p else none }]
  | c :: cs, first =>
    { idx := c, first := first, last := false, stamp := stamp,
      pkt := if first then some p else none } :: cellsOf p stamp cs false

/-- The 64-bit link word of a cell (R127). -/
def Cel.linkWord (c : Cel) (next : Nat) (u : Sub) : Nat :=
  next * 2 ^ 44 + b2n c.first * 2 ^ 43 + b2n c.last * 2 ^ 42 + c.bytes * 2 ^ 34 + u.code * 2 ^ 32 + c.stamp

/-- The link memory of a list: each cell with its word. NEXT of the last cell is a free value. -/
def linkWords (u : Sub) : List Cel → List (Nat × Nat)
  | [] => []
  | [c] => [(c.idx, c.linkWord (Config.freeValue c.idx % 2 ^ 20) u)]
  | c :: d :: l => (c.idx, c.linkWord d.idx u) :: linkWords u (d :: l)

/-- The 128-byte descriptor of a block: the link words of its cells, less NEXT (R141). -/
def Block.descriptor (b : Block) (u : Sub) : Nat :=
  b.cells.foldl (fun a c => a * 2 ^ 64 + c.linkWord 0 u) 0

/-- The summary of a sub-list after a TLP of a source is appended (R135). -/
def SubQ.note (l : SubQ) (src : Nat) : SubQ :=
  if l.isEmpty then { l with sameGfid := src, sameValid := true }
  else if l.sameGfid = src then l else { l with sameValid := false }

/-- The summary is cleared when the sub-list empties (R135). -/
def SubQ.tidy (l : SubQ) : SubQ :=
  if l.isEmpty then { l with sameGfid := 0, sameValid := false } else l

/-- Virtual time V of (e, c) (R150). -/
def State.vtime (s : State) (port cls : Nat) : Nat := s.get .SC_VIRTUAL_TIME (port * 8 + cls)

/-- Start tags are compared modulo 2^48 within half the space (R150). -/
def tagMax (a b : Nat) : Nat := if (b + 2 ^ 48 - a) % 2 ^ 48 < 2 ^ 47 then b else a

/-- Cells on chip at the start of a core clock (R140). -/
def Queue.occAt (q : Queue) (clock : Nat) : Nat :=
  match q.occ with
  | some (c, n) => if c = clock then n else q.onChip
  | none => q.onChip

/-- That count noted before the first change of a clock. -/
def Queue.noteClock (q : Queue) (clock : Nat) : Queue := { q with occ := some (clock, q.occAt clock) }

/-- An empty queue wakes at a port with the virtual time as its start tag (R152). -/
def Queue.woken (q : Queue) (clock port v : Nat) : Queue :=
  if q.isEmpty then { q with tag := v, port := port, parked := false, woke := some clock } else q

/-- A packet's cells linked to the tail of the head list, or to the staging of its sub-list
when the queue is in spill (R135, R141). A wake gives the queue the virtual time as its start
tag (R152). -/
def State.linkCells (s : State) (k : Nat) (p : Pkt) (cs : List Nat) (staging : Bool) : State :=
  let s := cs.foldl (fun s c => s.countQuad (c % 64 / 16) 0x60 1 p) (s.touch cs)
  s.updQ k fun q =>
    let q := q.noteClock s.clockNow
    let cells := cellsOf p q.stamp cs true
    let l := (q.sub p.tlp.sub).note p.src
    let l := if staging then { l with stage := l.stage ++ cells, lastStage := s.now }
             else { l with head := l.head ++ cells }
    let q := q.woken s.clockNow (s.portOfKey k) (s.vtime (s.portOfKey k) (keyClass k))
    let q := q.setSub l p.tlp.sub
    { q with stamp := (q.stamp + 1) % 2 ^ 32, usedPip := s.pip }

/-! ## Admission (R138 to R144) -/

/-- The part that takes a TLP of n cells toward (e, c) in SC0 to SC5, if any (R138):
0 the minimum, 1 the shared pool. A parked port has no minimum (R137). -/
def State.poolFor (s : State) (port cls n : Nat) : Option Nat :=
  let k := s.get .ALPHA_CODE (port * 8 + cls)
  let m := if s.newest .PORT_ROLE port = 0 then 0 else s.get .MIN_CELLS (port * 8 + cls)
  if s.pairUsed 0 port cls + n ≤ m then some 0
  else if s.pairUsed 1 port cls * 64 < 2 ^ k * s.freeAtClock ∧ n ≤ min s.freeAtClock s.sharedFree then some 1
  else none

/-- An HBM stack is in service: its region runs (R23, R144). -/
def State.stackOk (s : State) (h : Nat) : Bool := s.runs (12 + h)

/-- The stack takes new blocks: it runs and is not throttled (R144, R427). -/
def State.stackTakes (s : State) (h : Nat) : Bool := s.get .REGION_STATE (12 + h) = 0

/-- Blocks in use in a stack; those lost with it are none (R22, R307). -/
def State.blocksIn (s : State) (h : Nat) : Nat :=
  (s.queues.map fun x =>
    ((x.2.posted.seg ++ x.2.nonPosted.seg ++ x.2.cpl.seg).filter fun b => b.stack = h && !b.lost).length).sum

/-- Blocks in use, counted in 6300.0A. -/
def State.blocksUsed (s : State) : Nat := s.blocksIn 0 + s.blocksIn 1

/-- A stack takes a new block: of its 4,194,304 of 4 KiB one is free (R22, R23). -/
def State.stackFree (s : State) (h : Nat) : Bool := s.stackTakes h && decide (s.blocksIn h < 4194304)

/-- Time that n cells take on the spill path under the power cap: 900 GB/s in eighths (R429). DESIGN CHOICE
(log 84): the limit spaces one TLP or block from the next. -/
def spillTime (step n : Nat) : Time := if step = 0 then 0 else ceilDiv (256 * n * 8 * 65536) ((8 - min step 6) * 900)

/-- What the buffer answers to a packet that wants in. -/
inductive Admit where
  | taken (s : State)
  | waits (why : Wait) (s : State)

/-- The last block of a segment that is filling. -/
def SubQ.openCells (l : SubQ) : List Cel :=
  match l.seg.getLast? with
  | some b => if b.state = .filling then b.cells else []
  | none => []

/-- Staged cells moved to the tail of the segment until a block holds 16 (R141). -/
def SubQ.fill (l : SubQ) (stack : Nat) : SubQ :=
  let o := l.openCells
  let seg := if o.isEmpty then l.seg else l.seg.dropLast
  let n := min (16 - o.length) l.stage.length
  let b : Block := { cells := o ++ l.stage.take n, stack := stack, state := .filling }
  if b.cells.isEmpty then l else { l with seg := seg ++ [b], stage := l.stage.drop n }

/-- A sub-list of a queue changed. -/
def State.updSub (s : State) (k : Nat) (u : Sub) (f : SubQ → SubQ) : State :=
  s.updQ k fun q => q.setSub (f (q.sub u)) u

/-- The sub-list of a key. -/
def State.subOf (s : State) (k : Nat) (u : Sub) : SubQ := ((s.queues.find k).getD { num := 0 }).sub u

/-- Cells that the open block of a sub-list still takes. -/
def SubQ.room (l : SubQ) : Nat := if l.openCells.isEmpty then 0 else 16 - l.openCells.length

/-- The spill path can take a TLP of n cells for a sub-list (R144, R429): the reserve has room, a stack is in
service, the power cap leaves room, and a block is free where the open one has no room. -/
def State.spillReady (s : State) (k : Nat) (u : Sub) (n : Nat) : Bool :=
  let l := s.subOf k u
  n ≤ s.reserveFree && (s.stackOk 0 || s.stackOk 1) && s.spillDue.1 ≤ s.now &&
    (decide (l.stage.length + n ≤ l.room) || s.stackFree 0 || s.stackFree 1)

/-- The stack that takes a queue's next block: they alternate while both are in service (R22, R23, R141). -/
def State.takeStack (s : State) (k : Nat) : Nat × State :=
  let n := ((s.queues.find k).getD { num := 0 }).nextStack
  let h := if s.stackFree n then n else 1 - n
  (h, s.updQ k fun q => { q with nextStack := 1 - h })

/-- Staged cells cross to the open block of the segment, as far as it has room; a new block opens where a
stack takes one (R13, R141, R144). The stacks alternate by the blocks opened: one that finds its crossing full opens
none (R14, R22). DESIGN CHOICE (log 77): the cells take the crossing of the egress port's quadrant, whichever banks
they lie in. -/
def State.fillStage (s : State) (k : Nat) (u : Sub) : State :=
  let l := s.subOf k u
  let fresh := l.openCells.isEmpty
  if l.stage.isEmpty ∨ (fresh ∧ !(s.stackFree 0 || s.stackFree 1)) then s
  else
    let (h, s2) := if fresh then s.takeStack k else (((l.seg.getLast?).map (·.stack)).getD 0, s)
    let x := Xing.quadHbm (s.portOfKey k % 512 / 128) h true
    if s.xFull x then s
    else (s2.xPut x (256 * min (16 - l.openCells.length) l.stage.length)).updSub k u (·.fill h)

/-- A wait is counted when it begins; `prev` is what the packet waited for until now. -/
def State.countWait (s : State) (prev : Option Wait) (w : Wait) (f : State → State) : State :=
  if prev = some w then s else f s

/-- A TLP waits for the scheduled partition: each of its cells that does not fit is counted (R139). -/
def State.schedFull (s : State) (p : Pkt) (prev : Option Wait) : State :=
  s.countWait prev .scheduled
    (·.bump .SCHED_PARTITION_FULL 0 (min p.cells (s.poolUsed 2 + p.cells - s.get .SCHED_PARTITION_CELLS)))

/-- A TLP waits for a flow queue: counted, and the first wait of a pip recorded (R133). -/
def State.queueFull (s : State) (prev : Option Wait) : State :=
  s.countWait prev .queue fun s =>
    let s := s.bump .QUEUE_WAITS
    let s := if s.firstInPip 133 0 then s.raise { code := 0x1004, kind := 0, idx := 0 } else s
    s.noteInPip 133 0

/-- The SC6 and SC7 side of R139. -/
def State.admitScheduled (s : State) (cluster k : Nat) (p : Pkt) (prev : Option Wait) : Admit :=
  let full := s.schedFull p prev
  if s.poolUsed 2 + p.cells ≤ s.get .SCHED_PARTITION_CELLS then
    match s.allocCells cluster (chargeWord 2 (s.portOfKey k % 512) p.cls) p.cells with
    | some (cs, s) => .taken (s.linkCells k p cs false)
    | none => .waits .scheduled full
  else .waits .scheduled full

/-- Another TLP of the queue waits to be the first that is staged (R140). -/
def State.staysBehind (s : State) (k : Nat) (p : Pkt) : Bool :=
  match (s.queues.find k).bind (·.trigger) with
  | some t => t ≠ p && s.rx.any fun x => x.2.any fun i => i.why = Wait.spill && i.pkt = t
  | none => false

/-- A packet joins the staging of a queue in spill, behind the one that sent it there (R140, R141, R144). -/
def State.stagePkt (s : State) (cluster k : Nat) (p : Pkt) (prev : Option Wait) : Admit :=
  let full := s.countWait prev .spill (·.bump .SPILL_PATH_FULL)
  if s.spillReady k p.tlp.sub p.cells && !s.staysBehind k p then
    match s.allocCells cluster (chargeWord 3 (s.portOfKey k % 512) p.cls) p.cells with
    | some (cs, s) =>
      let s := { s with spillDue := (s.now + spillTime (s.get .CAP_STEP) p.cells, s.spillDue.2) }
      .taken (((s.updQ k fun q => { q with trigger := none }).linkCells k p cs true).fillStage k p.tlp.sub)
    | none => .waits .spill full
  else .waits .spill full

/-- A queue enters spill (R140). -/
def State.enterSpill (s : State) (k : Nat) (p : Pkt) : State :=
  (s.countQuad (s.portOfKey k % 512 / 128) 0x61 1 p).updQ k fun q =>
    { q with spill := true, spillEntries := q.spillEntries + 1, trigger := some p }

/-- Some threshold sends a TLP of n cells and this colour to spill, by the occupancy at the start of the clock
(R140): 0 green, 1 yellow, and red handled as yellow (R160). -/
def Queue.overThreshold (q : Queue) (clock n colour : Nat) : Bool :=
  decide (q.spillThr < q.occAt clock + n) || (colour ≠ 0 && decide (q.yellowThr < q.occAt clock + n))

/-- A packet of SC0 to SC5 (R138, R140). -/
def State.admitBestEffort (s : State) (cluster k : Nat) (p : Pkt) (q : Queue) (prev : Option Wait) : Admit :=
  let e := s.portOfKey k % 512
  if p.cls < 5 ∧ q.spill then s.stagePkt cluster k p prev
  else if p.cls < 5 ∧ q.overThreshold s.clockNow p.cells p.colour then (s.enterSpill k p).stagePkt cluster k p prev
  else
    match s.poolFor e p.cls p.cells with
    | some pool =>
      match s.allocCells cluster (chargeWord pool e p.cls) p.cells with
      | some (cs, s) => .taken (s.linkCells k p cs false)
      | none => .waits .banks s
    | none =>
      let s := s.countWait prev .pool fun s =>
        (s.bump .POOL_DENIALS (e * 8 + p.cls)).countQuad (e / 128) 0x64 1 p
      if p.cls < 5 then (s.enterSpill k p).stagePkt cluster k p prev else .waits .pool s

/-- A packet on the quadrant's side that wants into the buffer for a key: a queue is found or taken (R132,
R133), then the packet is admitted by its class (R138 to R141). -/
def State.takeHere (s : State) (cluster k : Nat) (p : Pkt) (prev : Option Wait) : Admit :=
  match s.allocQueue k with
  | none => .waits .queue (s.queueFull prev)
  | some s =>
    match s.queues.find k with
    | none => .waits .queue s
    | some q => if 6 ≤ p.cls then s.admitScheduled cluster k p prev else s.admitBestEffort cluster k p q prev

/-- A cluster of this chip holds the source port of a granted reservation (R427). -/
def State.sourcesRsv (s : State) (c : Nat) : Bool :=
  (s.rowsOf .RSV_STATE).any fun x =>
    3 ≤ x.2 && x.2 ≤ 5 && s.get .RSV_SRC_NODE x.1 = s.node && clusterOf (s.get .RSV_SRC_PORT x.1) = c

/-- A throttle of a cluster's tile or quadrant keeps best-effort and SC5 cells out in this clock (R427).
DESIGN CHOICE (log 84): at level n the clocks whose number modulo 8 is below n accept. -/
def State.throttleStops (s : State) (c cls : Nat) : Bool :=
  let n := min (s.get .THROTTLE_LEVEL (c / 8)) (s.get .THROTTLE_LEVEL (8 + c / 16))
  c < 64 && cls < 6 && n ≤ s.age / 65536 % 8 && !s.sourcesRsv c

/-- A packet that wants into the buffer for a key crosses to its egress quadrant; where a crossing on its way is
full, or a throttle keeps it out, it waits, as what it waited for before if it has (R13, R14, R427). -/
def State.takeIn (s : State) (cluster k : Nat) (p : Pkt) (prev : Option Wait) : Admit :=
  let xs := crossingsIn cluster (s.portOfKey k % 512)
  if s.throttleStops cluster p.cls then .waits (prev.getD .throttled) s
  else if xs.any s.xFull then .waits (prev.getD .crossing) s
  else match s.takeHere cluster k p prev with
    | .taken s => .taken (xs.foldl (fun s x => s.xPut x (16 + p.tlp.bytes)) s)
    | .waits w s => .waits w s

/-- Credit units of a packet: its bytes, header included, in 64-byte units (R209). -/
def creditUnits (p : Pkt) : Nat := ceilDiv (16 + p.tlp.bytes) 64

/-- Place of the chip's own packets in the receive FIFOs: they come from no port. -/
def ownPort : Nat := 512

/-- Some meter holds back the credits of a port and type (R161). -/
def State.holdsCredit (s : State) (port : Nat) (u : Sub) : Bool :=
  s.meters.any fun m => m.2.holds.contains (port, u)

/-- A received packet's credit goes back: to the channel's returned count on a fabric port (R209);
on a host or device port to the link partner, or to the credits held back (R161). A later copy brings none. -/
def State.creditBack (s : State) (port : Nat) (p : Pkt) : State :=
  if 512 ≤ port ∨ p.copy then s
  else if s.get .PORT_ROLE port = 3 then
    s.put .VC_RETURNED (port * 8 + p.cls)
      ((s.get .VC_RETURNED (port * 8 + p.cls) + creditUnits p) % 2 ^ 21)
  else
    let u := p.tlp.sub
    if s.holdsCredit port u then { s with withheld := s.withheld.updD 0 (port * 4 + u.code) (· + 1) }
    else s.emit (.credit port u 1)

/-- An item put at the tail of its cluster's receive FIFO. -/
def State.rxPut (s : State) (i : RxItem) : State :=
  { s with rx := s.rx.updD [] (clusterOf i.port) (· ++ [i]) }

/-- A packet stands behind an item that waits: of its port, or on a fabric port of its channel (R133,
R208). -/
def State.behind (s : State) (port cls : Nat) : Bool :=
  (s.rx.getD [] (clusterOf port)).any fun i =>
    i.port = port && (s.get .PORT_ROLE port ≠ 3 || i.pkt.cls = cls)

/-- A packet received at a port goes to the queue of a key, and its credit goes back, or it waits
in the receive FIFO. -/
def State.enqueue (s : State) (port k : Nat) (p : Pkt) (prev : Option Wait := none) : State :=
  let c := clusterOf port
  if s.behind port p.cls then s.rxPut { port := port, pkt := p, why := prev.getD .behind }
  else
    match s.takeIn c k p prev with
    | .taken s => s.creditBack port p
    | .waits w s => s.rxPut { port := port, pkt := p, why := w }

/-! ## Heads and dequeue (R134 to R136) -/

/-- The cells of the TLP at the head of a list: up to and with its last cell. -/
def headTlp : List Cel → List Cel
  | [] => []
  | c :: cs => if c.last then [c] else c :: headTlp cs

/-- The packet at the head of a sub-list and whether it is on chip whole. -/
def SubQ.headPkt (l : SubQ) : Option (Pkt × Nat × Bool) :=
  match l.head with
  | c :: _ => c.pkt.map fun p => (p, c.stamp, (headTlp l.head).any (·.last))
  | [] =>
    match l.seg with
    | b :: _ => (b.cells.head?.bind fun c => c.pkt.map fun p => (p, c.stamp, false))
    | [] => (l.stage.head?.bind fun c => c.pkt.map fun p => (p, c.stamp, false))

/-- The sub-list heads of a queue, oldest stamp first (R136). -/
def Queue.heads (q : Queue) : List (Sub × Pkt × Nat × Bool) :=
  let h := [Sub.posted, .nonPosted, .completion].filterMap fun u =>
    ((q.sub u).headPkt).map fun x => (u, x.1, x.2.1, x.2.2)
  h.mergeSort fun a b => decide ((b.2.2.1 + 2 ^ 32 - a.2.2.1) % 2 ^ 32 < 2 ^ 31)

/-- may_pass of R136: head y over the blocked head of sub-list x. -/
def mayPass (q : Queue) (y : Sub) (p : Pkt) (x : Sub) : Bool :=
  let l := q.sub x
  let same := l.sameValid && l.sameGfid != p.src
  match y, x with
  | .posted, _ => true
  | .nonPosted, .completion => false
  | .completion, .nonPosted => true
  | .nonPosted, _ => p.tlp.ido && same
  | .completion, _ => p.tlp.ro || (p.tlp.ido && same)

/-- The loop of R136: the head that may leave, given which heads can be sent. -/
def dequeueLoop (q : Queue) (sendable : Pkt → Bool) :
    List (Sub × Pkt × Nat × Bool) → List Sub → Option (Sub × Pkt)
  | [], _ => none
  | (u, p, _, onChip) :: hs, blocked =>
    if !onChip then none
    else if blocked.any (fun x => !mayPass q u p x) then none
    else if sendable p then some (u, p)
    else dequeueLoop q sendable hs (blocked ++ [u])

/-- The TLP at the head of a sub-list leaves the queue: its cells are freed. -/
def State.popHead (s : State) (k : Nat) (u : Sub) : State :=
  match s.queues.find k with
  | none => s
  | some q =>
    let q := q.noteClock s.clockNow
    let l := q.sub u
    let t := headTlp l.head
    let l := { l with head := l.head.drop t.length }.tidy
    let s := { s with queues := s.queues.set k { (q.setSub l u) with usedPip := s.pip } }
    s.freeCells (t.map (·.idx))

/-! ## Spill and drain (R141 to R143) -/

/-- The open block closes and its write starts. -/
def SubQ.close (l : SubQ) : SubQ :=
  match l.seg.getLast? with
  | some b =>
    if b.state = .filling then { l with seg := l.seg.dropLast ++ [{ b with state := .writing }] }
    else l
  | none => l

/-- The first block in a state, changed. -/
def updBlock (st : BlockState) (f : Block → Block) : List Block → List Block
  | [] => []
  | b :: bs => if b.state = st then f b :: bs else b :: updBlock st f bs

/-- A queue leaves spill when every segment is empty: staging joins the head list (R143). -/
def Queue.canExit (q : Queue) : Bool :=
  q.spill && q.posted.seg.isEmpty && q.nonPosted.seg.isEmpty && q.cpl.seg.isEmpty

def SubQ.rejoin (l : SubQ) : SubQ := { l with head := l.head ++ l.stage, stage := [] }

def Queue.exit (q : Queue) : Queue :=
  { q with posted := q.posted.rejoin, nonPosted := q.nonPosted.rejoin, cpl := q.cpl.rejoin,
           spill := false }

/-- Every cell of a sub-list that the buffer holds. -/
def SubQ.bufferCells (l : SubQ) : List Nat :=
  (l.head ++ l.stage).map (·.idx) ++
    l.seg.flatMap fun b =>
      if b.state = .stored ∨ b.state = .reading then [] else b.cells.map (·.idx)

/-- Every buffer cell of a queue. -/
def Queue.bufferCells (q : Queue) : List Nat :=
  q.posted.bufferCells ++ q.nonPosted.bufferCells ++ q.cpl.bufferCells

/-- The packets of a list of cells, from their first cells. -/
def pktsOf (l : List Cel) : List Pkt := l.filterMap (·.pkt)

/-- Every packet of a queue, sub-list by sub-list. -/
def Queue.pkts (q : Queue) : List Pkt :=
  [q.posted, q.nonPosted, q.cpl].flatMap fun l =>
    pktsOf l.head ++ l.seg.flatMap (fun b => pktsOf b.cells) ++ pktsOf l.stage

/-- A queue's TLPs discarded: its cells are freed and it is empty. -/
def State.dropQueue (s : State) (k : Nat) : State :=
  match s.queues.find k with
  | none => s
  | some q =>
    let s := s.freeCells q.bufferCells
    let pip := if q.isEmpty then q.usedPip else s.pip
    let q : Queue := { q with posted := {}, nonPosted := {}, cpl := {}, spill := false, usedPip := pip }
    { s with queues := s.queues.set k q }

end Sys2Proof.Machine
end

