-- ==== Sys2Proof/Machine/Route.lean ====
section
/-! DEFINITION. Identities at the edge, decode, routes and the two checks (R83 to R105). -/

namespace Sys2Proof.Machine

open Sys2Proof

/-! ## Identities (R63, R67, R83, R84) -/

/-- GFID of the host of a partition. -/
def hostGfid (p : Nat) : Nat := 0xF000 + p

/-- GFID of chip n. -/
def chipGfid (n : Nat) : Nat := 1 + n

/-- A GFID of a host. -/
def isHostGfid (g : Nat) : Bool := 0xF000 ≤ g

/-- The partition bound to a host port of this chip (R67). -/
def State.partOfPort (s : State) (port : Nat) : Option Nat :=
  (s.rowsOf .HOST_PORT).keys.find? fun p =>
    s.get .HOST_PORT p = port ∧ s.get .HOST_NODE p = s.node

/-- The function at a routing position below a device port of this chip (4200). -/
def State.fnAt (s : State) (node port pos : Nat) : Option Nat :=
  (s.rowsOf .FN_PORT).keys.find? fun g =>
    s.get .FN_PORT g = port ∧ s.get .FN_NODE g = node ∧ s.get .FN_POSITION g = pos

/-- The functions of the device that a function belongs to: the same chip and device port. -/
def State.deviceOf (s : State) (g : Nat) : List Nat :=
  (s.rowsOf .FN_PORT).keys.filter fun x =>
    s.get .FN_PORT x = s.get .FN_PORT g ∧ s.get .FN_NODE x = s.get .FN_NODE g

/-- HELD_BY(g) includes p. -/
def State.heldBy (s : State) (g p : Nat) : Bool := s.get .HELD_BY g = p

/-- The grafts in force. -/
def State.activeGrafts (s : State) : List Nat := (s.grafts.filter (·.2.inForce)).map (·.1)

/-- What enumeration found of a function. -/
def State.fnInfo (s : State) (f : Nat) : FnInfo := s.fns.getD { pos := 0 } f

/-- The functions of a graft: its own, or the device's for KIND 0. -/
def State.graftFns (s : State) (g : Nat) : List Nat :=
  if s.get .KIND g = 0 then s.deviceOf (s.get .GFID g) else [s.get .GFID g]

/-- The active grafts of a partition. -/
def State.graftsOf (s : State) (p : Nat) : List Nat :=
  s.activeGrafts.filter fun g => s.get .PARTITION g = p

/-- The active grafts that cover a function of a device port. -/
def State.graftsOfPort (s : State) (node port : Nat) : List Nat :=
  s.activeGrafts.filter fun g =>
    (s.graftFns g).any fun f => s.get .FN_NODE f = node && s.get .FN_PORT f = port

/-- A graft covers a function: its own, or any of the device for KIND 0 (R76). -/
def State.covers (s : State) (g fn : Nat) : Bool :=
  s.get .GFID g = fn || (s.get .KIND g = 0 && (s.deviceOf (s.get .GFID g)).contains fn)

/-- The graft in force of a function in a partition. -/
def State.graftOf (s : State) (p fn : Nat) : Option Nat :=
  s.activeGrafts.find? fun g => s.get .PARTITION g = p && s.covers g fn

/-- Function number of a function on its bridge's bus (R84): VFUNC, or its own for KIND 0. -/
def State.fnNumber (s : State) (g fn : Nat) : Nat :=
  if s.get .KIND g = 0 then s.get .FN_POSITION fn % 256 else s.get .VFUNC g

/-- A virtual downstream bridge. -/
def State.bridge (s : State) (p k : Nat) : Bridge := s.bridges.getD {} (p * 256 + k)

def State.updBridge (s : State) (p k : Nat) (f : Bridge → Bridge) : State :=
  { s with bridges := s.bridges.updD {} (p * 256 + k) f }

def State.updUp (s : State) (p : Nat) (f : UpBridge → UpBridge) : State :=
  { s with ups := s.ups.updD {} p f }

/-- ID of the management function as peers' traffic shows it (R84): secondary bus of the
virtual upstream bridge, device 0, function 1. -/
def State.mfId (s : State) (p : Nat) : Nat := (s.ups.getD {} p).secBus * 256 + 1

/-- The ID of a function as the host of its partition sees it (R84). -/
def State.hostSees (s : State) (p fn : Nat) : Option Nat :=
  (s.graftOf p fn).map fun g => (s.bridge p (s.get .VDSB g)).secBus * 256 + s.fnNumber g fn

/-- The Requester ID presented where a request of source `src` of partition p is delivered
(R84): 0 on a device port. DESIGN CHOICE (log 75): a function that reaches its own host through a peer window
of its own partition is shown under its own ID, the second row of the table before the third. -/
def State.presentedId (s : State) (port p src : Nat) : Nat :=
  match s.partOfPort port with
  | none => 0
  | some q =>
    if p = q ∧ !isChipGfid src then (s.hostSees q src).getD (s.mfId q) else s.mfId q

/-- Identity of a completer on its port, as a completion names it (R111). -/
def State.completerId (s : State) (g : Nat) : Nat :=
  if isHostGfid g then Config.hostCplId (g - 0xF000) else s.get .FN_POSITION g

/-! ## Other chips -/

/-- An object of a port of any chip of the orchard. -/
def State.orchGet (s : State) (o : Obj) (node row : Nat) : Nat :=
  if node = s.node then s.get o row else Config.remote node o.ctorIdx row

/-- Plane of a chip (R54): 0 A, 1 B, 2 both. -/
def State.planeOf (s : State) (n : Nat) : Nat :=
  if n = s.node then s.get .PLANE
  else match s.members.find n with
    | some m => if m.heard then m.plane else s.orchGet .PLANE n 0
    | none => s.orchGet .PLANE n 0

/-! ## Routes (R87, R88) -/

/-- Node that delivers to a GFID (R87). -/
def State.locNode (s : State) (g : Nat) : Nat :=
  if isChipGfid g then g - 1 else s.get .LOC_NODE g

/-- Where a packet goes from this chip: the TARGET field of R131, or none where the node has no
valid route (R93) or the GFID no locator row. -/
def State.targetOf (s : State) (dest : Nat) : Option Nat :=
  let n := s.locNode dest
  if n = s.node then
    if isChipGfid dest then none
    else if s.get .LOC_PORT dest < 512 then some (s.get .LOC_PORT dest) else none
  else if n < 32 ∧ s.get .ROUTE_VALID n = 1 then some (512 + n)
  else none

/-- SOURCE field of R131. -/
def pktSource (p : Pkt) : Nat := if p.internal then 4096 else p.part

/-- ROUTE of a packet that leaves on a fabric port (R88, R89): a twin copy's own at its ingress chip,
that of the chip's plane on a core chip, ordinary on an edge chip that it crosses. -/
def State.routeField (s : State) (p : Pkt) : Nat :=
  if p.twin = 0 then 0
  else if s.get .PORT_ROLE p.inPort ≠ 3 then p.twin
  else if s.get .PLANE < 2 then s.get .PLANE + 1 else 0

/-- Key of R131 for a packet on this chip, where it can be routed. -/
def State.keyOf (s : State) (p : Pkt) : Option Nat :=
  (s.targetOf p.dest).map fun t => fqKey (pktSource p) t (if 512 ≤ t then s.routeField p else 0) p.cls

/-- A packet is for this chip itself: its destination is the chip's own GFID (R63). -/
def State.toSelf (s : State) (p : Pkt) : Bool := p.dest = chipGfid s.node

/-- Number of an order stream (R122): source partition, class, ingress node, delivering node. -/
def streamNum (part cls src dst : Nat) : Nat := ((part * 8 + cls) * 32 + src) * 32 + dst

/-- The node that a queue leads to has no valid route (R93). -/
def State.routeLost (s : State) (k : Nat) : Bool :=
  512 ≤ keyTarget k && s.get .ROUTE_VALID (keyTarget k - 512) = 0

/-- The node that a queue leads to has lost its port and has no alternate: its traffic waits (R91). -/
def State.portless (s : State) (k : Nat) : Bool :=
  512 ≤ keyTarget k && keyRoute k = 0 && s.get .ACTIVE_PORT (keyTarget k - 512) = 0xFFFF

/-- Port that serves a queue: while its node has no valid route it stays where it was (R93). -/
def State.portFor (s : State) (k : Nat) (q : Queue) : Nat :=
  if s.routeLost k then q.port else s.portOfKey k

/-- A queue of twin copies that crosses this chip off its plane takes PRIMARY_PORT alone (R88, R89). -/
def State.twinStray (s : State) (k : Nat) (p : Pkt) : Bool :=
  p.twin ≠ 0 && keyRoute k = 0 && 512 ≤ keyTarget k &&
    s.get .ACTIVE_PORT (keyTarget k - 512) ≠ s.get .PRIMARY_PORT (keyTarget k - 512)

/-! ## Decode (R94 to R101, R104) -/

/-- A range of 2^k from base holds an address. -/
def inRange (base k a : Nat) : Bool := base ≤ a && a < base + 2 ^ k

/-- Row w of partition p is a window in force: its access bits name an access and a user, and
no epoch has made it void (R99, R101). -/
def accessIsWindow (a : Nat) : Bool := a % 8 ≠ 0 && a / 8 % 4 ≠ 0

def State.windowOn (s : State) (key : Nat) : Bool :=
  accessIsWindow (s.get .PW_ACCESS key) && !s.voids.contains key

/-- The window of a partition that an address meets for a user bit (3 host, 4 functions). -/
def State.windowAt (s : State) (p user a : Nat) : Option Nat :=
  (s.rowsOf .PW_ACCESS).keys.find? fun k =>
    k / 256 = p && s.windowOn k && bit (s.get .PW_ACCESS k) user &&
      inRange (s.get .PW_BASE k) (s.get .PW_SIZE_LOG2 k) a

/-- The access bit that a TLP needs (5200.05). -/
def accessBit (k : TlpKind) : Nat :=
  match k with
  | .memRead => 0
  | .memWrite => 1
  | _ => 2

/-- The active aperture of a partition that an address meets (R95). -/
def State.apertureAt (s : State) (p a : Nat) : Option Nat :=
  (s.rowsOf .AP_STATE).keys.find? fun k =>
    s.get .AP_STATE k = 1 && s.get .AP_PARTITION k = p &&
      inRange (s.get .AP_BASE k) (s.get .AP_SIZE_LOG2 k) a

/-- What decode finds: the destinations, each with its orchard address and whether a window was
used, or a refusal. -/
abbrev Decoded := Option (List (Nat × Nat × Bool))

/-- The window's destinations: one, or one for each member of its group (R99, R104). -/
def State.windowDests (s : State) (k : Nat) (t : Tlp) : Decoded :=
  if !bit (s.get .PW_ACCESS k) (accessBit t.kind) then none
  else
    let off := t.addr - s.get .PW_BASE k
    if s.get .PW_KIND k = 0 then
      some [(s.get .PW_TARGET k, s.get .PW_OFFSET k + off, true)]
    else
      let g := s.get .PW_TARGET k
      some ((List.range (s.get .MC_MEMBERS g)).map fun m =>
        (s.get .MC_TARGET (g * 32 + m), s.get .MC_OFFSET (g * 32 + m) + off, true))

/-- The bridge of a partition whose secondary bus, or else whose subordinate range, holds a bus
number; a bridge to which the host gave no bus carries no traffic (R68, R94). -/
def State.bridgeOfBus (s : State) (p bus : Nat) : Option (Nat × Bool) :=
  let l := (List.range (s.get .VDSB_COUNT p)).filter fun k => (s.bridge p k).secBus ≠ 0
  match l.find? fun k => (s.bridge p k).secBus = bus with
  | some k => some (k, true)
  | none =>
    (l.find? fun k => (s.bridge p k).secBus < bus ∧ bus ≤ (s.bridge p k).subBus).map (·, false)

/-- Orchard-internal ID of what an ID below a bridge's secondary bus names: the KIND 0 graft's buses run on
from the function's own (R94). -/
def State.innerId (s : State) (p k f rid : Nat) : Nat :=
  (s.get .FN_POSITION f / 256 + rid / 256 - (s.bridge p k).secBus) * 256 + rid % 256

/-- The function that an ID names below a partition's bridges (R94). -/
def State.fnOfId (s : State) (p rid : Nat) : Option Nat :=
  match s.bridgeOfBus p (rid / 256) with
  | none => none
  | some (k, direct) =>
    let gs := s.activeGrafts.filter fun g => s.get .PARTITION g = p && s.get .VDSB g = k
    if direct then
      gs.findSome? fun g =>
        if s.get .KIND g = 0 then
          (s.deviceOf (s.get .GFID g)).find? fun f => s.get .FN_POSITION f % 256 = rid % 256
        else if s.get .VFUNC g = rid % 256 then some (s.get .GFID g) else none
    else (gs.find? fun g => s.get .KIND g = 0).map fun g =>
      let f := s.get .GFID g
      (s.fnAt (s.get .FN_NODE f) (s.get .FN_PORT f) (s.innerId p k f rid)).getD f

/-- The ID below the device port that a request routed by ID carries on to function f (R71, R94). -/
def State.forwardId (s : State) (p f rid : Nat) : Nat :=
  match s.bridgeOfBus p (rid / 256), s.graftOf p f with
  | some (k, false), some g => s.innerId p k (s.get .GFID g) rid
  | _, _ => s.get .FN_POSITION f

/-- Element of the hierarchy that an ID of the upstream bridge's two buses names: 0 upstream bridge, 1
management function, 2 + k bridge k; none where nothing is there (R68, R71). -/
def State.elemOfId (s : State) (p rid : Nat) : Option Nat :=
  let sec := (s.ups.getD {} p).secBus
  if sec ≠ 0 ∧ rid / 256 = sec then
    if rid % 256 < s.get .VDSB_COUNT p then some (2 + rid % 256) else none
  else if rid % 256 < 2 then some (rid % 256) else none

/-- An ID goes below a bridge of a partition. -/
def State.idBelow (s : State) (p rid : Nat) : Bool :=
  let up := s.ups.getD {} p
  up.secBus ≠ 0 && decide (up.secBus < rid / 256) && decide (rid / 256 ≤ up.subBus)

/-- The bridge blocks traffic between host and functions: slot powered off or link disabled by
the host (R79), or DPC triggered (R274). -/
def Bridge.blocks (b : Bridge) : Bool := b.powerOff || b.linkDis || b.dpcTrig

/-- The bridge of a graft in a partition, where the function has one. -/
def State.bridgeOfFn (s : State) (p fn : Nat) : Option Nat :=
  (s.graftOf p fn).map fun g => s.get .VDSB g

/-- Traffic between the host of p and a function is cut by its bridge (R79). -/
def State.bridgeCut (s : State) (p fn : Nat) : Bool :=
  match s.bridgeOfFn p fn with
  | some k => (s.bridge p k).blocks
  | none => false

/-- An aperture that R98 keeps from being activated covers an address: the host's accesses there are refused. -/
def State.apertureBarred (s : State) (p a : Nat) : Bool :=
  (s.rowsOf .AP_STATE).keys.any fun k =>
    s.get .AP_STATE k = 2 && s.get .AP_PARTITION k = p && inRange (s.get .AP_BASE k) (s.get .AP_SIZE_LOG2 k) a

/-- Decode of a message routed by ID (R94): as a configuration request to the same ID. DESIGN CHOICE (log 85): one
of a function whose ID lies on no bus of the partition's hierarchy below its upstream bridge goes to the host. -/
def State.decodeMsg (s : State) (p : Nat) (fromFn : Bool) (t : Tlp) : Decoded :=
  let u := s.ups.getD {} p
  if s.idBelow p t.target then (s.fnOfId p t.target).map fun f => [(f, t.addr, false)]
  else if fromFn ∧ (u.secBus = 0 ∨ t.target / 256 ≠ u.secBus) then some [(hostGfid p, t.addr, false)]
  else (s.elemOfId p t.target).map fun _ => [(chipGfid s.node, t.addr, false)]

/-- Decode of a request from the host of partition p (R94, R98). -/
def State.decodeHost (s : State) (p : Nat) (t : Tlp) : Decoded :=
  match t.kind with
  | .ioReq => none
  | .cfgRead => (s.fnOfId p t.target).map fun f => [(f, t.addr, false)]
  | .cfgWrite => (s.fnOfId p t.target).map fun f => [(f, t.addr, false)]
  | .msgId => s.decodeMsg p false t
  | .msgRoot => none
  | .msgBroadcast =>
    some ((nub (((s.graftsOf p).flatMap s.graftFns).filter fun f => s.get .PRESENT f = 1)).map fun f =>
      (f, t.addr, false))
  | .cpl => none
  | _ =>
    match s.apertureAt p t.addr with
    | some a => some [(s.get .AP_TARGET a, s.get .AP_OFFSET a + (t.addr - s.get .AP_BASE a), false)]
    | none =>
      if s.apertureBarred p t.addr then none
      else match s.windowAt p 3 t.addr with
        | some k => s.windowDests k t
        | none => none

/-- Decode of a request from a function that partition p holds (R94). -/
def State.decodeFn (s : State) (p : Nat) (t : Tlp) : Decoded :=
  match t.kind with
  | .memRead | .memWrite | .atomic =>
    match s.windowAt p 4 t.addr with
    | some k => s.windowDests k t
    | none => some [(hostGfid p, t.addr, false)]
  | .msgRoot => some [(hostGfid p, t.addr, false)]
  | .msgId => s.decodeMsg p true t
  | _ => none

/-! ## The checks (R102, R103) -/

/-- The egress check of R102 for a request of partition p toward d. -/
def State.egressOk (s : State) (p d : Nat) : Bool :=
  d = hostGfid p || s.heldBy d p || isChipGfid d || s.grantPairs.contains (p, d)

/-- Grant pairs derived from the windows in force for the targets this chip delivers to
(R101). -/
def State.derivePairs (s : State) : List (Nat × Nat) :=
  let ks := (s.rowsOf .PW_ACCESS).keys.filter s.windowOn
  let pairs := ks.flatMap fun k =>
    if s.get .PW_KIND k = 0 then [(k / 256, s.get .PW_TARGET k)]
    else (List.range (s.get .MC_MEMBERS (s.get .PW_TARGET k))).map fun m =>
      (k / 256, s.get .MC_TARGET (s.get .PW_TARGET k * 32 + m))
  nubP (pairs.filter fun x => s.locNode x.2 = s.node)

/-- A target is owned by a grantor, which is a partition (R99). -/
def State.owned (s : State) (target grantor : Nat) : Bool :=
  grantor < 4096 && (target = hostGfid grantor || s.heldBy target grantor)

/-- First 16 bytes of a TLP in flit-mode form. -/
def hdr16 (t : Tlp) : Nat := t.header / 2 ^ 128

/-- An error record of a packet (R299). -/
def pktErr (code kind idx : Nat) (p : Pkt) : Err :=
  { code := code, kind := kind, idx := idx,
    part := if p.internal then none else some p.part, src := p.src, dst := p.dest,
    header := hdr16 p.tlp, detail := p.tlp.addr }

/-! ## Classes (R130) -/

/-- A row of 6020 matches a TLP of a partition. -/
def State.classRule (s : State) (r part : Nat) (t : Tlp) : Bool :=
  let k := s.get .CR_ADDR_SIZE_LOG2 r
  s.get .CR_VALID r = 1 && (s.get .CR_PARTITION r = part || s.get .CR_PARTITION r = 0xFFFF) &&
    bit (s.get .CR_TC_MASK r) t.tc && bit (s.get .CR_TYPE_MASK r) t.sub.code &&
    (k = 0 || (hasAddr t.kind && inRange (s.get .CR_ADDR_BASE r) k t.addr))

/-- Steps 3 and 4 of R130. -/
def State.classify (s : State) (part : Nat) (t : Tlp) : Nat :=
  match (s.rowsOf .CR_VALID).keys.find? fun r => s.classRule r part t with
  | some r => s.get .CR_CLASS r
  | none => s.get .TC_CLASS_MAP part / 16 ^ t.tc % 16

/-- Steps 2 to 4 of R130 for a TLP between two GFIDs. -/
def State.classOf (s : State) (src dest part : Nat) (t : Tlp) : Nat :=
  if isChipGfid src ∧ isChipGfid dest then 5 else s.classify part t

/-! ## Unsupported Requests (R118, R119) -/

/-- Completer ID of a generated Unsupported Request (R119) as a host port delivers it: the virtual downstream
bridge that holds the target, or the upstream bridge. The request's target stands in its address, as a GFID
where decode found one, and in its target as an ID. -/
def State.urCompleter (s : State) (p : Pkt) : Nat :=
  let u := s.ups.getD {} p.part
  let at_ := if p.tlp.addr = 0 then (s.bridgeOfBus p.part (p.tlp.target / 256)).map (·.1)
             else s.bridgeOfFn p.part p.tlp.addr
  match at_ with
  | some k => u.secBus * 256 + k
  | none => u.priBus * 256

/-- The Unsupported Request completion of R119 for a request. Its source is the target where this chip
delivers to it, else the chip itself (log 28). -/
def State.urFor (s : State) (p : Pkt) : Pkt :=
  let t : Tlp := { kind := .cpl, rid := p.tlp.rid, tag := p.tlp.tag, tc := p.tlp.tc, status := 1, byteCount := 4,
                   lower := 0, hdr := 16, addr := p.dest, target := p.tlp.target }
  let src := if p.dest ≠ 0 ∧ s.locNode p.dest = s.node then p.dest else chipGfid s.node
  { dest := p.src, src := src, part := p.part, cls := s.classOf src p.src p.part t, tlp := t, ur := true }

/-- A packet put into this chip's own queues, without ingress rules: generated completions and
internal traffic. Where it has no route it is lost. -/
def State.inject (s : State) (p : Pkt) : State :=
  match s.keyOf p with
  | none => s
  | some k => s.enqueue ownPort k { p with inPort := ownPort, inTime := s.now }

/-- An Unsupported Request is answered where the partition is in forerunner mode and the request
is non-posted (R118, R119). -/
def State.forerunnerUr (s : State) (p : Pkt) : State :=
  if s.get .FORERUNNER_MODE p.part = 1 ∧ p.tlp.sub = .nonPosted ∧ !p.internal then
    (s.bump .UR_GENERATED p.part).inject (s.urFor p)
  else s

/-- A refusal of R103, at ingress or at egress: counted, recorded once per pip, answered in
forerunner mode. DESIGN CHOICE (log 75): the first refusal of each code, at ingress and at egress apart, counts
as the pip's first. Orchard-internal traffic has no source partition and only goes. -/
def State.refuseTlp (s : State) (egress : Bool) (p : Pkt) : State :=
  if p.internal then s
  else
  let o := if egress then Obj.EGRESS_REFUSALS else .INGRESS_REFUSALS
  let s := s.bump o p.part
  let s := if egress then s else s.countPort p.inPort 0x15 1 p
  let code := if egress then 0x1002 else 0x1001
  let s := if s.firstInPip code p.part then s.raise (pktErr code 5 p.part p) else s
  (s.noteInPip code p.part).forerunnerUr p

/-! ## Husks and discards (R304) -/

/-- Row of 9100 of a partition. -/
def partRow (p : Nat) : Nat := 0x1000 + p

/-- A row of 9100 is husked: state 1 or 2. -/
def State.husked (s : State) (row : Nat) : Bool := s.get .HUSK_STATE row ≠ 0

/-- A TLP discarded by a husk is counted, and a non-posted request toward the husked port, or of the husked
partition, is answered in forerunner mode (R118, R304, R308). -/
def State.huskDiscard (s : State) (row : Nat) (p : Pkt) (answer : Bool) : State :=
  let s := s.bump .HUSK_DISCARDS row
  if answer then s.forerunnerUr p else s

end Sys2Proof.Machine
end

