-- ==== Sys2Proof/Machine/Tags.lean ====
section
/-! DEFINITION. The tag table and the order streams as shared operations (R107 to R124). -/

namespace Sys2Proof.Machine

open Sys2Proof

/-- The live entries of a partition; with `q` the quarantined ones (5500.03, .04). -/
def State.tagCount (s : State) (p : Nat) (q : Bool) : Nat :=
  (s.tags.filter fun e => e.2.part = p && e.2.quarantined = q).length

/-- Tag size toward the completer of a request (R85): 0 8-bit, 1 10-bit, 2 14-bit. -/
def State.tagSizeFor (s : State) (dest port : Nat) : Nat :=
  if isHostGfid dest then Config.hostTagSize port % 3 else (s.fns.getD { pos := 0 } dest).tagSize

/-- Tag values of each size: first value and how many (PCI Express Base 6.2; log 14). -/
def tagSpan (size : Nat) : Nat × Nat :=
  if size = 0 then (0, 256) else if size = 1 then (256, 768) else (1024, 15360)

/-- Tag numbers in use on an egress port, rising. -/
def State.tagsInUse (s : State) (port : Nat) : List Nat :=
  ((s.tags.filter fun e => e.2.port = port).map (·.2.tag)).mergeSort (· ≤ ·)

/-- The tag that R109 takes on a port: a value never freed is free longest, the lowest of them
first; otherwise the one freed earliest, the lowest on a tie. -/
def State.chooseTag (s : State) (port size : Nat) : Option Nat :=
  let (lo, n) := tagSpan size
  let used := (s.tagsInUse port).filter fun t => lo ≤ t ∧ t < lo + n
  let freed : List (Nat × Time) := (s.tagFree.filter fun (f : Nat × Time) =>
    f.1 / 16384 = port && lo ≤ f.1 % 16384 && f.1 % 16384 < lo + n && !used.contains (f.1 % 16384))
  let touched := (used ++ freed.map fun (f : Nat × Time) => f.1 % 16384).mergeSort (· ≤ ·)
  if touched.length < n then some (nthFree touched lo 0)
  else
    (freed.foldl (fun (best : Option (Nat × Time)) (f : Nat × Time) =>
      match best with
      | none => some f
      | some b => if f.2 < b.2 then some f else some b) none).map fun (f : Nat × Time) => f.1 % 16384

/-- A request may take an entry (R108, R109): quota, a free entry and a free tag value. -/
def State.tagReady (s : State) (port : Nat) (p : Pkt) : Bool :=
  decide (s.tagCount p.part false + s.tagCount p.part true < s.get .TAG_QUOTA p.part) &&
    decide (s.tags.length < 262144) && (s.chooseTag port (s.tagSizeFor p.dest port)).isSome

/-- Bytes that a request's completions return: a read's length, 4 for a read of configuration
or an atomic's operand, 0 for what one completion answers with no data. -/
def expectedBytes (t : Tlp) : Nat :=
  match t.kind with
  | .memRead => t.byteCount
  | .atomic => t.byteCount
  | .cfgRead => 4
  | _ => 0

/-- The time of a tag-table entry: bits [55:16] of orchard time (R110). -/
def State.now40 (s : State) : Nat := s.now / 65536 % 2 ^ 40

/-- One such time lies before another: modulo 2^40, within half the space (R110). -/
def before40 (a b : Nat) : Bool :=
  let d := (b + 2 ^ 40 - a % 2 ^ 40) % 2 ^ 40
  decide (0 < d) && decide (d < 2 ^ 39)

/-- An entry taken for a request that passed the egress check (R107, R109, R110): which entry
number is a free choice. The request as it leaves carries the new tag. Only the completions of a read of
memory carry a Lower Address other than 0 (log 28). -/
def State.takeTag (s : State) (port : Nat) (p : Pkt) : Option (Nat × State) :=
  let size := s.tagSizeFor p.dest port
  match s.chooseTag port size with
  | none => none
  | some tag =>
    let (n, s) := s.pickFree s.tags.keys 0 262144
    let T := 1000 * s.get .CPL_TIMEOUT p.part
    let t := s.now40
    let e : TagEntry :=
      { tag := tag, port := port, part := p.part, reqG := p.src, cplG := p.dest,
        rid := p.tlp.rid, origTag := p.tlp.tag, remaining := expectedBytes p.tlp,
        lower := if p.tlp.kind = .memRead then p.orchAddr % 128 else 0, tc := p.tlp.tc, ido := p.tlp.ido, ro := p.tlp.ro,
        nosnoop := p.tlp.nosnoop, size := size,
        cfgReg := if p.tlp.kind = .cfgRead then some p.tlp.addr else none,
        issued := t, deadline := (t + T) % 2 ^ 40, qend := (t + 3 * T) % 2 ^ 40 }
    let s := s.countPort port 0x40 1 p
    some (tag, { s with tags := s.tags.set n e, tagFree := s.tagFree.erase (port * 16384 + tag) })

/-- An entry freed; its tag value is free from now. Queues parked on the port are unparked
(R151). -/
def State.freeTag (s : State) (n : Nat) : State :=
  match s.tags.find n with
  | none => s
  | some e =>
    { s with tags := s.tags.erase n, tagFree := s.tagFree.set (e.port * 16384 + e.tag) s.now }

/-- An entry moved to quarantine. -/
def State.quarantine (s : State) (n : Nat) : State :=
  match s.tags.find n with
  | none => s
  | some e => { s with tags := s.tags.set n { e with quarantined := true } }

/-- Live entries moved to quarantine early: DEADLINE is now and QUARANTINE_END now + 2 × T
(R116). -/
def State.quarantineEarly (s : State) (f : TagEntry → Bool) : State :=
  { s with tags := s.tags.map fun x =>
      if !x.2.quarantined && f x.2 then
        (x.1, { x.2 with quarantined := true, deadline := s.now40,
                         qend := (s.now40 + 2 * ((x.2.deadline + 2 ^ 40 - x.2.issued) % 2 ^ 40)) % 2 ^ 40 })
      else x }

/-- The entry of an egress port and tag. -/
def State.tagLookup (s : State) (port tag : Nat) : Option (Nat × TagEntry) :=
  s.tags.find? fun x => x.2.port = port && x.2.tag = tag

/-- Identity that a completion must carry as Requester ID (R111). -/
def State.cplRid (s : State) (e : TagEntry) : Nat := s.presentedId e.port e.part e.reqG

/-- The fields of a completion agree with its entry (R111). -/
def State.cplAgrees (s : State) (e : TagEntry) (t : Tlp) : Bool :=
  t.rid = s.cplRid e && t.cplId = s.completerId e.cplG && t.lower = e.lower

/-- What R111 finds. -/
inductive Lookup where
  | deliver (n : Nat) (e : TagEntry)
  | disagree (e : TagEntry)
  | late (n : Nat) (e : TagEntry)
  | dead (e : TagEntry)
  | noEntry
  deriving DecidableEq, Repr

def State.lookupCpl (s : State) (port : Nat) (t : Tlp) : Lookup :=
  match s.tagLookup port t.tag with
  | none => .noEntry
  | some (n, e) =>
    if e.quarantined then .dead e
    else if before40 s.now40 e.deadline then (if s.cplAgrees e t then .deliver n e else .disagree e)
    else .late n e

/-- An Unexpected Completion discarded (R112): counted against a partition or the chip, and
recorded once per pip. -/
def State.unexpectedCpl (s : State) (port : Nat) (e : Option TagEntry) (t : Tlp) : State :=
  let p := match e with
    | some e => some e.part
    | none =>
      match s.partOfPort port with
      | some p => some p
      | none => (s.fnAt s.node port t.cplId).bind fun g =>
          if s.get .HELD_BY g < 4096 then some (s.get .HELD_BY g) else none
  let from_ := ((s.partOfPort port).map hostGfid).or (s.fnAt s.node port t.cplId)
  let src := ((e.map (·.cplG)).or from_).getD 0
  let s := s.countPort port 0x42 1 { src := src, part := p.getD 0, tlp := t }
  match p with
  | some p =>
    let s := s.bump .UNEXPECTED_CPLS p
    let s := if s.firstInPip 0x1003 p then
        s.raise { code := 0x1003, kind := 5, idx := p, part := some p, src := src, header := hdr16 t }
      else s
    s.noteInPip 0x1003 p
  | none =>
    let s := s.bump .UNOWNED_CPLS
    let s := if s.firstInPip 0x1003 4096 then
        s.raise { code := 0x1003, kind := 0, idx := 0, src := src, header := hdr16 t } else s
    s.noteInPip 0x1003 4096

/-! ## Storms (R117) -/

/-- The storm trigger of a port (R117). -/
def State.stormAt (s : State) (port : Nat) : State :=
  let n := s.storm.getD 0 port
  let l := s.get .TO_STORM_LIMIT
  if l = 0 ∨ n < l then s else s.raise { code := 0x2005, kind := 2, idx := port, detail := n }

/-- One more entry whose DEADLINE passed on a port in this pip (R117). -/
def State.stormCount (s : State) (port : Nat) : State :=
  let c := s.storm.getD 0 port + 1
  let s := { s with storm := s.storm.putD 0 port c }
  if c = s.get .TO_STORM_LIMIT then s.stormAt port else s

/-- A live entry whose DEADLINE has passed goes to quarantine, counted (R111, R113, R117). -/
def State.deadlinePassed (s : State) (n : Nat) (e : TagEntry) : State :=
  let p : Pkt := { part := e.part, src := e.reqG, dest := e.cplG, tlp := { kind := .memRead, tc := e.tc } }
  ((((s.bump .CPL_TIMEOUTS e.part).countPort e.port 0x41 1 p).quarantine n).stormCount e.port)

/-! ## Registers that a host sees otherwise than the device holds them (R74) -/

/-- The device of a function holds grafts in more than one partition. -/
def State.sharedDevice (s : State) (p f : Nat) : Bool :=
  (s.graftsOfPort (s.get .FN_NODE f) (s.get .FN_PORT f)).any fun x => s.get .PARTITION x ≠ p

/-- Another partition holds virtual functions of a physical function (last row of R74). -/
def State.vfsElsewhere (s : State) (p f : Nat) : Bool :=
  (s.rowsOf .PARENT_PF).keys.any fun v =>
    s.get .PARENT_PF v = f && s.get .HELD_BY v < 4096 && s.get .HELD_BY v ≠ p

/-- Bits [hi:lo] of a number replaced. -/
def withBits (v hi lo x : Nat) : Nat := v - bitsOf v hi lo * 2 ^ lo + x % 2 ^ (hi + 1 - lo) * 2 ^ lo

/-- What a host's read of a dword of a grafted function returns where the device answers v (R74). -/
def State.virtualWord (s : State) (p f reg v : Nat) : Nat :=
  match s.graftOf p f with
  | none => v
  | some g =>
    let i := s.fnInfo f
    let h := s.grafts.getD {} g
    let off := reg / 4 * 4
    if off = i.pcieCap + 8 then
      let v := withBits v 7 5 h.mps
      if s.vfsElsewhere p f then withBits v 15 15 0 else v
    else if s.get .FN_KIND f = 1 ∧ off = i.sriovCap + 8 then withBits v 0 0 (b2n (s.get .SRIOV_NUMVFS f ≠ 0))
    else if s.get .FN_KIND f = 1 ∧ off = i.sriovCap + 16 then withBits v 15 0 (s.get .SRIOV_NUMVFS f)
    else if !s.sharedDevice p f then v
    else if off = i.aerCap + 8 then h.aerMask
    else if off = i.aerCap + 12 then h.aerSev
    else if off = i.aerCap + 20 then h.aerCorMask
    else v

/-- The value of a completion as the host gets it: a configuration read's is virtualised (R74). -/
def State.cplValue (s : State) (e : TagEntry) (t : Tlp) : Nat :=
  match e.cfgReg with
  | some r => if t.status = 0 then s.virtualWord e.part e.cplG r t.value else t.value
  | none => t.value

/-! ## Completions that are withheld (R96) -/

/-- A completion that answers a BAR write whose aperture is not active yet. -/
def State.awaited (s : State) (p : Pkt) (x : ApPend) : Bool :=
  p.tlp.kind = .cpl && p.dest = hostGfid (s.get .PARTITION x.graft) && p.src = x.gfid && p.tlp.rid = x.rid &&
    p.tlp.tag = x.tag && x.cpl.isNone

/-- A completion reaches the host's chip: one that R96 withholds waits there, any other goes on to its queue. -/
def State.cplOn (s : State) (port k : Nat) (p : Pkt) : State :=
  if s.apPend.any (s.awaited p) then
    { s with apPend := s.apPend.map fun (x : ApPend) => if s.awaited p x then { x with cpl := some p } else x }.creditBack
      port p
  else s.enqueue port k p

/-- A completion that is delivered (R86, R111): ID and tag restored, the entry reduced or freed,
and the packet goes to the original requester, or is refused where its node has no valid route (R93). -/
def State.deliverCpl (s : State) (port n : Nat) (e : TagEntry) (t : Tlp) (cls : Nat) : State :=
  let left := e.remaining - t.data
  let s :=
    if left = 0 ∨ t.status ≠ 0 then s.freeTag n
    else
      let e := { e with remaining := left, lower := (e.lower + t.data) % 128 }
      { s with tags := s.tags.set n e }
  let p : Pkt :=
    { dest := e.reqG, src := e.cplG, part := e.part, cls := cls,
      tlp := { t with rid := e.rid, tag := e.origTag, value := s.cplValue e t }, inPort := port, inTime := s.now }
  match s.keyOf p with
  | none => (s.refuseTlp false p).creditBack port p
  | some k => s.cplOn port k p

/-! ## Order streams (R122 to R124) -/

/-- Stream number of a packet at its delivering chip. -/
def State.streamOf (s : State) (p : Pkt) : Nat :=
  streamNum (pktSource p) (if p.internal then 0 else p.cls) (s.locNode p.src) s.node

end Sys2Proof.Machine
end

