-- ==== Sys2Proof/Machine/Sched.lean ====
section
/-! DEFINITION. Eligibility, start tags, lengths, shapers and meters as shared operations
(R148 to R163). -/

namespace Sys2Proof.Machine

open Sys2Proof

/-! ## Shapers (R155 to R157) -/

/-- Tokens of 2^-20 byte that a rate of R Mb/s has gained from the start of orchard time over a number of units,
or of 2^-20 packet for R packets per ms: R × 125,000 bytes per second, or R × 1,000 packets per second; `per` of
the units are a nanosecond (R156, R157, R159). -/
def earned (rate : Nat) (packets : Bool) (per units : Nat) : Nat :=
  rate * units * 2 ^ 20 / ((if packets then 1000000 else 8000) * per)

/-- What a shaper gains between two instants, counted in core clocks: over parts of a span as over the whole
(R156). -/
def gain (rate cls : Nat) (upto now : Time) : Nat :=
  earned rate (cls = 5) 1 (now / 65536) - earned rate (cls = 5) 1 (upto / 65536)

/-- Bucket contents at an instant (R156). -/
def refill (tokens : Int) (upto now : Time) (rate burst cls : Nat) : Int :=
  min (tokens + gain rate cls upto now) (burst * 2 ^ 20 : Nat)

/-- Tokens of a flow queue's shaper now. Buckets run on the time that has passed since cold reset, which no step of
orchard time touches (R34, R156). -/
def State.queueTokens (s : State) (k : Nat) (q : Queue) : Int :=
  refill q.tokens q.tokensAt s.age (s.get .FQS_RATE (keyRow k)) (s.get .FQS_BURST (keyRow k))
    (keyClass k)

/-- A flow queue's shaper conforms: unused at rate 0, otherwise with zero or more tokens. -/
def State.queueConforms (s : State) (k : Nat) (q : Queue) : Bool :=
  s.get .FQS_RATE (keyRow k) = 0 || 0 ≤ s.queueTokens k q

/-- The bucket of a port and class; it starts full (log 9). -/
def State.bucketOf (s : State) (e c : Nat) : Bucket :=
  s.buckets.getD { tokens := (s.get .SC_SHAPE_BURST (e * 8 + c) * 2 ^ 20 : Nat), upto := 0 }
    (e * 8 + c)

/-- Tokens of a port-and-class shaper now. -/
def State.classTokens (s : State) (e c : Nat) : Int :=
  let b := s.bucketOf e c
  refill b.tokens b.upto s.age (s.get .SC_SHAPE_RATE (e * 8 + c))
    (s.get .SC_SHAPE_BURST (e * 8 + c)) c

/-- A port-and-class shaper conforms (R148, R155). -/
def State.classConforms (s : State) (e c : Nat) : Bool :=
  6 ≤ c || s.get .SC_SHAPE_RATE (e * 8 + c) = 0 || 0 ≤ s.classTokens e c

/-- Both shapers debited by L (R156). -/
def State.debit (s : State) (e c k L : Nat) : State :=
  let u : Int := if c = 5 then (2 ^ 20 : Nat) else (L * 2 ^ 20 : Nat)
  let s :=
    if s.get .FQS_RATE (keyRow k) = 0 then s
    else s.updQ k fun q =>
      let n := s.queueTokens k q - u
      { q with tokens := n, tokensAt := s.age, held := decide (n < 0) }
  if 6 ≤ c ∨ s.get .SC_SHAPE_RATE (e * 8 + c) = 0 then s
  else { s with buckets := s.buckets.set (e * 8 + c) { tokens := s.classTokens e c - u, upto := s.age } }

/-! ## Length (R154) -/

/-- Bytes of a TLP's header in the form of a link that is not in Flit mode (PRESUMED, PCI Express Base 6.2,
log 78): three or four dwords by kind and the address with which it leaves, and its prefixes. -/
def nonFlitHeader (t : Tlp) (addr : Nat) : Nat :=
  4 * t.prefixes + match t.kind with
  | .memRead | .memWrite | .atomic => if addr < 2 ^ 32 then 12 else 16
  | .cfgRead | .cfgWrite | .ioReq | .cpl => 12
  | .msgRoot | .msgId | .msgBroadcast => 16

/-- Bytes of a TLP in the form in which it leaves a host or device port. -/
def State.leavingBytes (s : State) (e : Nat) (p : Pkt) : Nat :=
  if (s.pports.getD {} e).flit then p.tlp.bytes else nonFlitHeader p.tlp p.orchAddr + p.tlp.data

/-- Accounted length of a TLP at a port. -/
def State.lengthAt (s : State) (e c : Nat) (p : Pkt) : Nat :=
  if c = 5 then 1
  else
    let base := if s.get .PORT_ROLE e = 3 then ceilDiv (16 + p.tlp.bytes) 8 * 8
      else s.leavingBytes e p
    (max 1 ((base : Int) + toInt 16 (s.get .LEN_OVERHEAD e))).toNat

/-- Increment of a start tag (R153). -/
def tagIncrement (L w c : Nat) : Nat :=
  if c = 5 then ceilDiv (2 ^ 24) w else ceilDiv (L * 2 ^ 16) w

/-- Weight of a queue at its port (R153). -/
def State.weightOf (s : State) (e c : Nat) (q : Queue) : Nat :=
  if s.get .SC_FAIR_MODE (e * 8 + c) = 1 then s.get .SC_WEIGHT (e * 8 + c) else q.weight

/-! ## Eligibility (R148, R151, R152) -/

/-- A husk of the port or of the source partition makes the scheduler select without regard to
credits, gates or shapers (R304). -/
def State.drains (s : State) (e k : Nat) : Bool :=
  s.husked e || (keySource k < 4096 && s.husked (partRow (keySource k)))

/-- A queue is in the eligible set of its class at port e; one that woke in this core clock joins in the next
(R152). A queue that a husk drains waits for nothing (R304). -/
def State.queueEligible (s : State) (e k : Nat) (q : Queue) : Bool :=
  s.portFor k q = e && !q.isEmpty && (!q.parked || s.drains e k) && q.woke ≠ some s.clockNow &&
    (s.queueConforms k q || s.drains e k)

/-- The eligible set of (e, c) by start tag, then key (R153). -/
def State.eligibleSet (s : State) (e c : Nat) : List (Nat × Queue) :=
  let l := s.queues.filter fun x => keyClass x.1 = c && s.queueEligible e x.1 x.2
  let v := s.vtime e c
  let rel (t : Nat) : Nat := (t + 2 ^ 47 + 2 ^ 48 - v) % 2 ^ 48
  l.mergeSort fun a b => rel a.2.tag < rel b.2.tag || (rel a.2.tag = rel b.2.tag && a.1 ≤ b.1)

/-- Class c is eligible at e (R148). -/
def State.classEligible (s : State) (e c : Nat) : Bool :=
  let l := s.eligibleSet e c
  !l.isEmpty &&
    (l.any (fun x => s.drains e x.1) ||
      (bit (s.gates.getD {} e).mask c && s.classConforms e c))

/-- A queue unparked: it re-enters at least level with V (R151, R152). -/
def State.unpark (s : State) (k : Nat) : State :=
  s.updQ k fun q =>
    if q.parked then
      { q with parked := false, tag := tagMax q.tag (s.vtime (s.portFor k q) (keyClass k)) }
    else q

/-- The shapers of a port's queues that hold zero or more tokens again: their start tags join V, which nothing
has advanced since (R152). -/
def State.reshape (s : State) (e : Nat) : State :=
  { s with queues := s.queues.map fun x =>
      if x.2.held && s.portFor x.1 x.2 = e && s.queueConforms x.1 x.2 then
        (x.1, { x.2 with held := false, tag := tagMax x.2.tag (s.vtime e (keyClass x.1)) })
      else x }

/-- Every parked queue with a property is unparked. -/
def State.unparkAll (s : State) (f : Nat → Bool) : State :=
  (s.queues.keys.filter f).foldl State.unpark s

/-- Port that serves the queue of a key. -/
def State.portNow (s : State) (k : Nat) : Nat := s.portFor k ((s.queues.find k).getD { num := 0 })

/-- The queues that a port serves are unparked: a credit return or a freed tag entry (R151). -/
def State.unparkPort (s : State) (e : Nat) : State := s.unparkAll fun k => s.portNow k = e

/-- Queues whose scheduler has changed take the new port's virtual time (R131, R152). DESIGN CHOICE (log 85): a parked
queue that moves is no longer parked, since what held it was its old port's check; R151 does not say. -/
def State.moveQueues (s : State) : State :=
  { s with queues := s.queues.map fun x =>
      let e := s.portFor x.1 x.2
      if x.2.port = e then x
      else (x.1, { x.2 with port := e, tag := s.vtime e (keyClass x.1), parked := false }) }

/-! ## Core clocks (R164, R404) -/

/-- Whole core clocks until a bucket conforms again, within n (R156). -/
def clocksBelow (tokens : Int) (rate cls n : Nat) : Nat :=
  if 0 ≤ tokens then 0
  else
    let need := (-tokens).toNat
    let perMillion := if cls = 5 then rate * 2 ^ 20 else rate * 125 * 2 ^ 20
    if perMillion = 0 then n else min n (ceilDiv (need * 1000000) perMillion)

/-- Whole core clocks from now until a queue is in the eligible set of its class, within n: one that woke joins in the
next, one that its shaper holds when the refill reaches zero (R151, R152, R156). -/
def State.eligibleIn (s : State) (k : Nat) (q : Queue) (n : Nat) : Nat :=
  let shaper := if s.get .FQS_RATE (keyRow k) = 0 ∨ s.drains (s.portFor k q) k then 0
    else clocksBelow (s.queueTokens k q) (s.get .FQS_RATE (keyRow k)) (keyClass k) n
  max (if q.woke = some s.clockNow then 1 else 0) shaper

/-- The first of n clocks from now in which a queue of (e, c) is eligible; n where none is. -/
def State.firstEligible (s : State) (e c n : Nat) : Nat :=
  (s.queues.filter fun x => keyClass x.1 = c && s.portFor x.1 x.2 = e && !x.2.isEmpty &&
    (!x.2.parked || s.drains e x.1)).foldl (fun m x => min m (s.eligibleIn x.1 x.2 n)) n

/-- SC_SHAPED_CLOCKS of the shaped classes over n clocks from now: those in which the class's bucket is below zero
while it has a queue eligible (R164). -/
def State.shapedClocks (s : State) (n : Nat) : State :=
  (s.buckets.map (·.1)).foldl (fun s k =>
    let e := k / 8
    let c := k % 8
    if s.get .SC_SHAPE_RATE k = 0 then s
    else
      s.bump .SC_SHAPED_CLOCKS k
        (clocksBelow (s.classTokens e c) (s.get .SC_SHAPE_RATE k) c n - s.firstEligible e c n)) s

/-- A TLP waits at a port of a unit's cluster with its class gate closed (event 0x022). -/
def State.gateWaits (s : State) (port : Nat) : Bool :=
  s.queues.any fun x => s.portFor x.1 x.2 = port && !x.2.isEmpty &&
    !bit (s.gates.getD {} port).mask (keyClass x.1)

/-- Posted credits are withheld at a port (event 0x016, R161). -/
def State.withholds (s : State) (port : Nat) : Bool :=
  s.meters.any fun m => m.2.holds.contains (port, Sub.posted)

/-- The clock-counting events of a unit of kind C over n clocks. -/
def State.portClocks (s : State) (n : Nat) : State :=
  ((s.rowsOf .CTR_EVENT).filter fun (r : Nat × Nat) => r.2 % 1024 = 0x16 || r.2 % 1024 = 0x22).foldl
    (fun s (r : Nat × Nat) =>
      let on := fun p : Nat => if r.2 % 1024 = 0x16 then s.withholds p else s.gateWaits p
      let ports := (List.range 8).map (· + 8 * (r.1 / 8))
      let mine := ports.filter fun p => s.get .CTR_PORT r.1 = 0xFFFF || s.get .CTR_PORT r.1 = p
      if mine.any on then s.ctrAdd r.1 n else s) s

/-- What the core clocks up to an instant count (R164, R404). -/
def State.clocks (s : State) (n : Nat) : State :=
  if n = 0 then s else ((s.countClocks n).portClocks n).shapedClocks n

/-- A command happens at instant t: the clocks up to it are counted, and time goes on. -/
def State.at (s : State) (t : Time) : State :=
  (s.clocks ((s.age + (t - s.now)) / 65536 - s.age / 65536)).moveTo t

/-! ## Meters (R158 to R163) -/

/-- What a meter gains between two instants: its refill is continuous (R159). -/
def meterGain (unit rate : Nat) (upto now : Time) : Nat :=
  earned rate (unit = 1) 65536 now - earned rate (unit = 1) 65536 upto

/-- The second bucket's ceiling and the first's, in 2^-20 units. -/
def State.meterFull (s : State) (m : Nat) : Nat × Nat :=
  (s.get .M_CBS m * 2 ^ 20, s.get .M_PBS_EBS m * 2 ^ 20)

/-- A meter's buckets now: full when it is enabled, refilled since. -/
def State.meterNow (s : State) (m : Nat) : MeterH :=
  let h := s.meters.getD {} m
  let (fc, fp) := s.meterFull m
  if !h.on then { h with tc := fc, tp := fp, upto := s.age, on := true }
  else
    let u := s.get .M_UNIT m
    { h with tc := min fc (h.tc + meterGain u (s.get .M_CIR m) h.upto s.age),
             tp := min fp (h.tp + meterGain u (s.get .M_PIR_EIR m) h.upto s.age),
             upto := s.age }

/-- A meter's outcome on B units with a pre-colour (R159): colour and new buckets. -/
def meterColour (algo mode pre B : Nat) (h : MeterH) : Nat × MeterH :=
  let b := B * 2 ^ 20
  let pre := if mode = 1 then pre else 0
  if algo = 1 then
    if pre = 2 ∨ h.tp < b then (2, h)
    else if pre = 1 ∨ h.tc < b then (1, { h with tp := h.tp - b })
    else (0, { h with tp := h.tp - b, tc := h.tc - b })
  else
    if pre = 2 then (2, h)
    else if pre = 0 ∧ b ≤ h.tc then (0, { h with tc := h.tc - b })
    else if b ≤ h.tp then (1, { h with tp := h.tp - b })
    else (2, h)

end Sys2Proof.Machine
end

