-- ==== Sys2Proof/Machine/Rsv.lean ====
section
/-! DEFINITION. Reservations and gate lists as shared operations: matching, the admission
arithmetic, paths, gate waits (R165 to R184). -/

namespace Sys2Proof.Machine

open Sys2Proof

/-! ## Matching (R165) -/

/-- A reservation's row is granted: state 3, 4 or 5. -/
def State.rsvGranted (s : State) (r : Nat) : Bool :=
  3 ≤ s.get .RSV_STATE r && s.get .RSV_STATE r ≤ 5

/-- The granted reservation that a TLP matches: `one` says that it meets no multicast window. -/
def State.rsvMatch (s : State) (port : Nat) (t : Tlp) (dest : Nat) (one : Bool) : Option Nat :=
  if t.kind ≠ .memWrite ∨ !one then none
  else (s.rowsOf .RSV_STATE).keys.find? fun r =>
    s.rsvGranted r && s.get .RSV_SRC_NODE r = s.node && s.get .RSV_SRC_PORT r = port &&
      s.locNode dest = s.get .RSV_DST_NODE r && s.get .LOC_PORT dest = s.get .RSV_DST_PORT r &&
      s.get .RSV_ADDR_BASE r ≤ t.addr &&
      t.addr + t.data ≤ s.get .RSV_ADDR_BASE r + 2 ^ s.get .RSV_ADDR_SIZE_LOG2 r

/-- A field of a row as admission takes it: in force where the row is granted, else the newest accepted one. -/
def State.rsvVal (s : State) (o : Obj) (r : Nat) : Nat := if s.rsvGranted r then s.get o r else s.newest o r

/-- K_r of R175. -/
def cellsPerPip (A N : Nat) : Nat := N + ceilDiv (A + 16 * N) 256

/-! ## Paths (R88, R174, R184) -/

/-- A node may be crossed by a path: any for plane 2, core chips of one plane otherwise. -/
def State.crosses (s : State) (plane n : Nat) : Bool := plane = 2 || s.planeOf n = plane

/-- A link may lie on a path: any for plane 2, one with an end on a core chip of the plane otherwise (R89). -/
def State.suits (s : State) (plane : Nat) (k : LinkRec) : Bool := s.crosses plane k.node || s.crosses plane k.nbr

/-- The nodes at distance d or less from dst, grown d times over the topology. Only nodes that a
path of this plane may cross hand the distance on. -/
def State.reach (s : State) (plane dst : Nat) : Nat → List Nat
  | 0 => [dst]
  | d + 1 =>
    let l := s.reach plane dst d
    nub (l ++ (s.topo.filterMap fun k =>
      if l.contains k.nbr && (k.nbr = dst || s.crosses plane k.nbr) && s.suits plane k then some k.node else none))

/-- Hops from a node to dst, where there is a path of at most 31. -/
def State.hopsTo (s : State) (plane n dst : Nat) : Option Nat :=
  (List.range 32).find? fun d => (s.reach plane dst d).contains n

/-- The ports of a node that start a shortest path to dst. -/
def State.nextPorts (s : State) (plane n dst : Nat) : List Nat :=
  match s.hopsTo plane n dst with
  | none => []
  | some d =>
    s.topo.filterMap fun k =>
      if k.node = n && (k.nbr = dst || s.crosses plane k.nbr) && s.suits plane k && s.hopsTo plane k.nbr dst = some (d - 1)
        && 0 < d then some k.port else none

/-- The port that the keeper's routes take from a node to dst: one of the shortest; which one
the manual leaves open (log 5). This chip's own row is what its table holds. -/
def State.routePort (s : State) (plane n dst : Nat) : Option Nat :=
  let l := s.nextPorts plane n dst
  if l.isEmpty then none else l[Config.routeChoice n dst % l.length]?

/-- The port that the committed routes take from a chip (R174). -/
def State.committedPort (s : State) (plane n dst : Nat) : Option Nat :=
  ({ s with topo := s.routeTopo }.routePort plane n dst).or ({ s with topo := s.routeAll }.routePort plane n dst)

/-- The hops of a committed path as far as it leads, and whether it reaches dst: each chip with its egress port
(R172, R174). -/
def State.pathFrom (s : State) (plane dst dstPort : Nat) : Nat → Nat → List (Nat × Nat) × Bool
  | 0, _ => ([], false)
  | fuel + 1, n =>
    if n = dst then ([(n, dstPort)], true)
    else
      match (s.committedPort plane n dst).bind fun e => s.routeAll.find? fun k => k.node = n ∧ k.port = e with
      | none => ([], false)
      | some k =>
        let x := s.pathFrom plane dst dstPort fuel k.nbr
        ((n, k.port) :: x.1, x.2)

/-- The paths of a reservation as far as they lead: one, or one through each plane between two edge chips
(R184). -/
def State.rsvWays (s : State) (r : Nat) : List (List (Nat × Nat) × Bool) :=
  let dst := s.rsvVal .RSV_DST_NODE r
  let f (plane : Nat) := s.pathFrom plane dst (s.rsvVal .RSV_DST_PORT r) 32 (s.rsvVal .RSV_SRC_NODE r)
  if s.rsvVal .RSV_TWIN r = 0 then [f 2]
  else if s.planeOf (s.rsvVal .RSV_SRC_NODE r) = 2 && s.planeOf dst = 2 then [f 0, f 1]
  else [([], false), ([], false)]

/-- The paths of a reservation that reach its destination. -/
def State.rsvPaths (s : State) (r : Nat) : List (Option (List (Nat × Nat))) :=
  (s.rsvWays r).map fun x => if x.2 then some x.1 else none

/-- The hop at which the first path that is missing ends (R177, cause 3). -/
def State.lostHop (s : State) (r : Nat) : Nat :=
  (((s.rsvWays r).find? fun x => !x.2).map fun x => x.1.length + 1).getD 1

/-! ## Rates (R172, R173) -/

/-- Gb/s per lane, in hundredths, of a rate code (3000.03). -/
def laneRate (code : Nat) : Nat :=
  if code = 0x10 then 6400 else if code = 0x11 then 10625
  else [0, 250, 500, 800, 1600, 3200, 6400].getD code 0

/-- Width and rate at which a port counts: as trained, else its own settings; one lane where the
partner may narrow the link (R172, R256). -/
def State.portRate (s : State) (n e : Nat) : Nat × Nat :=
  let (w, r) :=
    if s.orchGet .LINK_WIDTH n e = 0 then (s.orchGet .PORT_WIDTH n e, s.orchGet .MAX_RATE n e)
    else (s.orchGet .LINK_WIDTH n e, s.orchGet .LINK_RATE n e)
  if s.orchGet .PORT_ROLE n e ≠ 3 ∧ s.orchGet .L0P_ENABLE n e = 1 then (1, r) else (w, r)

/-- Time of one TLP of 4,367 bytes at a line rate of w lanes: 69 ns from 64 GB/s upward. -/
def tlpTerm (w code : Nat) : Nat :=
  let x := w * laneRate code
  if 51200 ≤ x then 69 else if x = 0 then 2 ^ 40 else ceilDiv (4367 * 800) x

/-- Modes in which a port is counted: 0 fabric, 1 Flit mode, 2 not in Flit mode, each with its
rate code (R173). -/
def State.modesOf (s : State) (n e : Nat) : List (Nat × Nat) :=
  let (_, c) := s.portRate n e
  if s.orchGet .PORT_ROLE n e = 3 then [(0, c)]
  else if s.orchGet .LINK_WIDTH n e ≠ 0 then
    [(if (if n = s.node then (s.pports.getD {} e).flit else Config.remoteFlit n e) then 1 else 2, c)]
  else (1, c) :: (if s.orchGet .NONFLIT_ALLOW n e = 1 then [(2, min c 5)] else [])

/-- H_i of R172; a port that has not trained counts in its slowest mode. -/
def State.fixedTerm (s : State) (n e : Nat) : Nat :=
  let t := ((s.modesOf n e).map fun m => tlpTerm (s.portRate n e).1 m.2).foldl max 0
  140 + 2 * t + 70 + 72 + ceilDiv (s.orchGet .LINK_DELAY n e - 40000) 1000

/-- h of R173. -/
def State.perTlp (s : State) (n e mode : Nat) : Int :=
  let o := toInt 16 (s.orchGet .LEN_OVERHEAD n e)
  if mode = 0 then 23 + o else if mode = 1 then o else max o 8

/-- ⌈2 B / rate⌉ for a port of w lanes in a mode (R173). -/
def needFor (B w code mode : Nat) : Nat :=
  let x := w * laneRate code
  if x = 0 then 2 ^ 40
  else if mode = 0 then ceilDiv (2 * B * 800 * 512) (x * 472)
  else if mode = 1 then ceilDiv (2 * B * 800 * 256) (x * 236)
  else if code ≤ 2 then ceilDiv (2 * B * 800 * 10 * 32) (x * 8 * 31)
  else ceilDiv (2 * B * 800 * 130 * 32) (x * 128 * 31)

/-- The reservations listed that use a port. -/
def State.using (s : State) (rs : List Nat) (n e : Nat) : List Nat :=
  rs.filter fun r => (s.rsvPaths r).any fun p => (p.getD []).contains (n, e)

/-- B_i: accounted bytes per pip of the reservations listed that use a port in class c or a
higher one (R173). -/
def State.bytesAt (s : State) (rs : List Nat) (n e c mode : Nat) : Nat :=
  let h := s.perTlp n e mode
  (((s.using rs n e).filter fun r => c ≤ s.rsvVal .RSV_CLASS r).map fun r =>
    (s.rsvVal .RSV_BYTES_PER_PIP r : Int) + s.rsvVal .RSV_TLPS_PER_PIP r * h).sum.toNat

/-- Units that the reservations listed need on the channel of class v of a link, from its sending end: none where no
reservation of that class crosses it (R175). -/
def State.unitsNeeded (s : State) (rs : List Nat) (n e v : Nat) : Nat :=
  if (s.using rs n e).any fun r => s.rsvVal .RSV_CLASS r = v then ceilDiv (2 * s.bytesAt rs n e v 0) 64 else 0

/-! ## Gate lists (R173, R180, R181) -/

/-- Key of an entry and of a bank. -/
def glKey (e b i : Nat) : Nat := e * 2048 + b * 1024 + i

/-- A gate-list field of a port of any chip: this chip's newest accepted value, or what another chip holds. -/
def State.glVal (s : State) (n : Nat) (o : Obj) (row : Nat) : Nat :=
  if n = s.node then s.newest o row else s.orchGet o n row

/-- The entries of a bank: duration in ns and mask. -/
def State.glEntriesAt (s : State) (n e b : Nat) : List (Nat × Nat) :=
  (List.range (s.glVal n .GL_LENGTH (e * 2 + b))).map fun i =>
    let v := s.glVal n .GL_ENTRY (glKey e b i)
    (v / 256, v % 256)

/-- Sum of a bank's durations. -/
def State.glSumAt (s : State) (n e b : Nat) : Nat := ((s.glEntriesAt n e b).map (·.1)).sum

/-- N_g × P in ns for a pip period code. -/
def State.glCycleAt (s : State) (n e b code : Nat) : Nat := s.glVal n .GL_CYCLE_PIPS (e * 2 + b) * periodNs code

/-- A cycle's timeline: the last entry lasts until the cycle ends. -/
def State.timelineAt (s : State) (n e b : Nat) : List (Nat × Nat) :=
  let l := s.glEntriesAt n e b
  let rest := s.glCycleAt n e b (s.get .PIP_PERIOD) - s.glSumAt n e b
  match l.getLast? with
  | none => []
  | some (d, m) => l.dropLast ++ [(d + rest, m)]

/-- The same of this chip. -/
def State.glSum (s : State) (e b : Nat) : Nat := s.glSumAt s.node e b
def State.glCycle (s : State) (e b code : Nat) : Nat := s.glCycleAt s.node e b code
def State.timeline (s : State) (e b : Nat) : List (Nat × Nat) := s.timelineAt s.node e b

/-- Time from the start of a timeline until `need` ns of class c have been open. -/
def waitFrom (c : Nat) : List (Nat × Nat) → Nat → Nat
  | [], need => need
  | (d, m) :: l, need =>
    if bit m c then (if need ≤ d then need else d + waitFrom c l (need - d))
    else if need = 0 then 0 else d + waitFrom c l need

/-- The timeline repeated. -/
def cycleN (l : List (Nat × Nat)) : Nat → List (Nat × Nat)
  | 0 => []
  | n + 1 => l ++ cycleN l n

/-- Open time of class c in one cycle. -/
def openTime (l : List (Nat × Nat)) (c : Nat) : Nat :=
  (l.map fun x => if bit x.2 c then x.1 else 0).sum

/-- gate_wait of R173 over a timeline that repeats after a first cycle of `lead`: the worst
start. A class that never opens waits without end; after the lead a port without entries is open for good. -/
def gateWait (lead l : List (Nat × Nat)) (c need : Nat) : Nat :=
  let o := openTime l c
  if l.isEmpty then ((List.range (lead.length + 1)).map fun i => waitFrom c (lead.drop i) need).foldl max 0
  else if o = 0 then 2 ^ 40
  else
    let t := lead ++ cycleN l (need / o + 2)
    ((List.range (lead.length + l.length)).map fun i => waitFrom c (t.drop i) need).foldl max 0

/-- The bank in force at a port of this chip, where it holds a list. -/
def State.activeBank (s : State) (e : Nat) : Option Nat :=
  let b := s.get .GL_ACTIVE_BANK e
  if b < 2 ∧ s.get .GL_LENGTH (e * 2 + b) ≠ 0 then some b else none

/-- The same at a port of any chip. -/
def State.activeBankAt (s : State) (n e : Nat) : Option Nat :=
  if n = s.node then s.activeBank e
  else
    let b := s.orchGet .GL_ACTIVE_BANK n e
    if b < 2 ∧ s.orchGet .GL_LENGTH n (e * 2 + b) ≠ 0 then some b else none

/-- Gate wait at any port under the lists in force. -/
def State.gateWaitAt (s : State) (n e c need : Nat) : Nat :=
  match s.activeBankAt n e with
  | none => need
  | some b => gateWait [] (s.timelineAt n e b) c need

/-! ## Admission (R174, R175, R177) -/

/-- Terms of a path for a reservation against a set: for each hop H_i and g_i. `gw` is the gate
wait to use at a port. -/
def State.hopTerms (s : State) (rs : List Nat) (r : Nat) (gw : Nat → Nat → Nat → Nat → Nat)
    (path : List (Nat × Nat)) : List (Nat × Nat) :=
  let c := s.rsvVal .RSV_CLASS r
  path.map fun x =>
    let (w, _) := s.portRate x.1 x.2
    let need := ((s.modesOf x.1 x.2).map fun m =>
      needFor (s.bytesAt rs x.1 x.2 c m.1) w m.2 m.1).foldl max 0
    (s.fixedTerm x.1 x.2, gw x.1 x.2 c need)

/-- L of R174 for one path. -/
def boundOf (ts : List (Nat × Nat)) : Nat := (ts.map fun t => t.1 + t.2).sum

/-- L of a reservation: the larger of its paths' bounds; none where a path is missing. -/
def State.rsvBound (s : State) (rs : List Nat) (r : Nat) (gw : Nat → Nat → Nat → Nat → Nat) :
    Option Nat :=
  (s.rsvPaths r).foldl (fun acc p =>
    match acc, p with
    | some a, some p => some (max a (boundOf (s.hopTerms rs r gw p)))
    | _, _ => none) (some 0)

/-- D of R174: P + L in ns, rounded up to a microsecond. -/
def State.deadlineOf (s : State) (L : Nat) : Nat :=
  ceilDiv (periodNs (s.get .PIP_PERIOD) + L) 1000 * 1000

/-- The hop whose term is largest, the lower on a tie, from 1. -/
def worstHop (ts : List (Nat × Nat)) : Nat :=
  (ts.foldl (fun (acc : Nat × Nat × Nat) t =>
    let v := t.1 + t.2
    if acc.2.2 < v then (acc.1 + 1, acc.1, v) else (acc.1 + 1, acc.2.1, acc.2.2)) (1, 1, 0)).2.1

/-- Two ranges overlap. -/
def overlap (b1 k1 b2 k2 : Nat) : Bool := b1 < b2 + 2 ^ k2 && b2 < b1 + 2 ^ k1

/-- Reservations that cross a chip among a list (R175). -/
def State.crossingAt (s : State) (n : Nat) (rs : List Nat) : List Nat :=
  rs.filter fun r => (s.rsvPaths r).any fun p => (p.getD []).any fun h => h.1 = n

/-- Those that cross this chip. -/
def State.crossing (s : State) (rs : List Nat) : List Nat := s.crossingAt s.node rs

/-- SCHED_PARTITION_CELLS of a chip for a set of reservations (R175). -/
def State.schedCellsAt (s : State) (n : Nat) (rs : List Nat) : Nat :=
  ((s.crossingAt n rs).map fun r =>
    2 * cellsPerPip (s.rsvVal .RSV_BYTES_PER_PIP r) (s.rsvVal .RSV_TLPS_PER_PIP r)).sum

/-- The same of this chip. -/
def State.schedCells (s : State) (rs : List Nat) : Nat := s.schedCellsAt s.node rs

/-- Minimums of this chip's receivers for a set: row of 3210 and units (R175). -/
def State.vcMins (s : State) (rs : List Nat) : List (Nat × Nat) :=
  let ins := s.routeAll.filter fun k => k.nbr = s.node
  ins.flatMap fun k => [6, 7].filterMap fun c =>
    let u := s.unitsNeeded rs k.node k.port c
    if u = 0 then none else some (k.nbrPort * 8 + c, u)

/-- Cells of a chip's buffer that are neither scheduled nor shared (R137). -/
def State.partsHeld (s : State) (n : Nat) : Nat :=
  if n = s.node then s.badCells.length + s.get .SPILL_RESERVE_CELLS + s.minReserved + s.standing
  else Config.remoteParts n

/-- A set of reservations would leave a chip's shared pool below 65,536 cells (R139, R177 cause 5). -/
def State.poolLost (s : State) (rs : List Nat) (n : Nat) : Bool :=
  decide (1048576 < 65536 + s.partsHeld n + s.schedCellsAt n rs)

/-- Receive pool of a fabric port of any chip, in bytes. -/
def State.poolBytesAt (s : State) (n port : Nat) : Nat :=
  if n = s.node then s.poolBytes port
  else if s.orchGet .POOL_BYTES n port = 0 then 65536 * s.orchGet .PORT_WIDTH n port else s.orchGet .POOL_BYTES n port

/-- Channel minimums at the receiver of a link, raised for a set of reservations (R175, R208). -/
def State.minsAt (s : State) (rs : List Nat) (k : LinkRec) : Nat :=
  ((List.range 8).map fun v =>
    max (s.orchGet .VC_MIN_SET k.nbr (k.nbrPort * 8 + v)) (if v < 6 then 0 else s.unitsNeeded rs k.node k.port v)).sum

/-- A link's credit pool cannot hold the raised minimums (R177 cause 6). -/
def State.poolOver (s : State) (rs : List Nat) (h : Nat × Nat) : Bool :=
  match s.routeAll.find? fun k => k.node = h.1 ∧ k.port = h.2 with
  | none => false
  | some k => decide (s.poolBytesAt k.nbr k.nbrPort / 64 < s.minsAt rs k)

/-- The first hop of some paths with a property, from 1; 0 for none (R177). -/
def firstHop (paths : List (List (Nat × Nat))) (f : Nat × Nat → Bool) : Nat :=
  ((paths.filterMap fun p => (p.findIdx? f).map (· + 1)).min?).getD 0

/-- What admission answers for a row: code, hop, cause, L. -/
structure Verdict where
  code : Nat := 0
  hop : Nat := 0
  cause : Nat := 0
  bound : Nat := 0
  deriving DecidableEq, Repr

/-- Admission of one row against the rows granted or admitted before it (R174, R177): the
causes in the order 4, 3, 2, 1, 5, 6, 7. -/
def State.admission (s : State) (held : List Nat) (staged : List Nat) (r : Nat) : Verdict :=
  let rs := held ++ [r]
  let clash := (held ++ staged).any fun x =>
    x ≠ r && s.rsvVal .RSV_SRC_NODE x = s.newest .RSV_SRC_NODE r &&
      s.rsvVal .RSV_SRC_PORT x = s.newest .RSV_SRC_PORT r &&
      overlap (s.rsvVal .RSV_ADDR_BASE x) (s.rsvVal .RSV_ADDR_SIZE_LOG2 x)
        (s.newest .RSV_ADDR_BASE r) (s.newest .RSV_ADDR_SIZE_LOG2 r)
  match s.rsvBound rs r s.gateWaitAt with
  | none => if clash then { code := 0x0301, cause := 4 } else { code := 0x0601, hop := s.lostHop r, cause := 3 }
  | some L =>
    let paths := (s.rsvPaths r).filterMap id
    let terms := paths.map (s.hopTerms rs r s.gateWaitAt)
    let worst := terms.foldl (fun a t => if boundOf a < boundOf t then t else a) []
    let hop := worstHop worst
    if clash then { code := 0x0301, cause := 4, bound := L }
    else if periodNs (s.get .PIP_PERIOD) < L then { code := 0x0601, hop := hop, cause := 2, bound := L }
    else if s.newest .RSV_DEADLINE_REQ r < s.deadlineOf L then
      { code := 0x0601, hop := hop, cause := 1, bound := L }
    else
      let small := firstHop paths fun h => s.poolLost rs h.1
      let large := firstHop paths (s.poolOver rs)
      if small ≠ 0 then { code := 0x0602, hop := small, cause := 5, bound := L }
      else if large ≠ 0 then { code := 0x0602, hop := large, cause := 6, bound := L }
      else if s.unitsBusy (unitsOf (nub (paths.flatten.map (·.1)))) then
        { code := 0x0602, cause := 7, bound := L }
      else { bound := L }

/-- Admission of rows one by one in row-key order (R176). -/
def State.admitRows (s : State) : List Nat → List Nat → List (Nat × Verdict)
  | _, [] => []
  | held, r :: rs =>
    let v := s.admission held rs r
    (r, v) :: s.admitRows (if v.code = 0 then held ++ [r] else held) rs

/-- The granted rows. -/
def State.grantedRows (s : State) : List Nat := (s.rowsOf .RSV_STATE).keys.filter s.rsvGranted

end Sys2Proof.Machine
end

