-- ==== Sys2Proof/Machine/Ide.lean ====
section
/-! DEFINITION. What leaves a host port beside queued traffic: IDE at egress (R258 to R260) and the error messages of the
virtual hierarchy (R273, R308). -/

namespace Sys2Proof.Machine

open Sys2Proof

/-! ## Registers of the virtual hierarchy as hosts wrote them -/

/-- A dword as the host wrote it last, or as it is at reset. -/
def State.cfgRaw (s : State) (p e off : Nat) : Nat :=
  ((s.cfg.getD [] (p * 512 + e)).find off).getD (Config.cfgReset e off % 2 ^ 32)

/-! ## IDE at egress -/

/-- A dword of the IDE capability of a partition's virtual upstream bridge as the host wrote it (log 11). -/
def State.ideReg (s : State) (p off : Nat) : Nat := ((s.cfg.getD [] (p * 512)).find off).getD 0

/-- Register block of Selective stream n of the IDE capability (PCI Express Base 6.2, log 11). -/
def selBlock (n : Nat) : Nat := 0x414 + 0x20 * n

/-- The ID of the partition's own hierarchy that a TLP of a host port concerns: `out` toward the host. -/
def hierId (out : Bool) (t : Tlp) : Nat :=
  if t.kind = .cpl then (if out then t.cplId else t.rid) else if out then t.rid else t.target

/-- Selective stream n of a host port covers a TLP: its address lies in the stream's address range, or the ID of the
partition's hierarchy that it concerns lies in the stream's range of Requester IDs (R259; registers PRESUMED, log 11). -/
def State.selCovers (s : State) (p n : Nat) (out : Bool) (t : Tlp) : Bool :=
  let r := fun i => s.ideReg p (selBlock n + i)
  let base := bitsOf (r 0x14) 19 8 * 2 ^ 20 + r 0x1C * 2 ^ 32
  let limit := bitsOf (r 0x14) 31 20 * 2 ^ 20 + r 0x18 * 2 ^ 32 + (2 ^ 20 - 1)
  let id := hierId out t
  (bit (r 0x14) 0 && hasAddr t.kind && decide (base ≤ t.addr) && decide (t.addr ≤ limit)) ||
    (bit (r 0x10) 0 && decide (bitsOf (r 0x10) 23 8 ≤ id) && decide (id ≤ bitsOf (r 0x0C) 23 8))

/-- The active stream of a port that covers a TLP: a Selective one of a host port, else the Link stream (R258, R260). -/
def State.coveringStream (s : State) (port : Nat) (out : Bool) (t : Tlp) : Option Nat :=
  let on := s.get .IDE_STREAMS_ACTIVE port
  let sel := (s.partOfPort port).bind fun p =>
    (List.range 4).find? fun n => bit on (n + 1) && s.selCovers p n out t
  match sel with
  | some n => some (n + 1)
  | none => if bit on 0 then some 0 else none

/-- Control register of a stream in the IDE capability: PCRC Enable is bit 8 (log 11). -/
def streamControl (n : Nat) : Nat := if n = 0 then 0x40C else selBlock (n - 1) + 4

/-- A TLP as it leaves a port under IDE (R258): after the rewrite stage it is encrypted under the stream that covers it,
with the stream's key set. -/
def State.protect (s : State) (port : Nat) (t : Tlp) : Tlp :=
  match s.coveringStream port true t with
  | none => { t with ide := .plain, stream := 0, kBit := false, pcrc := false }
  | some n =>
    let pcrc := (s.partOfPort port).any fun p => bit (s.ideReg p (streamControl n)) 8
    { t with ide := .secure, stream := n, kBit := bit (s.pports.getD {} port).txK n, pcrc := pcrc }

/-- A completion that the DK5120 makes itself leaves a host port. -/
def State.selfCpl (s : State) (port : Nat) (t : Tlp) : State := s.emit (.tlp port (s.protect port t))

/-! ## Error messages (R273, R308) -/

/-- ID of an element of a partition's hierarchy as its host numbered it: 0 upstream bridge, 1 management function,
2 + k bridge k (R68). -/
def State.elemId (s : State) (p e : Nat) : Nat :=
  let u := s.ups.getD {} p
  if e < 2 then u.priBus * 256 + e else u.secBus * 256 + (e - 2)

/-- An element of a partition's hierarchy signals an error that it has logged (R308), as bit n of its mask and, where
the error is uncorrectable, its severity say: ERR_COR, ERR_NONFATAL or ERR_FATAL under its own ID (R273). Messages are
enabled by bits 0 to 2 of its Device Control, or for an uncorrectable error by bit 8 of its Command register (PRESUMED,
PCI Express Base 6.2, log 83). -/
def State.errSignal (s : State) (p e n : Nat) (cor : Bool) : State :=
  let fatal := !cor && bit (s.cfgRaw p e 0x10C) n
  let masked := bit (s.cfgRaw p e (if cor then 0x114 else 0x108)) n
  let on := bit (s.cfgRaw p e 0x48) (if cor then 0 else if fatal then 2 else 1) || (!cor && bit (s.cfgRaw p e 0x04) 8)
  let port := s.get .HOST_PORT p
  if masked || !on || s.get .HOST_NODE p ≠ s.node || !(s.pports.getD {} port).up then s
  else s.selfCpl port { kind := .msgRoot, rid := s.elemId p e, msgCode := if cor then 0x30 else if fatal then 0x33 else 0x31 }

/-- An uncorrectable error logged and signalled by the upstream bridge. -/
def State.upUnc (s : State) (p n : Nat) : State :=
  ({ s with ups := s.ups.updD {} p fun u => { u with uncStatus := u.uncStatus ||| 2 ^ n } }).errSignal p 0 n false

/-- An uncorrectable error logged and signalled by downstream bridge k. -/
def State.downUnc (s : State) (p k n : Nat) : State :=
  ({ s with bridges := s.bridges.updD {} (p * 256 + k) fun b => { b with uncStatus := b.uncStatus ||| 2 ^ n } }).errSignal
    p (2 + k) n false

end Sys2Proof.Machine
end

