-- ==== Sys2Proof/Machine/Graft.lean ====
section
/-! DEFINITION. Virtual bridges, grafts and partition resets as shared operations (R68 to R81,
R116, R272 to R275, R396, R397). -/

namespace Sys2Proof.Machine

open Sys2Proof

/-! ## Interrupts to a host (R270, R271) -/

/-- Some write of the management function of p waits for the egress check: in a queue, or for admission to one (R271). -/
def State.mfBusy (s : State) (p : Nat) : Bool :=
  let mine := fun k : Pkt => k.part = p && k.src = chipGfid s.node && k.dest = hostGfid p
  (s.queues.any fun q => q.2.pkts.any mine) || s.rx.any fun x => x.2.any fun i => i.port = ownPort && mine i.pkt

/-- Vector v is masked in the MSI-X table. Words of Vector Control are kept inverted, since the
mask bit is 1 at reset (log 11). -/
def MfH.masked (m : MfH) (v : Nat) : Bool := !bit (m.regs.getD 0 (0x200C + 16 * v)) 0

/-- MSI-X vector v of the management function of p (R268, R270, R271): sent once its earlier writes have
passed the egress check; a pending bit in D3hot and while the vector is masked; none during a reset (R272). -/
def State.msix (s : State) (p v : Nat) : State :=
  let m := s.mfs.getD {} p
  if s.get .MF_STATE p = 1 then s
  else if s.get .MF_STATE p = 2 ∨ m.masked v then
    { s with mfs := s.mfs.putD {} p { m with pba := m.pba ||| 2 ^ v } }
  else if s.mfBusy p then
    { s with mfs := s.mfs.putD {} p { m with waiting := m.waiting ++ [v] } }
  else s.emit (.msi p v)

/-- Pending bits of unmasked vectors are signalled once the function is in D0 (R268). -/
def State.msixFlush (s : State) (p : Nat) : State :=
  let m := s.mfs.getD {} p
  if s.get .MF_STATE p = 2 then s
  else
    let go := (bitList m.pba 64).filter fun v => !m.masked v
    let s := { s with mfs := s.mfs.putD {} p { m with pba := maskOf ((bitList m.pba 64).filter m.masked) } }
    go.foldl (fun s v => s.msix p v) s

/-- Messages that waited for writes now past the egress check (R271). -/
def State.msixSettle (s : State) (p : Nat) : State :=
  let m := s.mfs.getD {} p
  if m.waiting.isEmpty ∨ s.mfBusy p then s
  else m.waiting.foldl (fun s v => s.msix p v) { s with mfs := s.mfs.putD {} p { m with waiting := [] } }

/-- A hot-plug interrupt of a bridge, where the host has enabled one (R77, R78): vector 256 + k
stands for the bridge's own MSI. -/
def State.hotPlug (s : State) (p k : Nat) : State :=
  if (s.bridge p k).hpIntEn then s.emit (.msi p (256 + k)) else s

/-! ## What a bridge presents (R77 to R80) -/

/-- Function 0 of a bridge is presented. -/
def State.fn0Shown (s : State) (p k : Nat) : Bool :=
  s.activeGrafts.any fun g =>
    s.get .PARTITION g = p && s.get .VDSB g = k && (s.grafts.getD {} g).shown &&
      (s.get .KIND g = 0 || s.get .VFUNC g = 0)

def State.updGraft (s : State) (g : Nat) (f : GraftH → GraftH) : State :=
  { s with grafts := s.grafts.updD {} g f }

/-- A graft presented on its bridge; `change` sets the change bits when function 0 becomes
present (R77), and is off at start-up and after a reset (R72). A bridge whose DPC is triggered shows nothing until the
host clears it (R275). -/
def State.showGraft (s : State) (g : Nat) (change : Bool) : State :=
  let p := s.get .PARTITION g
  let k := s.get .VDSB g
  let was := s.fn0Shown p k
  let s := s.updGraft g fun h => { h with shown := true }
  if (s.bridge p k).dpcTrig then s
  else if !was && s.fn0Shown p k then
    let s := s.updBridge p k fun b =>
      { b with pds := true, pdc := b.pdc || change, dllla := !b.blocks,
               dllsc := b.dllsc || (change && !b.blocks) }
    if change then s.hotPlug p k else s
  else s

/-- A graft is no longer presented; the bridge that presented it shows a removal with both change bits
(R78, R80). -/
def State.hideGraft (s : State) (g : Nat) : State :=
  let p := s.get .PARTITION g
  let k := s.get .VDSB g
  if (s.grafts.getD {} g).shown then
    ((s.updGraft g fun h => { h with shown := false }).updBridge p k fun b =>
      { b with pds := false, pdc := true, dllla := false, dllsc := true }).hotPlug p k
  else s

/-! ## Maximum payload (R73) -/

/-- A field of a graft row as a commit judges it: of a graft in force the committed value, else the newest. -/
def State.rowVal (s : State) (o : Obj) (g : Nat) : Nat :=
  if (s.grafts.getD {} g).inForce then s.get o g else s.newest o g

/-- A graft row takes a state, of which vector 37 tells its partition (R75, R270). -/
def State.graftTo (s : State) (g st : Nat) : State :=
  let p := s.rowVal .PARTITION g
  let t := s.put .GRAFT_STATE g st
  if s.get .GRAFT_STATE g = st ∨ 4096 ≤ p then t else t.msix p 37

/-- The Max_Payload_Size of a device by the partitions that hold grafts of it: the smallest
MPS_LIMIT, or 512 bytes (code 2) while none does. -/
def State.devMps (s : State) (gs : List Nat) : Nat :=
  match gs.map (fun g => s.get .MPS_LIMIT (s.rowVal .PARTITION g)) with
  | [] => 2
  | l => l.foldl min 5

/-- Max_Payload_Size goes to every device of this chip for which some grafts have changed it since
`s0` (R73). -/
def State.mpsTold (s s0 : State) : State :=
  (s.usedPorts.filter fun e => s.get .PORT_ROLE e = 2).foldl (fun s port =>
    let new := s.devMps (s.graftsOfPort s.node port)
    if new = s0.devMps (s0.graftsOfPort s.node port) then s else s.emit (.link 73 [port, new])) s

/-- The link of a device port is up: DP_STATE 3 or 4 tells it of another chip's (R73). -/
def State.devLinkUp (s : State) (node port : Nat) : Bool :=
  if node = s.node then (s.pports.getD {} port).up
  else s.orchGet .DP_STATE node port = 3 || s.orchGet .DP_STATE node port = 4

/-- The device of a function carries traffic: its port's link is up and a function of it is in
GRAFT_STATE 3 or 4 (R73). -/
def State.devBusy (s : State) (fn : Nat) : Bool :=
  s.devLinkUp (s.get .FN_NODE fn) (s.get .FN_PORT fn) &&
    (s.graftsOfPort (s.get .FN_NODE fn) (s.get .FN_PORT fn)).any fun g =>
      s.get .GRAFT_STATE g = 3 || s.get .GRAFT_STATE g = 4

/-! ## The checks of GRAFT_COMMIT (R76) -/

/-- A row is staged: state 1, or state 3 with action 3 staged (R75, R453). -/
def State.graftStaged (s : State) (g : Nat) : Bool :=
  s.get .GRAFT_STATE g = 1 || (s.get .GRAFT_STATE g = 3 && s.newest .ACTION g = 3)

/-- Rows of 4100 that a commit would submit, in row-key order. -/
def State.stagedGrafts (s : State) : List Nat :=
  let a := ((s.rowsOf .GRAFT_STATE).keys).filter s.graftStaged
  (nub a).mergeSort (· ≤ ·)

/-- The row places functions on a bridge. -/
def State.onBridge (s : State) (g p k : Nat) : Bool := s.rowVal .PARTITION g = p && s.rowVal .VDSB g = k

/-- Function numbers that a row takes: every one of the device for KIND 0 (R76). -/
def State.rowFns (s : State) (g : Nat) : List Nat :=
  if s.rowVal .KIND g = 0 then (s.deviceOf (s.rowVal .GFID g)).map fun f => s.get .FN_POSITION f % 256
  else [s.rowVal .VFUNC g]

/-- The checks of R76 for one staged row, in the order of its table: each a code, or 0. DESIGN CHOICE (log 75):
the check of R73 concerns rows that graft (ACTION 1): a row that removes a graft never refuses a commit with it. -/
def State.graftCheck (s : State) (staged : List Nat) (g : Nat) : List Nat :=
  let c := fun (bad : Bool) (code : Nat) => if bad then code else 0
  let p := s.rowVal .PARTITION g
  let f := s.rowVal .GFID g
  let k := s.rowVal .VDSB g
  let add := s.newest .ACTION g = 1
  let removed := staged.filter fun x => s.newest .ACTION x = 3
  let others := (s.activeGrafts.filter fun x => !removed.contains x) ++
    staged.filter fun x => x ≠ g && s.newest .ACTION x = 1
  let dev := s.get .FN_NODE f
  let port := s.get .FN_PORT f
  let sameDev := fun x =>
    s.get .FN_NODE (s.rowVal .GFID x) = dev && s.get .FN_PORT (s.rowVal .GFID x) = port
  let there := others.filter fun x => s.onBridge x p k
  let hasZero := fun x => (s.rowFns x).contains 0
  [c (decide (4096 ≤ p) || s.get .PARTITION_STATE p = 0 || s.get .FN_NODE f = 0xFF) 0x0102,
   c (add && (others.any fun x =>
      (s.rowVal .GFID x = f && s.rowVal .PARTITION x ≠ p) ||
        (sameDev x && (s.rowVal .KIND x = 0 || s.rowVal .KIND g = 0)))) 0x0301,
   c (add && (decide (s.get .VDSB_COUNT p ≤ k) || (there.any fun x =>
      (s.rowFns x).any (s.rowFns g).contains))) 0x0301,
   c ((add && !hasZero g && !there.any hasZero) || (!add && hasZero g && !there.all hasZero)) 0x0301,
   c (add && s.rowVal .KIND g = 2 && s.get .SRIOV_NUMVFS (s.get .PARENT_PF f) = 0) 0x0301,
   c (add && s.devBusy f &&
      decide (s.devMps ((others.filter sameDev) ++ [g]) < s.devMps (s.graftsOfPort dev port))) 0x0401]

/-- The first failing check in the table's order, and the first staged row that fails it, with the
code. -/
def State.graftChecks (s : State) (staged : List Nat) : Option (Nat × Nat) :=
  (List.range 6).findSome? fun i =>
    staged.findSome? fun g =>
      let c := (s.graftCheck staged g).getD i 0
      if c = 0 then none else some (g, c)

/-- The chips that a graft touches: the host's and the device's (R75). -/
def State.graftNodes (s : State) (g : Nat) : List Nat :=
  [s.get .HOST_NODE (s.rowVal .PARTITION g), s.get .FN_NODE (s.rowVal .GFID g)].filter (· < 32)

/-! ## Grafts that an epoch applies (R77, R78) -/

/-- The staged fields of a row come into force. -/
def State.commitRow (s : State) (objs : List Obj) (row : Nat) : State :=
  let s := objs.foldl (fun s o =>
    match lastHeld s.staged o row with
    | some v => s.put o row v
    | none => s) s
  { s with staged := objs.foldl (fun l o => dropHeld l o row) s.staged }

/-- The fields of a graft row that a commit carries. -/
def graftFields : List Obj := [.PARTITION, .GFID, .KIND, .VDSB, .VFUNC, .ACTION]

/-- HELD_BY of the functions of a graft. -/
def State.setHeld (s : State) (g v : Nat) : State :=
  (s.graftFns g).foldl (fun s f => s.put .HELD_BY f v) s

/-- Apertures of functions deactivated for a partition. -/
def State.dropApertures (s : State) (f : Nat → Bool) : State :=
  ((s.rowsOf .AP_STATE).keys.filter f).foldl (fun s a => s.put .AP_STATE a 0) s

/-- A function answers now. -/
def State.fnPresent (s : State) (f : Nat) : Bool := s.get .PRESENT f = 1

/-- A graft takes force at an epoch (R77): tables written, HELD_BY set, the bridge presents the
function when the partition is active and the function is present. DESIGN CHOICE (log 75): ACTION reads 0
once a graft or a removal has applied. -/
def State.applyGraft (s0 : State) (g : Nat) : State :=
  let s := s0.commitRow graftFields g
  let s := s.updGraft g fun h => { h with inForce := true, shown := false, lost := false }
  let s := s.setHeld g (s.get .PARTITION g)
  let p := s.get .PARTITION g
  let s := if s.get .PARTITION_STATE p = 2 && s.fnPresent (s.get .GFID g) then s.showGraft g true
           else s
  (((s.put .ACTION g 0).put .GRAFT_RESULT g 0).graftTo g 3).mpsTold s0

/-- A graft leaves at an epoch (R78): the bridge shows the removal, HELD_BY and the apertures
are cleared, the row is empty. DESIGN CHOICE (log 75): the emptied row keeps its other fields. -/
def State.removeGraft (s0 : State) (g : Nat) : State :=
  let p := s0.get .PARTITION g
  let fns := s0.graftFns g
  let s := if s0.get .PARTITION_STATE p = 2 ∨ s0.get .PARTITION_STATE p = 3 then s0.hideGraft g
           else s0.updGraft g fun h => { h with shown := false }
  let s := s.dropApertures fun a => s.get .AP_PARTITION a = p && fns.contains (s.get .AP_TARGET a)
  let s := s.setHeld g 0xFFFF
  let s := { s with grafts := s.grafts.erase g,
                    staged := graftFields.foldl (fun l o => dropHeld l o g) s.staged }
  ((s.put .ACTION g 0).graftTo g 0).mpsTold s0

/-- A request with grafts is cancelled (R75). -/
def State.cancelGraft (s : State) (g : Nat) : State :=
  let s := s.put .GRAFT_RESULT g 0x0404
  if (s.grafts.getD {} g).inForce then
    let s := { s with staged := dropHeld s.staged .ACTION g }
    (s.put .ACTION g 0).graftTo g 3
  else s.graftTo g 1

/-! ## Tags that lose their grounds (R116) -/

/-- A GFID is held by, or the host of, or the management side of a partition. -/
def State.belongs (s : State) (g p : Nat) : Bool := g = hostGfid p || s.heldBy g p || isChipGfid g

/-- At a kind-3 epoch: entries whose two ends are no longer both of their partition, with a
window's grant counted for the completer (R116, R99). -/
def State.quarantineLost (s : State) : State :=
  s.quarantineEarly fun e => !(s.belongs e.reqG e.part &&
    (s.belongs e.cplG e.part || s.grantPairs.contains (e.part, e.cplG)))

/-! ## Partition reset (R72, R396, R397) -/

/-- The completion of a configuration request: status 0 success, 1 Unsupported Request, 2 Retry Status. -/
def cfgCpl (c : CfgReq) (status value : Nat) : Tlp :=
  { kind := .cpl, rid := c.rid, tag := c.tag, cplId := c.bus * 256 + c.dev * 8 + c.fn, status := status,
    value := value, byteCount := 4, data := if status = 0 ∧ !c.write then 4 else 0 }

/-- Packets with a property leave every queue: sub-lists of whole TLPs are filtered, their cells
freed. -/
def keepTlps (f : Pkt → Bool) : Bool → List Cel → List Cel
  | _, [] => []
  | keep, c :: cs =>
    let keep := match c.pkt with
      | some p => f p
      | none => keep
    if keep then c :: keepTlps f keep cs else keepTlps f keep cs

/-- Whether the TLP whose cells run on at the end of a list is kept. -/
def keepAtEnd (f : Pkt → Bool) : Bool → List Cel → Bool
  | keep, [] => keep
  | keep, c :: cs =>
    keepAtEnd f (match c.pkt with
      | some p => f p
      | none => keep) cs

/-- The blocks of a segment filtered, carrying a straddling TLP across blocks. -/
def keepBlocks (f : Pkt → Bool) : Bool → List Block → List Block
  | _, [] => []
  | keep, b :: bs =>
    let c := keepTlps f keep b.cells
    let rest := keepBlocks f (keepAtEnd f keep b.cells) bs
    if c.isEmpty ∧ b.state ≠ .writing ∧ b.state ≠ .reading then rest
    else { b with cells := c } :: rest

/-- Whether a TLP straddles the end of a run of blocks and is kept. -/
def keepAfter (f : Pkt → Bool) (keep : Bool) (bs : List Block) : Bool :=
  keepAtEnd f keep (bs.flatMap (·.cells))

/-- A sub-list filtered. -/
def SubQ.keep (l : SubQ) (f : Pkt → Bool) : SubQ :=
  let k1 := keepAtEnd f true l.head
  { l with head := keepTlps f true l.head, seg := keepBlocks f k1 l.seg,
           stage := keepTlps f (keepAfter f k1 l.seg) l.stage }.tidy

def Queue.keep (q : Queue) (f : Pkt → Bool) : Queue :=
  { q with posted := q.posted.keep f, nonPosted := q.nonPosted.keep f, cpl := q.cpl.keep f }

/-- Every queued TLP without a property is discarded and its cells are freed. -/
def State.keepPkts (s : State) (f : Pkt → Bool) : State :=
  let qs := s.queues.map fun x =>
    (x.1, if x.2.isEmpty then x.2 else { x.2.keep f with usedPip := s.pip })
  let before := s.queues.flatMap fun x => x.2.bufferCells
  let after := qs.flatMap fun x => x.2.bufferCells
  { s.freeCells (before.filter fun c => !after.contains c) with queues := qs }

/-- A Function Level Reset reaches a function, unless another partition holds virtual functions
of it (last row of R74, R81): entries of its own requests go to quarantine (R116). -/
def State.fnReset (s : State) (p f : Nat) : State :=
  if s.vfsElsewhere p f then s.event 74 [p, f]
  else (s.emit (.link 81 [f])).quarantineEarly fun e => e.reqG = f

/-- A hot reset of the link of a device port (R81). -/
def State.portHotReset (s : State) (node port : Nat) : State := s.emit (.link 81 [node, port, 1])

/-- A graft's functions are reset on behalf of a host (R81). -/
def State.resetGraft (s : State) (p g : Nat) : State :=
  let f := s.get .GFID g
  if s.get .KIND g = 0 then s.portHotReset (s.get .FN_NODE f) (s.get .FN_PORT f)
  else s.fnReset p f

/-- The management function's own reset (R272): TLPs not past the egress check are discarded and
counted, entries quarantined, BAR0 aperture deactivated, registers, capabilities and pending bits cleared. The mailbox
slots count as empty until firmware has emptied them. -/
def State.mfReset (s : State) (p : Nat) (count : Bool) : State :=
  let mine := fun k : Pkt => k.part = p && k.src = chipGfid s.node && !k.internal
  let own := fun i : RxItem => i.port = ownPort && mine i.pkt
  let c := clusterOf ownPort
  let n := ((s.queues.flatMap fun q => q.2.pkts).filter mine).length + ((s.rx.getD [] c).filter own).length
  let s : State := { s.keepPkts fun k => !mine k with rx := s.rx.updD [] c fun l => l.filter fun i => !own i }
  let s := s.quarantineEarly fun e => e.part = p && isChipGfid e.reqG
  let s := s.dropApertures fun a => s.get .AP_PARTITION a = p && s.get .AP_SOURCE a = 2
  let s := { s with mfs := s.mfs.erase p, cfg := s.cfg.erase (p * 512 + 1) }.put .MB_DB_TO_FW p 0
  let s := s.updMbox p fun m => { m with dbFrom := 0, dbMask := 0xFFFFFFFF, late := true }
  let s := if count then s.bump .MF_FLR_DISCARDS p n else s
  s.put .MF_STATE p 1

/-- The configuration requests of a partition that wait for firmware, and their number (R70). -/
def State.setCfgWait (s : State) (p : Nat) (l : List CfgReq) : State :=
  { s with cfgWait := s.cfgWait.putD [] p l }.put .CFG_FW_PENDING p (l.length % 256)

/-- The rows that clear at a partition reset (R396). -/
def State.clearPartRows (s : State) (p : Nat) : State :=
  [Obj.INGRESS_REFUSALS, .EGRESS_REFUSALS, .HOST_RX_TLPS, .HOST_RX_BYTES, .HOST_TX_TLPS,
    .HOST_TX_BYTES, .RED_TLPS, .HOST_TIME_OFFSET, .HOST_PTM_VALID, .CPL_TIMEOUTS,
    .UNEXPECTED_CPLS, .ORDER_HOLDS, .UR_GENERATED, .MF_FLR_COUNT, .MF_FLR_DISCARDS].foldl
    (fun s o => s.put o p 0) s

/-- The actions of R396 at the trigger. -/
def State.partActions (s : State) (p : Nat) : State :=
  let s := s.keepPkts fun k => !((k.part = p && !k.internal) || k.dest = hostGfid p)
  let s := s.quarantineEarly fun e => e.reqG = hostGfid p
  let s := s.mfReset p false
  let s := s.dropApertures fun a => s.get .AP_PARTITION a = p
  let s := { s with bridges := s.bridges.filter (fun b => b.1 / 256 ≠ p), ups := s.ups.erase p,
                    cfg := s.cfg.filter (fun c => c.1 / 512 ≠ p),
                    apPend := s.apPend.filter (fun (x : ApPend) => s.get .PARTITION x.graft ≠ p),
                    subs := s.subs.filter (fun u => !(u.path = Path.mailbox p)) }
  let s := s.setCfgWait p []
  let s := (s.graftsOf p).foldl (fun s g =>
    (s.updGraft g fun h => { h with shown := false, bars := [], cmd := 0, mse := false }).resetGraft p g) s
  (s.clearPartRows p).msg .partitionReset [p]

/-- A reset trigger of partition p (R72, R396, R397): in state 2 the actions and state 1; while a
reset runs only the wait for the link starts again, and requests of the host are in quarantine already
but for a partition that never was active (R116); while husked the actions, and the partition stays 3. -/
def State.partReset (s : State) (p : Nat) : State :=
  let h := s.parts.getD {} p
  match s.get .PARTITION_STATE p with
  | 2 =>
    let s := s.partActions p
    let s := { s with parts := s.parts.putD {} p { h with from0 := false, resets := true } }
    s.put .PARTITION_STATE p 1
  | 3 =>
    let s := s.partActions p
    { s with parts := s.parts.putD {} p { h with resets := true, resetInHusk := true } }
  | _ => s.quarantineEarly fun e => e.reqG = hostGfid p

/-- The host port of a partition on another chip goes down (R116, R396): what this chip holds of the partition
goes as at the host's chip. -/
def State.partRemote (s : State) (p : Nat) : State :=
  (s.keepPkts fun k => !((k.part = p && !k.internal) || k.dest = hostGfid p)).quarantineEarly fun e =>
    e.reqG = hostGfid p

/-- The host link of a partition is up. -/
def State.hostUp (s : State) (p : Nat) : Bool :=
  s.get .HOST_NODE p = s.node && (s.pports.getD {} (s.get .HOST_PORT p)).up

/-- A partition becomes active: its bridges present the grafts in force whose function answers,
with or without change bits (R72); those that R80 brings back wait for it. -/
def State.activate (s : State) (p : Nat) (change : Bool) : State :=
  let s := (s.graftsOf p).foldl (fun s g =>
    let h := s.grafts.getD {} g
    if s.fnPresent (s.get .GFID g) && !h.lost && !h.shown then s.showGraft g change else s) s
  let s := { s with parts := s.parts.updD {} p fun h =>
    { h with resets := false, resetInHusk := false, from0 := false } }
  s.put .PARTITION_STATE p 2

/-! ## Bridges cut off from their functions (R79, R274, R275) -/

/-- A partition presents its hierarchy. -/
def State.presents (s : State) (p : Nat) : Bool := s.get .PARTITION_STATE p = 2 || s.get .PARTITION_STATE p = 3

/-- The grafts in force on a bridge. -/
def State.graftsAt (s : State) (p k : Nat) : List Nat := (s.graftsOf p).filter fun g => s.get .VDSB g = k

/-- Queued TLPs between the host of p and the functions of a bridge are discarded (R79, R274). -/
def State.cutBridge (s : State) (p k : Nat) : State :=
  let fns := (s.graftsAt p k).flatMap s.graftFns
  let h := hostGfid p
  s.keepPkts fun q => !(q.part = p && ((q.src = h && fns.contains q.dest) || (q.dest = h && fns.contains q.src)))

/-- DPC Trigger Status cleared (R275). -/
def State.dpcClear (s : State) (p k : Nat) : State :=
  if (s.bridge p k).dpcTrig then
    let s := s.updBridge p k fun b => { b with dpcTrig := false, dpcReason := 0 }
    if s.fn0Shown p k then
      (s.updBridge p k fun b =>
        { b with pds := true, dllla := !b.blocks, pdc := true, dllsc := b.dllsc || !b.blocks }).hotPlug p k
    else s
  else s

/-- A bridge's DPC triggers with a reason: from then on it discards every TLP between the host and its
functions (R274). -/
def State.dpcTrigger (s : State) (p k reason : Nat) : State :=
  (s.updBridge p k fun b => { b with dpcTrig := true, dpcReason := reason, dllla := false }).cutBridge p k

/-! ## Removal of a device (R80, R274) -/

/-- DPC of a bridge at a husk of a function it presents (R274): `surprise` for the triggers of
its last row, `fatal` the severity in the host's shadow otherwise. -/
def State.dpcAt (s : State) (p k : Nat) (surprise fatal : Bool) : State :=
  let b := s.bridge p k
  if b.dpcEn = 0 ∨ b.dpcTrig then s
  else if surprise then s.dpcTrigger p k 3
  else if fatal then s.dpcTrigger p k 2
  else if b.dpcEn = 2 then s.dpcTrigger p k 1
  else s

/-- A function that goes before the guard point of the request that grafts it: its row is withdrawn and
staged again with 0x0101 (R77). -/
def State.withdrawGrafts (s : State) (fns : List Nat) : State :=
  let gone := fun g => !(s.grafts.getD {} g).inForce && fns.contains (s.newest .GFID g)
  let early := fun r : EpochReq => !r.decided && decide (s.now < r.epoch - 2 * s.P)
  let rows := (s.pendingReqs.filter early).flatMap fun r => match r.work with
    | .grafts l => l.filter gone
    | _ => []
  let upd : EpochReq → EpochReq := fun r => match r.work with
    | .grafts l => { r with work := .grafts (l.filter fun g => !rows.contains g) }
    | _ => r
  let s := { s with reqs := s.reqs.map upd }
  rows.foldl (fun s g => (s.put .GRAFT_RESULT g 0x0101).graftTo g 1) s

/-- A physical device is gone or husked: its functions are absent, AUTO_REGRAFT rules the return of every graft of
them, and every bridge that presents one shows the removal (R80) and logs the error (R308), with DPC (R274). `code` is the
husk's, 0 for a removal without one. -/
def State.deviceGone (s : State) (node port code : Nat) : State :=
  let gs := (s.graftsOfPort node port).filter fun g => (s.grafts.getD {} g).shown
  let fns := (s.rowsOf .FN_PORT).keys.filter fun f =>
    s.get .FN_PORT f = port && s.get .FN_NODE f = node
  let away := (s.graftsOfPort node port).filter fun g => (s.grafts.getD {} g).inForce && s.fnPresent (s.get .GFID g)
  let s := away.foldl (fun s g => s.updGraft g fun h => { h with lost := true }) s
  let s := (fns.foldl (fun s f => s.put .PRESENT f 0) s).withdrawGrafts fns
  let surprise := code = 0x2001 || code = 0x2002 || code = 0x2003 || code = 0x2005 || code = 0x2006
  gs.foldl (fun s g =>
    let p := s.get .PARTITION g
    let k := s.get .VDSB g
    let errBit := if code = 0x2001 ∨ code = 0x2002 ∨ code = 0x2003 then 5 else 22
    let s := s.hideGraft g
    if code = 0 then s
    else
      (s.downUnc p k errBit).dpcAt p k surprise (bit (s.grafts.getD {} g).aerSev errBit)) s

end Sys2Proof.Machine
end

