-- ==== Sys2Proof/Machine/Orchard.lean ====
section
/-! DEFINITION. The time tree, the two-way exchange, neighbours, islands and the keeper as shared
operations (R29 to R37, R55 to R62). -/

namespace Sys2Proof.Machine

open Sys2Proof

/-! ## The time tree (R30, R31, R37) -/

def State.hello (s : State) (port : Nat) : HelloH := s.hellos.getD {} port

/-- The ports whose neighbour is up. -/
def State.upPorts (s : State) : List Nat :=
  (s.rowsOf .NEIGHBOUR_STATE).keys.filter fun p => s.get .NEIGHBOUR_STATE p = 2

/-- A neighbour's tuple, its node and the local port as one number that orders as R31 does. -/
def State.tupleKey (s : State) (port : Nat) : Nat :=
  let h := s.hello port
  (((h.rootClass * 32 + h.rootNode) * 64 + h.hops) * 256 + s.get .NEIGHBOUR_NODE port) * 512 + port

/-- The parent that R31 chooses, where the fabric source is enabled and a neighbour is up. -/
def State.bestParent (s : State) : Option Nat :=
  if !bit (s.get .SOURCE_ENABLE) 2 then none
  else s.upPorts.foldl (fun acc p =>
    match acc with
    | none => some p
    | some b => if s.tupleKey p < s.tupleKey b then some p else some b) none

/-- The chip is its own root (R30). -/
def State.timeRoot (s : State) : State :=
  let c := s.get .TIME_CLASS
  let s := ((s.put .TIME_ROOT 0 s.node).put .PARENT_PORT 0 0xFFFF).put .ACTIVE_SOURCE 0
    (if c = 1 then 0 else if c = 2 then 1 else 3)
  { s with time := { s.time with rootClass := c, rootHops := 0 } }

/-- The chip follows a neighbour (R31). -/
def State.follow (s : State) (port : Nat) : State :=
  let h := s.hello port
  let s := ((s.put .TIME_ROOT 0 h.rootNode).put .PARENT_PORT 0 port).put .ACTIVE_SOURCE 0 2
  { s with time := { s.time with rootClass := h.rootClass, rootHops := h.hops + 1 } }

/-- The class that the chip improved to has not been held for 10 s yet (R30). -/
def State.holding (s : State) : Bool :=
  match s.time.betterSince with
  | some b => decide (s.now < b + ms 10000)
  | none => false

/-- The chip comes before a root in the order of R30: lower class, or the same class and a lower node ID. -/
def State.outranks (s : State) (cls node : Nat) : Bool :=
  s.get .TIME_CLASS < cls || (s.get .TIME_CLASS = cls && s.node < node)

/-- The tree is judged anew (R30, R31): a chip that comes before the root it follows takes over, where it
improved its class only once it has held it for 10 s (TIME_ROOT_DISPLACE). -/
def State.retime (s : State) : State :=
  match s.bestParent with
  | none => s.timeRoot
  | some p =>
    let h := s.hello p
    if h.rootNode = s.node then s.timeRoot
    else if s.outranks h.rootClass h.rootNode then
      if s.get .PARENT_PORT ≠ 0xFFFF ∧ s.holding then s.follow p else s.timeRoot
    else s.follow p

/-- A new time class of the chip (R29, R30). -/
def State.regrade (s : State) (cls : Nat) : State :=
  let old := s.get .TIME_CLASS
  let since := if cls < old then some s.now else if old < cls then none else s.time.betterSince
  ({ s with time := { s.time with betterSince := since } }.put .TIME_CLASS 0 cls).retime

/-- Class of the chip's best qualified source (R29); 3 while pair B is stopped (R349). -/
def State.ownClass (s : State) : Nat :=
  if s.get .PAIR_B_STATE ≠ 0 then 3
  else if bit (s.get .SOURCE_ENABLE) 0 && s.time.clkPresent && decide (8 ≤ s.time.ppsRun) then 1
  else if bit (s.get .SOURCE_ENABLE) 1 && s.time.ptpLocked then 2
  else 3

/-- The correction of the oscillator, limited to 100 ppb (R33). -/
def limitPpb (c : Int) : Int := max (-100) (min 100 c)

/-- The servo takes a measured offset of the time source (R33, R39). -/
def State.steer (s : State) (offset : Int) : State :=
  { s with time := { s.time with corr := limitPpb (Config.servo s.time.corr offset) } }

/-! ## The timing field (R32, R33) -/

def State.marksOf (s : State) (port : Nat) : Marks := s.marks.getD {} port

def State.updMarks (s : State) (port : Nat) (f : Marks → Marks) : State :=
  { s with marks := s.marks.updD {} port f }

/-- A stamp: TIME bits [48:9]. -/
def stamp (t : Time) : Nat := bitsOf t 48 9

/-- The timing field of R32. -/
def timingField (kind num data : Nat) : Nat := kind * 2 ^ 14 + num * 2 ^ 8 + data

/-- The message that follows a marker (R33): the departure stamp of the marker before it, and the arrival
stamp and number of the last marker received. Until both stamps exist there is none (log 23). -/
def Marks.message (m : Marks) : Option (Nat × Nat) :=
  match m.depLast, m.arrLast with
  | some d, some a => some (0, d.2 + a.2 * 2 ^ 40 + a.1 * 2 ^ 80)
  | _, _ => none

/-- The timing field of the flit that leaves now: a marker, which is stamped as it leaves, a fragment or
none. A replayed flit carries none, and its fragment is abandoned (R33, R207). -/
def State.timingOut (s : State) (port : Nat) (replay : Bool) : Nat × State :=
  let m := s.marksOf port
  match m.mark with
  | some n =>
    if replay then (0, s)
    else
      (timingField 1 n 0, s.updMarks port fun m =>
        { m with mark := none, txFrag := m.message, depPrev := m.depLast, depLast := some (n, stamp s.now) })
  | none =>
    match m.txFrag with
    | none => (0, s)
    | some (i, msg) =>
      let s := s.updMarks port fun m =>
        { m with txFrag := if i = 7 then none else some (i + 1, msg) }
      if replay then (0, s)
      else
        let d := bitsOf msg (11 * i + 10) (11 * i)
        (timingField 2 (i * 8 + d % 8) (d / 8), s)

/-- A signed distance of two 40-bit stamps. -/
def stampDiff (a b : Nat) : Int := toInt 40 ((a + 2 ^ 40 - b) % 2 ^ 40)

/-- 2^-7 ns as picoseconds. -/
def stampPs (d : Int) : Int := d * 1000 / 128

/-- The stamp that was taken of the marker of a number, if one of two was. -/
def stampOf (num : Nat) (a b : Option (Nat × Nat)) : Option Nat :=
  match a, b with
  | some x, some y => if x.1 = num then some x.2 else if y.1 = num then some y.2 else none
  | some x, none => if x.1 = num then some x.2 else none
  | none, some y => if y.1 = num then some y.2 else none
  | none, none => none

/-- t4 of R33: the arrival of the partner's marker before its last, whose departure a message carries;
none where that marker was lost. -/
def Marks.arrBefore (m : Marks) : Option Nat :=
  match m.arrLast, m.arrPrev with
  | some a, some b => if (b.1 + 1) % 64 = a.1 then some b.2 else none
  | _, _ => none

/-- A completed exchange (R33): this end is A. The delay and the offset are reported, and the
offset of the parent is fed into the servo; both cross to the control complex (R13). One whose markers were lost is
skipped. -/
def State.exchange (s : State) (port : Nat) (msg : Nat) : State :=
  let m := s.marksOf port
  let t3 := msg % 2 ^ 40
  let t2 := msg / 2 ^ 40 % 2 ^ 40
  match stampOf (msg / 2 ^ 80 % 64) m.depLast m.depPrev, m.arrBefore with
  | some t1, some t4 =>
    if m.skip then s.updMarks port fun m => { m with skip := false }
    else
      let there := stampDiff t2 t1
      let back := stampDiff t4 t3
      let delay := stampPs (there + back) / 2
      let offset := stampPs (there - back) / 2 - toInt 32 (s.get .LINK_ASYMMETRY port)
      let s := ((s.xPut (.tileCtl (tileOf port) true) 8).put .LINK_DELAY port (ofInt 32 delay)).put .LINK_OFFSET port
        (ofInt 32 offset)
      if s.get .PARENT_PORT = port then s.steer offset else s
  | _, _ => s

/-- The timing field of a good flit (R32, R33). A fragment counts in the flit of its place after the marker that
arrived last: where a marker was lost, the message behind it is abandoned. -/
def State.timingIn (s : State) (port timing : Nat) : State :=
  let num := bitsOf timing 13 8
  match bitsOf timing 15 14 with
  | 1 => s.updMarks port fun m =>
      { m with arrPrev := m.arrLast, arrLast := some (num, stamp s.now), rxFrags := [], arrAt := (s.links.getD {} port).rxCount }
  | 2 =>
    if ((s.links.getD {} port).rxCount + 2 ^ 32 - (s.marksOf port).arrAt) % 2 ^ 32 ≠ num / 8 + 1 then s else
    let d := bitsOf timing 7 0 * 8 + num % 8
    let f := ((s.marksOf port).rxFrags).set (num / 8) d
    let s := s.updMarks port fun m => { m with rxFrags := f }
    if f.keys = List.range 8 then
      (s.updMarks port fun m => { m with rxFrags := [] }).exchange port
        (f.foldl (fun acc x => acc + x.2 * 2 ^ (11 * x.1)) 0)
    else s
  | _ => s

/-! ## Islands and the keeper (R55, R59 to R62) -/

/-- Sterosto is readable: the chip's start has not failed, and no word waits to be rewritten (R55, R351). -/
def State.sterostoOk (s : State) : Bool := s.boot ≠ .failed && s.badWords.isEmpty

/-- Health of this chip (R55). -/
def State.selfHealthy (s : State) : Bool :=
  s.get .REGION_STATE 14 = 0 && s.get .PAIR_A_STATE = 0 && s.get .PAIR_B_STATE = 0 &&
    s.sterostoOk && (!s.upPorts.isEmpty || s.get .ORCHARD_MEMBERS = 2 ^ s.node)

/-- The chips joined to some by links in the topology, grown `d` times. -/
def State.joined (s : State) : Nat → List Nat → List Nat
  | 0, l => l
  | d + 1, l =>
    s.joined d (nub (l ++ s.topo.flatMap fun k =>
      if l.contains k.node then [k.nbr] else if l.contains k.nbr then [k.node] else []))

/-- Health of a chip as this one knows it: its own, the last hello's, and of a chip that no hello has told
of, that the topology joins it (R58, log 35). -/
def State.healthOf (s : State) (n : Nat) : Bool :=
  if n = s.node then s.selfHealthy
  else match s.members.find n with
    | some m => m.healthy || !m.heard
    | none => true

/-- Healthy members of the island. -/
def State.healthyHere (s : State) : List Nat :=
  ((s.joined 32 [s.node]).filter fun n => bit (s.get .ORCHARD_MEMBERS) n && s.healthOf n).mergeSort (· ≤ ·)

/-- The island holds the majority (R59). -/
def State.majority (s : State) (l : List Nat) : Bool :=
  let m := bitList (s.get .ORCHARD_MEMBERS) 32
  decide (m.length < 2 * l.length) ||
    (2 * l.length = m.length && (m.head?.map l.contains).getD false)

/-- Role of this chip once keeper and standby are known: the requests it holds are its own to decide where it is the
keeper, and another chip's where it is not (R46, R60). -/
def State.setRole (s : State) : State :=
  let r := if s.get .KEEPER_NODE = s.node then 1 else if s.get .STANDBY_NODE = s.node then 2 else 0
  { s with reqs := s.reqs.map fun (x : EpochReq) => { x with prep := decide (r ≠ 1) } }.put .KEEPER_ROLE 0 r

/-- The standby is the healthy chip next above the keeper: a lower one is an ordinary member until it
takes the role itself (R59 to R61). -/
def State.setStandby (s : State) : State :=
  match s.healthyHere.find? (s.get .KEEPER_NODE < ·) with
  | some n => s.put .STANDBY_NODE 0 n
  | none => s.put .STANDBY_NODE 0 0xFF

/-- A chip becomes keeper. -/
def State.setKeeper (s : State) (n : Nat) : State :=
  let s := if s.get .KEEPER_NODE = n then s else s.bump .KEEPER_CHANGES
  ((s.put .KEEPER_NODE 0 n).setStandby).setRole

/-- A pair of the chip is stopped (R25). -/
def State.pairStopped (s : State) : Bool := s.get .PAIR_A_STATE ≠ 0 || s.get .PAIR_B_STATE ≠ 0

/-- The chip is keeper, is not healthy, and gives the role up (R55). One whose pair has stopped is silent and keeps
the role until another takes it over (R60). -/
def State.unfitKeeper (s : State) : Bool :=
  s.get .KEEPER_NODE = s.node && !s.selfHealthy && !s.pairStopped

/-- The members of the island that no hello has told of, each since it joined (R61, log 35). -/
def State.noteJoined (s : State) (l : List Nat) : State :=
  let kept := s.members.filter fun (x : Nat × Member) => x.2.heard || x.1 = s.node || l.contains x.1
  { s with members := l.foldl (fun (m : Tab Member) n =>
      if (m.find n).isSome || n = s.node then m else m.set n { healthy := true, since := s.now }) kept }

/-- The island is judged anew (R55, R59, R62): without the majority it has no keeper. A chip that a duplicate of
its node ID keeps out stays out while the duplicate is heard (R57). -/
def State.refreshIsland (s : State) : State :=
  let l := s.healthyHere
  let s := (s.put .LIVE_MEMBERS 0 (maskOf l)).noteJoined l
  if !s.dupPorts.isEmpty then s.put .KEEPER_ROLE 0 4
  else if !s.majority l then
    ((s.put .KEEPER_NODE 0 0xFF).put .STANDBY_NODE 0 0xFF).put .KEEPER_ROLE 0 3
  else if s.unfitKeeper then (((s.put .KEEPER_NODE 0 0xFF).put .STANDBY_NODE 0 0xFF).setRole)
  else s.setStandby.setRole

/-- The chip may take commands that name an epoch and graft commits (R62). -/
def State.epochsRefused (s : State) : Bool := s.get .KEEPER_ROLE = 3

/-- A link-state message (R58, R213): up or not, withdrawn or not. -/
def State.linkReport (s : State) (port : Nat) (up withdrawn : Bool) : State :=
  s.msg .linkState [s.node, port, s.get .NEIGHBOUR_NODE port, s.get .NEIGHBOUR_PORT port, b2n up, b2n withdrawn]

/-- A withdrawal or a restoration told to the keeper, which then owes a route push (R92, R213). -/
def State.tellLink (s : State) (port : Nat) (withdrawn : Bool) : State :=
  let s := if s.get .KEEPER_ROLE = 1 then { s with pushWanted := true } else s
  s.linkReport port (s.get .NEIGHBOUR_STATE port = 2) withdrawn

/-- A neighbour state, every change of which is told to the keeper; where the topology changes, the keeper
then owes a route push (R58, R92). -/
def State.setNbr (s : State) (port st : Nat) : State :=
  let was := s.get .NEIGHBOUR_STATE port
  if was = st then s
  else
    let s := if s.get .KEEPER_ROLE = 1 ∧ (was = 2 ∨ st = 2) then { s with pushWanted := true } else s
    (s.linkReport port (st = 2) (s.get .WITHDRAWN port = 1)).put .NEIGHBOUR_STATE port st

/-- A neighbour is down (R56): it leaves the topology and the island, the parent is chosen again
(R31) and the keeper is told. -/
def State.nbrDown (s : State) (port : Nat) : State :=
  let n := s.node
  let s := s.setNbr port 0
  let s := { s with hellos := s.hellos.erase port, dupPorts := s.dupPorts.filter (· ≠ port),
                    topo := s.topo.filter fun k => !(k.node = n && k.port = port) &&
                      !(k.nbr = n && k.nbrPort = port) }
  let s := ((s.put .NEIGHBOUR_NODE port 0xFF).put .NEIGHBOUR_PORT port 0xFFFF).put .NEIGHBOUR_SERIAL
    port 0
  s.refreshIsland.retime

/-! ## Refused neighbours (R54, R57) -/

/-- Planes that may not be joined: core A and core B. -/
def planesClash (a b : Nat) : Bool := (a = 0 && b = 1) || (a = 1 && b = 0)

/-- The refused state of R57 for a neighbour, in the table's order; 0 when every check passes. -/
def State.nbrCheck (s : State) (orchard node plane : Nat) : Nat :=
  if orchard ≠ s.get .ORCHARD_ID then 3
  else if !bit (s.get .ORCHARD_MEMBERS) node then 5
  else if planesClash (s.get .PLANE) plane then 6
  else if node = s.node then 4 else 0

/-- A port's neighbour is refused: the port carries hellos only. -/
def State.refusePort (s : State) (st port : Nat) : State :=
  let s := if s.get .NEIGHBOUR_STATE port = 2 then s.nbrDown port else s
  s.setNbr port st

/-- The ports in the fabric role. -/
def State.fabricPorts (s : State) : List Nat :=
  (s.rowsOf .PORT_ROLE).keys.filter fun p => s.get .PORT_ROLE p = 3

/-- A refusal of R57: of two chips with one node ID the one with the higher serial number refuses
every fabric port and stays out. -/
def State.refuseNbr (s : State) (port st serial : Nat) : State :=
  if st = 4 then
    let s := s.event 57 [s.get .CHIP_SERIAL, serial]
    if serial < s.get .CHIP_SERIAL then
      let s := s.fabricPorts.foldl (fun s p => s.refusePort 4 p) s
      { s with dupPorts := nub (s.dupPorts ++ [port]) }.put .KEEPER_ROLE 0 4
    else s.refusePort 4 port
  else s.refusePort st port

/-- A flit names another sender than the neighbour adopted (R194). The old neighbour is down; the one found is
refused by what is known of it, or comes up with two good hellos (R57); the plane of a chip that no hello has told of
is not known and refuses none. Which of two chips of one node ID stays
out waits for a serial number. -/
def State.foundNode (s : State) (port node : Nat) (serial : Option Nat) : State :=
  let s := s.event 194 [port, node]
  let plane := match s.members.find node with
    | some m => if m.heard then m.plane else 2
    | none => 2
  let st := s.nbrCheck (s.get .ORCHARD_ID) node plane
  if st = 0 then (if s.get .NEIGHBOUR_STATE port = 2 then s.nbrDown port else s)
  else match serial with
    | some n => s.refuseNbr port st n
    | none => s.refusePort st port

end Sys2Proof.Machine
end

