-- ==== Sys2Proof/Machine/Lanes.lean ====
section
/-! DEFINITION. Lanes, training stages and spares as shared operations (R223 to R251). -/

namespace Sys2Proof.Machine

open Sys2Proof

/-- The port is a fabric port. -/
def State.isFabric (s : State) (port : Nat) : Bool := s.get .PORT_ROLE port = 3

/-- The port is a device port; a host port. -/
def State.isDevice (s : State) (port : Nat) : Bool := s.get .PORT_ROLE port = 2

def State.isHost (s : State) (port : Nat) : Bool := s.get .PORT_ROLE port = 1

def State.train (s : State) (port : Nat) : TrainH := s.trains.getD {} port

def State.updTrain (s : State) (port : Nat) (f : TrainH → TrainH) : State :=
  { s with trains := s.trains.updD {} port f }

def State.laneH (s : State) (lane : Nat) : LaneH := s.lanes.getD {} lane

def State.updLane (s : State) (lane : Nat) (f : LaneH → LaneH) : State :=
  { s with lanes := s.lanes.updD {} lane f }

/-- The spare bound to a port (R242). -/
def State.spareOf (s : State) (port : Nat) : Option Nat :=
  (List.range 32).find? fun k => s.get .SPARE_PORT k = port

/-- Lane number of a spare (R223). -/
def spareLane (k : Nat) : Nat := 512 + k

/-- The physical lane of a logical lane (R229). -/
def State.physLane (s : State) (port j : Nat) : Nat :=
  if s.get .LANE_ORDER port = 1 then port + (s.get .PORT_WIDTH port - 1 - j) else port + j

/-- The logical lane of a physical one. -/
def State.logLane (s : State) (port lane : Nat) : Nat :=
  if s.get .LANE_ORDER port = 1 then s.get .PORT_WIDTH port - 1 - (lane - port) else lane - port

/-- The port that covers a lane. -/
def State.portOfLane (s : State) (lane : Nat) : Option Nat :=
  (List.range 16).findSome? fun d =>
    if d ≤ lane ∧ d < s.get .PORT_WIDTH (lane - d) ∧ lane < 512 then some (lane - d) else none

/-- The port that a lane or a spare belongs to. -/
def State.portAtLane (s : State) (lane : Nat) : Option Nat :=
  if lane < 512 then s.portOfLane lane
  else if s.get .SPARE_PORT (lane - 512) < 512 then some (s.get .SPARE_PORT (lane - 512)) else none

/-- Logical lanes of the link in training or trained. -/
def State.logLanes (s : State) (port : Nat) : List Nat :=
  let t := s.train port
  (List.range t.width).map (· + t.offset)

/-- A lane's bit in FAILED_LANES. -/
def State.laneFailed (s : State) (port j : Nat) : Bool := bit (s.get .FAILED_LANES port) j

/-- FAILED_LANES with one lane more. -/
def State.failLane (s : State) (port j : Nat) : State :=
  s.put .FAILED_LANES port (s.get .FAILED_LANES port ||| 2 ^ j)

/-- The logical lane that the spare of a port carries, while it is in state 3. -/
def State.sparedLane (s : State) (port : Nat) : Option Nat :=
  match s.spareOf port with
  | none => none
  | some k => if s.get .SPARE_STATE k = 3 then some (s.get .SPARE_LANE k) else none

/-- The spare of a port parked: row "1, 2 or 3" of R244. -/
def State.parkSpare (s : State) (port : Nat) : State :=
  match s.spareOf port with
  | none => s
  | some k =>
    if 1 ≤ s.get .SPARE_STATE k ∧ s.get .SPARE_STATE k ≤ 3 then
      (((s.put .SPARE_LANE k 0xFF).put .LANE_STATE (spareLane k) 0).updLane (spareLane k) fun _ => {}).put
        .SPARE_STATE k 0
    else s

/-- A failed spare may be trained again: last row of R244. -/
def State.freeSpare (s : State) (port : Nat) : State :=
  match s.spareOf port with
  | none => s
  | some k => if s.get .SPARE_STATE k = 4 then s.put .SPARE_STATE k 0 else s

/-- Every lane of a port takes a LANE_STATE. -/
def State.setLanes (s : State) (port st : Nat) : State :=
  (List.range (s.get .PORT_WIDTH port)).foldl (fun s j =>
    let l := s.physLane port j
    if st = 0 ∨ !(s.laneFailed port j) then s.put .LANE_STATE l st else s) s

/-! ## Training blocks (R228) -/

/-- Rate at which a fabric port trains before the partner is known: its MAX_RATE. -/
def fabricRate (r : Nat) : Nat := if r = 0x11 then 0x11 else 0x10

/-- Width that a WIDTH code of R228 means. -/
def widthOf (code : Nat) : Nat := 2 ^ code

/-- The spare stands in place of logical lane j: in training, or in service (R249, R250). -/
def State.substitutes (s : State) (port j : Nat) : Option Nat :=
  match s.spareOf port with
  | some k =>
    if (s.get .SPARE_STATE k = 3 ∨ (s.get .SPARE_STATE k = 1 ∧ s.laneFailed port j)) ∧ s.get .SPARE_LANE k = j then some k
    else none
  | none => none

/-- The lanes that a training needs: logical lane, and the lane or spare that carries it. Lanes
beyond the width that the partner shows are not needed (R225, log 22). -/
def State.trainLanes (s : State) (port : Nat) : List (Nat × Nat) :=
  let l := (s.logLanes port).map fun j =>
    (j, match s.substitutes port j with
      | some k => spareLane k
      | none => s.physLane port j)
  let peer := (l.map fun x => (s.laneH x.2).peerWidth).foldl max 0
  if peer = 0 then l else l.filter fun x => x.1 < peer

/-- The block that a lane sends now (R228). -/
def State.ownBlock (s : State) (port lane idx st : Nat) : TBlock :=
  let h := s.laneH lane
  withCheck
    { sync := 0xD5C3A196, laneIndex := idx, width := widthCode (s.get .PORT_WIDTH port),
      rate := if fabricRate (s.get .MAX_RATE port) = 0x11 then 1 else 0, node := s.node, stage := st,
      eqOp := h.ownOp, eqArg := h.ownArg, eqNum := h.ownNum, echoNum := h.eqNum,
      echoStatus := h.eqStatus }

/-- LANE_INDEX of a lane or spare of a port (R228, R249). -/
def State.indexOf (s : State) (port lane : Nat) : Nat :=
  if lane < 512 then s.logLane port lane
  else if (s.substitutes port (s.get .SPARE_LANE (lane - 512))).isSome then s.get .SPARE_LANE (lane - 512)
  else 31

/-- The blocks of a lane begin to leave with a stage: they are sent again and again until the next one. -/
def State.sendBlock (s : State) (port lane st : Nat) : State :=
  s.emit (.train lane (s.ownBlock port lane (s.indexOf port lane) st))

/-- Stages 2 to 4 send training blocks on every lane (R227, R228). -/
def State.sendBlocks (s : State) (port st : Nat) : State :=
  if 2 ≤ st ∧ st ≤ 4 then (s.trainLanes port).foldl (fun s x => s.sendBlock port x.2 st) s else s

/-- A stage of R227 begins. -/
def State.toStage (s : State) (port st : Nat) : State :=
  ((s.updTrain port fun t => { t with stageAt := s.now }).put .TRAIN_STATE port st).sendBlocks port st

/-- What the lanes remembered of a training is dropped. -/
def State.clearLanes (s : State) (port : Nat) : State :=
  (List.range (s.get .PORT_WIDTH port)).foldl (fun s j =>
    s.updLane (port + j) fun h =>
      { lowRun := h.lowRun, rateRun := h.rateRun, winCount := h.winCount, winAt := h.winAt }) s

/-- Width and first lane at which a port trains that has failed lanes (R249, R250): the largest
aligned group that holds none, one that the spare can replace aside (log 22). -/
def State.usable (s : State) (port : Nat) : Nat × Nat :=
  let full := s.get .PORT_WIDTH port
  let spare := match s.spareOf port with
    | some k => if s.get .SPARE_STATE k = 0 then 1 else 0
    | none => 0
  ([16, 8, 4, 2, 1].findSome? fun w =>
    if full < w then none
    else ((List.range (full / w)).find? fun i =>
      decide (((List.range w).filter fun d => s.laneFailed port (i * w + d)).length ≤ spare)).map
        fun i => (w, i * w)).getD (full, 0)

/-- Training of a fabric port begins at Detect (R227). -/
def State.startDetect (s : State) (port : Nat) : State :=
  let s := s.parkSpare port
  let s := ((s.clearLanes port).put .LINK_WIDTH port 0).put .LINK_RATE port 0
  let u := s.usable port
  let s := s.updTrain port fun _ =>
    { width := u.1, offset := u.2, rate := fabricRate (s.get .MAX_RATE port) }
  (s.setLanes port 1).toStage port 1

/-- Training restarts from stage 2 at a width and rate (R251). -/
def State.restartAt (s : State) (port width rate : Nat) : State :=
  let s := (s.parkSpare port).freeSpare port
  let s := (((s.put .FAILED_LANES port 0).clearLanes port).put .LINK_WIDTH port 0).put .LINK_RATE port 0
  let s := s.updTrain port fun _ => { width := width, rate := rate }
  (s.setLanes port 1).toStage port 2

/-- Stages 2 to 6 fail without a cure (R227). -/
def State.trainFail (s : State) (port cause : Nat) : State :=
  let s := ((s.parkSpare port).setLanes port 0).put .TRAIN_FAIL_CAUSE port cause
  let s := (s.put .LINK_WIDTH port 0).put .LINK_RATE port 0
  let s := s.updTrain port fun t => { t with failedAt := some s.now }
  s.toStage port 0

/-- The lanes of a port that serve nothing read parked; failed and replaced ones keep their state. -/
def State.idleLanes (s : State) (port : Nat) : State :=
  (List.range (s.get .PORT_WIDTH port)).foldl (fun s j =>
    if s.laneFailed port j then s else s.put .LANE_STATE (s.physLane port j) 0) s

/-- Stage 6 ended with block lock: the lanes of the trained link are in service (R227, R252). -/
def State.trainDone (s : State) (port : Nat) : State :=
  let t := s.train port
  let s := (s.put .LINK_WIDTH port t.width).put .LINK_RATE port t.rate
  let s := (s.logLanes port).foldl (fun s j =>
    if s.laneFailed port j then s else s.put .LANE_STATE (s.physLane port j) 2) (s.idleLanes port)
  let s := (s.put .TRAIN_FAIL_CAUSE port 0).toStage port 7
  match s.sparedLane port with
  | some j => s.put .LANE_STATE (s.physLane port j) 4
  | none => s

/-- A narrower width after lane j can no longer be used: the largest width of R224 below the
present one with an aligned group that holds no failed lane, a lane replaced by a working spare
counting as good (R250): width and first lane. -/
def State.narrower (s : State) (port : Nat) (spareBad : Bool) : Option (Nat × Nat) :=
  let t := s.train port
  let ok (j : Nat) := !s.laneFailed port j || (!spareBad && s.sparedLane port = some j)
  [8, 4, 2, 1].findSome? fun w =>
    if t.width ≤ w then none
    else
      ((List.range (t.width / w)).map fun i => t.offset + i * w).findSome? fun a =>
        if (List.range w).all fun d => ok (a + d) then some (w, a) else none

/-- The receiver takes its lane from the spare, which is then active; the next exchange is skipped (R34, R244, R247,
R248). -/
def State.spareTakes (s : State) (port : Nat) : State :=
  match s.spareOf port with
  | none => s
  | some k => (s.updMarks port fun m => { m with skip := true }).put .SPARE_STATE k 3

/-- The swap of R247 is complete: the physical lane is parked, and the spare serves. -/
def State.swapDone (s : State) (port : Nat) : State :=
  match s.spareOf port with
  | none => s
  | some k =>
    let j := s.get .SPARE_LANE k
    let s := ((s.failLane port j).put .LANE_STATE (s.physLane port j) 4).bump .SPARE_SWAPS k
    (s.put .LANE_STATE (spareLane k) 2).put .SPARE_STATE k 3

/-- Counters of a port's rows that a port reset clears when the link next trains (R395). -/
def State.clearPortCounters (s : State) (port : Nat) : State :=
  if !s.ctrReset.contains port then s
  else
    let s := [Obj.IDE_CHECK_FAILS, .IDE_KEY_REFRESHES, .FLITS_REPLAYED, .NAKS_SENT, .NAKS_RECEIVED,
      .FEC_CORRECTED, .BAD_FLITS, .REINITS_PLANNED, .REINITS_UNPLANNED, .LINK_DOWNS,
      .PACKETS_SALVAGED, .COLLISIONS, .STALE_ACKS].foldl (fun s o => s.put o port 0) s
    let s := (List.range (s.get .PORT_WIDTH port)).foldl (fun s d =>
      ((s.put .BIT_ERRORS (port + d) 0).put .SYMBOL_ERRORS (port + d) 0).put .MARGIN_TRIGGERS
        (port + d) 0) s
    let s := (List.range 8).foldl (fun s c =>
      ((s.put .SC_TX_TLPS (port * 8 + c) 0).put .SC_TX_BYTES (port * 8 + c) 0).put .SC_SHAPED_CLOCKS
        (port * 8 + c) 0) s
    { s with ctrReset := s.ctrReset.filter (· ≠ port) }

/-! ## Errors and patterns (R237, R238) -/

/-- A 48-bit counter that holds at its top (R238). -/
def State.bumpHold (s : State) (o : Obj) (row n : Nat) : State :=
  s.put o row (min (s.get o row + n) (2 ^ 48 - 1))

/-- Bits and symbols in error on a lane in service: its counters, and the window of R240. -/
def State.laneErrors (s : State) (lane bits syms : Nat) : State :=
  ((s.bumpHold .BIT_ERRORS lane bits).bumpHold .SYMBOL_ERRORS lane syms).updLane lane fun h =>
    { h with winCount := h.winCount + syms }

/-- Degree and tap of a pattern's polynomial (R237). -/
def prbsTaps (code : Nat) : Nat × Nat := [(0, 0), (7, 6), (9, 5), (15, 14), (23, 18), (31, 28)].getD code (0, 0)

/-- The next bit of a pattern, from a register whose bit 0 is the last bit: the sum of the bits n and m back. -/
def prbsNext (n m reg : Nat) : Bool := xor (reg.testBit (n - 1)) (reg.testBit (m - 1))

/-- A bit taken into a register of n. -/
def prbsShift (n reg : Nat) (b : Bool) : Nat := (2 * reg + b2n b) % 2 ^ n

/-- Bits of a generator's pattern from a register on (R237). -/
def prbsRun (n m : Nat) : Nat → Nat → List Bool
  | _, 0 => []
  | reg, k + 1 =>
    let b := prbsNext n m reg
    b :: prbsRun n m (prbsShift n reg b) k

end Sys2Proof.Machine
end

