-- ==== Sys2Proof/Machine/Octets.lean ====
section
/-! DEFINITION. The 512 bytes of a flit: layout, CRC-64 and Reed–Solomon code, and what a receiver makes of the
bytes that the line has changed (R189 to R192, R198, R215, R245). -/

namespace Sys2Proof.Machine

open Sys2Proof

/-! ## Bytes (R189) -/

/-- The n bytes of a number, most significant first. -/
def beBytes (v n : Nat) : List Nat := (List.range n).map fun i => v / 256 ^ (n - 1 - i) % 256

/-- Bytes as one number, most significant first. -/
def beNat (l : List Nat) : Nat := l.foldl (fun a b => a * 256 + b) 0

/-- Bytes filled up with zeros. -/
def padTo (n : Nat) (l : List Nat) : List Nat := l.take n ++ List.replicate (n - l.length) 0

/-! ## Payload (R195, R197, R198, R215, R245) -/

/-- Everything that a TLP says, for the form that PCI Express Base 6.2 gives it (log 10). -/
def tlpFields (t : Tlp) : List Nat :=
  [t.kind.ctorIdx, t.rid, t.tag, t.tc, b2n t.ro, b2n t.ido, b2n t.nosnoop, b2n t.at10, t.addr, t.data, t.hdr,
    t.target, t.cplId, t.status, t.lower, t.byteCount, t.value, t.msgCode, b2n t.poisoned, t.header]

/-- A TLP's bytes in flit-mode form. -/
def tlpBytes (t : Tlp) : List Nat :=
  (List.range t.bytes).map fun i => Config.tlpOctet (tlpFields t) i % 256

/-- A packet's granules: fabric packet header and TLP. -/
def pktBytes (p : Pkt) : List Nat :=
  padTo (8 * granulesOf p.tlp.bytes) (beBytes (fabricHeader p) 16 ++ tlpBytes p.tlp)

/-- The part of a packet that one flit carries. -/
def partBytes (q : Part) : List Nat := ((pktBytes q.pkt).drop (8 * q.start)).take (8 * q.granules)

/-- A control message: four granules, five in POOL_UPDATE. -/
def ctlBytes (m : Ctl) : List Nat :=
  beBytes (ctlGranule0 m) 8 ++
    (if m.op = 5 then m.mins.flatMap (fun v => beBytes v 4) else beBytes (ctlGranule1 m) 8 ++ List.replicate 16 0)

/-- The payload of INIT. -/
def initBytes (i : Init) : List Nat :=
  beBytes 1 2 ++ [i.node, i.width] ++ beBytes i.port 2 ++ [i.gen, b2n i.peerSeen + 2 * b2n i.seqKept] ++
    beBytes i.serial 8 ++ beBytes i.poolUnits 4 ++ (i.mins ++ i.held).flatMap (fun v => beBytes v 4) ++
    beBytes i.rxLastGood 2 ++ beBytes i.txNextSeq 2 ++ [i.ackCoalesce, i.resumeGranule] ++
    beBytes i.ackTimer 2 ++ List.replicate 4 0

def payloadBytes : Payload → List Nat
  | .idle => []
  | .data ps => ps.flatMap partBytes
  | .control m => ctlBytes m
  | .init i => initBytes i

/-! ## CRC (R191) -/

/-- One byte into the CRC of ECMA-182, most significant bit first. -/
def crcByte (c b : Nat) : Nat :=
  (List.range 8).foldl (fun c _ =>
    if c.testBit 63 then (c * 2) % 2 ^ 64 ^^^ 0x42F0E1EBA9EA3693 else c * 2) (c ^^^ b * 2 ^ 56)

/-- The CRC of R191 over some bytes. -/
def crc64 (l : List Nat) : Nat := l.foldl crcByte (2 ^ 64 - 1) ^^^ (2 ^ 64 - 1)

/-! ## Reed–Solomon code (R190) -/

/-- A product in GF(2^8). -/
def gfMul (a b : Nat) : Nat :=
  (List.range 8).foldr (fun i r =>
    (if r < 128 then r * 2 else r * 2 ^^^ 0x11D) ^^^ (if b.testBit i then a else 0)) 0

/-- A power below 256, by squaring. -/
def gfPow (a n : Nat) : Nat :=
  (List.range 8).foldr (fun i r => if n.testBit i then gfMul (gfMul r r) a else gfMul r r) 1

/-- α to a power. -/
def gfAlpha (n : Nat) : Nat := gfPow 2 (n % 255)

def gfInv (a : Nat) : Nat := gfPow a 254

/-- The coefficients of the generator below its highest, in falling order. -/
def rsGen : List Nat :=
  ((List.range 6).foldl (fun (g : List Nat) i =>
    List.zipWith (· ^^^ ·) (g ++ [0]) (0 :: g.map (gfMul (gfAlpha i)))) [1]).drop 1

/-- The six parity bytes of a message, the highest-order first. -/
def rsParity (m : List Nat) : List Nat :=
  m.foldl (fun r b =>
    let f := b ^^^ r.headD 0
    List.zipWith (fun a g => a ^^^ gfMul f g) (r.drop 1 ++ [0]) rsGen) (List.replicate 6 0)

/-- Every third byte of a flit's first 494 from byte j on: the message of codeword j. -/
def rsMessage (l : List Nat) (j : Nat) : List Nat :=
  ((l.zip (List.range 494)).filter fun x => x.2 % 3 = j).map (·.1)

/-- The bytes 494 to 511. -/
def fecBytes (l : List Nat) : List Nat :=
  let c := (List.range 3).map fun j => rsParity (rsMessage l j)
  (List.range 18).map fun i => (c.getD (i % 3) []).getD (i / 3) 0

/-- The 512 bytes of a flit as sent, byte 0 first (R189). -/
def flitOctets (f : Flit) : List Nat :=
  let b := beBytes f.header 12 ++ padTo 472 (payloadBytes f.payload) ++ beBytes f.timing 2
  let c := b ++ beBytes (crc64 b) 8
  c ++ fecBytes c

/-! ## Decoding (R190, R192)

The code and the CRC are linear, so what a receiver finds depends on what the line has added to the bytes alone:
`noise` holds for each byte that it changed the place in the flit and the value added. -/

/-- Symbols of the message of codeword j. -/
def rsLen (j : Nat) : Nat := if j = 2 then 164 else 165

/-- The codeword of a byte. -/
def rsWord (i : Nat) : Nat := if i < 494 then i % 3 else (i - 494) % 3

/-- The power of x at which a byte stands in its codeword. -/
def rsPower (i : Nat) : Nat := if i < 494 then rsLen (i % 3) + 5 - i / 3 else 5 - (i - 494) / 3

/-- The byte at a power of x of codeword j. -/
def rsByte (j p : Nat) : Nat := if p < 6 then 494 + j + 3 * (5 - p) else 3 * (rsLen j + 5 - p) + j

/-- Syndromes of an error pattern: powers of x with the values there. -/
def rsSyndromes (e : List (Nat × Nat)) : List Nat :=
  (List.range 6).map fun k => e.foldl (fun a x => a ^^^ gfMul x.2 (gfAlpha (k * x.1))) 0

/-- The sum of products over GF(2^8). -/
def gfDot (a b : List Nat) : Nat := (a.zip b).foldl (fun s x => s ^^^ gfMul x.1 x.2) 0

/-- Solution of linear equations over GF(2^8), a row holding the coefficients and then the right side; none where
they do not determine it. -/
def gfSolve : Nat → List (List Nat) → Option (List Nat)
  | 0, _ => some []
  | n + 1, rows =>
    match rows.find? fun r => r.headD 0 ≠ 0 with
    | none => none
    | some r =>
      let p := (r.drop 1).map (gfMul (gfInv (r.headD 0)))
      let rest := (rows.erase r).map fun q =>
        ((q.drop 1).zip p).map fun x => x.1 ^^^ gfMul (q.headD 0) x.2
      (gfSolve n rest).map fun xs => (p.getLastD 0 ^^^ gfDot p xs) :: xs

/-- The pattern of exactly v errors in a codeword of n symbols with given syndromes, where there is one: error
locator, its roots, values. -/
def rsLocate (n : Nat) (s : List Nat) (v : Nat) : Option (List (Nat × Nat)) :=
  match gfSolve v ((List.range v).map fun j => ((s.drop j).take v).reverse ++ [s.getD (j + v) 0]) with
  | none => none
  | some l =>
    let ps := (List.range n).filter fun p =>
      1 ^^^ gfDot l ((List.range v).map fun m => gfAlpha ((255 - p) * (m + 1))) = 0
    match gfSolve v ((List.range v).map fun k => ps.map (fun p => gfAlpha (k * p)) ++ [s.getD k 0]) with
    | none => none
    | some ys =>
      let e := ps.zip ys
      if ps.length = v ∧ rsSyndromes e = s then some e else none

/-- What the decoder corrects in a codeword of n symbols: up to three symbols, none where it is uncorrectable. -/
def rsDecode (n : Nat) (s : List Nat) : Option (List (Nat × Nat)) :=
  if s.all (· = 0) then some []
  else (rsLocate n s 1).or ((rsLocate n s 2).or (rsLocate n s 3))

/-- The corrections of codeword j: byte and value. -/
def flitWord (f : Flit) (j : Nat) : Option (List (Nat × Nat)) :=
  let e := (f.noise.filter fun x => rsWord x.1 = j).map fun x => (rsPower x.1, x.2)
  (rsDecode (rsLen j + 6) (rsSyndromes e)).map fun l => l.map fun x => (rsByte j x.1, x.2)

/-- Every symbol corrected in a flit. -/
def flitCorrections (f : Flit) : List (Nat × Nat) :=
  if f.noise.isEmpty then [] else (List.range 3).flatMap fun j => (flitWord f j).getD []

/-- What is left of the noise after correction, byte by byte. -/
def flitResidue (f : Flit) : List Nat :=
  let l := f.noise ++ flitCorrections f
  (List.range 494).map fun i => (l.filter fun x => x.1 = i).foldl (fun a x => a ^^^ x.2) 0

/-- The flit that a receiver takes from the corrected bytes: none where a codeword is uncorrectable or the CRC does
not match. Errors in the payload that the decoder and the CRC both miss are taken as found (log 79). -/
def flitDecoded (f : Flit) : Option Flit :=
  if f.noise.isEmpty then some f
  else if !((List.range 3).all fun j => (flitWord f j).isSome) then none
  else
    let r := flitResidue f
    let c := (r.take 486).foldl crcByte 0
    if c ≠ beNat (r.drop 486) ∨ ((r.drop 12).take 472).any (· ≠ 0) then none
    else some { f with header := f.header ^^^ beNat (r.take 12),
                       timing := f.timing ^^^ beNat ((r.drop 484).take 2), noise := [] }

/-! ## Bytes on the lanes (R226) -/

/-- The PAM4 level of two bits, Gray coded. -/
def grayLevel (b : Nat) : Nat := [0, 1, 3, 2].getD b 0

/-- The four symbols of a byte, the more significant bit pair first. -/
def byteSymbols (b : Nat) : List Nat := [64, 16, 4, 1].map fun d => grayLevel (b / d % 4)

/-- The symbols of the bytes that logical lane i of w carries, in rising order. -/
def laneSymbols (octets : List Nat) (w i : Nat) : List Nat :=
  ((octets.zipIdx.filter fun x => x.2 % w = i).map (·.1)).flatMap byteSymbols

end Sys2Proof.Machine
end

