-- ==== Sys2Proof/Machine/Link.lean ====
section
/-! DEFINITION. The Orchard Link as shared operations: flits out and in, acknowledgement, replay,
credits, the link states, link down, salvage, withdrawal and requests (R189 to R221). -/

namespace Sys2Proof.Machine

open Sys2Proof

def State.link (s : State) (port : Nat) : LinkH := s.links.getD {} port

def State.updLink (s : State) (port : Nat) (f : LinkH → LinkH) : State :=
  { s with links := s.links.updD {} port f }

/-! ## Sequence state (R201, R202, R206) -/

/-- Unacknowledged flits (3200.0B). -/
def State.unacked (s : State) (port : Nat) : Nat :=
  seqDist (s.get .TX_NEXT_SEQ port) (s.link port).oldest

/-- A new flit may be sent (R202). -/
def State.roomForFlit (s : State) (port : Nat) : Bool :=
  let w := s.get .LINK_WIDTH port
  decide (s.unacked port < min 2048 (256 * w)) && decide ((s.link port).mem.length < 256 * w)

/-- The acknowledged flits that replay memory still keeps: those of a packet that runs on into
unacknowledged flits (R202). DEDUCED (log 90): an acknowledged CONTROL flit has no byte of a packet in it, so it is
freed even where it lies between the flits of such a packet. -/
def keptSlots : List Slot → List Slot → List Slot
  | kept, [] => kept
  | kept, x :: xs =>
    match x.payload with
    | .data ps =>
      match ps.getLast? with
      | some q => keptSlots (if q.last then [] else if q.first then [x] else kept ++ [x]) xs
      | none => keptSlots kept xs
    | _ => keptSlots kept xs

/-- Every flit up to `a` is acknowledged and freed (R206). -/
def State.ackUpTo (s : State) (port a : Nat) : State :=
  let h := s.link port
  if seqDist a (seqPrev h.oldest) = 0 then s
  else
    let acked := h.mem.filter fun x => !seqAfter x.seq a
    let rest := h.mem.filter fun x => seqAfter x.seq a
    let rep := match h.replay with
      | some (n, l) => if seqAfter n a then some (n, l)
                       else if seqAfter l a then some (seqNext a, l) else none
      | none => none
    s.updLink port fun h => { h with oldest := seqNext a, mem := keptSlots [] acked ++ rest,
                                     replay := rep, advAt := s.now }

/-! ## Credits (R209, R210) -/

/-- Parity of a count of 21 bits. -/
def parity21 (n : Nat) : Nat := ((List.range 21).filter fun i => n.testBit i).length % 2

/-- A count with its parity (R214). -/
def withParity (n : Nat) : Nat := n % 2 ^ 21 + 2 ^ 21 * parity21 (n % 2 ^ 21)

/-- C[v] of R210. -/
def LinkH.C (h : LinkH) (v : Nat) : Nat := h.sent.getD 0 v % 2 ^ 21

/-- R[v] of R210. -/
def LinkH.R (h : LinkH) (v : Nat) : Nat := h.back.getD 0 v % 2 ^ 21

/-- The first granule of a packet is sent: C[v] := C[v] + k (R210). -/
def LinkH.consume (h : LinkH) (p : Pkt) : LinkH :=
  { h with sent := h.sent.set p.cls (withParity (h.C p.cls + creditUnits p)) }

/-- A bit of a count, or of its parity, turns over: of R[v] or of C[v]. -/
def LinkH.upset (h : LinkH) (x : Bool × Nat × Nat) : LinkH :=
  if x.1 then { h with back := h.back.set x.2.1 (h.back.getD 0 x.2.1 ^^^ 2 ^ x.2.2) }
  else { h with sent := h.sent.set x.2.1 (h.sent.getD 0 x.2.1 ^^^ 2 ^ x.2.2) }

/-- Every count agrees with its parity (R214). -/
def LinkH.parityOk (h : LinkH) : Bool :=
  (h.sent ++ h.back).all fun x : Nat × Nat => x.2 / 2 ^ 21 = parity21 (x.2 % 2 ^ 21)

/-- Units outstanding on a channel: O[u] of R210. -/
def LinkH.out (h : LinkH) (u : Nat) : Nat := (h.C u + 2 ^ 21 - h.R u) % 2 ^ 21

/-- MIN[u] of the partner's pool. -/
def LinkH.min (h : LinkH) (u : Nat) : Nat := h.peerMins.getD u 0

/-- may_send of R210. -/
def LinkH.maySend (h : LinkH) (v k : Nat) : Bool :=
  let excess := ((List.range 8).map fun u =>
    if u = v then h.out u + k - h.min u else h.out u - h.min u).sum
  decide (excess + ((List.range 8).map h.min).sum ≤ h.peerPool)

/-- Packets that have been chosen and not begun count as sent for the next choice. -/
def LinkH.withQueued (h : LinkH) : LinkH :=
  (if h.txDone = 0 then h.txq else h.txq.drop 1).foldl LinkH.consume h

/-- The neighbour at a port is refused: the port carries hellos only (R57). -/
def State.nbrRefused (s : State) (port : Nat) : Bool :=
  3 ≤ s.get .NEIGHBOUR_STATE port && s.get .NEIGHBOUR_STATE port ≤ 6

/-- The sender may choose a packet for the link (R57, R210). -/
def State.linkMaySend (s : State) (port : Nat) (p : Pkt) : Bool :=
  s.get .OL_STATE port = 2 && !s.nbrRefused port && (s.link port).withQueued.maySend p.cls (creditUnits p)

/-- Units that the reservations in force need on a channel toward the neighbour at a port (R175). -/
def State.needToward (s : State) (port v : Nat) : Nat := s.unitsNeeded s.grantedRows s.node port v

/-- Channel minimums of the partner as it tells them in INIT and POOL_UPDATE (R199, R211). It tells the effective
ones; what it has set is what it tells where that is more than reservations need. Minimums that a commit decision has
raised already stay raised. -/
def State.peerTold (s : State) (port : Nat) (mins : List Nat) : State :=
  [6, 7].foldl (fun s v =>
    let told := mins.getD v 0
    let set := if s.needToward port v < told then told else match (s.link port).bases.find v with
      | some b => min b told
      | none => min told (s.orchGet .VC_MIN_SET (s.get .NEIGHBOUR_NODE port) (s.get .NEIGHBOUR_PORT port * 8 + v))
    s.updLink port fun h =>
      { h with bases := h.bases.set v set, peerMins := h.peerMins.set v (max told (h.raised.getD 0 v)) })
    (s.updLink port fun h => { h with peerMins := mins })

/-- POOL_UNITS (R208). -/
def State.poolUnits (s : State) (port : Nat) : Nat := s.poolBytes port / 64

/-- Units that this end's pool holds on a channel: packets received and not copied out. -/
def State.poolHeld (s : State) (port v : Nat) : Nat :=
  let mine := fun p : Pkt => p.inPort = port && p.cls = v
  (((s.rx.getD [] (clusterOf port)).filter fun i => i.port = port && i.pkt.cls = v).map fun i =>
    creditUnits i.pkt).sum + (s.streams.map fun x => ((x.2.held.filter mine).map creditUnits).sum).sum

/-! ## Flits out (R193, R194, R204, R205, R207) -/

/-- The acknowledgement that the next flit carries: kind and sequence number. -/
def State.ackFields (s : State) (port : Nat) : Nat × Nat :=
  let h := s.link port
  let a := seqPrev (s.get .RX_EXPECTED port)
  if h.nakDue then (2, a) else if h.ackDue then (1, a) else (0, 0)

/-- What each lane carries of a flit's bytes: a lane that is not parked its own, and a spare that mirrors or replaces a
lane that lane's (R226, R244). -/
def State.onLanes (s : State) (port : Nat) (octets : List Nat) : List (Nat × List Nat) :=
  let t := s.train port
  (List.range t.width).flatMap fun i =>
    let j := t.offset + i
    let sy := laneSymbols octets t.width i
    (if s.laneFailed port j then [] else [(s.physLane port j, sy)]) ++
      (match s.spareOf port with
        | some k => if 2 ≤ s.get .SPARE_STATE k && s.get .SPARE_STATE k ≤ 3 && s.get .SPARE_LANE k = j then [(spareLane k, sy)]
                    else []
        | none => [])

/-- The bytes of a flit leave the port. -/
def State.flitOut (s : State) (port : Nat) (f : Flit) : State :=
  s.emit (.flit port f (flitOctets f) (s.onLanes port (flitOctets f)))

/-- A flit leaves: header with acknowledgement and credit return, timing field, flit count. -/
def State.sendFlit (s : State) (port ftype seq : Nat) (pl : Payload) (granules start : Nat)
    (replay : Bool) : State :=
  let h := s.link port
  let (kind, a) := s.ackFields port
  let (timing, s) := s.timingOut port replay
  let hd := linkHeader seq a kind ftype h.crVc (s.get .VC_RETURNED (port * 8 + h.crVc)) start granules
    replay s.node
  let s := if kind = 2 then s.bump .NAKS_SENT port else s
  let s := s.updLink port fun h =>
    { h with crVc := (h.crVc + 1) % 8, nakDue := false, ackDue := false,
             nakAt := if kind = 2 then s.now else h.nakAt,
             owed := if kind = 0 then h.owed else 0,
             txCount := (h.txCount + 1) % 2 ^ 32 }
  (s.countTile port 0x80 1).flitOut port { header := hd, payload := pl, timing := timing }

/-- A new DATA or CONTROL flit takes the next sequence number and is kept (R194). -/
def State.sendNew (s : State) (port ftype : Nat) (pl : Payload) (granules start : Nat) : State :=
  let n := s.get .TX_NEXT_SEQ port
  let s := if s.unacked port = 0 then s.updLink port fun h => { h with advAt := s.now } else s
  let s := s.updLink port fun h =>
    { h with mem := h.mem ++ [{ seq := n, payload := pl, granules := granules, start := start }] }
  (s.put .TX_NEXT_SEQ port (seqNext n)).sendFlit port ftype n pl granules start false

/-- SWAP_FLIT of a REQUEST or GRANT that leaves now (R247): 2,048 flits ahead. After an emergency switch it names a
flit that has passed (R248; DEDUCED, log 87: the flit that carries the REQUEST). -/
def LinkH.swapFlit (h : LinkH) (op : Nat) : Nat :=
  if op = 1 ∧ h.rxOnSpare then h.txCount else (h.txCount + 2048) % 2 ^ 32

/-- A SWAP that has waited for its turn names its flit as it leaves (R247). -/
def State.stampSwap (s : State) (port : Nat) (m : Ctl) : Ctl × State :=
  if m.kind = 3 ∧ m.phase = 2 ∧ m.op ≤ 2 then
    let m := { m with swapFlit := (s.link port).swapFlit m.op }
    (m, s.updLink port fun h =>
      { h with swapTx := some m.swapFlit, own := if m.op = 1 then some m else h.own })
  else (m, s)

/-- A control message is sent at once where the link allows it, else it waits its turn. -/
def State.sendCtl (s : State) (port : Nat) (m : Ctl) : State :=
  let s := s.emit (.control port m)
  let h := s.link port
  let granules := if m.op = 5 then 5 else 4
  if s.get .OL_STATE port = 2 && h.trailing = 0 && h.replay.isNone && h.ctlq.isEmpty &&
      s.roomForFlit port then
    s.sendNew port 2 (.control m) granules 63
  else s.updLink port fun h => { h with ctlq := h.ctlq ++ [m] }

/-- The INIT payload (R198). -/
def State.initOf (s : State) (port : Nat) : Init :=
  let h := s.link port
  { node := s.node, width := s.get .LINK_WIDTH port, port := port, gen := h.initGen,
    peerSeen := h.peer.isSome, seqKept := h.seqKept, serial := s.get .CHIP_SERIAL,
    poolUnits := s.poolUnits port,
    mins := (List.range 8).map fun v => s.get .VC_MIN_EFFECTIVE (port * 8 + v),
    held := (List.range 8).map fun v => s.poolHeld port v,
    rxLastGood := seqPrev (s.get .RX_EXPECTED port), txNextSeq := s.get .TX_NEXT_SEQ port,
    ackCoalesce := s.get .ACK_COALESCE port, resumeGranule := h.resume,
    ackTimer := s.get .ACK_TIMER port }

/-- An INIT flit leaves; it carries no credit return (R194, R198). -/
def State.sendInit (s : State) (port : Nat) : State :=
  let hd := linkHeader 0 0 0 3 0 0 63 12 false s.node
  (s.countTile port 0x80 1).flitOut port { header := hd, payload := .init (s.initOf port) }

/-- Packets packed into the granules of one flit (R197): the parts, what is left of the packets,
granules of the first of them already sent, and the channel counts. -/
def packParts : List Pkt → Nat → Nat → LinkH → List Part × List Pkt × Nat × LinkH
  | [], _, _, h => ([], [], 0, h)
  | p :: ps, done, space, h =>
    if space = 0 ∨ (done = 0 ∧ !h.maySend p.cls (creditUnits p)) then ([], p :: ps, done, h)
    else
      let h := if done = 0 then h.consume p else h
      let g := granulesOf p.tlp.bytes
      let n := min space (g - done)
      let part : Part := { pkt := p, granules := n, first := done = 0, last := done + n = g, start := done }
      if done + n = g then
        let (qs, rest, d, h) := packParts ps 0 (space - n) h
        (part :: qs, rest, d, h)
      else ([part], p :: ps, done + n, h)

/-- Granule at which the first packet that starts in the flit begins; 63 when none does. -/
def firstStart : List Part → Nat → Nat
  | [], _ => 63
  | q :: qs, at_ => if q.first then at_ else firstStart qs (at_ + q.granules)

/-- The parts of a flit beyond the granules that the receiver holds already (RESUME_GRANULE of R199). -/
def partsAfter : Nat → List Part → List Part
  | _, [] => []
  | n, q :: qs => if n = 0 then q :: qs else partsAfter (n - q.granules) qs

/-- A replayed flit that the partner does not hold since a REINIT counts its packets' units anew (R199, R210). -/
def LinkH.counted (h : LinkH) (last : Nat) (x : Slot) : LinkH :=
  match h.recount with
  | some (n, g) =>
    if x.seq ≠ n then h
    else
      let ps := match x.payload with
        | .data ps => partsAfter g ps
        | _ => []
      { ((ps.filter (·.first)).map (·.pkt)).foldl LinkH.consume h with
          recount := if n = last then none else some (seqNext n, 0) }
  | none => h

/-- The next flit in ACTIVE (R194, R207): replay, CONTROL, DATA or IDLE. -/
def State.nextFlit (s : State) (port : Nat) : State :=
  let h := s.link port
  let idle (s : State) := s.sendFlit port 0 (s.get .TX_NEXT_SEQ port) .idle 0 63 false
  match h.replay with
  | some (n, l) =>
    let s := s.updLink port fun h =>
      { h with replay := if n = l then none else some (seqNext n, l),
               replayNak := if n = l then none else h.replayNak }
    match h.mem.find? (·.seq = n) with
    | some x =>
      let ty := match x.payload with
        | .control _ => 2
        | _ => 1
      let s := s.updLink port fun h => h.counted l x
      ((s.bump .FLITS_REPLAYED port).countTile port 0x81 1).sendFlit port ty n x.payload x.granules x.start true
    | none => idle s
  | none =>
    if !s.roomForFlit port then idle s
    else
      match h.ctlq with
      | m :: ms =>
        let (m, s) := (s.updLink port fun h => { h with ctlq := ms }).stampSwap port m
        s.sendNew port 2 (.control m) (if m.op = 5 then 5 else 4) 63
      | [] =>
        let (parts, rest, d, h) := packParts h.txq h.txDone 59 h
        if parts.isEmpty then idle s
        else
          let s := s.updLink port fun _ => { h with txq := rest, txDone := d }
          s.sendNew port 1 (.data parts) ((parts.map (·.granules)).sum) (firstStart parts 0)

/-- One flit leaves a fabric port, by its state (R194, R199, R227 stage 6). -/
def State.transmit (s : State) (port : Nat) : State :=
  let st := s.get .OL_STATE port
  if st = 1 ∨ st = 3 ∨ (st = 0 ∧ s.get .TRAIN_STATE port = 6) then s.sendInit port
  else if st = 2 then
    if (s.link port).trailing ≠ 0 then
      (s.updLink port fun h => { h with trailing := h.trailing - 1, txCount := 0 }).sendInit port
    else s.nextFlit port
  else s

/-! ## Link down and salvage (R91, R218, R219) -/

/-- Fast reroute of R91: every row that names the port takes its alternate, or none where it has none; traffic
toward the nodes that move is flagged (R123), and the queues move (R131). DEDUCED (log 85): a row without an alternate
is no row moved. -/
def State.fastReroute (s : State) (port : Nat) : State :=
  let ns := (List.range 32).filter fun n => s.get .ACTIVE_PORT n = port && s.get .ALTERNATE_PORT n ≠ port
  let moved := ns.filter fun n => s.get .ALTERNATE_PORT n ≠ 0xFFFF
  let s := ns.foldl (fun s n => s.put .ACTIVE_PORT n (s.get .ALTERNATE_PORT n)) s
  if moved.isEmpty then s
  else
    let s := moved.foldl (fun s n =>
      { s with flagUntil := s.flagUntil.set n (s.now + us (s.get .ORDER_HOLD_TIMEOUT)) }) s
    (s.bump .FAST_REROUTES).moveQueues

/-- A port can send nothing: its link is down. -/
def State.portDown (s : State) (port : Nat) : Bool :=
  if s.isFabric port then s.get .OL_STATE port = 0 else !(s.pports.getD {} port).up

/-- The salvaged cells at the head of a list. -/
def salvagedRun (l : List Cel) : Nat := (l.takeWhile (·.salv)).length

/-- A salvaged packet is linked ahead of every TLP of its sub-list, behind those salvaged before
it (R219); it takes the counter's value as any TLP does, and an empty queue wakes (R135, R152). -/
def State.linkSalvaged (s : State) (k : Nat) (p : Pkt) (cs : List Nat) : State :=
  (s.touch cs).updQ k fun q =>
    let q := (q.noteClock s.clockNow).woken s.clockNow (s.portOfKey k) (s.vtime (s.portOfKey k) (keyClass k))
    let l := q.sub p.tlp.sub
    let n := salvagedRun l.head
    let cells := (cellsOf p q.stamp cs true).map fun c => { c with salv := true }
    let l := (l.note p.src)
    let q := q.setSub { l with head := l.head.take n ++ cells ++ l.head.drop n } p.tlp.sub
    { q with stamp := (q.stamp + 1) % 2 ^ 32, usedPip := s.pip }

/-- Salvaged packets go to their flow queues in order, charged to the spill reserve; those it
cannot take, or that meet a full crossing, wait in replay memory (R14, R219); `late` says that they have had the time to
cross. A twin copy whose port is down is discarded (R88). -/
def State.salvageInto (s : State) (port : Nat) (late : Bool) : List Pkt → State
  | [] => s.updLink port fun h => { h with salvage := [] }
  | p :: ps =>
    match s.keyOf p with
    | none => (s.refuseTlp true p).salvageInto port late ps
    | some k =>
      if p.twin ≠ 0 ∧ s.portDown (s.portOfKey k) then s.salvageInto port late ps
      else
        let xs := crossingsIn (clusterOf port) (s.portOfKey k % 512)
        let wait := s.updLink port fun h => { h with salvage := p :: ps }
        match s.allocQueue k with
        | none => wait
        | some s =>
          if s.reserveFree < p.cells ∨ (!late ∧ xs.any s.xFull) then wait
          else
            match s.allocCells (clusterOf port) (chargeWord 3 (s.portOfKey k % 512) p.cls) p.cells with
            | none => wait
            | some (cs, s) =>
              let s := xs.foldl (fun s x => s.xPut x (16 + p.tlp.bytes)) s
              (s.linkSalvaged k p cs).salvageInto port late ps

/-- The packets with bytes in unacknowledged flits, in sequence order (R219). -/
def salvageList (oldest : Nat) (mem : List Slot) : List Pkt :=
  (mem.filter fun x => !seqBefore x.seq oldest).foldl (fun acc x =>
    match x.payload with
    | .data ps => ps.foldl (fun acc q =>
        if q.first ∨ !acc.contains q.pkt then acc ++ [q.pkt] else acc) acc
    | _ => acc) []

/-- A packet as salvage takes it: flagged, and its hop here taken back (R90, R219). -/
def State.salvaged (s : State) (p : Pkt) : Pkt :=
  { p with salvage := true, hop := if s.isFabric p.inPort then p.hop - 1 else p.hop }

/-- An end declares its link down (R218): neighbour down, fast reroute, salvage, and the state of
the link discarded. Packets chosen for the link are salvaged with those in replay memory (log 27). -/
def State.linkDown (s : State) (port cause : Nat) : State :=
  let h := s.link port
  let mem := salvageList h.oldest h.mem
  let all := (mem ++ h.txq.filter fun p => !mem.contains p).map s.salvaged
  let gen := h.initGen
  let s := s.updLink port fun h => { initGen := gen, wanted := h.wanted, raised := h.raised }
  let s := ((s.put .TX_NEXT_SEQ port 0).put .RX_EXPECTED port 0).put .LAST_DOWN_CAUSE port cause
  let s := ((List.range 8).foldl (fun s v => ((s.put .VC_RETURNED (port * 8 + v) 0).put .VC_HELD (port * 8 + v) 0).put
    .VC_DEFICIT (port * 8 + v) 0) s).put .CREDIT_DEFICIT port 0
  let s := (s.bump .LINK_DOWNS port).startDetect port
  let s := (s.nbrDown port).put .OL_STATE port 0
  let s := s.fastReroute port
  (s.bump .PACKETS_SALVAGED port all.length).salvageInto port false (h.salvage ++ all)

/-! ## Link states (R199, R200, R217) -/

/-- A SWAP of R247. -/
def isSwap (m : Ctl) : Bool := m.kind = 3 && m.phase = 2

/-- A SWAP request stands on a port. -/
def LinkH.swaps (h : LinkH) : Bool :=
  (h.own.map isSwap).getD false || (h.theirs.map isSwap).getD false

/-- A swap that stands counts as done at this entry: the receiver uses the spare from now on, and no DONE follows
(R247). -/
def State.swapNow (s : State) (port : Nat) : State :=
  if (s.link port).swaps then
    (s.spareTakes port).updLink port fun h =>
      { h with rxOnSpare := true, swapTx := none, swapRx := none, swapPark := true, own := none, theirs := none,
               toDone := none, granted := false }
  else s

/-- The link is ACTIVE again after a swap that counted as done: the physical lane is parked (R247). -/
def State.swapParks (s : State) (port : Nat) : State :=
  if (s.link port).swapPark then (s.updLink port fun h => { h with swapPark := false }).swapDone port else s

/-- INIT is entered when physical training completes (R198, R200). -/
def State.enterInit (s : State) (port : Nat) : State :=
  let s := (s.swapNow port).updLink port fun h =>
    { since := s.now, initGen := (h.initGen + 1) % 256, lock := h.lock, good := h.good,
      wanted := h.wanted, salvage := h.salvage, own := h.own, granted := h.granted,
      theirs := h.theirs, toDone := h.toDone, deferred := h.deferred, raised := h.raised,
      rxOnSpare := h.rxOnSpare, swapPark := h.swapPark }
  ((s.put .TX_NEXT_SEQ port 0).put .RX_EXPECTED port 0).put .OL_STATE port 1

/-- REINIT is entered (R199, R200): INIT flits with SEQ_KEPT; a packet partly received is dropped
and received again from its first granule. A flit that an earlier REINIT rolled back to is still due, and the granules
of it held before are. -/
def State.enterReinit (s : State) (port : Nat) : State :=
  let h := s.link port
  let s := match h.rxPart with
    | some (_, _, seq, g) =>
      (s.updLink port fun h => { h with rxPart := none, resume := g }).put .RX_EXPECTED port seq
    | none => s
  let s := s.updLink port fun h =>
    { h with since := s.now, initGen := (h.initGen + 1) % 256, seqKept := true, peer := none,
             trailing := 0, replay := none, replayNak := none, nakDue := false, nakOpen := false,
             ackDue := false }
  (s.swapNow port).put .OL_STATE port 3

/-- An unplanned cause of R217. -/
def State.unplanned (s : State) (port : Nat) : State :=
  if s.get .OL_STATE port = 2 then
    ((s.bump .REINITS_UNPLANNED port).tellLink port (s.get .WITHDRAWN port = 1)).enterReinit port
  else s

/-- A planned reinitialisation (R213 step 4). -/
def State.planned (s : State) (port : Nat) : State :=
  if s.get .OL_STATE port = 2 then (s.bump .REINITS_PLANNED port).enterReinit port else s

/-- A husked fabric port whose link is up again records it (R305). -/
def State.huskRetrained (s : State) (port : Nat) : State :=
  if s.husked port then s.put .HUSK_RETRAINED port 1 else s

/-- The spare of a port in a state. -/
def State.spareIn (s : State) (port st : Nat) : Bool :=
  match s.spareOf port with
  | some k => s.get .SPARE_STATE k = st
  | none => false

/-- The next request number (R215). -/
def State.newReq (s : State) (port : Nat) (m : Ctl) : State :=
  let n := ((s.link port).reqNum + 1) % 256
  let m := { m with op := 1, reqId := n }
  (s.updLink port fun h => { h with reqNum := n, own := some m, granted := false }).sendCtl port m

/-- No request stands on the port (R216). -/
def State.noRequest (s : State) (port : Nat) : Bool :=
  (s.link port).own.isNone && (s.link port).theirs.isNone

/-- The cause of an own request still holds after a request of a kind has run (R216). Every kind but a spare's passes
the link through REINIT or INIT, which cures a leak (R213); the failed lane of a narrowing lies in the link still, the
rate is another, or the link has not been trained from stage 2 with every lane (R250, R251). -/
def State.causeHolds (s : State) (port ran : Nat) (m : Ctl) : Bool :=
  if m.kind = 3 then s.spareIn port (if m.phase = 1 then 0 else 2) || (isSwap m && (s.link port).rxOnSpare)
  else s.get .WITHDRAWN port = 1 && (match m.kind with
    | 1 => ran = 3
    | 2 => decide (2 ^ m.width < s.get .LINK_WIDTH port) && s.get .FAILED_LANES port ≠ 0
    | 4 => s.get .LINK_RATE port ≠ (if m.rate = 1 then 0x11 else 0x10)
    | _ => ran ≠ 5)

/-- The cause of an own request, put off for the partner's, outlasts the partner's (R216). -/
def State.outlasts (s : State) (port : Nat) : Bool :=
  match (s.link port).toDone, (s.link port).deferred with
  | some r, some m => m.kind ≠ 3 && s.causeHolds port r.kind m
  | _, _ => false

/-- A withdrawn port returns to service (R213 step 5), unless its own request is still to run (R216). -/
def State.restored (s : State) (port : Nat) : State :=
  if s.get .WITHDRAWN port = 1 ∧ !s.outlasts port then
    ((s.updLink port fun h => { h with wanted := none, pushed := false }).put .WITHDRAWN port 0).tellLink
      port false
  else s

/-- A deferred request is issued again, after one of a kind has run, when its cause still holds (R216). -/
def State.reissue (s : State) (port ran : Nat) : State :=
  match (s.link port).deferred with
  | none => s
  | some m =>
    let s := s.updLink port fun h => { h with deferred := none }
    if s.causeHolds port ran m ∧ s.noRequest port then s.newReq port m else s

/-- The responder of a request that has ended sends DONE, and then its own request that was put off (R216). -/
def State.sendDone (s : State) (port : Nat) : State :=
  match (s.link port).toDone with
  | none => s
  | some m =>
    ((s.updLink port fun h => { h with toDone := none, theirs := none }).sendCtl port { m with op := 4 }).reissue port m.kind

/-- A replay starts at a sequence number; REPLAY_LIMIT of them in a row at the same number are an
unplanned cause (R207). A replay of the timeout starts the timeout again; one of a NAK leaves it. -/
def State.startReplay (s : State) (port from_ : Nat) (nak : Option Nat) : State :=
  let h := s.link port
  let l := seqPrev (s.get .TX_NEXT_SEQ port)
  if seqAfter from_ l then s
  else
    let n := if h.replayRow.1 = from_ then h.replayRow.2 + 1 else 1
    let s := s.updLink port fun h =>
      { h with replay := some (from_, l), replayNak := nak, replayRow := (from_, n),
               advAt := if nak.isNone then s.now else h.advAt }
    if s.get .REPLAY_LIMIT port ≤ n then
      (s.updLink port fun h => { h with replayRow := (0, 0) }).unplanned port
    else s

/-- With SEQ_KEPT at both ends the partner's RX_LAST_GOOD acknowledges under R206, and the flits after it are replayed:
a receiver that rolled back names a flit before O - 1, which acknowledges nothing (R199, R207). -/
def State.resumeFrom (s : State) (port : Nat) (i : Init) : State :=
  let last := seqPrev (s.get .TX_NEXT_SEQ port)
  let o := seqPrev (s.link port).oldest
  if seqDist i.rxLastGood o = 32768 ∨ seqDist i.rxLastGood last = 32768 ∨ seqAfter i.rxLastGood last then s.unplanned port
  else
    let s := if seqBefore i.rxLastGood o then s.bump .STALE_ACKS port else s.ackUpTo port i.rxLastGood
    if i.rxLastGood = last then s
    else s.updLink port fun h =>
      { h with replay := some (seqNext i.rxLastGood, last), recount := some (seqNext i.rxLastGood, i.resumeGranule) }

/-- ACTIVE is entered with the partner's parameters (R199). -/
def State.enterActive (s : State) (port : Nat) (i : Init) : State :=
  let kept := (s.link port).seqKept && i.seqKept
  let s := (List.range 8).foldl (fun s v =>
    ((s.put .VC_RETURNED (port * 8 + v) 0).put .VC_DEFICIT (port * 8 + v) 0)) s
  let s := s.updLink port fun h =>
    { h with since := s.now, peerGen := i.gen, trailing := 16, peerPool := i.poolUnits,
             sent := (List.range 8).map fun v => (v, withParity (i.held.getD v 0)),
             back := [], recount := none, arrived := (List.range 8).map fun v => (v, s.poolHeld port v),
             timeout := max (s.get .REPLAY_TIMEOUT port) (i.ackTimer + 1000),
             txCount := 0, rxCount := 0, owed := 0, ackDue := false, advAt := s.now,
             txDone := if kept then h.txDone else 0 }
  let s := ((s.put .CREDIT_DEFICIT port 0).put .NEIGHBOUR_PORT port i.port).put .NEIGHBOUR_NODE port
    i.node
  let s := ((s.put .NEIGHBOUR_SERIAL port i.serial).put .OL_STATE port 2).peerTold port i.mins
  let s := if kept then s.resumeFrom port i else s.updLink port fun h => { h with oldest := 0, mem := [] }
  (((s.swapParks port).restored port).huskRetrained port).sendDone port

/-- An INIT flit that is good (R199). -/
def State.initIn (s : State) (port : Nat) (i : Init) : State :=
  let h := s.link port
  let st := s.get .OL_STATE port
  if st = 2 then
    if i.gen = h.peerGen then s
    else (s.unplanned port).updLink port fun h => { h with peer := some i }
  else if st = 1 ∨ st = 3 then
    let s := s.updLink port fun h => { h with peer := some i }
    if i.peerSeen ∧ !(st = 1 ∧ !h.salvage.isEmpty) then
      if h.seqKept ∧ !i.seqKept then s.linkDown port 3 else s.enterActive port i
    else s
  else s

/-! ## Withdrawal (R213) -/

/-- The port is withdrawn for the sake of a request (R213, R250, R251). -/
def State.withdrawPort (s : State) (port : Nat) (m : Ctl) : State :=
  let s := s.updLink port fun h => { h with wanted := some m, pushed := false }
  if s.get .WITHDRAWN port = 1 then s
  else (s.put .WITHDRAWN port 1).tellLink port true

/-- A port that cannot spare again is narrowed (R250). -/
def State.narrow (s : State) (port : Nat) (spareBad : Bool) : State :=
  match s.narrower port spareBad with
  | some (w, a) => s.withdrawPort port { op := 1, kind := 2, width := widthCode w, laneOffset := a }
  | none =>
    let s := ((s.withdrawPort port { op := 1, kind := 2 }).linkDown port 1).trainFail port 7
    s.updTrain port fun t => { t with failedAt := none }

/-- The link is down while it trains anew: no width and rate, and its lanes, a spare that stands in for one among them,
start over (R251, R252). -/
def State.untrained (s : State) (port : Nat) : State :=
  let s := ((s.clearLanes port).put .LINK_WIDTH port 0).put .LINK_RATE port 0
  match s.spareOf port with
  | some k => if s.get .SPARE_STATE k = 3 then s.updLane (spareLane k) fun _ => {} else s
  | none => s

/-- The physical work of a granted request of kinds 1, 2, 4 and 5 (R213, R250, R251). -/
def State.actOn (s : State) (port : Nat) (m : Ctl) : State :=
  let w := 2 ^ m.width
  let rate := if m.rate = 1 then 0x11 else 0x10
  let t := s.train port
  if m.kind = 1 then s.planned port
  else if m.kind = 2 then
    let s := (s.untrained port).updTrain port fun t => { t with width := w, offset := m.laneOffset }
    (s.toStage port 3).put .OL_STATE port 0
  else if m.kind = 4 then
    let s := (s.untrained port).updTrain port fun t => { t with rate := rate }
    (s.toStage port 2).put .OL_STATE port 0
  else if m.kind = 5 then
    (s.restartAt port (min w (max t.width (s.get .PORT_WIDTH port))) rate).put .OL_STATE port 0
  else s

/-- ARRIVED of a channel advances when a packet is accepted (R212). -/
def State.noteArrived (s : State) (port : Nat) (p : Pkt) : State :=
  s.updLink port fun h => { h with arrived := h.arrived.updD 0 p.cls fun n => (n + creditUnits p) % 2 ^ 32 }

end Sys2Proof.Machine
end

