-- ==== Sys2Proof/Machine/PciPort.lean ====
section
/-! DEFINITION. Host and device ports, PERST_OUT_N and the slot power channels as shared
operations (R253 to R267, R277 to R295, R454). -/

namespace Sys2Proof.Machine

open Sys2Proof

def State.pport (s : State) (port : Nat) : PPort := s.pports.getD {} port

def State.updPport (s : State) (port : Nat) (f : PPort → PPort) : State :=
  { s with pports := s.pports.updD {} port f }

def State.perstH (s : State) (c : Nat) : PerstH := s.perst.getD {} c

def State.updPerst (s : State) (c : Nat) (f : PerstH → PerstH) : State :=
  { s with perst := s.perst.updD {} c f }

def State.slot (s : State) (c : Nat) : SlotH := s.slots.getD {} c

def State.updSlot (s : State) (c : Nat) (f : SlotH → SlotH) : State :=
  { s with slots := s.slots.updD {} c f }

/-- The device ports that share a cluster's channel and PERST_OUT_N (R261, R277). -/
def State.slotPorts (s : State) (c : Nat) : List Nat :=
  (List.range 8).filterMap fun d =>
    if s.isDevice (c * 8 + d) ∧ s.get .PORT_WIDTH (c * 8 + d) ≠ 0 then some (c * 8 + d) else none

/-- The card is seated (R280). -/
def SlotH.seated (h : SlotH) : Bool := h.long && h.short

/-- Presence of a device port (R261). -/
def State.presentAt (s : State) (port : Nat) : Bool :=
  let src := s.get .PRESENCE_SOURCE port
  if src = 0 then (s.slot (clusterOf port)).seated
  else if src = 1 then (s.pport port).detected
  else true

/-! ## Link loss (R454) -/

/-- The widest part of at most n lanes, at either end of w lanes of a PCI Express link, that holds no failed lane; 0
where there is none (R236, log 22). -/
def State.soundWidth (s : State) (port w n : Nat) : Nat :=
  ([16, 8, 4, 2, 1].find? fun m =>
    decide (m ≤ n) && decide (m ≤ w) && (((List.range m).all fun j => !s.laneFailed port j) ||
      (List.range m).all fun j => !s.laneFailed port (w - 1 - j))).getD 0

/-- The link of a host or device port is lost: TLPs not past the parse stage and all flow-control
credits go, and IDE streams end. -/
def State.linkLost (s : State) (port : Nat) : State :=
  let s := { s with
    rx := s.rx.updD [] (clusterOf port) fun l => l.filter fun i => !(i.port = port && i.why = Wait.parse),
    withheld := s.withheld.filter fun w => w.1 / 4 ≠ port }
  let s := s.updPport port fun h =>
    { h with up := false, fc := [], l1 := false, free := false, txK := 0, rxK := 0, rxNew := 0 }
  let s := ((s.put .LINK_WIDTH port 0).put .LINK_RATE port 0).put .IDE_STREAMS_ACTIVE port 0
  (s.setLanes port 0).put .TRAIN_STATE port 0

/-- The LTSSM of a host or device port leaves Detect (R262, R264). -/
def State.startTraining (s : State) (port : Nat) : State :=
  let s := s.updPport port fun h => { h with free := true, trainAt := s.now }
  (s.setLanes port 1).put .TRAIN_STATE port 8

/-! ## PERST_OUT_N (R262, R266, R267) -/

/-- Some condition of R266 holds, the delays apart. -/
def State.perstCond (s : State) (c : Nat) : Bool :=
  let ports := s.slotPorts c
  ports.isEmpty || (s.perstH c).pulse.isSome || s.boot = .reset || s.boot = .failed ||
    (ports.any (fun p => s.get .PRESENCE_SOURCE p = 0) && s.get .SP_STATE c ≠ 4)

/-- Some device port of the cluster has source 1 or 2. -/
def State.otherSource (s : State) (c : Nat) : Bool :=
  (s.slotPorts c).any fun p => s.get .PRESENCE_SOURCE p ≠ 0

/-- Some device port of the cluster has source 0. -/
def State.slotSource (s : State) (c : Nat) : Bool :=
  (s.slotPorts c).any fun p => s.get .PRESENCE_SOURCE p = 0

/-- What an assertion does to a device port of the cluster (R262): the LTSSM is held in Detect,
no husk; a retry pulse leaves the state. A slot power trip or a short-pin break raised with it governs the port by its own
row: the husk that follows finds the grafts as they were shown (R274). -/
def State.perstPort (s : State) (retry : Bool) (port : Nat) : State :=
  let st := s.get .DP_STATE port
  let husks := s.errs.any fun e => e.kind = 2 && e.idx = port && (e.code = 0x2001 || e.code = 0x2002)
  let s := if (s.pport port).up ∧ st ≠ 5 ∧ !husks then s.deviceGone s.node port 0 else s
  let s := s.linkLost port
  if husks then s
  else if st = 2 ∨ st = 3 ∨ st = 4 then
    if retry ∧ st = 2 then s
    else if s.presentAt port then s.put .DP_STATE port 1
    else s.put .DP_STATE port 0
  else s

/-- PERST_OUT_N asserted. -/
def State.perstAssert (s : State) (c : Nat) (retry : Bool) : State :=
  let was := (s.perstH c).asserted
  let s := s.updPerst c fun h => { h with asserted := true, clearAt := none }
  if was then s
  else ((s.slotPorts c).foldl (fun s p => s.perstPort retry p) s).emit (.pin 266 c false)

/-- PERST_OUT_N deasserted: state 1 becomes 2, and links leave Detect (R262). -/
def State.perstDeassert (s : State) (c : Nat) : State :=
  let s := (s.updPerst c fun h => { h with asserted := false, retry := false }).emit (.pin 266 c true)
  (s.slotPorts c).foldl (fun s p =>
    let st := s.get .DP_STATE p
    let s := if st = 1 then s.put .DP_STATE p 2 else s
    if st = 1 ∨ st = 2 ∨ (st = 5 ∧ s.presentAt p) then s.startTraining p else s) s

/-- PERST_OUT_N judged anew (R266): asserted while a condition holds; deasserted when the rule of
every source in use allows it. `d` is the time since the conditions cleared that source 1 or 2 waits for. -/
def State.perstJudge (s : State) (c : Nat) : State :=
  if s.perstCond c then s.perstAssert c (s.perstH c).retry
  else
    let h := s.perstH c
    let s := s.updPerst c fun h => { h with clearAt := some (h.clearAt.getD s.now) }
    let waited := match h.clearAt with
      | some t => decide (t + ms 100 ≤ s.now)
      | none => false
    if h.asserted && (!s.slotSource c || h.powerOk) && (!s.otherSource c || waited) then
      s.perstDeassert c
    else s

/-- A pulse of R267 on the cluster of a port, for PERST_PULSE. -/
def State.perstPulse (s : State) (port : Nat) (retry : Bool) : State :=
  let c := clusterOf port
  (s.updPerst c fun h =>
    { h with pulse := some (s.now, us (s.get .PERST_PULSE port)), retry := retry }).perstAssert c retry

/-- The condition of R267 and R292: every device port of the cluster is in DP_STATE 5 or holds no
function grafted in GRAFT_STATE 3. -/
def State.clusterFree (s : State) (c : Nat) : Bool :=
  (s.slotPorts c).all fun p =>
    s.get .DP_STATE p = 5 ||
      !(s.graftsOfPort s.node p).any fun g => s.get .GRAFT_STATE g = 3

/-! ## Slot power channels (R280 to R292) -/

/-- A channel takes a state: PERST_OUT_N follows within 1 us (R283). DESIGN CHOICE (log 89): a trip or break within the
100 us of an accepted power-off ends that power-off, which R292 does not say: the channel stays in the state that they
bring, with SP_ENABLE 0. -/
def State.toSlot (s : State) (c st : Nat) : State :=
  let s := (s.updSlot c fun h =>
    { h with stateAt := s.now, timer := 0, calm := 0, good := 0, low := 0,
             offCmd := if st = 3 ∨ st = 4 then h.offCmd else none }).put .SP_STATE c st
  let s := if st = 4 then s else s.updPerst c fun h => { h with powerOk := false }
  s.perstJudge c

/-- Off-time starts (R289). -/
def State.offTime (s : State) (c : Nat) (fall : Time) : State :=
  (s.updSlot c fun h => { h with gates := false, offUntil := fall + ms (s.get .SP_OFF_TIME c) }).emit
    (.pin 278 c false)

/-- Power is applied: seated for the debounce and off-time ended (R281). -/
def State.slotApply (s : State) (c : Nat) : State :=
  let h := s.slot c
  if s.get .SP_STATE c = 2 && h.seated && h.debFrom + ms (s.get .SP_SEAT_DEBOUNCE c) ≤ s.now &&
      h.offUntil ≤ s.now then
    ((s.updSlot c fun h => { h with gates := true }).emit (.pin 278 c true)).toSlot c 3
  else s

/-- Entry of state 1, which a seated card leaves for 2 in the same sample, and for 3 where debounce and off-time are
over (R280, R289, R291). `fresh` starts the seating debounce. -/
def State.slotEmpty (s : State) (c : Nat) (fresh : Bool) : State :=
  if (s.slot c).seated then
    ((if fresh then s.updSlot c fun h => { h with debFrom := s.now } else s).toSlot c 2).slotApply c
  else s.toSlot c 1

/-- An error raised at every device port of the cluster (R287, R288); a port that still powers up has no card to lose: a break takes it to state 0 (R262). -/
def State.raisePorts (s : State) (c code : Nat) : State :=
  ((s.slotPorts c).filter fun p => code ≠ 0x2001 || 2 ≤ s.get .DP_STATE p).foldl (fun s p =>
    s.raise { code := code, kind := 2, idx := p }) s

/-- A trip (R287). -/
def State.slotTrip (s : State) (c cause : Nat) : State :=
  let s := ((s.raisePorts c 0x2002).offTime c s.now).put .SP_TRIP_CAUSE c cause
  (s.bump .SP_TRIPS c).toSlot c 5

/-- A short-pin break in state 3 or 4 (R288): the gates fall 1 to 5 us after it; when exactly is a
free choice (log 5). What the fault timer and the undervoltage count have reached stays for a trip in the same sample. -/
def State.slotBreak (s : State) (c : Nat) : State :=
  let h0 := s.slot c
  let s := (s.raisePorts c 0x2001).updSlot c fun h => { h with broke := some (s.now, s.get .SP_STATE c, h.stateAt) }
  let (k, s) := s.pick 4001
  ((s.offTime c (s.now + ns (1000 + k))).slotEmpty c true).updSlot c fun h =>
    { h with timer := h0.timer, calm := h0.calm, low := h0.low }

/-- A slot's power is taken away by its own rule: state 0 with off-time running where the gates
were up. -/
def State.slotOff (s : State) (c : Nat) : State :=
  let s := if (s.slot c).gates then s.offTime c s.now else s
  (s.updSlot c fun h => { h with offCmd := none }).toSlot c 0

/-- Some granted reservation names a port as source or destination (R255). -/
def State.reserved (s : State) (port : Nat) : Bool :=
  s.grantedRows.any fun r =>
    (s.get .RSV_SRC_NODE r = s.node && s.get .RSV_SRC_PORT r = port) ||
      (s.get .RSV_DST_NODE r = s.node && s.get .RSV_DST_PORT r = port)

/-- The host port of a partition lost its link: reset without a husk (R265). -/
def State.hostDown (s : State) (port : Nat) : State :=
  let s := s.linkLost port
  match s.partOfPort port with
  | some p => s.partReset p
  | none => s

end Sys2Proof.Machine
end

