-- ==== Sys2Proof/Machine/Reset.lean ====
section
/-! DEFINITION. What a chip-wide reset leaves: the state of State.reset with everything that survives
(R342, R383 to R387, R393 to R395, R401). -/

namespace Sys2Proof.Machine

open Sys2Proof

/-- Objects kept in Sterosto or in fuses, and the levels of pins: they survive every reset
(R61, R64, R72, R166, R342, R388, R393, R402). -/
def Obj.survives (o : Obj) : Bool :=
  [0x1802, 0x1810, 0x1820, 0x4200, 0x7000, 0x7100, 0x7101, 0xB010, 0xB100, 0xD002,
    0xD020].contains o.info.idx && !(o = .PRESENT || o = .HELD_BY) ||
  [Obj.LIFECYCLE_STATE, .HSS_TOP_Q, .HSS_BOTTOM_Q, .HSS_NEXT_READY, .COOLING, .ROWS_REMAPPED, .GPIO_IN].contains o

/-- Objects counted or kept since cold reset (R342). -/
def Obj.sinceCold (o : Obj) : Bool :=
  [Obj.KEEPER_CHANGES, .SPILL_BYTES_WRITTEN, .SP_TRIPS, .LOG_NEXT_SEQ, .REGION_ISOLATIONS,
    .UNIT_CYCLES, .MEAS_CHANGES, .PAIR_A_STOPS, .PAIR_B_STOPS, .CAP_STEPS_TAKEN,
    .TEMP_PEAK].contains o

/-- The banks change places: the new one reads 2 and the old one `old` (R400, R401). -/
def State.bankTo (s : State) (new old : Nat) : State :=
  (s.put .FW_BANK_STATE (otherBank new) old).put .FW_BANK_STATE new 2

/-- Erasure of R387: the profiles and five tables; the locked part of Sterosto, with the HSS state and the rollback
mirror (R350, R382), reads zeros. -/
def State.zeroise (s : State) : State :=
  if s.sec.returned then
    let s : State :=
      { s with profiles := [], staged := [],
               objs := s.objs.filter fun c =>
                 !([0x1810, 0x1820, 0x7000, 0x7100, 0x7101, 0xD020].contains c.1.info.idx),
               sec := { s.sec with zeroised := true, token := false, unlocked := false, tree := 0 } }
    (((s.put .HSS_TOP_Q 0 0).put .HSS_BOTTOM_Q 0 0).put .HSS_NEXT_READY 0 0).put .ROLLBACK_MIRROR 0 0
  else s

/-- The security state after a reset (R383, R385): a cold reset discards token and challenge; a
warm or orchard-command reset puts a token that is held into force. -/
def State.secReset (s : State) (cold : Bool) : State :=
  let sec := if cold then { s.sec with token := false, unlocked := false, challenge := none }
             else { s.sec with unlocked := s.sec.token }
  let s := { s with sec := sec }
  s.put .LIFECYCLE_STATE 0 (lifecycleOf sec.returned sec.secured sec.unlocked)

/-- A slot channel through a reset (R295, R394): presence is the card's; with `keep` a channel in
state 4 stays on, every other has its gates low and off-time running. -/
def State.slotThrough (s : State) (now : Time) (keep : Bool) (x : Nat × SlotH) : Nat × SlotH :=
  let (c, h) := x
  if keep && s.get .SP_STATE c = 4 then (c, { h with offCmd := none })
  else (c, { long := h.long, short := h.short, debFrom := h.debFrom,
             offUntil := if h.gates || !keep then now + ms (s.get .SP_OFF_TIME c)
                         else h.offUntil - s.now + now })

/-- The objects after a reset. Rows of 8000 of a channel that stays on keep their values until the
profile is loaded (R394). -/
def State.objsThrough (s : State) (cold keep : Bool) : List (Obj × Tab Nat) :=
  (s.objs.map fun c =>
    if c.1.survives || (!cold && c.1.sinceCold) then c
    else if keep && c.1.info.idx = 0x8000 then
      (c.1, c.2.filter fun r => s.get .SP_STATE r.1 = 4)
    else (c.1, [])).filter fun c => !c.2.isEmpty

/-- The firmware banks at a restart (R401): a recorded commit decision boots the new bank. -/
def State.fwReset (s : State) (now : Time) : State :=
  if s.fw.decided then
    let new := otherBank s.activeFwBank
    { s.bankTo new 1 with
      fw := { old := otherBank new,
              trialUntil := some (match s.fw.trialUntil with
                | some t => t - s.now + now
                | none => now + ms (1000 * s.get .FW_TRIAL_TIME)) } }
  else
    { s with fw := { old := s.fw.old, trialUntil := s.fw.trialUntil.map fun t => t - s.now + now } }

/-- A chip-wide reset begins (R393): kinds as LAST_RESET numbers them. -/
def State.restart (s : State) (kind : Nat) (keep : Bool) : State :=
  let cold := kind = 0
  let now := if cold then 0 else s.now
  let s := s.fwReset now
  let r : State :=
    { now := now, age := if cold then 0 else s.age, pip := now / ns 125000,
      objs := s.objsThrough cold keep, fresh := s.fresh, pendB := s.pendB,
      gone := if cold then s.gone.map (fun (x : Nat × Time) => (x.1, 0)) else s.gone,
      staged := s.staged.filter fun h => [0x7000, 0x7100, 0x7101].contains h.obj.info.idx,
      persist := s.persist.map fun x =>
        { x with state := if x.action = 4 then 1 else x.state, old := x.old || cold },
      slots := ((List.range 64).map fun c => s.slotThrough now keep (c, s.slot c)).filter fun x => x.2 ≠ {},
      regions := if cold then [] else (s.regions.map fun (x : Nat × RegionH) =>
        (x.1, { isolations := x.2.isolations })).filter fun x => x.2 ≠ {},
      pairs := if cold then [] else (s.pairs.map fun (x : Nat × PairH) =>
        (x.1, { stops := x.2.stops })).filter fun x => x.2 ≠ {},
      resetAt := now, remaps := s.remaps, latchedPins := s.latchedPins, profiles := s.profiles, flash := s.flash,
      loadNext := s.loadNext, fw := s.fw, sec := s.sec, denials := s.denials, badWords := s.badWords, out := s.out, pending := s.pending }
  ((r.secReset cold).zeroise.put .LAST_RESET 0 kind).event 393 [kind]

/-- A chip reset raised by 0x3006 (R298) and the warm reset of SYS_RESET_N take slot power away;
so does a cold reset (R393). -/
def State.resetNow (s : State) (kind : Nat) : State := s.restart kind false

end Sys2Proof.Machine
end

