-- ==== Sys2Proof/Machine/Irq.lean ====
section
/-! DEFINITION. The interrupt controller and the shelf manager's event register as shared operations
(R352 to R356, R362). -/

namespace Sys2Proof.Machine

open Sys2Proof

def State.irq (s : State) (i : Nat) : IrqH := s.irqs.getD {} i

def State.updIrq (s : State) (i : Nat) (f : IrqH → IrqH) : State :=
  { s with irqs := s.irqs.updD {} i f }

def State.pairH (s : State) (k : Nat) : PairH := s.pairs.getD {} k

def State.updPair (s : State) (k : Nat) (f : PairH → PairH) : State :=
  { s with pairs := s.pairs.updD {} k f }

/-- The source's handler is on a stack. -/
def State.irqActive (s : State) (i : Nat) : Bool :=
  (s.pairH 0).stack.contains i || (s.pairH 1).stack.contains i

/-- The signal of a source takes a level; the edge or the level makes the source pending as
IRQ_SENSE directs, and every event is counted (R353). -/
def State.irqSignal (s : State) (i : Nat) (high : Bool) : State :=
  let was := (s.irq i).high
  let mode := s.get .IRQ_SENSE i
  let on := s.get .IRQ_ENABLE i = 1
  let rise := !was && high
  let fall := was && !high
  let seen := (rise && mode ≠ 2) || (fall && 2 ≤ mode)
  let s := s.updIrq i fun h => { h with high := high }
  let s := if seen then s.bump .IRQ_COUNT i else s
  if mode = 0 then s.put .IRQ_PENDING i (b2n (on && high && !s.irqActive i))
  else if seen && on then s.put .IRQ_PENDING i 1
  else s

/-- A source whose signal pulses. -/
def State.irqEdge (s : State) (i : Nat) : State := (s.irqSignal i true).irqSignal i false

/-- The rows in which two columns differ. -/
def changedRows (a b : Tab Nat) : List Nat :=
  (nub (a.keys ++ b.keys)).filter fun k => a.find k ≠ b.find k

/-- Rows of the objects listed that a command has changed. -/
def State.changed (s s0 : State) (os : List Obj) : List Nat :=
  nub (os.flatMap fun o => changedRows (s0.rowsOf o) (s.rowsOf o))

/-- The level sources of units that a command has changed (R352): ports, slot channels, spares,
regions, time source, time class, margin triggers and counter
overflows. The model raises the signal at the change; the handler clears
the cause when it is taken (log 18). -/
def State.irqsOf (s s0 : State) : State :=
  let ports := s.changed s0 [.OL_STATE, .DP_STATE, .LINK_WIDTH, .HUSK_STATE]
  let src := (ports.filter (· < 512)).map (· + 144) ++ (s.changed s0 [.SP_STATE]).map (· + 80) ++
    (s.changed s0 [.SPARE_STATE]).map (· + 656) ++ (s.changed s0 [.REGION_STATE]).map (· + 688) ++
    (s.changed s0 [.ACTIVE_SOURCE]).map (fun _ => 710) ++ (s.changed s0 [.TIME_CLASS]).map (fun _ => 711) ++
    ((s.changed s0 [.MARGIN_TRIGGERS]).filter fun l =>
      s0.get .MARGIN_TRIGGERS l < s.get .MARGIN_TRIGGERS l).map (fun _ => 849) ++
    nub (((s.changed s0 [.CTR_OVERFLOW]).filter fun k => s.get .CTR_OVERFLOW k = 1).map fun k => 712 + k / 8)
  src.foldl (fun s i => s.irqSignal i true) s

/-! ## SM_EVENT and ALERT_N (R362) -/

/-- ALERT_N is driven low: an event is set and unmasked, or the ROM found no bank to start (R362, R374). -/
def State.alert (s : State) : Bool :=
  (s.mbox 4096).smEvent &&& (15 - (s.mbox 4096).smMask % 16) ≠ 0 || s.boot = Boot.failed

/-- An SM_EVENT bit sets; ALERT_N follows. -/
def State.smEventSet (s : State) (n : Nat) : State :=
  let was := s.alert
  let s := s.updMbox 4096 fun m => { m with smEvent := m.smEvent ||| 2 ^ n }
  if !was && s.alert then s.emit (.pin 362 0 false) else s

end Sys2Proof.Machine
end

