-- ==== Sys2Proof/Machine/Contain.lean ====
section
/-! DEFINITION. Capture of errors, the log, husks and the isolation of regions (R297 to R308). -/

namespace Sys2Proof.Machine

open Sys2Proof

/-! ## Class and action (R297, R298) -/

/-- Class of a code: 0 corrected, 1 contained, 2 device. -/
def Err.cls (e : Err) : Nat := e.code / 0x1000 - 1

/-- Codes whose action ERR_POLICY sets (R298). -/
def policyCode (code : Nat) : Bool := 0x2007 ≤ code && code ≤ 0x2010

/-- ACTION of R299 for an error: 1 husk of a port, 2 of a partition, 3 isolation, 4 chip reset,
5 pair stop. -/
def State.actionOf (s : State) (e : Err) : Nat :=
  if e.code < 0x2000 then 0
  else if e.code ≤ 0x2006 then (if e.kind = 5 then 2 else 1)
  else if policyCode e.code then (if e.kind = 0 then 0 else s.get .ERR_POLICY e.code)
  else if e.code = 0x2011 then 0
  else if e.code = 0x3006 then 4
  else if e.code = 0x3007 then 5
  else if e.region < 14 then 3 else 0

/-! ## Records (R299 to R303) -/

/-- A record changed in the log and in its entry of 9002. -/
def State.updRec (s : State) (seq : Nat) (time : Time) (f : Rec → Rec) : State :=
  let g := fun r : Rec => if r.seq = seq ∧ r.time = time ∧ !r.old then f r else r
  { s with log := s.log.map g, persist := s.persist.map g }

/-- Row of 9100 that an error's husk would take. -/
def Err.row (e : Err) : Nat := if e.kind = 5 then partRow e.idx else e.idx

/-- The open record of a unit; of a port or partition that the containment of another unit has husked, the record that
its husk row names (R302, R305). -/
def State.openRec (s : State) (e : Err) : Option Rec :=
  (s.log.find? fun r => r.state = 0 && r.err.kind = e.kind && r.err.idx = e.idx).or
    (if (e.kind = 2 || e.kind = 5) && s.husked e.row then
      s.log.find? fun r => r.state = 0 && r.seq = s.get .HUSK_CAUSE_SEQ e.row
    else none)

/-- An error folded into an open record (R301). -/
def State.foldErr (s : State) (r : Rec) (e : Err) : State :=
  s.updRec r.seq r.time fun r =>
    { r with sequels := r.sequels + 1, seqCode := e.code, seqTime := bitsOf s.now 55 16,
             seqClasses := r.seqClasses ||| 2 ^ e.cls,
             err := if e.code = 0x2010 ∧ r.err.code = 0x2010 then
                 { r.err with detail := r.err.detail + e.detail } else r.err }

/-- A new record enters the log at a free entry, or in place of the oldest closed or superseded
record; it is lost when every entry is open (R303). -/
def State.logRec (s : State) (r : Rec) : State :=
  if s.log.length < 4096 then
    let n := nthFree ((s.log.map (·.entry)).mergeSort (· ≤ ·)) 0 0
    { s with log := s.log ++ [{ r with entry := n }] }
  else
    match s.log.find? (·.state ≠ 0) with
    | none => s.bump .LOG_OVERFLOWS
    | some o =>
      let s := if o.read then s else s.bump .LOG_OVERFLOWS
      { s with log := (s.log.filter (·.entry ≠ o.entry)) ++ [{ r with entry := o.entry }] }

/-- A new record (R299, R303). -/
def State.newRec (s : State) (e : Err) (action : Nat) : State :=
  let r : Rec := { entry := 0, seq := s.get .LOG_NEXT_SEQ, time := s.now, err := e, cls := e.cls,
                   action := action, node := e.node.getD s.node }
  let s := (s.bump .LOG_NEXT_SEQ).logRec r
  let s := if e.cls = 0 then s
    else ({ s with persist := (r :: s.persist).take 256 }).smEventSet 3
  s.irqEdge 848

/-- The record of a number closes (R300); one of before the last cold reset keeps the state of its last write (R303). -/
def State.closeSeq (s : State) (seq : Nat) : State :=
  let f := fun r : Rec => if r.seq = seq ∧ r.state = 0 ∧ !r.old then { r with state := 1 } else r
  { s with log := s.log.map f, persist := s.persist.map f }

/-! ## Husks (R304) -/

/-- A row of 9100 is husked. -/
def State.huskRow (s : State) (row code seq : Nat) : State :=
  let s := ((s.put .HUSK_CAUSE row code).put .HUSK_CAUSE_SEQ row seq).put .HUSK_SINCE row s.now
  ((s.put .HUSK_DRAINED row 0).put .HUSK_RETRAINED row 0).put .HUSK_STATE row 1

/-- What a port has received and not parsed or queued is discarded and its credits go back. -/
def State.dropRx (s : State) (port : Nat) : State :=
  let items := (s.rx.getD [] (clusterOf port)).filter (·.port = port)
  let s := { s with rx := s.rx.updD [] (clusterOf port) fun l => l.filter (·.port ≠ port) }
  items.foldl (fun s i => (s.creditBack port i.pkt).bump .HUSK_DISCARDS port) s

/-- A husk of a port takes hold: received TLPs go, the link is directed through Recovery or REINIT,
a device port goes to DP_STATE 5 and its functions are removed, and the partition of a host port is husked
with it (R304, R262, R72, R80). -/
def State.huskPort (s : State) (port code seq : Nat) : State :=
  let s := (s.huskRow port code seq).dropRx port
  let s := if s.isFabric port then (if s.get .OL_STATE port = 2 then s.enterReinit port else s)
           else if (s.pport port).up then s.emit (.link 304 [port]) else s
  if s.isDevice port then (s.put .DP_STATE port 5).deviceGone s.node port code
  else match (if s.isHost port then s.partOfPort port else none) with
    | some p => if s.get .PARTITION_STATE p = 2 then s.put .PARTITION_STATE p 3 else s
    | none => s

/-- A husk of a partition takes hold (R304, R308). -/
def State.huskPart (s : State) (p code seq : Nat) : State :=
  let s := (s.huskRow (partRow p) code seq).msg .huskReport [p, seq]
  let s := s.upUnc p 22
  if s.get .PARTITION_STATE p = 1 ∨ s.get .PARTITION_STATE p = 2 then s.put .PARTITION_STATE p 3 else s

/-! ## Isolation (R306) -/

/-- TLPs with a lost cell are marked, 1 by a bank and 2 by a block: they are discarded whole when reached (R306,
R307). A TLP's cells share its stamp. -/
def markCells (how : Nat) (stamps : List Nat) (l : List Cel) : List Cel :=
  l.map fun c =>
    if stamps.contains c.stamp then { c with pkt := c.pkt.map fun p => { p with lost := max p.lost how } } else c

/-- Every TLP of a sub-list with one of the stamps is marked. -/
def SubQ.mark (l : SubQ) (how : Nat) (st : List Nat) : SubQ :=
  { l with head := markCells how st l.head, stage := markCells how st l.stage,
           seg := l.seg.map fun b => { b with cells := markCells how st b.cells } }

/-- A sub-list with some cells lost: `buf` says which buffer cells, `stack` which stack's blocks. A block
whose cells are still in the buffer goes to the other stack (R23). -/
def SubQ.lose (l : SubQ) (buf : Nat → Bool) (stack : Nat → Bool) : SubQ :=
  let inBuf := (l.head ++ l.stage).filter fun c => buf c.idx
  let inside := fun b : Block => b.state = .stored || b.state = .reading
  let staged := (l.seg.filter fun b => !inside b).flatMap fun b => b.cells.filter fun c => buf c.idx
  let stored := (l.seg.filter fun b => inside b && stack b.stack).flatMap (·.cells)
  let l := (l.mark 1 ((inBuf ++ staged).map (·.stamp))).mark 2 (stored.map (·.stamp))
  { l with seg := l.seg.map fun b =>
             let moves := stack b.stack && !inside b
             { b with stack := if moves then 1 - b.stack else b.stack,
                      lost := b.lost || (stack b.stack && !moves) } }

def Queue.lose (q : Queue) (buf : Nat → Bool) (stack : Nat → Bool) : Queue :=
  { q with posted := q.posted.lose buf stack, nonPosted := q.nonPosted.lose buf stack,
           cpl := q.cpl.lose buf stack }

/-- Copies of a window with a cell in a lost bank are marked. -/
def RsvH.loseSlots (h : RsvH) (buf : Nat → Bool) : RsvH :=
  let f : Nat × Pkt × List Nat → Nat × Pkt × List Nat := fun (q, p, cs) =>
    if cs.any buf then (q, { p with lost := max p.lost 1 }, cs) else (q, p, cs)
  { h with slots := h.slots.map f }

/-- Cells are lost in the queues and in the windows of twin reservations (R186, R306). -/
def State.loseCells (s : State) (buf : Nat → Bool) (stack : Nat → Bool) : State :=
  { s with queues := s.queues.map fun x => (x.1, x.2.lose buf stack),
           rsvs := s.rsvs.map fun (x : Nat × RsvH) => (x.1, x.2.loseSlots buf) }

/-- The queue contexts of a quadrant's egress ports are lost: their lists go at once, their cells in other banks with
the sweep (R306). -/
def State.loseContexts (s : State) (region : Nat) : State :=
  let mine := s.queues.filter fun x => quadRegion (s.portNow x.1 % 512) = region && !x.2.isEmpty
  let cells := mine.flatMap fun x => x.2.bufferCells
  let keys := mine.map (·.1)
  let f : Nat × Queue → Nat × Queue := fun (k, q) =>
    (k, if keys.contains k then { q with posted := {}, nonPosted := {}, cpl := {}, spill := false, usedPip := s.pip } else q)
  let s : State := { s with queues := s.queues.map f }
  { s with regions := s.regions.updD {} region fun h => { h with sweep := h.sweep ++ cells } }

/-- A port of an isolated tile (R306): host down, device husked with the causing record, fabric
declared down with cause 1 and nothing salvaged. -/
def State.isolatePort (s : State) (code seq port : Nat) : State :=
  if s.isHost port then s.hostDown port
  else if s.isDevice port then
    let s := s.linkLost port
    if s.husked port then s else s.huskPort port code seq
  else if s.isFabric port then
    let s := s.updLink port fun h => { h with mem := [], txq := [], txDone := 0, salvage := [] }
    let s := if s.get .OL_STATE port ≠ 0 then s.linkDown port 1 else s
    s.toStage port 0
  else s

/-- A tile goes out of service. -/
def State.isolateTile (s : State) (code seq t : Nat) : State :=
  let ports := s.usedPorts.filter fun p => tileOf p = t
  let s := ports.foldl (fun s p => s.isolatePort code seq p) s
  let lanes := (List.range 64).map (· + 64 * t) ++ (List.range 4).map (· + 512 + 4 * t)
  let s := lanes.foldl (fun s l => s.put .LANE_STATE l 0) s
  (List.range 4).foldl (fun s k => s.put .SPARE_STATE (4 * t + k) 0) s

/-- Isolations of a region in the last 24 h. -/
def State.recentIsolations (s : State) (region : Nat) : Nat :=
  ((s.regions.getD {} region).isolations.filter fun t => s.now < t + ms 86400000).length

/-- A region is isolated; where it restarts by itself it is held in reset at once (R306). -/
def State.isolate (s : State) (region code seq : Nat) : State :=
  if 14 ≤ region ∨ s.get .REGION_STATE region = 2 ∨ s.get .REGION_STATE region = 3 then s
  else
    let s := s.bump .REGION_ISOLATIONS region
    let s := { s with regions := s.regions.updD {} region fun h =>
                 { h with isolations := h.isolations ++ [s.now], heldAt := s.now } }
    let s := s.put .REGION_STATE region 2
    let s : State :=
      if region < 8 then s.isolateTile code seq region
      else if region < 12 then
        let q := region - 8
        ((((s.loseContexts region).isolateTile code seq (2 * q)).isolateTile code seq (2 * q + 1)).loseCells
          (fun c => c % 64 / 16 = q) fun _ => false)
      else s.loseCells (fun _ => false) fun h => h = region - 12
    if s.get .REGION_AUTO_RESTART = 1 ∧
        s.recentIsolations region < s.get .REGION_RESTART_LIMIT then
      s.put .REGION_STATE region 3
    else s

/-! ## What hosts see (R308) -/

/-- Errors logged in the virtual upstream bridge, and signalled by it; corrected ones at most once per pip. -/
def State.logUp (s : State) (e : Err) : State :=
  let s := if e.kind = 2 ∧ ((0x2007 ≤ e.code ∧ e.code ≤ 0x2009) ∨ e.code = 0x2004) then
      match s.partOfPort e.idx with
      | some p => s.upUnc p e.aer
      | none => s
    else s
  match e.part with
  | none => s
  | some p =>
    if s.get .FORERUNNER_MODE p ≠ 1 then s
    else if e.cls = 0 then
      if (s.ups.getD {} p).corPip = s.pip + 1 then s
      else
        (s.updUp p fun u => { u with corStatus := u.corStatus ||| 2 ^ 14, corPip := s.pip + 1 }).errSignal p 0 14 true
    else if e.cls = 1 ∧ s.actionOf e = 0 then s.upUnc p 22
    else s

/-! ## Capture (R301, R302) -/

/-- The action of an error, where its containment is not in force already. -/
def State.act (s : State) (e : Err) (action seq : Nat) : State :=
  match action with
  | 1 => if s.husked e.row then s else s.huskPort e.idx e.code seq
  | 2 => if s.husked e.row then s else s.huskPart e.idx e.code seq
  | 3 => s.isolate e.region e.code seq
  | 4 => s.resetNow 3
  | _ => s

/-- Precedence of R301: the higher class, then the lower code. -/
def Err.before (a b : Err) : Bool := b.cls < a.cls || (a.cls = b.cls && a.code ≤ b.code)

/-- Two instants of one core clock. -/
def sameClock (a b : Time) : Bool := a / 65536 = b / 65536

/-- An error precedes that of an open record: in its core clock, by R301; a short-pin break within the microsecond of
a trip, or of the link drop that it brings, too (R262, R288). -/
def State.precedes (s : State) (r : Rec) (e : Err) : Bool :=
  e.code ≠ r.err.code && e.before r.err && (sameClock r.time s.now ||
    (e.code = 0x2001 && (r.err.code = 0x2002 || r.err.code = 0x2003) && decide (s.now < r.time + us 1)))

/-- The containment of an error's action is what a record's ACTION holds, or is in force by it (R301, R302). -/
def State.contained (s : State) (r : Rec) (e : Err) (action : Nat) : Bool :=
  action = 0 || action = r.action || (action ≤ 2 && s.husked e.row && s.get .HUSK_CAUSE_SEQ e.row = r.seq)

/-- An error that precedes the one of an open record takes the record, and the other is folded into it; a husk that the
record caused names the new code, and a surprise down that was a card pulled from its slot was none (R262, R301). -/
def State.takeRec (s : State) (r : Rec) (e : Err) (action : Nat) : State :=
  let s := s.updRec r.seq r.time fun r => { r with err := e, cls := e.cls, action := max action r.action }
  let s := s.foldErr { r with err := e } r.err
  let s := if r.err.code = 0x2003 then s.put .SURPRISE_DOWNS r.err.idx (s.get .SURPRISE_DOWNS r.err.idx - 1) else s
  let row := r.err.row
  if s.husked row && s.get .HUSK_CAUSE_SEQ row = r.seq then s.put .HUSK_CAUSE row e.code else s

/-- One error: captured in a new record, folded or superseding (R301), and its action. An error that
would husk a unit whose release was accepted in an earlier clock waits for the release (R305). -/
def State.capture (s : State) (e : Err) : State :=
  let action := s.actionOf e
  if (action = 1 ∨ action = 2) ∧ s.get .HUSK_STATE e.row = 2 ∧ !sameClock (s.releases.getD 0 e.row) s.now then
    { s with huskAgain := s.huskAgain.updD [] e.row (· ++ [e]) }
  else
    let s := s.logUp e
    let seq := s.get .LOG_NEXT_SEQ
    match s.openRec e with
    | some r =>
      if s.precedes r e then (s.takeRec r e action).act e action r.seq
      else if sameClock r.time s.now then
        ((s.foldErr r e).updRec r.seq r.time fun x => { x with action := max action x.action }).act
          { e with code := r.err.code } action r.seq
      else if e.cls ≤ r.cls ∧ s.contained r e action then (s.foldErr r e).act e action r.seq
      else ((s.updRec r.seq r.time fun r => { r with state := 2 }).newRec e action).act e action seq
    | none => (s.newRec e action).act e action seq

/-- The errors that a command has raised are captured, each with its action. -/
def State.settle (s : State) : State :=
  if s.errs.isEmpty then s
  else
    let l := s.errs.mergeSort Err.before
    { l.foldl State.capture { s with errs := [] } with errs := [] }

/-- Measurements that a command has changed (B200.02, R380). -/
def State.measured (s s0 : State) : State :=
  ([2, 3, 4, 5, 6, 7].filter fun i => s.measContent i ≠ s0.measContent i).foldl
    (fun s i => s.bump .MEAS_CHANGES i) s

/-- The end of a command: its errors are captured, its units' interrupt sources raised and the changed
measurements counted; a chip in reset does neither of the last. -/
def State.done (s s0 : State) : State :=
  let s := s.settle
  if s.boot = .reset then s
  else
    let s := s.irqsOf s0
    if s.boot = .odtaku ∧ s0.boot = .odtaku then s.measured s0 else s

/-- The state after a command that turns `s` into `e`: its end, with the queue and the flash as they were. -/
def State.finish (e s : State) : State := { e.done s with pending := s.pending, flash := s.flash }

/-- The same for the two commands that write the flash (R398). -/
def State.finishFlash (e s : State) : State := { e.done s with pending := s.pending, flash := e.flash }

/-- The outcome of a command that turns `s` into `e`: a fault where its operands name a unit outside the
part (log 7). -/
def unit (s : State) (ok : Bool) (e : State) : Res :=
  if ok then .next (e.finish s) else .fault .noSuchUnit

/-- The outcome of a command that writes the flash. -/
def unitFlash (s : State) (ok : Bool) (e : State) : Res :=
  if ok then .next (e.finishFlash s) else .fault .noSuchUnit

end Sys2Proof.Machine
end

