-- ==== Sys2Proof/Machine/Flags.lean ====
section
/-! DEFINITION. Status values that a read computes from the state (R106, R110, R125, R147, R212,
R296, R299, R309, R388 and the object tables they close). -/

namespace Sys2Proof.Machine

open Sys2Proof

/-- An entry of the tag table in the layout of R110. -/
def tagWord (e : TagEntry) : Nat :=
  let t40 := fun t : Nat => t % 2 ^ 40
  (if e.quarantined then 2 else 1) * 2 ^ 254 + e.tag * 2 ^ 240 + e.port * 2 ^ 231 + e.part * 2 ^ 219 +
    e.reqG * 2 ^ 203 + e.cplG * 2 ^ 187 + e.rid * 2 ^ 171 + e.origTag * 2 ^ 157 +
    e.remaining * 2 ^ 144 + e.lower * 2 ^ 137 + e.tc * 2 ^ 134 + b2n e.ido * 2 ^ 133 +
    b2n e.ro * 2 ^ 132 + b2n e.nosnoop * 2 ^ 131 + e.size * 2 ^ 129 + t40 e.issued * 2 ^ 80 +
    t40 e.deadline * 2 ^ 40 + t40 e.qend

/-- A record in the layout of R299. -/
def recWord (r : Rec) : Nat :=
  r.seq * 2 ^ 480 + r.time % 2 ^ 80 * 2 ^ 400 + r.err.code * 2 ^ 384 + r.cls * 2 ^ 382 +
    r.action * 2 ^ 379 + r.node * 2 ^ 374 + r.err.region * 2 ^ 370 + r.err.kind * 2 ^ 366 +
    r.err.idx * 2 ^ 350 + r.err.part.getD 0 * 2 ^ 338 + r.err.src * 2 ^ 322 + r.err.dst * 2 ^ 306 +
    b2n r.err.part.isSome * 2 ^ 304 + r.err.header * 2 ^ 176 + r.err.detail * 2 ^ 112 +
    r.sequels * 2 ^ 80 + r.seqCode * 2 ^ 64 + r.seqTime * 2 ^ 24 + r.seqClasses * 2 ^ 21 +
    r.state * 2 ^ 8 + b2n r.read * 2 ^ 7

/-- The allocated queue of a number, with its key (6000); an edge that releases a queue frees its number (R132). -/
def State.queueNum (s : State) (n : Nat) : Option (Nat × Queue) := s.liveQueues.find? fun x => x.2.num = n

/-- A field of 6000. -/
def State.queueField (s : State) (n : Nat) (f : Nat → Queue → Nat) (d : Nat) : Nat :=
  match s.queueNum n with
  | some (k, q) => f k q
  | none => d

/-- Objects of a window row, and all objects that WINDOW_COMMIT carries (R100). -/
def rowObjs52 : List Obj :=
  [.PW_BASE, .PW_SIZE_LOG2, .PW_TARGET, .PW_OFFSET, .PW_ACCESS, .PW_KIND, .PW_GRANTOR]

/-- See rowObjs52. -/
def windowObjs : List Obj := rowObjs52 ++ [.MC_MEMBERS, .MC_TARGET, .MC_OFFSET, .MC_GRANTOR]

/-- The staged rows of 5200, 5400 and 5410, each as index and row. -/
def State.stagedWindows (s : State) : List (Nat × Nat) :=
  nubP ((s.staged.filter fun h => windowObjs.contains h.obj).map fun h => (h.obj.info.idx, h.row))

/-- PW_STATE: 0 empty, 1 staged, 2 active, 3 void (R99, R101). -/
def State.windowState (s : State) (k : Nat) : Nat :=
  if s.stagedWindows.contains (0x5200, k) then 1
  else if !accessIsWindow (s.get .PW_ACCESS k) then 0
  else if s.voids.contains k then 3 else 2

/-- Milliseconds of off-time left (R289). -/
def State.offLeft (s : State) (c : Nat) : Nat := ceilDiv ((s.slot c).offUntil - s.now) (ms 1)

/-- The value that a save would take now (R333): of class B the newest accepted, else in force;
of a port that the power cap parks, its own role (R429). -/
def State.saveVal (s : State) (o : Obj) (row : Nat) : Nat :=
  if o = .PORT_ROLE ∧ (s.capParked.lookup row).isSome then (s.capParked.lookup row).getD 0
  else if o.info.cls = .B then s.newest o row else s.get o row

/-- The value of a profile for an object's row. -/
def ProfileH.val (p : ProfileH) (o : Obj) (row : Nat) : Nat :=
  ((p.vals.find? fun v => v.1 = o ∧ v.2.1 = row).map (·.2.2)).getD (o.default row)

/-- The profile-stored objects. -/
def profObjs : List Obj := Dict.all.filter (·.info.prof)

/-- The values that differ between a profile and what a save would take (R333, R334). Rows of 4200 that
a profile lacks stay as Sterosto holds them (R64, log 34). -/
def State.profileDiff (s : State) (p : ProfileH) : List (Obj × Nat) :=
  profObjs.flatMap fun o =>
    let mine := if o.info.idx = 0x4200 then []
      else (s.rowsOf o).keys ++ (s.pendB.filter (·.obj = o)).map (·.row)
    let his := (p.vals.filter (·.1 = o)).map (·.2.1)
    ((nub (mine ++ his)).filter fun r => s.saveVal o r ≠ p.val o r).map fun r => (o, r)

/-- PROFILE_DIRTY (R333): some profile-stored value differs from the active profile; without a
profile the defaults stand for it. -/
def State.dirty (s : State) : Bool :=
  !(s.profileDiff (s.profiles.getD {} (s.get .ACTIVE_PROFILE))).isEmpty

/-- The value in force as a read shows it. -/
def State.shown (s : State) (o : Obj) (row : Nat) : Nat :=
  match o with
  | .ORCHARD_TIME => s.now % 2 ^ 80
  | .PIP_COUNTER => s.pipAt s.now % 2 ^ 32
  | .TAGS_LIVE => s.tagCount row false
  | .TAGS_QUARANTINED => s.tagCount row true
  | .TAGS_FREE => 262144 - s.tags.length
  | .TAG_ENTRY => ((s.tags.find row).map tagWord).getD 0
  | .FQ_KEY => s.queueField row (fun k _ => k) 0
  | .FQ_STATE => s.queueField row (fun _ q => if q.spill then 2 else 1) 0
  | .FQ_CELLS_ONCHIP => s.queueField row (fun _ q => q.onChip) 0
  | .FQ_CELLS_SPILLED => s.queueField row (fun _ q => q.spilled) 0
  | .FQ_SPILL_ENTRIES => s.queueField row (fun _ q => q.spillEntries) 0
  | .FQ_WEIGHT => s.queueField row (fun _ q => q.weight) 256
  | .FQ_START_TAG => s.queueField row (fun _ q => q.tag) 0
  | .FQ_TOKENS => s.queueField row (fun k q => ofInt 64 (s.queueTokens k q)) 0
  | .SHARED_POOL_CELLS => s.sharedSize
  | .SHARED_FREE_CELLS => s.sharedFree
  | .MIN_RESERVED_CELLS => s.minReserved
  | .FREE_QUEUES => 1048576 - s.liveQueues.length
  | .SPILL_BLOCKS_USED => s.blocksUsed
  | .QUEUES_IN_SPILL => (s.queues.filter (·.2.spill)).length
  | .CELLS_USED => s.charged fun w => chargePort w = row / 8 && chargeClass w = row % 8
  | .SHARED_USED => s.pairUsed 1 (row / 8) (row % 8)
  | .UNACKED => s.unacked row
  | .RETAINED => (s.link row).mem.length
  | .VC_TX_OUTSTANDING => (s.link (row / 8)).out (row % 8)
  | .POOL_BYTES => s.poolBytes row
  | .LOG_OPEN => (s.log.filter (·.state = 0)).length
  | .ERROR_LOG => ((s.log.find? (·.entry = row)).map recWord).getD 0
  | .PERSISTENT_LOG => (s.persist[row]?.map recWord).getD 0
  | .DP_STATE => if s.isDevice row then s.get .DP_STATE row else 0xFF
  | .SP_OFF_REMAINING => s.offLeft row
  | .SP_PRESENCE => b2n (s.slot row).long + 2 * b2n (s.slot row).short
  | .RSV_GRANTED => s.grantedRows.length
  | .GRANT_PAIRS => s.grantPairs.length
  | .STAGED_ROWS => s.stagedWindows.length
  | .LOC_NODE => s.locNode row
  | .PW_STATE => s.windowState row
  | .M_WITHHOLDING => b2n !(s.meters.getD {} row).holds.isEmpty
  | .GL_CURRENT_ENTRY => (s.gates.getD {} row).entry
  | .UNIT_CYCLES => s.age / 65536 % 2 ^ 64
  | .CELLS_WITHHELD => s.badCells.length
  | .PROFILE_DIRTY => b2n s.dirty
  | .MEAS_VALUE => if 7 < row then 0 else Config.measurement row (s.measContent row) % 2 ^ 384
  | o => if o.info.ty = .time then s.get o row % 2 ^ 80 else s.get o row

/-- Status of a read entry (R316): 0 in force, 1 pending, 2 staged, 3 stored. -/
def State.readStatus (s : State) (o : Obj) (row : Nat) : Nat :=
  match o.info.cls with
  | .P => if (lastHeld s.pendP o row).isSome then 1 else 0
  | .E => if (lastHeld s.staged o row).isSome then 2 else 0
  | .B => if (lastHeld s.pendB o row).isSome then 3 else 0
  | _ => 0

/-- What a read returns: value and status (R316). -/
def State.readOf (s : State) (active : Bool) (o : Obj) (row : Nat) : Nat × Nat :=
  if active ∨ s.readStatus o row = 0 then (s.shown o row, 0)
  else (s.newest o row, s.readStatus o row)

end Sys2Proof.Machine
end

