-- ==== Sys2Proof/Machine/Hexsum.lean ====
section
/-! DEFINITION. Hexsum requests as shared operations: principals, rights, addresses, types, answers
and the cache of answers (R310 to R330, R338 to R342). -/

namespace Sys2Proof

/-- Largest message of a transport (R319). -/
def Path.limit : Path → Nat
  | .udp _ => 1200
  | .mctpSmbus _ => 1024
  | .mctpI3c _ => 1024
  | .smMailbox => 256
  | .mailbox _ => 256
  | .firmware => 1200
  | .debugPort => 1200

/-- Answers that a path's cache holds (R319). -/
def Path.cacheSize : Path → Nat
  | .smMailbox => 1
  | .mailbox _ => 1
  | _ => 64

/-- Row of 1800 of a path. -/
def Path.session : Path → Option Nat
  | .udp n => some n
  | .mctpSmbus n => some n
  | .mctpI3c n => some n
  | _ => none

end Sys2Proof

namespace Sys2Proof.Machine

open Sys2Proof

/-! ## Paths and principals (R313, R319, R349) -/

/-- Odtaku answers on this chip: it has started and pair A runs (R349, R389). -/
def State.odtakuUp (s : State) : Bool := s.boot = .odtaku && s.get .PAIR_A_STATE = 0

/-- A debug unlock is in force (R384): DEBUG-UNLOCKED or RETURNED. -/
def State.debugOpen (s : State) : Bool :=
  s.get .LIFECYCLE_STATE = 2 || s.get .LIFECYCLE_STATE = 3

/-- A request on a path reaches Odtaku (R319): the transport is enabled and the session open. -/
def State.pathOpen (s : State) (p : Path) : Bool :=
  match p with
  | .udp n => n < 16 && s.get .SESSION_STATE n = 2 && bit (s.get .HEXSUM_ENABLE) 0
  | .mctpSmbus n => 16 ≤ n && n < 32 && bit (s.get .HEXSUM_ENABLE) 1
  | .mctpI3c n => 16 ≤ n && n < 32 && bit (s.get .HEXSUM_ENABLE) 2
  | .smMailbox => true
  | .mailbox p => p < 4096
  | .firmware => true
  | .debugPort => true

/-- The principal of a path (R313). -/
def State.principal (s : State) (p : Path) : Principal :=
  match p with
  | .udp n => if s.get .SESSION_PRINCIPAL n = 2 then .fa else .sh
  | .mctpSmbus _ => .sh
  | .mctpI3c _ => .sh
  | .smMailbox => .sh
  | .mailbox p => if s.get .FA_PARTITION p = 1 then .fa else .tn p
  | .firmware => .fw
  | .debugPort => .dbg

/-! ## Rights (R313 to R315) -/

/-- A principal holds a right (1 r, 2 w, 4 x) on an object (R314). -/
def State.holds (s : State) (pr : Principal) (o : Obj) (right : Nat) : Bool :=
  let d := o.info
  match pr with
  | .fw => true
  | .sh => d.sh &&& right ≠ 0
  | .fa => d.fa &&& right ≠ 0
  | .tn _ => d.tn &&& right ≠ 0
  | .dbg => if s.debugOpen then d.sh &&& right ≠ 0 else d.idx = 0x1000 && right = 1

/-- A row belongs to a tenant's own partition (R341 and the chapters it names). -/
def State.ownRow (s : State) (p idx row : Nat) : Bool :=
  let part := fun r : Option Rec => (r.bind (·.err.part)) = some p
  if [0x2030, 0x4000, 0x4020, 0x5300, 0x5500, 0x6030, 0xC000].contains idx then row = p
  else if idx = 0x4100 then s.get .PARTITION row = p
  else if idx = 0x5100 then s.get .AP_PARTITION row = p
  else if idx = 0x5200 then row / 256 = p
  else if idx = 0x6000 then (s.queueNum row).any fun x => keySource x.1 = p
  else if [0x6010, 0x6110, 0x6210].contains idx then row / 8 = p
  else if idx = 0x9000 then part (s.log.find? (·.entry = row))
  else if idx = 0x9002 then part s.persist[row]?
  else if idx = 0x9100 then row = partRow p
  else if idx = 0xA110 then s.get .SAMPLE_RECORD row ≠ 0 && bitsOf (s.get .SAMPLE_RECORD row) 299 288 = p
  else false

/-- Error codes that R298 names: the rows of 9200. -/
def errCode (c : Nat) : Bool :=
  (0x1001 ≤ c && c ≤ 0x100C) || (0x2001 ≤ c && c ≤ 0x2011) || (0x3001 ≤ c && c ≤ 0x3007)

/-- A row of a table exists (R339, R340). -/
def State.rowOk (s : State) (idx row : Nat) : Bool :=
  match Dict.rows idx with
  | none => false
  | some n =>
    if idx = 0x2020 ∨ idx = 0x3200 ∨ idx = 0x4010 then row < 512 && s.isFabric row
    else if idx = 0x3210 then row < 4096 && s.isFabric (row / 8)
    else if idx = 0x2100 then (s.req row).isSome
    else if idx = 0x9100 then row < 512 || (0x1000 ≤ row && row < 0x2000)
    else if idx = 0x9200 then errCode row
    else if idx = 0xB200 then decide (1 ≤ row) && decide (row ≤ 64)
    else decide (row < n)

/-! ## Addresses (R312, R315, R323) -/

/-- What an address names: an object's row, a table's or array's count, or an abort code. -/
inductive Found where
  | obj (o : Obj) (row : Nat)
  | count (n : Nat)
  | bad (code : Nat)
  deriving DecidableEq, Repr

/-- The elements of an array at an index. -/
def arrayLen (l : List Obj) : Option Nat :=
  l.findSome? fun o => match o.info.shape with
    | .arr n => some n
    | _ => none

/-- The object and row of an address, where they exist. -/
def State.locate (s : State) (l : List Obj) (a : ObjAddr) : Option (Obj × Nat) :=
  match arrayLen l, a.row with
  | some n, none =>
    if 1 ≤ a.sub ∧ a.sub ≤ n then l.head?.map (·, a.sub - 1) else none
  | some _, some _ => none
  | none, none => (l.find? fun o => o.info.sub = a.sub && o.info.shape = .one).map (·, 0)
  | none, some r =>
    if s.rowOk a.idx r then (l.find? fun o => o.info.sub = a.sub && o.info.shape = .tab).map (·, r)
    else none

/-- The checks of R315 on an address, up to the row. -/
def State.resolve (s : State) (pr : Principal) (right : Nat) (a : ObjAddr) : Found :=
  let l := Dict.atIndex a.idx
  if 0xF000 ≤ a.idx ∧ !(pr = .fw ∨ (pr = .dbg ∧ s.debugOpen)) then .bad 0x0201
  else if l.isEmpty then .bad 0x0101
  else
    let isCount := a.sub = 0 && a.row.isNone && ((Dict.rows a.idx).isSome || (arrayLen l).isSome)
    let named := if isCount then [] else match arrayLen l with
      | some _ => l
      | none => l.filter fun o => o.info.sub = a.sub
    let held := (if named.isEmpty then l else named).any fun o => s.holds pr o right
    if !held then .bad 0x0201
    else
      let other := match pr, a.row with
        | .tn p, some r => !s.ownRow p a.idx r
        | _, _ => false
      if other then .bad 0x0202
      else if isCount then
        if right = 1 then .count (((Dict.rows a.idx).or (arrayLen l)).getD 0) else .bad 0x0201
      else match s.locate l a with
        | some (o, r) => .obj o r
        | none => .bad 0x0102

/-! ## Types and ranges (R311) -/

/-- Type code of R311. -/
def Ty.code : Ty → Nat
  | .bool => 0x01
  | .u8 => 0x02
  | .u16 => 0x03
  | .u32 => 0x04
  | .u64 => 0x05
  | .i16 => 0x06
  | .i32 => 0x07
  | .i64 => 0x08
  | .time => 0x09
  | .oct _ => 0x0A
  | .octs _ => 0x0A
  | .vis _ => 0x0B
  | .record => 0x0C

/-- The length of a written value suits the type. -/
def Ty.lenOk (t : Ty) (len : Nat) : Bool :=
  match t with
  | .oct n => len = n
  | .octs n => len ≤ n
  | .vis n => len ≤ n
  | .bool => len = 1
  | t => len = t.bits / 8

/-- The characters of a VISSTR are 0x20 to 0x7E. -/
def visOk (v len : Nat) : Bool :=
  (List.range len).all fun i => 0x20 ≤ v / 256 ^ i % 256 && v / 256 ^ i % 256 ≤ 0x7E

/-- A value lies in an object's range. -/
def ObjDef.inRange (d : ObjDef) (v len : Nat) : Bool :=
  (match d.ty with
    | .bool => v ≤ 1
    | .vis _ => visOk v len
    | _ => true) && (d.rng.isEmpty || d.rng.any fun r => r.1 ≤ v && v ≤ r.2)

/-! ## Answers (R322, R326) -/

/-- The duplicate of a recent request is in the cache of its path. -/
def State.cached (s : State) (req : Req) : Option Answer :=
  ((s.cache.filter (·.path = req.path)).take req.path.cacheSize).find? (·.tag = req.tag)

/-- An answer is sent and kept (R326); a refusal is counted in 1801.03 and every request of a
session in 1800. -/
def State.answer (s : State) (req : Req) (code : Nat) (body : List Nat) : State :=
  let a : Answer := { path := req.path, tag := req.tag, code := code, body := body }
  let mine := (a :: s.cache.filter (·.path = req.path)).take req.path.cacheSize
  let s := { s with cache := mine ++ s.cache.filter fun (c : Answer) => c.path ≠ req.path }
  let s := if code = 0 then s else s.bump .REQUESTS_REFUSED
  (s.countControl 0xC3 1).emit (.reply req.path req.tag code body false)

/-- The interrupt source of a transport (R352). -/
def State.hexsumIrq (s : State) (p : Path) : State :=
  match p with
  | .udp _ => s.irqSignal 706 true
  | .mctpSmbus _ => s.irqSignal 707 true
  | .mctpI3c _ => s.irqSignal 708 true
  | _ => s

/-- A request reaches Odtaku: its transport's source is raised, and its session counts it (R320, R352). -/
def State.arrive (s : State) (req : Req) : State :=
  let s := s.hexsumIrq req.path
  match req.path.session with
  | some n =>
    { s.bump .SESSION_REQUESTS n with sessions := s.sessions.updD {} n fun h => { h with last := s.now } }
  | none => s

/-- A request arrives: with no answer while Odtaku does not run or the path is closed; from the
cache when its tag was used lately; else `f` gives the answer's code and body, if it is answered now, and
the state. -/
def State.hexsumK (s : State) (req : Req) (f : State → Option (Nat × List Nat) × State) : State :=
  if !s.odtakuUp || !s.pathOpen req.path then s
  else
    let s := s.arrive req
    match s.cached req with
    | some a => (s.bump .DUPLICATES_SERVED).emit (.reply a.path a.tag a.code a.body true)
    | none =>
      if req.path.limit < req.size ∨ req.version ≠ 1 then s.answer req 0x0302 []
      else
        match f s with
        | (some (code, body), s) => s.answer req code body
        | (none, s) => s

/-- A request that is answered at once. -/
def State.hexsum (s : State) (req : Req) (f : State → Nat × List Nat × State) : State :=
  s.hexsumK req fun s =>
    let (code, body, s) := f s
    (some (code, body), s)

/-- The right to invoke a RECORD (R312, R323): a code, or 0. -/
def State.mayInvoke (s : State) (req : Req) (o : Obj) (row : Option Nat) : Nat :=
  match s.resolve (s.principal req.path) 4 { idx := o.info.idx, sub := o.info.sub, row := row } with
  | .bad c => c
  | _ => 0

/-- An invocation of a RECORD: the right x, then the command's own checks and effect, which `f` holds: it
gives the code, the return value and the state. -/
def State.invoke (s : State) (req : Req) (o : Obj) (row : Option Nat)
    (f : State → Nat × List Nat × State) : State :=
  s.hexsum req fun s =>
    let c := s.mayInvoke req o row
    if c ≠ 0 then (c, [], s) else f s

/-- A refusal. -/
def refuse (code : Nat) (s : State) : Nat × List Nat × State := (code, [], s)

/-- Success with a return value. -/
def ok (body : List Nat) (s : State) : Nat × List Nat × State := (0, body, s)

/-- A list of checks in order: the first code that is not 0. -/
def firstCode (l : List Nat) : Nat := (l.find? (· ≠ 0)).getD 0

/-- A code where a condition holds. -/
def codeIf (c : Bool) (code : Nat) : Nat := if c then code else 0

/-! ## Sessions (R320, R328) -/

/-- A session closes: its row is free and its subscriptions end. -/
def State.closeSession (s : State) (n : Nat) : State :=
  let s := [Obj.SESSION_PRINCIPAL, .SESSION_TRANSPORT, .SESSION_PEER, .SESSION_OPENED,
    .SESSION_REQUESTS].foldl (fun s o => s.put o n 0) s
  let mine := fun p : Path => p.session = some n
  let s := { s with sessions := s.sessions.erase n, subs := s.subs.filter (!mine ·.path),
                    cache := s.cache.filter (!mine ·.path),
                    ipfix := s.ipfix.map fun (c : Nat × IpfixH) =>
                      if c.2.session = some n then (c.1, { c.2 with session := none }) else c }
  s.put .SESSION_STATE n 0

/-- The open sessions with a property are closed. -/
def State.closeWhere (s : State) (f : Nat → Bool) : State :=
  ((List.range 32).filter fun n => s.get .SESSION_STATE n ≠ 0 && f n).foldl State.closeSession s

end Sys2Proof.Machine
end

