-- ==== Sys2Proof/Machine/Writes.lean ====
section
/-! DEFINITION. What a write of each object checks beside its range, and what it does when it is
accepted: write sets (R66, R67, R72, R137, R157, R182, R224, R225, R239, R242, R277 to R292, R298,
R315 to R321, R423, R452, R453). -/

namespace Sys2Proof.Machine

open Sys2Proof

/-! ## Ports (R224, R225, R261, R262, R277) -/

/-- Presence of a device port moves DP_STATE between 0, 1 and 2 (R261, R262). -/
def State.dpPresence (s : State) (port : Nat) : State :=
  let st := s.get .DP_STATE port
  if !s.isDevice port then s
  else if st = 0 ∧ s.presentAt port then
    if (s.perstH (clusterOf port)).asserted then s.put .DP_STATE port 1
    else (s.put .DP_STATE port 2).startTraining port
  else if st = 1 ∧ !s.presentAt port then s.put .DP_STATE port 0
  else s

/-- Rows that exist only while a port is a fabric port go (R339), with the link's state. -/
def State.dropFabric (s : State) (port : Nat) : State :=
  let one := [0x2020, 0x3200, 0x4010]
  { s with
    objs := (s.objs.map fun c =>
      if one.contains c.1.info.idx then (c.1, c.2.erase port)
      else if c.1.info.idx = 0x3210 then (c.1, c.2.filter fun r => r.1 / 8 ≠ port)
      else c).filter fun c => !c.2.isEmpty,
    links := s.links.erase port, trains := s.trains.erase port, marks := s.marks.erase port,
    hellos := s.hellos.erase port }

/-- The second channel of an x16 device port is held in state 0, its gates low (R277). -/
def State.holdSlot (s : State) (c : Nat) : State := (s.updSlot c fun h => { h with debFrom := s.now }).slotOff c

/-- A channel is the second of an x16 device port (R277). -/
def State.slotHeld (s : State) (c : Nat) : Bool :=
  c % 2 = 1 && s.newest .PORT_WIDTH ((c - 1) * 8) = 16 && s.newest .PORT_ROLE ((c - 1) * 8) = 2

/-- HOST_PERST_N of the cluster holds a host port (R264). -/
def State.hostHeld (s : State) (port : Nat) : Bool :=
  s.get .PERST_IN_SEL port = 1 && (s.perstH (clusterOf port)).hostLow

/-- PERST_IN_SEL of a host port written (R264): one that no longer follows an input that is low leaves Detect; one that
follows it now is held there. -/
def State.perstInTaken (s : State) (port : Nat) : State :=
  if !(s.perstH (clusterOf port)).hostLow then s
  else if s.get .PERST_IN_SEL port = 1 then s.updPport port fun h => { h with free := false }
  else if (s.pport port).free then s else s.startTraining port

/-- A port starts in its role: a fabric port trains from Detect, a host port leaves Detect unless
HOST_PERST_N holds it, a device port follows presence (R227, R262, R264). -/
def State.portStart (s : State) (port : Nat) : State :=
  match s.get .PORT_ROLE port with
  | 1 => if s.hostHeld port then s else s.startTraining port
  | 2 =>
    let s := if s.get .PORT_WIDTH port = 16 then s.holdSlot (clusterOf port + 1) else s
    (s.dpPresence port).perstJudge (clusterOf port)
  | 3 => s.startDetect port
  | _ => s

/-- A port is parked: its lanes and its protocol state go (R224), and its cluster's PERST_OUT_N is judged anew (R266). -/
def State.portPark (s : State) (port : Nat) : State :=
  let s := ((s.setLanes port 0).put .LINK_WIDTH port 0).put .LINK_RATE port 0
  let s := { s with pports := s.pports.erase port, trains := s.trains.erase port }
  (((s.put .TRAIN_STATE port 0).put .DP_STATE port 0).put .FAILED_LANES port 0).perstJudge (clusterOf port)

/-- The other ports that cover a lane of a port of width w; none where w is 0 (R224). -/
def State.covering (s : State) (port w : Nat) : List Nat :=
  if w = 0 then []
  else ((List.range (w + 15)).filter fun i => 15 ≤ port + i).map (port + · - 15) |>.filter fun q =>
    q ≠ port && q < port + w && port < q + s.newest .PORT_WIDTH q && s.newest .PORT_WIDTH q ≠ 0

/-- The ports that a written width absorbs read width 0 (R224). -/
def State.absorb (s : State) (port w : Nat) : State :=
  (s.covering port w).foldl (fun s q => s.put .PORT_WIDTH q 0) s

/-- A port overlaps another that is not parked (R224). -/
def State.overlaps (s : State) (port w : Nat) : Bool := (s.covering port w).any fun q => s.newest .PORT_ROLE q ≠ 0

/-- A rate suits a role (R225). -/
def rateSuits (role rate : Nat) : Bool := role = 0 || (decide (rate ≤ 6) == decide (role ≤ 2))

/-- An x16 device port while its second channel is powered (R277). -/
def State.x16Busy (s : State) (port role width : Nat) : Bool :=
  role = 2 && width = 16 &&
    (s.get .SP_STATE (clusterOf port + 1) = 3 || s.get .SP_STATE (clusterOf port + 1) = 4)

/-! ## Slot power (R280, R289, R292) -/

/-- SP_ENABLE written (R280). DESIGN CHOICE (log 89): a second write of 0 within the 100 us of R292 starts them again. -/
def State.slotEnable (s : State) (c v : Nat) : State :=
  let st := s.get .SP_STATE c
  if v = 1 then
    if st = 0 then s.slotEmpty c true
    else if st = 6 then s.slotEmpty c false
    else s
  else if st = 5 then s.toSlot c 6
  else if st = 1 ∨ st = 2 ∨ st = 6 then s.toSlot c 0
  else if st = 3 ∨ st = 4 then
    let s := s.updSlot c fun h => { h with offCmd := some s.now }
    (s.updPerst c fun h => { h with powerOk := false }).perstAssert c false
  else s

/-! ## Functions (R64, R66) -/

/-- Some tag-table entry names a GFID. -/
def State.tagNames (s : State) (g : Nat) : Bool := s.tags.any fun e => e.2.reqG = g || e.2.cplG = g

/-- A new GFID for a function (R64): free, and not one that left 4200 within 10 s or that an entry
still names. -/
def State.newGfid (s : State) : Nat × State :=
  let held := (s.rowsOf .FN_NODE).keys ++ ((s.gone.filter fun (x : Nat × Time) => s.now < x.2 + ms 10000).map (·.1)) ++
    (s.gone.keys.filter s.tagNames)
  let used := (nub (held.filter fun g => 0x100 ≤ g && g < 0xF000)).mergeSort (· ≤ ·)
  s.pickFree used 0x100 0xEF00

/-- A row of 4200 goes; the locator follows at the next kind-3 epoch (R87). -/
def State.dropFn (s : State) (g : Nat) : State :=
  let s := [Obj.FN_PORT, .FN_POSITION, .FN_KIND, .PARENT_PF, .PRESENT, .HELD_BY, .FN_IDS,
    .SRIOV_NUMVFS].foldl (fun s o => s.put o g (o.default g)) s
  { s with gone := s.gone.set g s.now, fns := s.fns.erase g }.put .FN_NODE g 0xFF

/-- A function found at a position keeps its GFID where its identity agrees, and gets a new one
otherwise (R64). -/
def State.assignFn (s : State) (node port : Nat) (f : FnInfo) (parent : Nat) : Nat × State :=
  let fresh := fun s : State =>
    let (g, s) := s.newGfid
    let s := ((s.put .FN_NODE g node).put .FN_PORT g port).put .FN_POSITION g f.pos
    let s := ((s.put .FN_KIND g f.kind).put .PARENT_PF g parent).put .FN_IDS g f.ids
    (g, s)
  let (g, s) := match s.fnAt node port f.pos with
    | some g => if s.get .FN_IDS g = f.ids then (g, s) else fresh (s.dropFn g)
    | none => fresh s
  let s := { s with fns := s.fns.set g f }
  (g, (s.put .PRESENT g 1).msg .gfidRequest [g, node, port, f.pos])

/-- Routing position of virtual function i of a physical function with its First VF Offset and VF Stride. -/
def vfPos (pf offset stride i : Nat) : Nat := pf + offset + (i - 1) * stride

/-- The virtual functions of a physical function. -/
def State.vfsOf (s : State) (pf : Nat) : List Nat :=
  (s.rowsOf .PARENT_PF).keys.filter fun g => s.get .PARENT_PF g = pf && s.get .FN_KIND g = 2

/-- Functions present in `s0` and not now are withdrawn from requests that graft them (R77). -/
def State.withdrawMissing (s s0 : State) (fns : List Nat) : State :=
  s.withdrawGrafts (fns.filter fun g => s0.get .PRESENT g = 1 && s.get .PRESENT g = 0)

/-- One virtual function found at its position. A position where the device has another function is that
function's. -/
def State.assignVf (s : State) (pf : Nat) (i : FnInfo) (k : Nat) : State :=
  let node := s.get .FN_NODE pf
  let port := s.get .FN_PORT pf
  let base := s.get .FN_POSITION pf
  let pos := vfPos base i.vfOffset i.vfStride (k + 1)
  let taken := (s.fnAt node port pos).any fun g => s.get .PRESENT g = 1 && !(s.get .FN_KIND g = 2 && s.get .PARENT_PF g = pf)
  if taken then s
  else (s.assignFn node port { pos := pos, kind := 2, parentPos := base, ids := i.vfIds, bars := i.vfBars,
                               types := i.vfTypes, pcieCap := i.pcieCap, aerCap := i.aerCap, tagSize := i.tagSize } pf).2

/-- SRIOV_NUMVFS in force: VF Enable and NumVFs are set, the virtual functions present are the first
n, new ones with GFIDs (R66). -/
def State.setVfs (s : State) (pf n : Nat) : State :=
  let i := s.fnInfo pf
  let old := s.vfsOf pf
  let s1 := old.foldl (fun s g => s.put .PRESENT g 0) s
  ((List.range n).foldl (fun s k => s.assignVf pf i k) (s1.event 66 [pf, n])).withdrawMissing s old

/-! ## Partition binding (R67, R72) -/

/-- The newest HOST_NODE and HOST_PORT name a port. -/
def State.bound (s : State) (p : Nat) : Bool :=
  s.get .HOST_NODE p < 32 && s.get .HOST_PORT p < 512

/-- A binding that would not be valid (R67). -/
def State.badBinding (s : State) (p node port : Nat) : Bool :=
  node < 32 && port < 512 &&
    (s.orchGet .PORT_ROLE node port ≠ 1 ||
      (s.rowsOf .HOST_PORT).keys.any fun q =>
        q ≠ p && s.newest .HOST_PORT q = port && s.newest .HOST_NODE q = node)

/-- HOST_NODE or HOST_PORT has been written (R72). -/
def State.rebind (s : State) (p : Nat) : State :=
  let st := s.get .PARTITION_STATE p
  if st = 0 ∧ s.bound p then
    { s with parts := s.parts.updD {} p fun h => { h with from0 := true, boundAt := s.now } }.put
      .PARTITION_STATE p 1
  else if st = 4 ∧ !s.bound p then
    let s := { s with parts := s.parts.updD {} p fun h => { h with heldDown := false } }.put .PARTITION_STATE p 0
    let freed := s.usedPorts.filter fun e => s.isHost e && !(s.pport e).up && !(s.pport e).free && !s.hostHeld e
    freed.foldl State.startTraining s
  else s

/-! ## Staged rows (R75, R176, R182, R453) -/

/-- Code of a write of ACTION to a graft row (R453). -/
def State.actionCode (s : State) (g v : Nat) : Nat :=
  let st := s.get .GRAFT_STATE g
  if st = 2 ∨ st = 4 then 0x0401
  else if st = 3 then codeIf (v = 1) 0x0401
  else codeIf (v = 2) 0x0401

/-- ACTION of a graft row is staged (R75, R453). ACTION 2 presents the attention button at the first
edge more than 5 us later, where the row enters state 4, and the wait for the host runs from there (R75, R78). -/
def State.actionTaken (s : State) (g v : Nat) : State :=
  let st := s.get .GRAFT_STATE g
  if st = 3 ∧ v = 2 then
    let e := s.pipAfter s.now (us 5)
    let s := s.updGraft g fun h =>
      { h with abpPip := some e, expiry := some (s.edge e + ms (s.get .UNGRAFT_TIMEOUT (s.get .PARTITION g))) }
    { s with staged := dropHeld s.staged .ACTION g }.put .ACTION g 2
  else if st = 3 then
    if v = 0 then { s with staged := dropHeld s.staged .ACTION g }.put .ACTION g 0 else s
  else if v = 0 then
    if st = 1 then { s with staged := dropHeld s.staged .ACTION g }.graftTo g 0 else s
  else s.graftTo g 1

/-- A reservation row holds a grant. -/
def State.rsvHolds (s : State) (r : Nat) : Bool := s.rsvGranted r

/-- RSV_ACTION is staged (R176). -/
def State.rsvActionTaken (s : State) (r v : Nat) : State :=
  if v = 1 then s.put .RSV_STATE r 1
  else if v = 0 ∧ s.get .RSV_STATE r = 1 then
    { s with staged := dropHeld s.staged .RSV_ACTION r }.put .RSV_STATE r 0
  else s

/-- The bank of a gate-list object's row: port × 2 + bank. -/
def glBank (o : Obj) (row : Nat) : Nat :=
  if o = .GL_ENTRY then row / 2048 * 2 + row % 2048 / 1024 else row

/-! ## Fixed rows (R452) -/

/-- The rows that a chapter fixes at their default (R155, R160, R163, R452), and what silicon and manufacture
fix (R4, log 6). -/
def Obj.fixedAt (o : Obj) (row : Nat) : Bool :=
  match o with
  | .PART_NUMBER | .STEPPING | .GRADE | .CHIP_SERIAL => true
  | .SC_SHAPE_RATE | .SC_SHAPE_BURST | .MIN_CELLS => 6 ≤ row % 8
  | .FQS_RATE | .FQS_BURST | .METER_A | .METER_B => 6 ≤ row % 8 || 4096 ≤ row / 8
  | _ => false

/-! ## Rules that relate values (R318) -/

/-- A burst suits a meter's unit: 8,192 to 0x0FFF_FFFF bytes, or any number of packets (R157). -/
def burstOk (unit burst : Nat) : Bool := unit = 1 || (8192 ≤ burst && burst ≤ 0x0FFFFFFF)

/-- A meter's newest settings keep its rules (R157, R159, R161). -/
def State.meterOk (s : State) (m : Nat) : Bool :=
  let pbs := s.newest .M_PBS_EBS m
  let rec_ := s.newest .M_RECOVER m
  burstOk (s.newest .M_UNIT m) (s.newest .M_CBS m) && burstOk (s.newest .M_UNIT m) pbs &&
  (s.newest .M_ALGO m ≠ 1 ||
      (s.newest .M_CIR m ≤ s.newest .M_PIR_EIR m && rec_ ≤ pbs)) && rec_ ≤ s.newest .M_CBS m

/-- The bind rows that name a meter suit its unit (R159). -/
def State.bindsOk (s : State) (m : Nat) : Bool :=
  [Obj.METER_A, .METER_B].all fun o =>
    (nub ((s.rowsOf o).keys ++ (s.pendP.filter (·.obj = o)).map (·.row))).all fun r =>
      s.newest o r ≠ m || (s.newest .M_UNIT m = 1) == (r % 8 = 5)

/-- A slot channel's newest settings keep their rules (R279, R286). -/
def State.slotRules (s : State) (c : Nat) : Bool :=
  s.newest .SP_LIMIT c * s.newest .SP_SENSE_GAIN c * s.newest .SP_FAST_TRIP_PCT c ≤ 1200 * 100000 &&
    s.newest .SP_UV_THRESHOLD c ≤ s.newest .SP_PG_THRESHOLD c &&
    s.newest .SP_INRUSH_LIMIT c ≤ s.newest .SP_LIMIT c

/-- A descriptor whose base is a multiple of its size, and whose SIZE_CODE is 24 or less (R363). -/
def descriptorOk (v : Nat) : Bool :=
  let k := bitsOf v 31 27
  decide (k ≤ 24) && bitsOf v 63 32 % 2 ^ k = 0

/-- A reservation row's newest fields keep the checks made at the write (R177, R184). -/
def State.rsvRules (s : State) (r : Nat) : Bool :=
  s.newest .RSV_ADDR_BASE r % 2 ^ s.newest .RSV_ADDR_SIZE_LOG2 r = 0 &&
    (s.newest .RSV_TWIN r = 0 || (s.newest .RSV_TLPS_PER_PIP r ≤ 2048 &&
      (s.newest .RSV_SRC_NODE r ≠ s.newest .RSV_DST_NODE r || s.newest .RSV_SRC_NODE r = 0xFF)))

/-- Codes of CTR_EVENT that a kind of unit observes (R404): C, Q, T, H, G. -/
def ctrEventOk (kind code : Nat) : Bool :=
  code ≤ 1 ||
    (match kind with
      | 0 => (0x10 ≤ code && code ≤ 0x16) || (0x20 ≤ code && code ≤ 0x23) ||
          (0x30 ≤ code && code ≤ 0x32) || (0x40 ≤ code && code ≤ 0x42) || (0x50 ≤ code && code ≤ 0x52)
      | 1 => 0x60 ≤ code && code ≤ 0x64
      | 2 => 0x80 ≤ code && code ≤ 0x83
      | 3 => 0xA0 ≤ code && code ≤ 0xA2
      | _ => 0xC0 ≤ code && code ≤ 0xC3)

/-- The host port of a partition lies on this chip. -/
def State.hostHere (s : State) (p : Nat) : Bool :=
  p < 4096 && s.get .HOST_NODE p = s.node && s.get .HOST_PORT p < 512

/-- The host port of a partition, where it lies on this chip. -/
def State.ownHostPort (s : State) (p : Nat) : Option Nat :=
  if s.hostHere p then some (s.get .HOST_PORT p) else none

/-- Unit of a code with a policy is a partition (R298). -/
def partCode (c : Nat) : Bool := 0x200D ≤ c && c ≤ 0x2010

/-- A mirror rule's row keeps R411. -/
def State.mirrorOk (s : State) (r : Nat) : Bool :=
  let d := s.newest .MR_DEST_PARTITION r
  d = 0xFFFF || (s.hostHere d &&
    (s.newest .MR_PARTITION r = d ||
      (s.newest .MR_PARTITION r = 0xFFFF && s.get .FA_PARTITION d = 1)))

/-- The sampler's destination keeps R410. -/
def State.samplerOk (s : State) : Bool :=
  s.newest .SAMPLE_DEST ≠ 2 ||
    (s.hostHere (s.newest .SAMPLE_PARTITION) && s.get .FA_PARTITION (s.newest .SAMPLE_PARTITION) = 1)

/-- The binding of a spare keeps R242. -/
def State.spareOk (s : State) (k : Nat) : Bool :=
  let v := s.get .SPARE_PORT k
  v = 0xFFFF || (s.get .PORT_ROLE v = 3 && v / 16 = k && (s.get .PORT_WIDTH v ≠ 16 || v = 16 * k))

/-- A value just accepted into `s` breaks what a mirror rule or the sampler relates to it (R318, R410, R411). -/
def State.breaksCapture (s s0 : State) : Bool :=
  (s0.samplerOk && !s.samplerOk) || (List.range 256).any fun r => s0.mirrorOk r && !s.mirrorOk r

/-- A value just accepted into `s` breaks the binding of a spare (R242, R318). -/
def State.breaksSpare (s s0 : State) : Bool := (List.range 32).any fun k => s0.spareOk k && !s.spareOk k

/-- Some minimum of a port's channels is larger than its pool (R222, R318). -/
def State.minBeyond (s : State) (port : Nat) : Bool :=
  (List.range 8).any fun v => decide (s.poolUnits port < s.newest .VC_MIN_SET (port * 8 + v))

/-- The consistency rules of a value just accepted into `s`: 0x0301, 0x0302 or 0 (R315, R318).
`s0` is the state before the write set. -/
def State.relation (s s0 : State) (o : Obj) (row v : Nat) : Nat :=
  match o with
  | .HOST_NODE => codeIf (s0.badBinding row v (s.newest .HOST_PORT row) || s.breaksCapture s0) 0x0301
  | .HOST_PORT => codeIf (s0.badBinding row (s.newest .HOST_NODE row) v || s.breaksCapture s0) 0x0301
  | .FA_PARTITION => codeIf (s.breaksCapture s0) 0x0301
  | .SRIOV_NUMVFS => codeIf (decide ((s.fnInfo row).totalVfs < v)) 0x0301
  | .SPILL_THRESHOLD | .YELLOW_SPILL_THRESHOLD =>
    codeIf (decide (s.newest .SPILL_THRESHOLD row < s.newest .YELLOW_SPILL_THRESHOLD row)) 0x0301
  | .TC_CLASS_MAP => codeIf ((List.range 8).any fun t => 5 < v / 16 ^ t % 16) 0x0301
  | .SC_SHAPE_BURST | .FQS_BURST => codeIf (decide (v < (if row % 8 = 5 then 1 else 8192))) 0x0301
  | .M_ALGO | .M_CIR | .M_PIR_EIR | .M_PBS_EBS | .M_CBS | .M_RECOVER => codeIf (!s.meterOk row) 0x0301
  | .M_UNIT => codeIf (!s.bindsOk row || !s.meterOk row) 0x0301
  | .METER_A | .METER_B =>
    codeIf (v < 262144 && !((s.newest .M_UNIT v = 1) == (row % 8 = 5))) 0x0302
  | .SP_LIMIT | .SP_SENSE_GAIN | .SP_FAST_TRIP_PCT | .SP_UV_THRESHOLD | .SP_PG_THRESHOLD
  | .SP_INRUSH_LIMIT => codeIf (!s.slotRules row) 0x0301
  | .SP_ENABLE => codeIf (v = 1 && s.slotHeld row) 0x0301
  | .ACU_REGIONS_A0 | .ACU_REGIONS_A1 | .ACU_REGIONS_B0 | .ACU_REGIONS_B1 | .ACU_REGIONS_DMA | .ACU_REGIONS_HOST
  | .ACU_REGIONS_DEBUG | .MPU_REGIONS_A0 | .MPU_REGIONS_A1 | .MPU_REGIONS_B0 | .MPU_REGIONS_B1 =>
    codeIf (!descriptorOk v) 0x0301
  | .PORT_WIDTH =>
    codeIf ((v = 16 && row % 16 ≠ 0) || (0 < v && v ≤ 8 && row % v ≠ 0) || s0.overlaps row v || s.breaksSpare s0 ||
      (s.newest .PORT_ROLE row = 3 && v ≠ 0 && s.minBeyond row)) 0x0301
  | .MAX_RATE => codeIf (!rateSuits (s.newest .PORT_ROLE row) v) 0x0301
  | .PORT_ROLE => codeIf (!rateSuits v (s.newest .MAX_RATE row) || s.breaksSpare s0) 0x0301
  | .SPARE_PORT => codeIf (!s.spareOk row) 0x0301
  | .ERR_POLICY =>
    codeIf (!policyCode row || (v = 1 && partCode row) || (v = 2 && !partCode row)) 0x0301
  | .RSV_ADDR_BASE | .RSV_ADDR_SIZE_LOG2 | .RSV_TWIN | .RSV_TLPS_PER_PIP | .RSV_SRC_NODE
  | .RSV_DST_NODE => codeIf (!s.rsvRules row) 0x0301
  | .RSV_ACTION => codeIf (v = 2 && !s0.rsvHolds row) 0x0301
  | .CTR_EVENT => codeIf (!ctrEventOk (s.get .UNIT_KIND (row / 8)) (v % 1024)) 0x0301
  | .CTR_PORT =>
    codeIf (row / 8 < 64 && v ≠ 0xFFFF && v / 8 ≠ row / 8) 0x0301
  | .SAMPLE_DEST | .SAMPLE_PARTITION =>
    codeIf (!s.samplerOk) 0x0301
  | .MR_DEST_PARTITION | .MR_PARTITION => codeIf (!s.mirrorOk row) 0x0301
  | .ENGINE_BUDGET => codeIf (decide (v < engineFloor row)) 0x0301
  | .POWER_CAP | .COOLING =>
    codeIf (decide (420 < s.newest .POWER_CAP) && s.newest .COOLING = 0) 0x0301
  | .POOL_BYTES => codeIf (v % 4096 ≠ 0 || s.minBeyond row) 0x0301
  | .VC_MIN_SET => codeIf (decide (s.poolUnits (row / 8) < v)) 0x0301
  | .CR_ADDR_BASE | .CR_ADDR_SIZE_LOG2 =>
    codeIf (s.newest .CR_ADDR_BASE row % 2 ^ s.newest .CR_ADDR_SIZE_LOG2 row ≠ 0) 0x0301
  | .FILT_ADDR_BASE | .FILT_ADDR_SIZE_LOG2 =>
    codeIf (s.newest .FILT_ADDR_BASE row % 2 ^ s.newest .FILT_ADDR_SIZE_LOG2 row ≠ 0) 0x0301
  | _ => 0

/-! ## Quiescence and refusal rules of the state (R316) -/

/-- The port of a lane or spare object's row is quiesced for PRBS (R239). -/
def State.laneQuiet (s : State) (lane : Nat) : Bool :=
  if 512 ≤ lane then s.get .SPARE_STATE (lane - 512) = 0 || s.get .SPARE_STATE (lane - 512) = 4
  else match s.portOfLane lane with
    | none => true
    | some p => s.get .PORT_ROLE p = 0 || s.get .TRAIN_STATE p = 0

/-- TRAIN_STATE 0 and no partition bound (3000). -/
def State.portQuiet (s : State) (port : Nat) : Bool :=
  s.get .TRAIN_STATE port = 0 && (s.partOfPort port).isNone

/-- Class-Q quiescence, and the other rules that answer 0x0401 at a write. `s` holds the value,
`s0` is the state before the set. -/
def State.unquiet (s s0 : State) (o : Obj) (row v : Nat) : Bool :=
  match o with
  | .HOST_NODE | .HOST_PORT | .VDSB_COUNT | .FORERUNNER_MODE | .MPS_LIMIT =>
    s0.get .PARTITION_STATE row ≠ 0 && s0.get .PARTITION_STATE row ≠ 4
  | .SRIOV_NUMVFS => s0.activeGrafts.any fun g => (s0.graftFns g).any fun f =>
      s0.get .PARENT_PF f = row && s0.get .FN_KIND f = 2
  | .PARTITION | .GFID | .KIND | .VDSB | .VFUNC | .AUTO_REGRAFT => s0.get .GRAFT_STATE row = 2
  | .ACTION => s0.actionCode row v ≠ 0
  | .POOL_BYTES => s0.get .OL_STATE row ≠ 0 &&
      !(s0.get .WITHDRAWN row = 1 && (s0.link row).mem.isEmpty)
  | .PORT_ROLE => !s0.portQuiet row || s.x16Busy row v (s.newest .PORT_WIDTH row)
  | .PORT_WIDTH => !s0.portQuiet row || s.x16Busy row (s.newest .PORT_ROLE row) v
  | .MAX_RATE | .L0P_ENABLE | .PRESENCE_SOURCE | .PERST_IN_SEL | .NONFLIT_ALLOW | .IDE_MODE =>
    !s0.portQuiet row
  | .PRBS_GEN | .PRBS_CHECK => !s0.laneQuiet row
  | .SPARE_PORT => s0.get .SPARE_STATE row ≠ 0 && s0.get .SPARE_STATE row ≠ 4
  | .SP_SENSE_GAIN | .SP_VSENSE_RATIO => [2, 3, 4].contains (s0.get .SP_STATE row)
  | .SP_ENABLE => v = 0 && (s0.get .SP_STATE row = 3 || s0.get .SP_STATE row = 4) &&
      !s0.clusterFree row
  | .GL_ENTRY | .GL_LENGTH | .GL_CYCLE_PIPS => 2 ≤ s0.get .GL_BANK_STATE (glBank o row)
  | .CLOCK_MODE => (List.range 64).any fun i => s0.get .TRAIN_STATE (row * 64 + i) ≠ 0
  | _ => false

/-- A profile switch that names this chip stands (R336). -/
def State.switching (s : State) : Bool :=
  s.pendingReqs.any fun r => match r.work with
    | .profile _ _ nodes => bit nodes s.node
    | _ => false

/-- The accepted values of the buffer's sizes, as if in force (R137, R208). -/
def State.sizesSoon (s : State) : State :=
  (s.pendP.filter fun h => h.obj = .MIN_CELLS || h.obj = .SPILL_RESERVE_CELLS).foldl
    (fun s h => s.put h.obj h.row h.val) s

/-- The effective minimums of a port's channels would sum beyond its pool (R208): the newest ones set, with those
that reservations raise (R175). -/
def State.minsTooLarge (s : State) (port : Nat) : Bool :=
  let raised := s.vcMins s.grantedRows
  decide (s.poolUnits port < ((List.range 8).map fun v =>
    max (s.newest .VC_MIN_SET (port * 8 + v)) ((raised.lookup (port * 8 + v)).getD 0)).sum)

/-- The rules that answer 0x0602 at a write (R137, R208). -/
def State.overBudget (s : State) (o : Obj) (row : Nat) : Bool :=
  match o with
  | .MIN_CELLS | .SPILL_RESERVE_CELLS | .PORT_ROLE => s.sizesSoon.poolTooSmall
  | .POOL_BYTES => s.sizesSoon.poolTooSmall || s.minsTooLarge row
  | .PORT_WIDTH => s.newest .PORT_ROLE row = 3 && (s.sizesSoon.poolTooSmall || s.minsTooLarge row)
  | .VC_MIN_SET => s.minsTooLarge (row / 8)
  | _ => false

/-! ## Effects of an accepted write -/

/-- A write of 1810 or of an address closes sessions (R320, R321). -/
def State.trustChanged (s : State) (n : Nat) : State :=
  s.closeWhere fun k => k < 16 && (s.sessions.getD {} k).anchor = n

/-- The peer of a session is an IPv4 address, mapped (log 20). -/
def peerV4 (peer : Nat) : Bool := peer / 2 ^ 48 % 2 ^ 96 = 0xFFFF

/-- The peer of a session is link-local. -/
def peerLocal (peer : Nat) : Bool := peer / 2 ^ 134 % 2 ^ 10 = 0x3FA

/-- A lane whose generator or checker runs reads 5, pattern test (R237, 3400.01). -/
def State.patternLane (s : State) (lane : Nat) : State :=
  s.put .LANE_STATE lane
    (if s.get .PRBS_GEN lane ≠ 0 ∨ s.get .PRBS_CHECK lane ≠ 0 then 5 else 0)

/-- A generator begins to send its pattern, of which the first bits are shown, from a register that is not 0; which, the
manual leaves open (R237). -/
def State.patternOut (s : State) (lane code : Nat) : State :=
  if code = 0 then s
  else
    let (n, m) := prbsTaps code
    let (k, s) := s.pick (2 ^ n - 1)
    s.emit (.link 237 (lane :: code :: (prbsRun n m (k + 1) 64).map b2n))

/-- What an accepted write does beside taking its value. -/
def State.taken (s s0 : State) (o : Obj) (row v : Nat) : State :=
  match o with
  | .HOST_NODE => s.rebind row
  | .HOST_PORT => s.rebind row
  | .SRIOV_NUMVFS => s.setVfs row v
  | .MPS_LIMIT => s.mpsTold s0
  | .ACTION => s.actionTaken row v
  | .RSV_ACTION => s.rsvActionTaken row v
  | .GL_ENTRY | .GL_LENGTH | .GL_CYCLE_PIPS =>
    if s.get .GL_BANK_STATE (glBank o row) = 0 then s.put .GL_BANK_STATE (glBank o row) 1 else s
  | .SP_ENABLE => s.slotEnable row v
  | .PORT_ROLE =>
    if v = 0 then s.portPark row
    else if s0.get .PORT_ROLE row = 2 then (s.portStart row).perstJudge (clusterOf row) else s.portStart row
  | .PORT_WIDTH =>
    let s := s.absorb row v
    if s.get .PORT_ROLE row = 0 ∨ v = 0 then s else s.portStart row
  | .PERST_IN_SEL => if s.get .PORT_ROLE row = 1 then s.perstInTaken row else s
  | .PRESENCE_SOURCE => (s.dpPresence row).perstJudge (clusterOf row)
  | .PRBS_GEN => (s.patternLane row).patternOut row v
  | .PRBS_CHECK => ((s.patternLane row).updLane row fun h =>
      { h with seeded := 0, prbs := 0, clean := 0, wrong := [] }).put .PRBS_LOCK row 0
  | .TRUST_HASH | .TRUST_PRINCIPAL | .TRUST_VALID => s.trustChanged row
  | .MGMT_IPV4_ADDR =>
    if v = s0.get .MGMT_IPV4_ADDR then s else s.closeWhere fun k => k < 16 && peerV4 (s.get .SESSION_PEER k)
  | .MGMT_IPV6_ADDR =>
    if v = s0.get .MGMT_IPV6_ADDR then s
    else s.closeWhere fun k => k < 16 && !peerV4 (s.get .SESSION_PEER k) && !peerLocal (s.get .SESSION_PEER k)
  | .MB_DB_TO_FW_MASK =>
    if s.get .MB_DB_TO_FW row &&& v = s.get .MB_DB_TO_FW row then s
    else s.irqSignal (if row = 4096 then 64 else row / 64) true
  | .FA_PARTITION => { s with cache := s.cache.filter fun (a : Answer) => a.path ≠ Path.mailbox row }
  | _ => s

/-! ## Write sets (R318, R323) -/

/-- The class-E objects that no commit object carries: they open a request of their own (R316). -/
def Obj.ownEpoch (o : Obj) : Bool := o = .PIP_PERIOD

/-- An active gate list would outlast its cycle under a period code (R182). -/
def State.gatesTooLong (s : State) (code : Nat) : Bool :=
  (s.rowsOf .GL_ACTIVE_BANK).keys.any fun e =>
    match s.activeBank e with
    | some b => decide (s.glCycle e b code < s.glSum e b)
    | none => false

/-- What refuses a period and its offers before the store and the units are looked at (R43, R315). -/
def State.periodCode (s : State) (offers : List Time) (v : Nat) : Nat :=
  firstCode [codeIf s.epochsRefused 0x0404, s.checkOffers offers (fun t => codeIf (t % ms 1 ≠ 0) 0x0301),
    codeIf s.anyGranted 0x0401, codeIf (s.gatesTooLong v) 0x0301]

/-- One entry of a write set on top of the entries before it: its code, and the state with it
accepted. -/
def State.writeOne (s s0 : State) (pr : Principal) (offers : List Time) (e : WEntry) : Nat × State :=
  match s.resolve pr 2 e.addr with
  | .bad c => (c, s)
  | .count _ => (0x0201, s)
  | .obj o row =>
    let d := o.info
    if d.ty = .record then (0x0201, s)
    else if e.ty ≠ d.ty.code ∨ !d.ty.lenOk e.len then (0x0302, s)
    else if o.fixedAt row then
      if e.val = o.default row then (0, s) else (0x0301, s)
    else if !d.inRange e.val e.len then (0x0301, s)
    else if o.ownEpoch ∧ offers.isEmpty then (0x0301, s)
    else
      let a := s.accept o row e.val
      let code := firstCode [a.relation s o row e.val, codeIf (a.unquiet s o row e.val) 0x0401,
        if o.ownEpoch then s.periodCode offers e.val else 0,
        codeIf (d.prof && s0.switching) 0x0501, codeIf (a.overBudget o row) 0x0602]
      if code ≠ 0 then (code, s)
      else
        let left := o = .PORT_ROLE && s.get .PORT_ROLE row = 3 && e.val ≠ 3
        let a := if left then a.dropFabric row else a
        (0, a.taken s o row e.val)

/-- A whole write set: the position and code of its first failing entry, or the state with every
entry accepted. -/
def State.writeAll (s s0 : State) (pr : Principal) (offers : List Time) (i : Nat) :
    List WEntry → Except (Nat × Nat) State
  | [] => .ok s
  | e :: es =>
    let (c, s) := s.writeOne s0 pr offers e
    if c ≠ 0 then .error (c, i) else s.writeAll s0 pr offers (i + 1) es

/-- APPLY_PIP of the answer to a write set (R323). -/
def State.applyPipOf (s s0 : State) : Nat :=
  if s0.pendP.length < s.pendP.length then s0.applyPip % 2 ^ 32 else 0xFFFFFFFF

/-- A write set of up to 32 entries (R318): all or none. -/
def State.writeSet (s : State) (req : Req) (entries : List WEntry) : Nat × List Nat × State :=
  if 32 < entries.length then (0x0302, [], s)
  else match s.writeAll s (s.principal req.path) [] 0 entries with
    | .ok t => (0, [t.applyPipOf s, 0xFFFFFFFF], t)
    | .error (c, i) => (c, [i], s)

/-- An entry that writes an object's row with its own type. -/
def entryOf (o : Obj) (row : Option Nat) (v : Nat) : WEntry :=
  let n := match o.info.ty with
    | .bool => 1
    | t => t.bits / 8
  { addr := { idx := o.info.idx, sub := o.info.sub, row := row }, ty := o.info.ty.code, octets := beBytes v n }

/-- The entries of the fields that a command gives. -/
def entriesOf (row : Option Nat) (l : List (Obj × Option Nat)) : List WEntry :=
  l.filterMap fun x => x.2.map fun v => entryOf x.1 row v

end Sys2Proof.Machine
end

