-- ==== Sys2Proof/Machine/Mailbox.lean ====
section
/-! DEFINITION. Mailboxes, doorbells and the registers of a management function's BAR0 as shared
operations (R269 to R271, R357 to R362). -/

namespace Sys2Proof.Machine

open Sys2Proof

/-- Row of the shelf manager's mailbox pair (R357). -/
def smRow : Nat := 4096

/-- The mailbox group source of a row (R352, R361). -/
def State.mbSource (s : State) (row : Nat) : State :=
  s.irqSignal (if row = smRow then 64 else row / 64) true

/-- An event toward the side that owns a row: an MSI-X vector of its management function, or an
SM_EVENT bit (R270, R362). -/
def State.mbNotify (s : State) (row vector smBit : Nat) : State :=
  if row = smRow then s.smEventSet smBit else s.msix row vector

/-- Bytes put into a slot. -/
def putBytes (t : Tab Nat) (off : Nat) : List Nat → Tab Nat
  | [] => t
  | b :: bs => putBytes (t.putD 0 off (b % 256)) (off + 1) bs

/-- A write to MB_IN (R358, R361); one that covers no byte of it has no effect. -/
def State.mbIn (s : State) (row off : Nat) (bytes : List Nat) : State :=
  if 0xFF < off ∨ bytes = [] then s else
  let st := s.get .MB_IN_STATE row
  let last := off ≤ 0xFF && 0xFF < off + bytes.length
  let s := s.updMbox row fun m =>
    { m with inB := putBytes m.inB off (bytes.take (256 - off)),
             inFull := m.inFull || last || st = 2, collision := m.collision || st = 2 }
  let s := if st = 2 then s.bump .MB_COLLISIONS row else s
  if last then (s.mbSource row).put .MB_IN_STATE row 2 else s.put .MB_IN_STATE row 1

/-- Odtaku takes the message in MB_IN (R358). -/
def State.mbInTaken (s : State) (row : Nat) : State :=
  if s.get .MB_IN_STATE row = 2 ∧ !(s.mbox row).running then
    let s := (s.updMbox row fun m => { m with inFull := false, running := true }).bump .MB_MESSAGES_IN row
    (s.mbNotify row 1 1).put .MB_IN_STATE row 3
  else s

/-- Odtaku places a message in MB_OUT (R359); a request that ran is answered (R358). -/
def State.mbOut (s : State) (row : Nat) (bytes : List Nat) : State :=
  if s.get .MB_OUT_STATE row ≠ 0 then s
  else
    let s := s.updMbox row fun m => { m with outB := putBytes [] 0 (bytes.take 256), running := false }
    let s := if s.get .MB_IN_STATE row = 3 then s.put .MB_IN_STATE row 0 else s
    (s.mbNotify row 0 0).put .MB_OUT_STATE row 1

/-- MB_TAKE written (R359). -/
def State.mbTaken (s : State) (row value : Nat) : State :=
  if bit value 0 && s.get .MB_OUT_STATE row = 1 then
    ((s.bump .MB_MESSAGES_OUT row).mbSource row).put .MB_OUT_STATE row 0
  else s

/-- DB_FROM_FW bits of a mask signalled (R360). -/
def State.dbSignal (s : State) (row bits : Nat) : State :=
  if row = smRow then (if bits = 0 then s else s.smEventSet 2)
  else (bitList bits 32).foldl (fun s j => s.msix row (2 + j)) s

/-- Doorbell bits set toward a side (R360, R361). -/
def State.dbSet (s : State) (row : Nat) (toFw : Bool) (bits : Nat) : State :=
  let b := bits % 2 ^ 32
  if toFw then
    let old := s.get .MB_DB_TO_FW row
    let new := without (without b old) (s.get .MB_DB_TO_FW_MASK row)
    let s := s.put .MB_DB_TO_FW row (old ||| b)
    if new = 0 then s else s.mbSource row
  else
    let m := s.mbox row
    let new := without (without b m.dbFrom) m.dbMask
    (s.updMbox row fun m => { m with dbFrom := m.dbFrom ||| b }).dbSignal row new

/-- Doorbell bits cleared, with a set in the same clock (R360): the set governs. -/
def State.dbClear (s : State) (row : Nat) (toFw : Bool) (bits setBits : Nat) : State :=
  let f := fun old : Nat => without old (bits % 2 ^ 32)
  let s := if toFw then s.put .MB_DB_TO_FW row (f (s.get .MB_DB_TO_FW row))
           else s.updMbox row fun m => { m with dbFrom := f m.dbFrom }
  if setBits % 2 ^ 32 = 0 then s else s.dbSet row toFw setBits

/-- DB_FROM_FW_MASK written: unmasking a bit that is set signals it at once (R360). -/
def State.dbMaskSet (s : State) (row v : Nat) : State :=
  let m := s.mbox row
  let new := m.dbFrom &&& without m.dbMask (v % 2 ^ 32)
  (s.updMbox row fun m => { m with dbMask := v % 2 ^ 32 }).dbSignal row new

/-- Odtaku empties both slots of a row after a Function Level Reset (R272). -/
def State.mbEmpty (s : State) (row : Nat) : State :=
  let s := s.updMbox row fun m =>
    { m with inB := [], outB := [], inFull := false, collision := false, running := false, late := false }
  (s.put .MB_IN_STATE row 0).put .MB_OUT_STATE row 0

/-- MB_STATUS (R269): 0 from a reset of the function until firmware has emptied the slots (R272). -/
def State.mbStatus (s : State) (row : Nat) : Nat :=
  if (s.mbox row).late then 0
  else b2n (s.mbox row).inFull + 2 * b2n (s.mbox row).collision + 256 * b2n (s.get .MB_OUT_STATE row = 1)

/-! ## BAR0 (R269) -/

/-- Ring and field of an offset of the ring registers. -/
def ringReg (off : Nat) : Option (Nat × Nat) :=
  if 0x400 ≤ off ∧ off < 0x4C0 ∧ off % 0x40 < 0x2C then some ((off - 0x400) / 0x40, off % 0x40) else none

def State.mf (s : State) (p : Nat) : MfH := s.mfs.getD {} p

def State.updMf (s : State) (p : Nat) (f : MfH → MfH) : State := { s with mfs := s.mfs.updD {} p f }

/-- A 32-bit register of BAR0 as stored. -/
def MfH.reg (m : MfH) (off : Nat) : Nat := m.regs.getD 0 off

def MfH.ring (m : MfH) (n : Nat) : RingH := m.rings.getD {} n

/-- A ring register written: heads and drops are read-only, and so is a tail read from its mirror. -/
def State.ringWrite (s : State) (p n f off v : Nat) : State :=
  let ctrl := (s.mf p).reg (0x40C + 0x40 * n)
  if f = 0x10 ∨ f = 0x28 ∨ (f = 0x14 ∧ bit ctrl 1) then s
  else if f = 0x14 then
    s.updMf p fun m => { m with rings := m.rings.updD {} n fun r => { r with tail := v } }
  else s.updMf p fun m => { m with regs := m.regs.putD 0 off v }

/-- A 32-bit register of the mailbox part of a window written. -/
def State.mbReg (s : State) (row off v : Nat) : State :=
  if off = 0x200 then (if bit v 1 then s.updMbox row fun m => { m with collision := false } else s)
  else if off = 0x204 then s.mbTaken row v
  else if off = 0x208 then s.dbSet row true v
  else if off = 0x20C then s.dbClear row false v 0
  else if off = 0x210 then s.dbMaskSet row v
  else s

/-- A word of the MSI-X table as stored: Vector Control is kept inverted in its mask bit. -/
def tableWord (off v : Nat) : Nat := if off % 16 = 12 then v ^^^ 1 else v

/-- A 32-bit register of BAR0 of partition p written. -/
def State.mfReg (s : State) (p off v : Nat) : State :=
  let v := v % 2 ^ 32
  if off < 0x400 then s.mbReg p off v
  else match ringReg off with
    | some (n, f) => s.ringWrite p n f off v
    | none =>
      if 0x2000 ≤ off ∧ off < 0x2400 then
        (s.updMf p fun m => { m with regs := m.regs.putD 0 off (tableWord off v) }).msixFlush p
      else s

/-- A 32-bit register of the mailbox part as read. -/
def State.mbRead (s : State) (row off : Nat) : Nat :=
  if 0x100 ≤ off ∧ off < 0x200 then
    (List.range 4).foldl (fun a i => a + (s.mbox row).outB.getD 0 (off - 0x100 + i) * 256 ^ i) 0
  else if off = 0x200 then s.mbStatus row
  else if off = 0x208 then s.get .MB_DB_TO_FW row
  else if off = 0x20C then (s.mbox row).dbFrom
  else if off = 0x210 then (s.mbox row).dbMask
  else 0

/-- A 32-bit register of BAR0 as read. -/
def State.mfRead (s : State) (p off : Nat) : Nat :=
  let m := s.mf p
  if off < 0x400 then s.mbRead p off
  else match ringReg off with
    | some (n, f) =>
      if f = 0x10 then (m.ring n).head else if f = 0x14 then (m.ring n).tail else m.reg off
    | none =>
      if 0x2000 ≤ off ∧ off < 0x2400 then tableWord off (m.reg off)
      else if off = 0x3000 then m.pba % 2 ^ 32
      else if off = 0x3004 then m.pba / 2 ^ 32
      else if off = 0x3800 then p
      else if off = 0x3808 then s.pipAt s.now % 2 ^ 32
      else if off = 0x3810 then s.now / 65536 % 2 ^ 32
      else if off = 0x3814 then s.now / 65536 / 2 ^ 32
      else 0

/-! ## Writes of any length (R269, R362) -/

/-- The aligned 32-bit registers that bytes at consecutive offsets touch: offset, value with 0 in the
bytes not written, and the mask of the bytes written. -/
def regsOf (off : Nat) (bytes : List Nat) : List (Nat × Nat × Nat) :=
  let bs := (List.range bytes.length).map fun i => (off + i, bytes.getD i 0 % 256)
  let ws := nub (bs.map fun b => b.1 / 4 * 4)
  ws.map fun w =>
    let mine := bs.filter fun b => b.1 / 4 * 4 = w
    (w, (mine.map fun b => b.2 * 256 ^ (b.1 % 4)).sum, (mine.map fun b => 255 * 256 ^ (b.1 % 4)).sum)

/-- One register written in some of its bytes: one that holds what is written keeps the others (log 36). -/
def State.barReg (s : State) (p : Nat) (w : Nat × Nat × Nat) : State :=
  let (off, v, mask) := w
  s.mfReg p off (if 0x210 ≤ off then without (s.mfRead p off) mask ||| v else v)

/-- A write to BAR0: into MB_IN, or register by register (R269). -/
def State.barWrite (s : State) (p off : Nat) (bytes : List Nat) : State :=
  if off < 0x100 then s.mbIn p off bytes else (regsOf off bytes).foldl (fun s w => s.barReg p w) s

end Sys2Proof.Machine
end

