-- ==== Sys2Proof/Machine/Ring.lean ====
section
/-! DEFINITION. The rings of a management function, mirror capture and the sampler as shared operations
(R269, R409 to R412). -/

namespace Sys2Proof.Machine

open Sys2Proof

/-! ## Rings (R269, R412) -/

/-- Control, size and 64-bit registers of a ring. -/
def MfH.ringCtrl (m : MfH) (n : Nat) : Nat := m.reg (0x40C + 0x40 * n)

def MfH.ringSize (m : MfH) (n : Nat) : Nat := 2 ^ (m.reg (0x408 + 0x40 * n) % 32)

def MfH.ring64 (m : MfH) (n f : Nat) : Nat :=
  m.reg (0x400 + f + 0x40 * n) + m.reg (0x404 + f + 0x40 * n) * 2 ^ 32

/-- Entries staged on the chip (R412). -/
def State.stagedEntries (s : State) : Nat := (s.mfs.map fun m => (m.2.rings.map fun r => r.2.staged.length).sum).sum

/-- A ring takes no entry (R412). -/
def State.ringShut (s : State) (p n : Nat) : Bool :=
  let m := s.mf p
  let r := m.ring n
  !bit (m.ringCtrl n) 0 || (r.head + r.staged.length + 1) % m.ringSize n = r.tail % m.ringSize n ||
    8192 ≤ s.stagedEntries || s.get .MF_STATE p ≠ 0 || s.get .PARTITION_STATE p = 1

/-- An entry for ring n of partition p: staged, or dropped and counted (R412). -/
def State.ringPush (s : State) (p n entry : Nat) : State :=
  if s.ringShut p n then
    s.updMf p fun m => { m with regs := m.regs.updD 0 (0x428 + 0x40 * n) fun v => (v + 1) % 2 ^ 32 }
  else s.updMf p fun m => { m with rings := m.rings.updD {} n fun r => { r with staged := r.staged ++ [entry] } }

/-! ## Mirror capture (R411) -/

/-- A rule matches a TLP that crosses a port in a direction (0 ingress, 1 egress). -/
def State.mirrorHit (s : State) (r port dir : Nat) (p : Pkt) : Bool :=
  let part := s.get .MR_PARTITION r
  s.get .MR_VALID r = 1 && s.get .MR_PORT r = port &&
    (s.get .MR_DIRECTION r = 2 || s.get .MR_DIRECTION r = dir) &&
    (part = 0xFFFF || (part = p.part && !p.internal)) && bit (s.get .MR_CLASS_MASK r) p.cls &&
    s.get .MR_DEST_PARTITION r < 4096

/-- A capture entry. -/
def mirrorEntry (seq now port dir r : Nat) (p : Pkt) : Nat :=
  seq % 2 ^ 32 * 2 ^ 480 + now / 65536 % 2 ^ 64 * 2 ^ 416 + port * 2 ^ 407 + dir * 2 ^ 406 +
    p.part * 2 ^ 394 + p.cls * 2 ^ 391 + p.colour * 2 ^ 389 + r * 2 ^ 381 + p.src * 2 ^ 365 +
    p.dest * 2 ^ 349 + p.tlp.bytes % 2 ^ 13 * 2 ^ 336 + p.tlp.header % 2 ^ 256

/-- One rule captures a TLP, within MR_RATE per millisecond. -/
def State.mirrorBy (s : State) (r port dir : Nat) (p : Pkt) : State :=
  let d := s.get .MR_DEST_PARTITION r
  let seq := s.captureSeq.getD 0 d
  let tick := s.now / ms 1
  let old := s.mirrorRate.getD (0, 0) r
  let n := if old.1 = tick then old.2 else 0
  let s := { s with captureSeq := s.captureSeq.putD 0 d ((seq + 1) % 2 ^ 32),
                    mirrorRate := s.mirrorRate.putD (0, 0) r (tick, n + 1) }
  if s.get .MR_RATE r ≠ 0 ∧ s.get .MR_RATE r ≤ n then s.bump .MR_DROPPED r
  else (s.bump .MR_CAPTURED r).ringPush d 1 (mirrorEntry seq s.now port dir r p)

/-- The lowest rule of each destination captures the TLP. -/
def State.mirror (s : State) (port dir : Nat) (p : Pkt) : State :=
  let rs := (s.rowsOf .MR_VALID).keys.filter fun r => s.mirrorHit r port dir p
  let firsts := rs.filter fun r =>
    !rs.any fun q => q < r && s.get .MR_DEST_PARTITION q = s.get .MR_DEST_PARTITION r
  firsts.foldl (fun s r => s.mirrorBy r port dir p) s

/-! ## The sampler (R409, R410) -/

/-- The sampler considers a TLP that leaves a port. -/
def State.sampleHit (s : State) (port : Nat) (p : Pkt) : Bool :=
  let u := s.get .SAMPLE_FILTER_UNIT
  s.get .SAMPLE_ENABLE = 1 && s.get .SAMPLE_PORT = port && (64 ≤ u || s.meets u p)

/-- A sample record. `queue` is the flow queue's number, `spilled` says that a cell went through HBM. -/
def sampleWord (seq now port queue : Nat) (spilled : Bool) (p : Pkt) : Nat :=
  let tin := p.inTime / 65536
  let tout := now / 65536
  seq % 2 ^ 32 * 2 ^ 480 + tin % 2 ^ 64 * 2 ^ 416 + tout % 2 ^ 64 * 2 ^ 352 +
    (tout - tin) % 2 ^ 32 * 2 ^ 320 + queue * 2 ^ 300 + p.part * 2 ^ 288 + p.cls * 2 ^ 285 +
    p.inPort % 512 * 2 ^ 276 + port * 2 ^ 267 + p.colour * 2 ^ 265 + b2n spilled * 2 ^ 264 +
    p.tlp.header / 2 ^ 128 % 2 ^ 128 * 2 ^ 128 + p.orchAddr % 2 ^ 64 * 2 ^ 64 + p.src * 2 ^ 48 +
    p.dest * 2 ^ 32

/-- A record goes where SAMPLE_DEST says. -/
def State.sampleOut (s : State) (w : Nat) : State :=
  let m := s.sampler
  if s.get .SAMPLE_DEST = 2 then s.ringPush (s.get .SAMPLE_PARTITION) 2 w
  else if s.get .SAMPLE_DEST = 1 ∧ 65536 ≤ m.filled then s.bump .SAMPLES_DROPPED
  else
    { s with sampler := { m with next := (m.next + 1) % 65536, filled := min 65536 (m.filled + 1) } }.put
      .SAMPLE_RECORD m.next w

/-- Every SAMPLE_INTERVAL-th TLP is taken. -/
def State.sample (s : State) (port queue : Nat) (spilled : Bool) (p : Pkt) : State :=
  if !s.sampleHit port p then s
  else
    let n := s.sampler.count + 1
    if n < s.get .SAMPLE_INTERVAL then { s with sampler := { s.sampler with count := n } }
    else
      let seq := s.sampler.seq
      let s := { s with sampler := { s.sampler with count := 0, seq := (seq + 1) % 2 ^ 32 } }
      (s.bump .SAMPLES_TAKEN).sampleOut (sampleWord seq s.now port queue spilled p)

end Sys2Proof.Machine
end

