-- ==== Sys2Proof/Machine/Fabric.lean ====
section
/-! DEFINITION. Packets that arrive from a fabric port: order streams, twin windows, transit
(R88 to R90, R93, R122 to R124, R185, R186, R220). -/

namespace Sys2Proof.Machine

open Sys2Proof

/-- A packet for the chip itself crosses to the control complex, or waits where that crossing is full (R13, R14). A
host's or device's request there is one to the management function's BAR0 (R269). -/
def State.toControl (s : State) (port : Nat) (p : Pkt) : State :=
  let x := Xing.quadCtl (port % 512 / 128) true
  if s.behind port p.cls then s.rxPut { port := port, pkt := p, why := .behind }
  else if s.xFull x then s.rxPut { port := port, pkt := p, why := .crossing }
  else
    let s := s.xPut x (16 + p.tlp.bytes)
    (if s.isFabric port then s else s.event 269 [p.part, p.tlp.addr]).creditBack port p

/-- A packet linked to its flow queue here; one for the chip itself goes to the control complex, one without a place
is refused as at egress (R93, R103). -/
def State.release (s : State) (p : Pkt) : State :=
  match s.keyOf p with
  | some k => s.cplOn p.inPort k p
  | none => if s.toSelf p then s.toControl p.inPort p else (s.refuseTlp true p).creditBack p.inPort p

/-! ## Order streams (R122 to R124, R220) -/

/-- Distance from a to b modulo 2^24. -/
def dist24 (a b : Nat) : Nat := (b + 2 ^ 24 - a % 2 ^ 24) % 2 ^ 24

/-- b lies behind a. -/
def behind24 (a b : Nat) : Bool := 2 ^ 23 ≤ dist24 a b

def State.stream (s : State) (n : Nat) : Stream := s.streams.getD {} n

def State.updStream (s : State) (n : Nat) (f : Stream → Stream) : State :=
  { s with streams := s.streams.updD {} n f }

/-- A packet received already (R220). -/
def State.dedup (s : State) (p : Pkt) : State := (s.bump .DEDUP_DISCARDS).creditBack p.inPort p

/-- An error that names the source partition of a packet; orchard-internal traffic names the chip. -/
def streamErr (code : Nat) (p : Pkt) : Err :=
  pktErr code (if p.internal then 0 else 5) (if p.internal then 0 else p.part) p

/-- Held packets that the count allows are released, in sequence order (R123). -/
def State.releaseHeld (s : State) (n : Nat) : Nat → State
  | 0 => s
  | fuel + 1 =>
    let h := s.stream n
    let old := h.held.filter fun p => behind24 h.count p.seq
    let rest := h.held.filter fun p => !behind24 h.count p.seq
    let s := old.foldl State.dedup (s.updStream n fun h => { h with held := rest })
    match rest.find? (·.seq = h.count) with
    | none => s
    | some p =>
      let s := s.updStream n fun h => { count := (h.count + 1) % 2 ^ 24, held := h.held.erase p }
      (s.release p).releaseHeld n fuel

/-- A non-twin packet that this chip delivers (R220). -/
def State.streamIn (s : State) (p : Pkt) : State :=
  let n := s.streamOf p
  let h := s.stream n
  let ahead := dist24 h.count p.seq ≠ 0
  if behind24 h.count p.seq then s.dedup p
  else if !h.held.isEmpty || (ahead && (p.pseqValid || p.salvage)) then
    let s := if p.internal then s else s.bump .ORDER_HOLDS p.part
    (s.updStream n fun h => { h with held := h.held ++ [p] }).releaseHeld n (h.held.length + 1)
  else
    let s := if ahead then (s.bump .ORDER_GAPS).raise (streamErr 0x200F p) else s
    let s := s.updStream n fun h => { h with count := (p.seq + 1) % 2 ^ 24 }
    s.release p

/-- The released packets of an expiry: a second copy is behind the count by then. -/
def State.expireOne (n : Nat) (s : State) (p : Pkt) : State :=
  if behind24 (s.stream n).count p.seq then s.dedup p
  else (s.updStream n fun h => { h with count := (p.seq + 1) % 2 ^ 24 }).release p

/-- Every held packet of a stream is released and the count set past the highest (R124, R221). -/
def State.expireStream (s : State) (n : Nat) : State :=
  let h := s.stream n
  match h.held with
  | [] => s
  | p :: _ =>
    let l := h.held.mergeSort fun a b => dist24 h.count a.seq ≤ dist24 h.count b.seq
    let s := (s.bump .ORDER_HOLD_EXPIRIES).raise (streamErr 0x200E p)
    l.foldl (State.expireOne n) (s.updStream n fun h => { h with held := [] })

/-! ## Reservations at the delivering chip (R165, R171) -/

/-- A field of a reservation's row, or of the row as it was before its release (R178). -/
def State.rsvField (s : State) (o : Obj) (r : Nat) : Nat :=
  if s.rsvGranted r then s.get o r
  else match s.oldRsvs.find? (·.row = r) with
    | some x => (lastHeld x.vals o r).getD 0
    | none => s.get o r

/-- The rows whose TLPs may arrive: granted, or released and not out of date yet (R178). -/
def State.rsvRows (s : State) : List Nat :=
  s.grantedRows ++ ((s.oldRsvs.filter fun x => s.now < x.till && !s.rsvGranted x.row).map (·.row))

/-- The addresses at its source that a packet's destination and orchard address decode from (R94). An aperture of a host
on another chip stands in that chip's table: its offset equals its base, for any but a virtual function (R96, R97). -/
def State.sourceAddrs (s : State) (p : Pkt) : List Nat :=
  let aps := (s.rowsOf .AP_STATE).keys.filter fun a =>
    s.get .AP_STATE a = 1 && s.get .AP_PARTITION a = p.part && s.get .AP_TARGET a = p.dest &&
      inRange (s.get .AP_OFFSET a) (s.get .AP_SIZE_LOG2 a) p.orchAddr
  let ws := (s.rowsOf .PW_ACCESS).keys.filter fun k =>
    s.windowOn k && k / 256 = p.part && s.get .PW_KIND k = 0 && s.get .PW_TARGET k = p.dest &&
      inRange (s.get .PW_OFFSET k) (s.get .PW_SIZE_LOG2 k) p.orchAddr
  (if !isHostGfid p.src then []
    else if s.locNode p.src = s.node then aps.map fun a => s.get .AP_BASE a + (p.orchAddr - s.get .AP_OFFSET a)
    else if s.get .FN_KIND p.dest = 2 then [] else [p.orchAddr]) ++
    (ws.map fun k => s.get .PW_BASE k + (p.orchAddr - s.get .PW_OFFSET k)) ++
    (if p.dest = hostGfid p.part then [p.orchAddr] else [])

/-- The packet's range at its source lies inside a reservation's. -/
def State.inRsv (s : State) (p : Pkt) (r : Nat) : Bool :=
  (s.sourceAddrs p).any fun a => s.rsvField .RSV_ADDR_BASE r ≤ a &&
    a + p.tlp.data ≤ s.rsvField .RSV_ADDR_BASE r + 2 ^ s.rsvField .RSV_ADDR_SIZE_LOG2 r

/-- The reservation that a packet of SC6 or SC7 belongs to at its delivering chip (R165): the one its ingress
chip noted, or that of its source port, destination port and class, by its range where there are several. The header
names no reservation (R195): where this chip cannot tell the range at the source, which of them it is stays free
(log 86). -/
def State.rsvOf (s : State) (p : Pkt) : Option Nat :=
  if p.rsv ≠ 0 then some (p.rsv - 1)
  else if p.cls < 6 then none
  else
    let l := s.rsvRows.filter fun r =>
      s.rsvField .RSV_CLASS r = p.cls && s.rsvField .RSV_SRC_NODE r = s.locNode p.src &&
        s.rsvField .RSV_SRC_PORT r = s.get .LOC_PORT p.src && s.rsvField .RSV_DST_NODE r = s.node &&
        s.rsvField .RSV_DST_PORT r = s.get .LOC_PORT p.dest && (s.rsvField .RSV_TWIN r = 1) == (p.twin ≠ 0)
    match l with
    | [r] => some r
    | _ => (l.find? (s.inRsv p)).or l[Config.rsvChoice p.dest p.orchAddr % l.length]?

/-! ## Twin windows (R186) -/

def State.rsv (s : State) (r : Nat) : RsvH := s.rsvs.getD {} r

def State.updRsv (s : State) (r : Nat) (f : RsvH → RsvH) : State := { s with rsvs := s.rsvs.updD {} r f }

/-- The timer of a window (R186): SKEW from the time that a copy is first held back. -/
def State.twinTimer (s : State) (r : Nat) : State :=
  s.updRsv r fun h =>
    { h with timer := if h.slots.isEmpty then none
                      else some (h.timer.getD (s.now + ns (s.rsvField .RSV_PATH_BOUND r))) }

/-- The copies in order are linked to the queues of their destination port (R186); a copy that finds no free queue
waits in the window, and the wait counts as it begins (R133). -/
def State.twinDrain (s : State) (r : Nat) : Nat → State
  | 0 => s.twinTimer r
  | fuel + 1 =>
    let h := s.rsv r
    match h.slots.find? (fun (x : Nat × Pkt × List Nat) => x.1 = h.x) with
    | none => s.twinTimer r
    | some (q, p, cs) =>
      match s.keyOf p with
      | none =>
        let s := ((s.refuseTlp true p).freeCells cs).updRsv r fun h =>
          { h with x := (h.x + 1) % 2 ^ 24, slots := h.slots.filter (·.1 ≠ q) }
        s.twinDrain r fuel
      | some k =>
        match s.allocQueue k with
        | none => (if h.timer.isNone then s.queueFull none else s).twinTimer r
        | some s =>
          let s := (s.linkCells k p cs false).updRsv r fun h =>
            { h with x := (h.x + 1) % 2 ^ 24, slots := h.slots.filter (·.1 ≠ q) }
          s.twinDrain r fuel

/-- The next copy in order of a twin reservation would find no flow queue (R133). -/
def State.twinNoQueue (s : State) (r : Nat) (p : Pkt) : Bool :=
  p.seq = (s.rsv r).x && ((s.keyOf p).map fun k => (s.allocQueue k).isNone).getD false

/-- A twin copy at its delivering chip (R186). One that belongs to no reservation is discarded. It crosses to the
quadrant of its destination port; one that has to wait does so in the receive FIFO (R14, R133, R139). -/
def State.twinIn (s : State) (p : Pkt) (prev : Option Wait := none) : State :=
  match s.rsvOf p with
  | none => s.creditBack p.inPort p
  | some r =>
    let h := s.rsv r
    let d := dist24 h.x p.seq
    if 2 ^ 23 ≤ d then (s.bump .TWIN_DUPLICATES r).creditBack p.inPort p
    else if 4096 ≤ d then
      ((s.bump .TWIN_WINDOW_DISCARDS r).raise (pktErr 0x2011 6 r p)).creditBack p.inPort p
    else if h.slots.any (fun (x : Nat × Pkt × List Nat) => x.1 = p.seq) then
      (s.bump .TWIN_DUPLICATES r).creditBack p.inPort p
    else
      let wait := fun (w : Wait) (s : State) => s.rxPut { port := p.inPort, pkt := p, why := w }
      let e := s.get .LOC_PORT p.dest % 512
      let xs := crossingsIn (clusterOf p.inPort) e
      if xs.any s.xFull then wait (prev.getD .crossing) s
      else if s.twinNoQueue r p then wait .queue (s.queueFull prev)
      else if s.get .SCHED_PARTITION_CELLS < s.poolUsed 2 + p.cells then wait .scheduled (s.schedFull p prev)
      else
        match s.allocCells (clusterOf p.inPort) (chargeWord 2 e p.cls) p.cells with
        | none => wait .scheduled (s.schedFull p prev)
        | some (cs, s) =>
          let s := xs.foldl (fun s x => s.xPut x (16 + p.tlp.bytes)) s
          let s := s.updRsv r fun h => { h with slots := h.slots ++ [(p.seq, p, cs)] }
          (s.creditBack p.inPort p).twinDrain r 4096

/-- The timer of a window expires: the missing sequences are skipped (R186). A copy in order that waits for a flow
queue misses none. -/
def State.twinExpire (s : State) (r : Nat) : State :=
  let h := s.rsv r
  match (h.slots.map fun (x : Nat × Pkt × List Nat) => dist24 h.x x.1).min? with
  | none => s.twinTimer r
  | some 0 =>
    if h.slots.any fun (x : Nat × Pkt × List Nat) => s.twinNoQueue r x.2.1 then s
    else (s.updRsv r fun h => { h with timer := none }).twinDrain r 4096
  | some n =>
    let s := s.updRsv r fun h => { h with x := (h.x + n) % 2 ^ 24, timer := none }
    ((s.bump .TWIN_LOST r n).raise { code := 0x2011, kind := 6, idx := r, detail := n }).twinDrain r 4096

/-! ## Arrival (R88 to R93, R220, R304) -/

/-- A twin copy crosses an edge chip, or its PRIMARY_PORT is in use no longer (R88, R89, log 29). -/
def State.twinBreach (s : State) (p : Pkt) : State :=
  let n := s.locNode p.dest
  let s := s.bump .TWIN_PLANE_BREACH
  if s.get .ACTIVE_PORT n ≠ s.get .PRIMARY_PORT n then s.creditBack p.inPort p else s.release p

/-- A whole packet at a fabric port goes on: to its stream or window here, or onward. -/
def State.fabricIn (s : State) (p : Pkt) : State :=
  if s.locNode p.dest = s.node then
    if p.twin = 0 then s.streamIn p
    else if s.behind p.inPort p.cls then s.rxPut { port := p.inPort, pkt := p, why := .behind }
    else s.twinIn p
  else if p.twin ≠ 0 ∧ s.get .PLANE = 2 then s.twinBreach p
  else s.release p

/-- What the chip finds wrong on the way of a packet from its port to its queue: a fault of a crossing, or an ECC error
that cannot be corrected (R13, R298). DESIGN CHOICE (log 83): it isolates the region on the side that the packet came from. -/
def State.innerFault (s : State) (port : Nat) (f : Option TlpFault) : State :=
  let t := tileOf port
  let q := quadRegion port
  match f with
  | some .crossing => s.raise { code := 0x3002, kind := 1, idx := t, region := t }
  | some .innerCrossing => s.raise { code := 0x3002, kind := 1, idx := q, region := q }
  | some .uncorrectable => s.raise { code := 0x3001, kind := 1, idx := q, region := q }
  | _ => s

/-- A packet arrives at a fabric port, and goes no further where a crossing or a memory spoils it; one of a husked
partition is discarded (R304); a reserved colour field is received as red (R158). One from a refused neighbour goes no further: the port carries hellos only
(R57). -/
def State.fabricArrive (s : State) (port : Nat) (p : Pkt) : State :=
  let p := { p with inPort := port, inTime := s.now, colour := min 2 p.colour }
  let s := s.noteArrived port p
  let s := ((s.countPort port 0x10 1 p).countPort port 0x11 p.tlp.bytes p).countPort port (0x12 + p.tlp.sub.code) 1 p
  if s.husked port then (s.bump .HUSK_DISCARDS port).creditBack port p
  else if s.nbrRefused port then s.creditBack port p
  else if p.tlp.fault.isSome then (s.innerFault port p.tlp.fault).creditBack port p
  else if !p.internal && !p.ur && s.husked (partRow p.part) then (s.huskDiscard (partRow p.part) p true).creditBack port p
  else s.fabricIn p

end Sys2Proof.Machine
end

