-- ==== Sys2Proof/Machine/Ingress.lean ====
section
/-! DEFINITION. What a TLP meets at its orchard ingress: source, checks, class, reservation, meters,
admission; and the receive FIFO (R14, R83, R94, R102 to R104, R111, R130, R158 to R168, R185, R253 to R260). -/

namespace Sys2Proof.Machine

open Sys2Proof

/-! ## Meters (R158 to R162) -/

/-- One meter of the chain: colour after it, whether it returned red, and the state. -/
def State.meterOne (s : State) (m pre : Nat) (p : Pkt) : Nat × Bool × State :=
  if 262144 ≤ m ∨ s.get .M_ALGO m = 0 then (pre, false, s)
  else
    let B := if s.get .M_UNIT m = 1 then 1 else p.tlp.bytes
    let (c, h) := meterColour (s.get .M_ALGO m) (s.get .M_MODE m) pre B (s.meterNow m)
    let s := { s with meters := s.meters.set m h }
    (c, c = 2, s.bump (if c = 0 then .M_GREEN else if c = 1 then .M_YELLOW else .M_RED) m)

/-- A meter starts to withhold credits of a type at a port (R161). -/
def State.startWithhold (s : State) (m port : Nat) (u : Sub) : State :=
  let h := s.meters.getD {} m
  if h.holds.contains (port, u) then s
  else { s with meters := s.meters.set m { h with holds := h.holds ++ [(port, u)] } }.bump .WITHHOLD_EVENTS

/-- A meter ends its withholding: credits that no other meter holds go back at once (R161). -/
def State.endWithhold (s : State) (m : Nat) : State :=
  let h := s.meters.getD {} m
  let s := { s with meters := s.meters.set m { h with holds := [] } }
  h.holds.foldl (fun s x =>
    let k := x.1 * 4 + x.2.code
    let n := s.withheld.getD 0 k
    if s.holdsCredit x.1 x.2 ∨ n = 0 then s
    else { s with withheld := s.withheld.erase k }.emit (.credit x.1 x.2 n)) s

/-- A red posted request of a lossy class is discarded (R162). -/
def State.redDiscard (s : State) (p : Pkt) (colour : Nat) : Bool :=
  colour = 2 && p.tlp.sub = .posted && p.cls < 5 && bit (s.get .LOSSY_CLASSES) p.cls

/-- The meter stage: the coloured packet, or none where it is discarded. -/
def State.meterStage (s : State) (port : Nat) (p : Pkt) : Option Pkt × State :=
  if p.tlp.kind = .cpl ∨ 6 ≤ p.cls ∨ p.internal then (some p, s)
  else
    let row := p.part * 8 + p.cls
    let a := s.get .METER_A row
    let b := s.get .METER_B row
    let (c1, r1, s) := s.meterOne a 0 p
    let (c, r2, s) := s.meterOne b c1 p
    let s := s.countPort port (0x30 + c) 1 p
    let s := if c = 2 then s.bump .RED_TLPS p.part else s
    if s.redDiscard p c then (none, (s.bump .RED_DISCARDS).creditBack port p)
    else
      let s := if r1 then s.startWithhold a port p.tlp.sub else s
      let s := if r2 then s.startWithhold b port p.tlp.sub else s
      (some { p with colour := c }, s)

/-! ## Copies (R104, R185) -/

/-- The copies of one TLP go to their queues by way of its port, behind what waits there (R105, R133): the
first accounts for the credit, the others bring none. A copy without a route is refused (R93). -/
def State.admitCopies (s : State) (port : Nat) (p0 : Pkt) (ps : List Pkt) : State :=
  let bad := ps.filter fun p => (s.keyOf p).isNone
  let good := ps.filterMap fun p => (s.keyOf p).map fun k => (k, p)
  let s := bad.foldl (fun s p => s.refuseTlp false p) s
  match good with
  | [] => s.creditBack port p0
  | (k, p) :: rest => rest.foldl (fun s x => s.enqueue port x.1 { x.2 with copy := true }) (s.enqueue port k p)

/-! ## Reservations (R166 to R168, R185) -/

/-- The accepted TLP of a reservation takes its class and pip offset; a twin is sent twice. -/
def State.rsvPackets (s : State) (r : Nat) (p : Pkt) : List Pkt :=
  let off := (s.now - s.edge (s.pipAt s.now)) / 65536
  let p := { p with cls := s.get .RSV_CLASS r, pipOffset := off, rsv := r + 1 }
  if s.get .RSV_TWIN r = 1 then
    let p := { p with seq := (s.rsvs.getD {} r).seq, pseqValid := true }
    [{ p with twin := 1 }, { p with twin := 2 }]
  else [p]

/-- A TLP that matches reservation r: accepted, held for the next pip, or discarded as too large. -/
def State.tryRsv (s : State) (port r : Nat) (p : Pkt) (again : Bool) : State :=
  let h := s.rsvs.getD {} r
  let b := p.tlp.bytes
  if s.get .RSV_BYTES_PER_PIP r < b then
    let s := s.bump .RSV_OVERSIZE r
    let s := if s.firstInPip 0x1009 r then s.raise { pktErr 0x1009 6 r p with part := some p.part } else s
    (s.noteInPip 0x1009 r).creditBack port p
  else if h.bytes + b ≤ s.get .RSV_BYTES_PER_PIP r ∧ h.tlps + 1 ≤ s.get .RSV_TLPS_PER_PIP r then
    let ps := s.rsvPackets r p
    let twin := s.get .RSV_TWIN r = 1
    let s := { s with rsvs := s.rsvs.set r { h with bytes := h.bytes + b, tlps := h.tlps + 1,
                                                    seq := if twin then (h.seq + 1) % 2 ^ 24 else h.seq } }
    let s := (s.bump .RSV_ACCEPTED r).countPort port 0x50 1 p
    let live := ps.filter fun x => x.twin = 0 ||
      !((s.keyOf x).map fun k => s.portDown (s.portOfKey k)).getD true
    if live.isEmpty ∧ twin then s.creditBack port p else s.admitCopies port p live
  else
    let s := if again then s else (s.bump .RSV_HELD r).countPort port 0x51 1 p
    s.rxPut { port := port, pkt := { p with rsv := r + 1 }, why := .reservation }

/-! ## ACS (R257) -/

/-- Offset of the ACS control word in a virtual downstream bridge (log 11). -/
def acsControl : Nat := 0x1A4

/-- An ACS control bit of the bridge of a function: 1 Translation Blocking, 2 P2P Request Redirect,
6 Direct Translated P2P. -/
def State.acsBit (s : State) (p fn n : Nat) : Bool :=
  match s.bridgeOfFn p fn with
  | none => false
  | some k => bit (((s.cfg.getD [] (p * 512 + 2 + k)).find acsControl).getD 0) (16 + n)

/-- Every target of a window is held by the partition itself (R257). -/
def State.ownWindow (s : State) (p k : Nat) : Bool :=
  if s.get .PW_KIND k = 0 then s.heldBy (s.get .PW_TARGET k) p
  else (List.range (s.get .MC_MEMBERS (s.get .PW_TARGET k))).all fun m =>
    s.heldBy (s.get .MC_TARGET (s.get .PW_TARGET k * 32 + m)) p

/-- Decode of a function's request under its bridge's ACS controls: redirected requests skip the
windows whose target the partition itself holds. -/
def State.decodeAcs (s : State) (p fn : Nat) (t : Tlp) : Decoded :=
  if t.at10 && s.acsBit p fn 1 then none
  else if hasAddr t.kind && s.acsBit p fn 2 && !(t.at10 && s.acsBit p fn 6) then
    match s.windowAt p 4 t.addr with
    | some k => if s.ownWindow p k then some [(hostGfid p, t.addr, false)] else s.windowDests k t
    | none => some [(hostGfid p, t.addr, false)]
  else s.decodeFn p t

/-! ## Sources (R83) -/

/-- Partition and source GFID of what arrives at a host or device port. -/
def State.sourceOf (s : State) (port rid : Nat) : Option (Nat × Nat) :=
  if s.isHost port then (s.partOfPort port).map fun p => (p, hostGfid p)
  else (s.fnAt s.node port rid).bind fun g =>
    if s.get .HELD_BY g < 4096 then some (s.get .HELD_BY g, g) else none

/-- Partition and completer of a completion that arrives: its tag entry says them. -/
def State.countRx (s : State) (port : Nat) (p : Pkt) : State :=
  let s := ((s.countPort port 0x10 1 p).countPort port 0x11 p.tlp.bytes p).countPort port
    (0x12 + p.tlp.sub.code) 1 p
  if s.isHost port then (s.bump .HOST_RX_TLPS p.part).bump .HOST_RX_BYTES p.part p.tlp.bytes else s

/-! ## IDE (R258 to R260) -/

/-- A TLP that IDE_MODE 2 refuses: no active stream covers it, and it is no configuration request of a host to the
virtual hierarchy. DEDUCED (log 81): on a device port, too, where a stream left the Secure state; and a TLP in the clear
is one that no stream covers. -/
def State.ideRefuses (s : State) (port : Nat) (t : Tlp) : Bool :=
  let covered := t.ide = .secure && bit (s.get .IDE_STREAMS_ACTIVE port) t.stream
  let config := s.isHost port && (t.kind = .cfgRead || t.kind = .cfgWrite)
  s.get .IDE_MODE port = 2 && !covered && !config

/-- A TLP under IDE whose stream is not active, or whose K bit names neither the key set in use nor the next: its check
fails (R258). -/
def State.ideBad (s : State) (port : Nat) (t : Tlp) : Bool :=
  let h := s.pport port
  t.ide = .secure && (!bit (s.get .IDE_STREAMS_ACTIVE port) t.stream ||
    (t.kBit ≠ bit h.rxK t.stream && !bit h.rxNew t.stream))

/-- The first TLP under the next key set brings it into use (R258). -/
def State.ideTake (s : State) (port : Nat) (t : Tlp) : State :=
  if t.ide = .secure ∧ t.kBit ≠ bit (s.pport port).rxK t.stream then
    s.updPport port fun h => { h with rxK := h.rxK ^^^ 2 ^ t.stream, rxNew := without h.rxNew (2 ^ t.stream) }
  else s

/-! ## Completions (R86, R111 to R113) -/

/-- The tail that a management function read: the request's tag was the ring's number (R269). -/
def State.tailIn (s : State) (e : TagEntry) (t : Tlp) : State :=
  let m := s.mf e.part
  if e.reqG = chipGfid s.node ∧ e.origTag < 3 ∧ t.status = 0 ∧ bit (m.ringCtrl e.origTag) 1 then
    s.updMf e.part fun m => { m with rings := m.rings.updD {} e.origTag fun r => { r with tail := t.value % 2 ^ 32 } }
  else s

/-- A completion with the ends that its entry gives it, where it has one. -/
def State.poisonedCpl (s : State) (port : Nat) (p : Pkt) : Pkt :=
  match s.lookupCpl port p.tlp with
  | .deliver _ e => { p with dest := e.reqG, src := e.cplG, part := e.part }
  | _ => { p with internal := true }

/-- A completion at a host or device port. DESIGN CHOICE (log 75): one that agrees but meets a husked partition
or a cut bridge is discarded and leaves its entry live, with REMAINING as it was, until DEADLINE. -/
def State.completionIn (s : State) (port : Nat) (t : Tlp) : State :=
  let p : Pkt := { tlp := t, inPort := port, inTime := s.now }
  let s := if t.poisoned then s.raise (pktErr 0x200C 2 port (s.poisonedCpl port p)) else s
  match s.lookupCpl port t with
  | .deliver n e =>
    let q := { p with dest := e.reqG, src := e.cplG, part := e.part }
    let s := s.countRx port q
    let cls := s.classOf e.cplG e.reqG e.part t
    let cut := (isHostGfid e.reqG && s.bridgeCut e.part e.cplG) || (isHostGfid e.cplG && s.bridgeCut e.part e.reqG)
    if s.husked (partRow e.part) then (s.huskDiscard (partRow e.part) q false).creditBack port p
    else if cut then s.creditBack port p
    else
      let s := ((s.mirror port 0 { q with cls := cls }).deliverCpl port n e t cls).tailIn e t
      if (s.tags.find n).isNone then s.unparkPort port else s
  | .disagree e => (s.unexpectedCpl port (some e) t).creditBack port p
  | .late n e => ((s.deadlinePassed n e).unexpectedCpl port (some e) t).creditBack port p
  | .dead e => (s.unexpectedCpl port (some e) t).creditBack port p
  | .noEntry => (s.unexpectedCpl port none t).creditBack port p

/-! ## Requests (R94, R102, R130, R158, R165) -/

/-- Traffic that a bridge cuts (R79). -/
def State.reqCut (s : State) (p src dest : Nat) : Bool :=
  (isHostGfid src && s.bridgeCut p dest) || (isHostGfid dest && s.bridgeCut p src)

/-- A request routed by ID. -/
def byId (k : TlpKind) : Bool := k = .cfgRead || k = .cfgWrite || k = .msgId

/-- A request has met a peer window of PW_KIND 1 (R165). -/
def State.multiWindow (s : State) (p : Pkt) (dests : List (Nat × Nat × Bool)) : Bool :=
  dests.any (·.2.2) &&
    ((s.windowAt p.part (if isHostGfid p.src then 3 else 4) p.tlp.addr).any fun k => s.get .PW_KIND k = 1)

/-- A decoded request: reservation, class, meters and admission. -/
def State.admitRequest (s : State) (port : Nat) (p : Pkt) (dests : List (Nat × Nat × Bool)) : State :=
  let one := !s.multiWindow p dests
  let ps := dests.map fun x =>
    { p with dest := x.1, orchAddr := x.2.1, viaWindow := x.2.2, cls := s.classify p.part p.tlp,
             tlp := if byId p.tlp.kind && isHostGfid p.src then
                 { p.tlp with target := s.forwardId p.part x.1 p.tlp.target } else p.tlp }
  match ps with
  | [] => s.creditBack port p
  | q :: _ =>
    match s.rsvMatch port p.tlp q.dest one with
    | some r => (s.mirror port 0 { q with cls := s.get .RSV_CLASS r }).tryRsv port r q false
    | none =>
      let s := s.mirror port 0 q
      match s.meterStage port q with
      | (none, s) => s
      | (some c, s) => s.admitCopies port p (ps.map fun x => { x with colour := c.colour })

/-- The target of the window that a refused request meets, or 0 (R119). -/
def State.deniedTarget (s : State) (p : Pkt) : Nat :=
  if !hasAddr p.tlp.kind then 0
  else match s.windowAt p.part (if isHostGfid p.src then 3 else 4) p.tlp.addr with
    | some k => if s.get .PW_KIND k = 0 then s.get .PW_TARGET k else 0
    | none => 0

/-- A request at a host or device port whose source is known. What is refused carries the target that decode found,
for the answer of R119. -/
def State.tlpRequestIn (s : State) (port : Nat) (p : Pkt) : State :=
  let dec := if isHostGfid p.src then s.decodeHost p.part p.tlp else s.decodeAcs p.part p.src p.tlp
  let refused := fun (s : State) (dst : Nat) => (s.refuseTlp false { p with dest := dst }).creditBack port p
  match dec with
  | none => refused s (s.deniedTarget p)
  | some dests =>
    let open_ := dests.filter fun x => !s.reqCut p.part p.src x.1
    let mine := open_.filter fun x => x.1 = chipGfid s.node
    let first := (dests.map (·.1)).headD 0
    if s.ideRefuses port p.tlp then refused s first
    else if open_.isEmpty then s.creditBack port p
    else if !mine.isEmpty && p.tlp.kind = .atomic then refused s first
    else if !mine.isEmpty then s.toControl port { p with dest := chipGfid s.node }
    else if open_.all fun x => (s.targetOf x.1).isNone then
      (s.refuseTlp false { p with dest := (open_.map (·.1)).headD 0 }).creditBack port p
    else s.admitRequest port p open_

/-- What a device's own error message raises (R298): codes of ERR_NONFATAL and ERR_FATAL. -/
def State.errMessage (s : State) (port : Nat) (p : Pkt) : State :=
  if s.isDevice port ∧ p.tlp.kind = .msgRoot ∧ p.tlp.msgCode = 0x33 then s.raise (pktErr 0x200A 2 port p)
  else if s.isDevice port ∧ p.tlp.kind = .msgRoot ∧ p.tlp.msgCode = 0x31 then s.raise (pktErr 0x200B 2 port p)
  else s

/-- The errors of a TLP that fails before the parse stage, each with its bit of the uncorrectable status of AER
(R254, R258, R298, R308; the bits are PRESUMED, PCI Express Base 6.2, log 83). -/
def parseErrors (t : Tlp) : List (Nat × Nat) :=
  (match t.ide with
    | .failed => [(0x2004, 28)]
    | .misrouted => [(0x2004, 29)]
    | _ => []) ++
  (if t.ecrc = some false then [(0x2007, 19)] else []) ++
  (match t.fault with
    | some .malformed => [(0x2008, 18)]
    | some .overflow => [(0x2009, 17)]
    | some .flowControl => [(0x2009, 13)]
    | some .dataLink => [(0x2009, 4)]
    | _ => [])

/-- A TLP that fails before the parse stage raises its errors and is discarded. -/
def State.parseFails (s : State) (port : Nat) (p : Pkt) : State :=
  let s := (parseErrors p.tlp).foldl (fun s x => s.raise { pktErr x.1 2 port p with aer := x.2 }) s
  let s := if p.tlp.ide = .failed ∨ p.tlp.ide = .misrouted then s.bump .IDE_CHECK_FAILS port else s
  (s.innerFault port p.tlp.fault).creditBack port p

/-- The parse stage (R83) and what follows it. -/
def State.parse (s : State) (port : Nat) (t : Tlp) : State :=
  let p : Pkt := { tlp := t, inPort := port, inTime := s.now, orchAddr := t.addr }
  let s := if t.fault = some .corrected then
      s.raise { code := 0x100C, kind := 1, idx := quadRegion port, region := quadRegion port }
    else s
  let t := if t.fault = some .corrected then { t with fault := none } else t
  let t := if s.ideBad port t then { t with ide := .failed } else t
  let p := { p with tlp := t }
  let s := s.ideTake port t
  if t.fault.isSome ∨ !(parseErrors t).isEmpty then s.parseFails port { p with internal := true }
  else if t.kind = .cpl ∧ s.ideRefuses port t then
    match s.sourceOf port t.cplId with
    | some (part, src) => (s.refuseTlp false { p with part := part, src := src }).creditBack port p
    | none => s.creditBack port p
  else if t.kind = .cpl then s.completionIn port { t with ecrc := none }
  else match s.sourceOf port t.rid with
    | none => (s.event 83 [port, t.rid]).creditBack port p
    | some (part, src) =>
      let p := { p with part := part, src := src, tlp := { t with ecrc := none } }
      let s := s.countRx port p
      let s := if t.poisoned then s.raise (pktErr 0x200C 2 port p) else s
      let s := s.errMessage port p
      if s.husked (partRow part) then (s.huskDiscard (partRow part) p true).creditBack port p
      else s.tlpRequestIn port p

/-- A TLP is received whole at a host or device port (R14, R83, R304). -/
def State.receive (s : State) (port : Nat) (t : Tlp) : State :=
  let p : Pkt := { tlp := t, inPort := port, inTime := s.now }
  let s := s.updPport port fun h => { h with l1 := false }
  if s.husked port then (s.bump .HUSK_DISCARDS port).creditBack port p
  else if (s.rx.getD [] (clusterOf port)).any fun i =>
      i.port = port && (i.why = .reservation || i.why = .parse) then
    s.rxPut { port := port, pkt := p, why := .parse }
  else s.parse port t

/-! ## The receive FIFO goes on (R14, R133, R167) -/

/-- One item of a receive FIFO tried again. -/
def State.redo (s : State) (i : RxItem) : State :=
  match i.why with
  | .parse => s.parse i.port i.pkt.tlp
  | .reservation => s.tryRsv i.port (i.pkt.rsv - 1) i.pkt true
  | _ =>
    if i.pkt.twin ≠ 0 ∧ s.isFabric i.port ∧ s.locNode i.pkt.dest = s.node then s.twinIn i.pkt (some i.why)
    else match s.keyOf i.pkt with
      | some k => s.enqueue i.port k i.pkt (some i.why)
      | none =>
        if s.toSelf i.pkt then s.toControl i.port i.pkt
        else (s.refuseTlp (s.isFabric i.port) i.pkt).creditBack i.port i.pkt

/-- The items of a port tried in order, up to the first that has to wait again. -/
def State.resume (s : State) (port : Nat) : State :=
  let c := clusterOf port
  let items := (s.rx.getD [] c).filter (·.port = port)
  let s := { s with rx := s.rx.updD [] c fun l => l.filter (·.port ≠ port) }
  items.foldl (fun s i => if s.behind port i.pkt.cls then s.rxPut i else s.redo i) s

/-! ## What a management function sends (R268) -/

/-- A memory write or read of the management function of p toward its host. -/
def State.issue (s : State) (p : Nat) (t : Tlp) : State :=
  let k : Pkt := { dest := hostGfid p, src := chipGfid s.node, part := p, cls := s.classify p t,
                   orchAddr := t.addr, tlp := t, inPort := 0, inTime := s.now, mf := true }
  s.inject k

end Sys2Proof.Machine
end

