-- ==== Sys2Proof/Machine/Egress.lean ====
section
/-! DEFINITION. Selection at an egress port and what becomes of the TLP selected (R88, R90, R93, R102,
R103, R107, R122, R123, R136, R148 to R157, R171, R304, R307). -/

namespace Sys2Proof.Machine

open Sys2Proof

/-! ## Selection (R136, R148 to R153) -/

/-- Data credits that a TLP needs, of 16 bytes each (PCI Express Base 6.2; R136). -/
def dataCredits (p : Pkt) : Nat := ceilDiv p.tlp.data 16

/-- A host or device port holds the header and the data credits that a TLP needs (R136, R151). -/
def State.hasCredit (s : State) (e : Nat) (p : Pkt) : Bool :=
  decide (0 < (s.pport e).fc.getD 0 p.tlp.sub.code) &&
    decide (dataCredits p ≤ (s.pport e).fc.getD 0 (p.tlp.sub.code + 3))

/-- A TLP that is discarded when it is selected: its unit is husked, a cell of it is lost, its node has no
valid route, or it is a twin copy whose port is down or that only an alternate port would take (R88, R93, R304,
R307). The Unsupported Requests that answer for a husked partition are no TLPs of it, and go out (R304, R308; DEDUCED,
log 88). -/
def State.doomed (s : State) (e k : Nat) (p : Pkt) : Bool :=
  s.husked e || (!p.ur && (s.drains e k || s.husked (partRow p.part) && !p.internal)) || p.lost ≠ 0 || (p.twin ≠ 0 && s.portDown e) ||
    s.routeLost k || s.twinStray k p

/-- sendable of R136. -/
def State.sendable (s : State) (e k : Nat) (p : Pkt) : Bool :=
  s.doomed e k p || (!s.portless k &&
    (if s.isFabric e then s.linkMaySend e p
     else (s.pport e).up && s.hasCredit e p && (p.tlp.sub ≠ .nonPosted || s.tagReady e p)))

/-- The queues that a selection at e may examine, in order: at most four (R148, R149, R153). Where its
class's gate or shaper holds a class, only queues of husked units take part (R304). -/
def State.candidates (s : State) (e : Nat) : List (Nat × Queue) :=
  ((List.range 8).reverse.flatMap fun c =>
    if !s.classEligible e c then []
    else if bit (s.gates.getD {} e).mask c && s.classConforms e c then s.eligibleSet e c
    else (s.eligibleSet e c).filter fun x => s.drains e x.1).take 4

/-- The queues examined in order: those whose check returns none are parked (R151, R153). -/
def State.examine (s : State) (e : Nat) : List (Nat × Queue) → Option (Nat × Sub × Pkt) × State
  | [] => (none, s)
  | (k, q) :: rest =>
    match dequeueLoop q (s.sendable e k) q.heads [] with
    | some (u, p) => (some (k, u, p), s)
    | none => (s.updQ k fun q => { q with parked := true }).examine e rest

/-- Some cell of the TLP at the head of a sub-list passed through HBM (R409). -/
def Queue.headSpilled (q : Queue) (u : Sub) : Bool := (headTlp (q.sub u).head).any (·.hbm)

/-- Queues of a class that woke in the clock of a selection take V as the selection leaves it (R152). -/
def State.lateWakes (s : State) (e c v : Nat) : State :=
  { s with queues := s.queues.map fun x =>
      if x.2.woke = some s.clockNow && keyClass x.1 = c && s.portFor x.1 x.2 = e then (x.1, { x.2 with tag := v }) else x }

/-- V, start tag and shapers advance, and the TLP leaves its queue (R153, R156). -/
def State.account (s : State) (e k L : Nat) (u : Sub) : State :=
  match s.queues.find k with
  | none => s
  | some q =>
    let c := keyClass k
    let s := (s.put .SC_VIRTUAL_TIME (e * 8 + c) q.tag).lateWakes e c q.tag
    let w := s.weightOf e c q
    let s := s.updQ k fun q => { q with tag := (q.tag + tagIncrement L w c) % 2 ^ 48 }
    (s.debit e c k L).popHead k u

/-! ## Discards at dequeue -/

/-- A TLP is discarded at its dequeue; one of a management function holds its messages back no longer (R271). -/
def State.dequeueDiscard (s : State) (e k : Nat) (p : Pkt) : State :=
  let s := (s.bump .SC_DISCARDS (e * 8 + keyClass k)).countPort e 0x23 1 p
  if isChipGfid p.src then s.msixSettle p.part else s

/-- What becomes of a doomed TLP (R88, R93, R118, R304, R307). -/
def State.discardDoomed (s : State) (e k : Nat) (p : Pkt) : State :=
  let s := s.dequeueDiscard e k p
  if s.husked e then s.huskDiscard e p true
  else if !p.internal && s.husked (partRow p.part) then s.huskDiscard (partRow p.part) p true
  else if p.lost = 0 ∧ s.routeLost k then s.refuseTlp true p
  else s

/-! ## Toward a fabric port (R90, R122, R123, R195) -/

/-- The ingress chip numbers and flags a packet that is not a twin copy; a salvaged one keeps its number. -/
def State.numbered (s : State) (p : Pkt) : Pkt × State :=
  if p.twin ≠ 0 ∨ p.salvage then (p, s)
  else
    let dst := s.locNode p.dest
    let n := streamNum (pktSource p) (if p.internal then 0 else p.cls) (s.locNode p.src) dst
    let q := s.txSeq.getD 0 n
    ({ p with seq := q, pseqValid := decide (s.now < s.flagUntil.getD 0 dst) },
      { s with txSeq := s.txSeq.putD 0 n ((q + 1) % 2 ^ 24) })

/-- A packet for the link, or none where its hop count ends it (R90). A chip whose port toward the node has
changed flags what it forwards, too (R123, R196). -/
def State.onward (s : State) (e k : Nat) (p : Pkt) : Option Pkt × State :=
  if !s.isFabric p.inPort then
    let (p, s) := s.numbered p
    (some { p with copy := false }, s)
  else if 31 ≤ p.hop then
    (none, ((s.dequeueDiscard e k p).bump .HOP_LIMIT_DISCARDS).raise (streamErr 0x200D p))
  else
    let flag := p.twin = 0 && !p.salvage && decide (s.now < s.flagUntil.getD 0 (s.locNode p.dest))
    (some { p with hop := p.hop + 1, pseqValid := p.pseqValid || flag }, s)

/-! ## Toward a host or device port (R79, R84, R85, R102, R103, R107, R171) -/

/-- The code of an INTx message as the host of the bridge's partition sees it: Assert_INTA to D are 20h to 23h,
Deassert 24h to 27h (PRESUMED, PCI Express Base 6.2, log 83), swizzled by the device number of the virtual downstream
bridge, which is device k / 8 (R68, R253). -/
def State.swizzled (s : State) (e : Nat) (p : Pkt) : Nat :=
  let c := p.tlp.msgCode
  if s.isHost e ∧ p.tlp.kind = .msgRoot ∧ 0x20 ≤ c ∧ c < 0x28 then
    match s.bridgeOfFn p.part p.src with
    | some k => c / 4 * 4 + (c + k / 8) % 4
    | none => c
  else c

/-- A TLP as it leaves: identity, tag and address of the delivering side. -/
def State.rewritten (s : State) (e : Nat) (p : Pkt) (tag : Nat) : Tlp :=
  let t := p.tlp
  if p.ur then { t with cplId := if s.isHost e then s.urCompleter p else 0, addr := 0, target := 0 }
  else if t.kind = .cpl then { t with cplId := s.presentedId e p.part p.src }
  else { t with rid := s.presentedId e p.part p.src, tag := tag, addr := p.orchAddr, msgCode := s.swizzled e p }

/-- The late test of a reservation's TLP (R171). -/
def State.lateTest (s : State) (e : Nat) (p : Pkt) : State :=
  match s.rsvOf p with
  | none => s
  | some r =>
    let off := ns p.pipOffset
    if s.now < s.edge (s.pipAt (s.now - off)) + ns (s.rsvField .RSV_DEADLINE_GRANTED r) then s
    else
      let s := (s.bump .RSV_LATE r).countPort e 0x52 1 p
      let s := if s.firstInPip 0x100A r then s.raise { pktErr 0x100A 6 r p with part := some p.part } else s
      s.noteInPip 0x100A r

/-- A TLP leaves a host or device port. -/
def State.sendTlp (s : State) (e : Nat) (p : Pkt) (tag : Nat) : State :=
  let s := s.updPport e fun h => 
    { h with fc := (h.fc.updD 0 p.tlp.sub.code (· - 1)).updD 0 (p.tlp.sub.code + 3) (· - dataCredits p), l1 := false }
  let s := match s.partOfPort e with
    | some q => (s.bump .HOST_TX_TLPS q).bump .HOST_TX_BYTES q p.tlp.bytes
    | none => s
  let s := (s.lateTest e p).emit (.tlp e (s.protect e (s.rewritten e p tag)))
  if isChipGfid p.src then s.msixSettle p.part else s

/-- The delivering chip's checks: a TLP that a bridge cuts, or that the egress check refuses, is discarded;
none says so. -/
def State.deliverTo (s : State) (e k : Nat) (p : Pkt) : Option State × State :=
  if s.reqCut p.part p.src p.dest then (none, s.dequeueDiscard e k p)
  else if p.tlp.kind = .cpl then (some (s.sendTlp e p p.tlp.tag), s)
  else if !p.internal && !s.egressOk p.part p.dest then (none, (s.dequeueDiscard e k p).refuseTlp true p)
  else if p.tlp.sub = .nonPosted then
    match s.takeTag e p with
    | some (tag, s) => (some (s.sendTlp e p tag), s)
    | none => (none, s)
  else (some (s.sendTlp e p p.tlp.tag), s)

/-! ## The selection (R153) -/

/-- Counters, mirror and sampler of a TLP that leaves (R154, R404, R409, R411). -/
def State.noteSent (s : State) (e k L num : Nat) (hbm : Bool) (p : Pkt) : State :=
  let r := e * 8 + keyClass k
  let s := (s.bump .SC_TX_TLPS r).bump .SC_TX_BYTES r L
  let s := s.xPut (.tileQuad (clusterOf e) false) p.tlp.bytes
  (((s.countPort e 0x20 1 p).countPort e 0x21 L p).mirror e 1 p).sample e num hbm p

/-- A TLP that the dequeue check returned. -/
def State.dispatchTlp (s : State) (e k : Nat) (u : Sub) (p : Pkt) : State :=
  let q := (s.queues.find k).getD { num := 0 }
  let L := s.lengthAt e (keyClass k) p
  let doomed := s.doomed e k p
  let s := (s.account e k L u).updPport e fun h => { h with busyAt := s.now }
  if doomed then s.discardDoomed e k p
  else if s.isFabric e then
    match s.onward e k p with
    | (some p, s) =>
      (s.updLink e fun h => { h with txq := h.txq ++ [p] }).noteSent e k L q.num (q.headSpilled u) p
    | (none, s) => s
  else
    match s.deliverTo e k p with
    | (some s, _) => s.noteSent e k L q.num (q.headSpilled u) p
    | (none, s) => s

/-- One selection at an egress port (R153); while the crossing to its tile is full it waits (R14). -/
def State.select (s : State) (e : Nat) : State :=
  let s := s.reshape e
  if s.xFull (.tileQuad (clusterOf e) false) then s
  else match s.examine e (s.candidates e) with
  | (some (k, u, p), s) => s.dispatchTlp e k u p
  | (none, s) => s

end Sys2Proof.Machine
end

