-- ==== Sys2Proof/Machine/Epoch.lean ====
section
/-! DEFINITION. Epoch requests at the keeper as shared operations: route pushes, guard points,
cancellation, continuation (R45 to R49, R60, R88 to R92). -/

namespace Sys2Proof.Machine

open Sys2Proof

/-! ## Routes (R88 to R92) -/

/-- The topology without withdrawn links, in both directions (R213). -/
def State.avoiding (s : State) : State :=
  { s with topo := s.topo.filter fun k =>
      !k.withdrawn && !(s.topo.any fun x => x.withdrawn && x.node = k.nbr && x.port = k.nbrPort) &&
        !(k.node = s.node && s.get .WITHDRAWN k.port = 1) && !(k.nbr = s.node && s.get .WITHDRAWN k.nbrPort = 1) }

/-- The fabric ports of this chip whose neighbour lies fewer hops from a node than this chip (R91). -/
def State.alternates (s : State) (dst primary : Nat) : List Nat :=
  match s.hopsTo 2 s.node dst with
  | none => []
  | some d => s.topo.filterMap fun k =>
      if k.node = s.node && k.port ≠ primary &&
          ((s.hopsTo 2 k.nbr dst).map fun m => decide (m < d)).getD false then some k.port else none

/-- This chip's row of 5000 for a node, by a topology (R88 to R91). -/
def State.rowFrom (s : State) (n : Nat) : Option RouteRow :=
  if n = s.node then none
  else match s.routePort 2 s.node n, s.hopsTo 2 s.node n with
    | some e, some d =>
      let alt := s.alternates n e
      some { node := n, primary := e,
             alternate := if alt.isEmpty then 0xFFFF else (alt[Config.routeChoice s.node n % alt.length]?).getD 0xFFFF,
             twinA := (s.routePort 0 s.node n).getD 0xFFFF, twinB := (s.routePort 1 s.node n).getD 0xFFFF,
             hops := d, valid := true }
    | _, _ => none

/-- A row with the twin ports of another where it has none of its own. -/
def RouteRow.twinsFrom (r b : RouteRow) : RouteRow :=
  { r with twinA := if r.twinA = 0xFFFF then b.twinA else r.twinA
           twinB := if r.twinB = 0xFFFF then b.twinB else r.twinB }

/-- The row that the keeper computes for a node: around withdrawn links where another path exists, plane by plane
(R213). DESIGN CHOICE (log 75): the row of a node without a route holds no ports and 0 hops. -/
def State.routeRow (s : State) (n : Nat) : RouteRow :=
  match s.avoiding.rowFrom n, s.rowFrom n with
  | some a, some b => a.twinsFrom b
  | a, b => (a.or b).getD
    { node := n, primary := 0xFFFF, alternate := 0xFFFF, twinA := 0xFFFF, twinB := 0xFFFF, hops := 0,
      valid := n = s.node }

/-- A path of a reservation crosses a link that was withdrawn when the routes were computed (R213). -/
def State.crossesOut (s : State) (r : Nat) : Bool :=
  (s.rsvPaths r).any fun p => (p.getD []).any fun h =>
    (s.routeAll.any fun k => k.node = h.1 && k.port = h.2) && !s.routeTopo.any fun k => k.node = h.1 && k.port = h.2

/-- What a reservation comes to under the route tables in force: state and bound (R174, R179, R335); impaired where its
path crosses a withdrawn link (R213). -/
def State.outcome (s : State) (r : Nat) : Nat × Nat :=
  let paths := s.rsvPaths r
  if s.get .RSV_TWIN r = 1 ∧ paths.any (·.isNone) ∧ paths.any (·.isSome) then (5, s.get .RSV_PATH_BOUND r)
  else match s.rsvBound s.grantedRows r s.gateWaitAt with
    | none => (4, s.get .RSV_PATH_BOUND r)
    | some L =>
      (if s.deadlineOf L ≤ s.get .RSV_DEADLINE_GRANTED r ∧ L ≤ periodNs (s.get .PIP_PERIOD) ∧ !s.crossesOut r then 3
        else 4, L)

/-- The chip with the routes of a push in force. -/
def State.withRoutes (s : State) (p : Push) : State := { s with routeTopo := p.avoid, routeAll := p.all }

/-- The push that the keeper computes, and what it makes of the reservations whose path it changes, or crosses a
withdrawn link before it or after, where pair B runs (R92, R179, R213). -/
def State.newPush (s : State) : Push :=
  let p : Push := { rows := (List.range 32).map s.routeRow, avoid := s.avoiding.topo, all := s.topo }
  let s1 := s.withRoutes p
  let moved := s.grantedRows.filter fun r => s1.rsvPaths r ≠ s.rsvPaths r || s.crossesOut r || s1.crossesOut r
  if s.get .PAIR_B_STATE ≠ 0 then p else { p with outcomes := moved.map fun r => (r, s1.outcome r) }

/-- The keeper opens a route push at the earliest epoch that R45 allows; one that R49 refuses waits
(R92). -/
def State.openPush (s : State) : State :=
  let units := unitsOf s.live
  if s.get .KEEPER_ROLE ≠ 1 ∨ s.unitsBusy units then { s with pushWanted := true }
  else
    let e := s.edge (s.pipFrom s.now (3 * s.P))
    let (_, s) := s.openReq 3 [e] units (.routes s.newPush)
    { s with pushWanted := false }

/-- A push that waits is opened as soon as it can be (R92). -/
def State.pushIfWanted (s : State) : State :=
  if s.pushWanted ∧ s.get .KEEPER_ROLE = 1 then s.openPush else s

/-! ## Cancellation (R47, R75, R176, R183) -/

/-- The banks of a gate-list switch in one state take another (R183). -/
def State.bankStates (s : State) (w : Work) (a b : Nat) : State :=
  match w with
  | .gates banks => banks.foldl (fun s k => if s.get .GL_BANK_STATE k = a then s.put .GL_BANK_STATE k b else s) s
  | _ => s

/-- What a cancelled request leaves of its work. -/
def State.dropWork (s : State) (w : Work) : State :=
  match w with
  | .grafts rows => rows.foldl State.cancelGraft s
  | .reservations rows _ => rows.foldl (fun s r =>
      if s.get .RSV_STATE r = 2 then s.put .RSV_STATE r 1 else s) s
  | .gates _ => (s.bankStates w 2 1).put .GS_RESULT 0 0x0404
  | .firmware _ => { s with fw := { s.fw with ready := false, decided := false } }
  | .period _ => { s with staged := dropHeld s.staged .PIP_PERIOD 0 }
  | .routes _ => { s with pushWanted := true }
  | .profile _ _ _ => s.put .PS_RESULT 0 0x0404
  | .windows _ => s
  | .step _ => s

/-- A request is cancelled with 0x0404 (R47). -/
def State.cancelReq (s : State) (r : EpochReq) : State :=
  let s := (s.put .EPOCH_STATE r.num 4).put .EPOCH_RESULT r.num 0x0404
  ((s.dropWork r.work).msg .cancel [r.num]).pushIfWanted

/-! ## The guard point (R46, R47, R60) -/

/-- The guard point of a request's epoch in force. -/
def State.guardOf (s : State) (r : EpochReq) : Time := r.epoch - 2 * s.P

/-- No unit of a chip counts ready: a pair of it is stopped, or its region 14 does not run (R25, R47). Of
another chip its last hello tells it (R55, R56, log 35). -/
def State.chipStopped (s : State) (n : Nat) : Bool :=
  if n = s.node then s.pairStopped || !s.runs 14
  else match s.members.find n with
    | some m => m.heard && !m.healthy
    | none => false

/-- A unit is not awaited: its chip reports it isolated, as this chip does for its own regions in
REGION_STATE 2 or 3 (R47). -/
def State.notAwaited (s : State) (r : EpochReq) (u : Nat × Nat) : Bool :=
  if u.1 = s.node then s.runs 14 && (s.get .REGION_STATE u.2 = 2 || s.get .REGION_STATE u.2 = 3)
  else r.isolated.contains u && !s.chipStopped u.1

/-- The first unit found not ready, whatever it reported before where its chip has stopped (R25): lowest
node, then lowest region (R47). -/
def State.firstLate (s : State) (r : EpochReq) : Option (Nat × Nat) :=
  (r.units.filter fun u => (!r.ready.contains u || s.chipStopped u.1) && !s.notAwaited r u).foldl (fun acc u =>
    match acc with
    | none => some u
    | some b => if u.1 * 16 + u.2 < b.1 * 16 + b.2 then some u else some b) none

/-- The rows that a commit of reservations admits. -/
def admitted (vals : List Held) : List Nat := nub (vals.map (·.row))

/-- The reservations that stand once a request with these rows has applied: those in force without the
released ones, and those admitted. -/
def State.rsvsAfter (s : State) (rows : List Nat) (vals : List Held) : List Nat :=
  (s.grantedRows.filter fun r => !rows.contains r) ++ admitted vals

/-- The minimum of a channel that reservations raise to a number of units (R211). -/
def LinkH.raise (h : LinkH) (v n : Nat) : LinkH :=
  { h with raised := h.raised.set v n, peerMins := h.peerMins.set v (max (h.bases.getD 0 v) n) }

/-- The sender's view of the minimums at its neighbours, raised to what a function of port, channel and the units
raised so far says (R211). -/
def State.updPeerMins (s : State) (f : Nat → Nat → Nat → Nat) : State :=
  { s with links := s.links.map fun (x : Nat × LinkH) =>
      (x.1, [6, 7].foldl (fun (h : LinkH) v => h.raise v (f x.1 v (h.raised.getD 0 v))) x.2) }

/-- Raised minimums are enforced from the decision on (R211): those that the rows in force would need with the rows
that the request admits. -/
def State.raisePeers (s : State) (rows : List Nat) (vals : List Held) : State :=
  let rs := s.rsvsAfter rows vals
  s.updPeerMins fun port v old => max old (s.unitsNeeded rs s.node port v)

/-- What a commit decision brings at once: raised channel minimums hold toward the neighbours, and a
firmware switch is recorded (R211, R401). -/
def State.decisionWork (s : State) (r : EpochReq) : State :=
  match r.work with
  | .firmware _ => { s with fw := { s.fw with decided := s.fw.ready } }
  | .reservations rows vals => s.raisePeers rows vals
  | _ => s

/-- The keeper decides to commit (R46). -/
def State.commitReq (s : State) (r : EpochReq) : State :=
  let s := (s.updReq r.num fun r => { r with decided := true }).put .EPOCH_STATE r.num 1
  ((s.msg .mirror [r.num, 1]).msg .decision [r.num]).decisionWork r

/-- A unit was not ready: the change moves to the next offer or is cancelled (R47). -/
def State.lateReq (s : State) (r : EpochReq) (u : Nat × Nat) : State :=
  let s := s.raise { code := 0x100B, kind := 1, idx := u.2, region := u.2, node := some u.1 }
  let s := s.put .NOT_READY r.num (u.1 * 2048 + u.2)
  if r.cur + 1 < r.offers.length then
    (s.updReq r.num fun r => { r with cur := r.cur + 1, ready := [], isolated := [] }).put .EPOCH_STATE
      r.num 3
  else s.cancelReq r

/-- The guard point of a request has come. No decision is taken while a pair of the keeper is stopped
(R60), and none on another chip's request. -/
def State.guard (s : State) (r : EpochReq) : State :=
  if s.pairStopped ∨ r.prep ∨ r.decided ∨ s.reqOver r.num ∨ s.now < s.guardOf r then s
  else
    let s := s.irqEdge 705
    match s.firstLate r with
    | none => s.commitReq r
    | some u => s.lateReq r u

/-- First offer from `i` on whose guard point lies at least one pip ahead (R60). -/
def State.nextOffer (s : State) (i : Nat) : List Time → Option Nat
  | [] => none
  | e :: es => if s.now + s.P + 2 * s.P ≤ e then some i else s.nextOffer (i + 1) es

/-- A request goes on under a new keeper, or under a keeper whose pair runs again (R60). -/
def State.continueReq (s : State) (r : EpochReq) : State :=
  if r.decided ∨ s.reqOver r.num then s
  else match s.nextOffer r.cur (r.offers.drop r.cur) with
    | some i =>
      if i = r.cur then s
      else (s.updReq r.num fun r => { r with cur := i, ready := [], isolated := [] }).put .EPOCH_STATE r.num 3
    | none => s.cancelReq r

/-- Every pending request goes on. -/
def State.continueAll (s : State) : State := s.pendingReqs.foldl State.continueReq s

/-! ## Commands that name epochs (R45, R49, R62) -/

/-- A request is opened for a command, with its number as the return value. -/
def State.openFor (s : State) (kind : Nat) (offers : List Time) (units : List (Nat × Nat)) (w : Work) :
    Nat × List Nat × State :=
  let (k, s) := s.openReq kind offers units w
  ok [k] s

end Sys2Proof.Machine
end

