-- ==== Sys2Proof/Machine/Apply.lean ====
section
/-! DEFINITION. Values that come into force together at an edge, with what their change does (R44,
R153, R157, R163, R211, R319, R406, R413). -/

namespace Sys2Proof.Machine

open Sys2Proof

/-- The fields of 6100 that set a meter. -/
def meterObjs : List Obj := [.M_ALGO, .M_MODE, .M_UNIT, .M_CIR, .M_CBS, .M_PIR_EIR, .M_PBS_EBS, .M_RECOVER]

/-- The fields of 6010 that a flow queue holds. -/
def templateObjs : List Obj := [.FQ_WEIGHT_SET, .SPILL_THRESHOLD, .YELLOW_SPILL_THRESHOLD]

/-- The filters of a counter unit. -/
def filterObjs : List Obj := [.FILT_PRIV, .FILT_GFID, .FILT_GFID_MASK, .FILT_ADDR_BASE, .FILT_ADDR_SIZE_LOG2, .FILT_CLASS]

/-- A change: object, row, new value. -/
abbrev Change := Obj × Nat × Nat

/-- The rows that some changes of the objects listed touch. -/
def rowsIn (l : List Change) (os : List Obj) : List Nat :=
  nub ((l.filter fun c => os.contains c.1).map fun c => c.2.1)

/-! ## Before the change: what the old settings have earned (R157, R163) -/

/-- A meter's tokens up to now under its settings in force; an enabled one that nothing has used yet is full. -/
def State.settleMeter (s : State) (m : Nat) : State :=
  if (s.meters.getD {} m).on ∨ s.get .M_ALGO m ≠ 0 then { s with meters := s.meters.set m (s.meterNow m) } else s

/-- The tokens of a port-and-class shaper up to now. -/
def State.settleBucket (s : State) (k : Nat) : State :=
  { s with buckets := s.buckets.set k { tokens := s.classTokens (k / 8) (k % 8), upto := s.age } }

/-- The tokens of the flow queues of a row of 6210 up to now. -/
def State.settleQueues (s : State) (row : Nat) : State :=
  { s with queues := s.queues.map fun x =>
      if keyRow x.1 = row then (x.1, { x.2 with tokens := s.queueTokens x.1 x.2, tokensAt := s.age }) else x }

/-- Every bucket that some changes touch, up to now. -/
def State.settleFor (s : State) (l : List Change) : State :=
  let s := (rowsIn l meterObjs).foldl State.settleMeter s
  let s := (rowsIn l [.SC_SHAPE_RATE, .SC_SHAPE_BURST]).foldl State.settleBucket s
  (rowsIn l [.FQS_RATE, .FQS_BURST]).foldl State.settleQueues s

/-! ## After the change -/

/-- A meter under its new row (R159, R163): clipped, full where it is enabled or M_ALGO changed, off with its
withholding ended where it is disabled. -/
def State.meterChanged (s : State) (algo : List Nat) (m : Nat) : State :=
  let h := s.meters.getD {} m
  let (fc, fp) := s.meterFull m
  if s.get .M_ALGO m = 0 then
    let s := if h.holds.isEmpty then s else s.endWithhold m
    { s with meters := s.meters.updD {} m fun h => { h with on := false } }
  else if !h.on ∨ algo.contains m then
    { s with meters := s.meters.set m { h with tc := fc, tp := fp, upto := s.age, on := true } }
  else { s with meters := s.meters.set m { h with tc := min fc h.tc, tp := min fp h.tp } }

/-- Meters that withhold and that no row names any more end their withholding (R163). -/
def State.unboundMeters (s : State) : State :=
  let named := (s.rowsOf .METER_A).map (·.2) ++ (s.rowsOf .METER_B).map (·.2)
  ((s.meters.filter fun m => !m.2.holds.isEmpty && !named.contains m.1).map (·.1)).foldl State.endWithhold s

/-- A flow queue takes its template again (R132, R153, log 33). -/
def State.reloadQueues (s : State) (row : Nat) : State :=
  { s with queues := s.queues.map fun x =>
      if keyRow x.1 = row then
        (x.1, { x.2 with weight := s.get .FQ_WEIGHT_SET row, spillThr := s.get .SPILL_THRESHOLD row,
                         yellowThr := s.get .YELLOW_SPILL_THRESHOLD row })
      else x }

/-- A counter starts again from 0 (R406). -/
def State.ctrZero (s : State) (key : Nat) : State := s.put .CTR_VALUE key 0

/-- The eight counters of a unit. -/
def unitKeys (u : Nat) : List Nat := (List.range 8).map (· + 8 * u)

/-- The effective minimums of a port: the larger of VC_MIN_SET and the reservations' (R208, R175). -/
def State.setMins (s : State) (port : Nat) : State :=
  let mins := s.vcMins s.grantedRows
  (List.range 8).foldl (fun s v =>
    let k := port * 8 + v
    s.put .VC_MIN_EFFECTIVE k (max (s.get .VC_MIN_SET k) ((mins.lookup k).getD 0))) s

/-- The minimums of a port change: POOL_UPDATE carries all eight (R211). -/
def State.minsChanged (s : State) (port : Nat) : State :=
  let s := s.setMins port
  if s.isFabric port ∧ s.get .OL_STATE port = 2 then
    s.sendCtl port { op := 5, mins := (List.range 8).map fun v => s.get .VC_MIN_EFFECTIVE (port * 8 + v) }
  else s

/-- Sessions on transports that HEXSUM_ENABLE no longer enables close (R319). -/
def State.closeDisabled (s : State) : State :=
  s.closeWhere fun n => !bit (s.get .HEXSUM_ENABLE) (s.get .SESSION_TRANSPORT n)

/-- Values that telemetry deltas start from (R413). -/
def telemetryObjs : List Obj :=
  [.HOST_RX_BYTES, .HOST_TX_BYTES, .HOST_RX_TLPS, .HOST_TX_TLPS, .INGRESS_REFUSALS, .EGRESS_REFUSALS,
    .CPL_TIMEOUTS, .UNEXPECTED_CPLS, .RED_TLPS]

/-- Deltas of a partition's telemetry run from now (R413). -/
def State.telemetryFrom (s : State) (p : Nat) : State :=
  { s with telemetry := s.telemetry.updD (0, []) p fun (x : Nat × List Nat) =>
      (x.1, telemetryObjs.map fun o => s.get o p) }

/-- What the changes do once they are in force. -/
def State.changedTo (s : State) (l : List Change) : State :=
  let s := (rowsIn l meterObjs).foldl (fun s m => s.meterChanged (rowsIn l [.M_ALGO]) m) s
  let s := if (rowsIn l [.METER_A, .METER_B]).isEmpty then s else s.unboundMeters
  let s := (rowsIn l templateObjs).foldl State.reloadQueues s
  let s := (rowsIn l [.CTR_EVENT, .CTR_PORT, .CTR_FILTER]).foldl State.ctrZero s
  let s := (rowsIn l filterObjs).foldl (fun s u => (unitKeys u).foldl State.ctrZero s) s
  let s := (nub ((rowsIn l [.VC_MIN_SET]).map (· / 8))).foldl State.minsChanged s
  let s := if (rowsIn l [.HEXSUM_ENABLE]).isEmpty then s else s.closeDisabled
  let s := (rowsIn l [.MF_TELEMETRY_PERIOD]).foldl State.telemetryFrom s
  let s := (rowsIn l [.IPFIX_ANCHOR]).foldl (fun s c => { s with ipfix := s.ipfix.erase c }) s
  let s := if (rowsIn l [.ORCHARD_MEMBERS]).isEmpty then s else s.refreshIsland
  if (rowsIn l [.SOURCE_ENABLE, .PTP_DOMAIN]).isEmpty then s else s.regrade s.ownClass

/-- Values put in force together. -/
def State.enforce (s : State) (l : List Change) : State :=
  let l := l.filter fun c => s.get c.1 c.2.1 ≠ c.2.2
  let s := s.settleFor l
  let s := l.foldl (fun s c => s.put c.1 c.2.1 c.2.2) s
  s.changedTo l

end Sys2Proof.Machine
end

