-- ==== Sys2Proof/WellFormed.lean ====
section
/-! DEFINITION. Well-formed commands: every operand that names a unit names one the part has (log 7).
A Hexsum request is well formed whatever it names: a bad address is answered (R315). -/

namespace Sys2Proof

/-- The fields of a training block fit their bits (R228). -/
def blockFits (b : TBlock) : Bool :=
  b.sync < 2 ^ 32 && b.laneIndex < 32 && b.width < 8 && b.rate < 4 && b.node < 32 && b.stage < 8 && b.eqOp < 8 &&
    b.eqArg < 16 && b.eqNum < 16 && b.echoNum < 16 && b.echoStatus < 4 && b.check < 2 ^ 16

/-- Currents and rail voltage of slot samples fit their objects (R296). -/
def samplesFit (l : List (Nat × Nat × Nat × Nat)) : Bool :=
  l.all fun x => x.2.1 < 2 ^ 32 && x.2.2.1 < 2 ^ 32 && x.2.2.2 < 2 ^ 32

/-- The command's operands name units of the part (R11, R12, R223, R341). -/
def Instr.wf : Instr → Bool
  | .pipEdge _ => true
  | .shadowSetClose _ => true
  | .engineBudgetExhausted _ engine region wrong => 1 ≤ engine && engine ≤ 7 && region < 15 && wrong < 3
  | .ipfixMessageSend _ c => c < 4
  | .gateEntryStart _ port => port < 512
  | .trefPpsEdge _ _ => true
  | .trefLost _ => true
  | .ptpMessageReceive _ _ _ => true
  | .timeSourceQualified _ source => source < 3
  | .timeRootDisplace _ => true
  | .timeMarkerSend _ port => port < 512
  | .ptmRequest _ port => port < 512
  | .timeStep _ _ _ _ => true
  | .pipPeriodWrite _ _ _ _ => true
  | .unitReady _ _ node region _ _ => node < 32 && region < 15
  | .guardPoint _ _ => true
  | .decisionResend _ _ _ => true
  | .decisionQuery _ _ region _ => region < 15
  | .epochApply _ => true
  | .helloSend _ port => port < 512
  | .helloReceive _ port _ => port < 512
  | .neighbourDown _ port => port < 512
  | .linkStateMessage _ node port nbr nbrPort _ _ => node < 32 && port < 512 && nbr < 32 && nbrPort < 512
  | .keeperTakeover _ => true
  | .keeperHandover _ node => node < 32
  | .keeperColdElection _ => true
  | .deviceEnumeration _ port _ => port < 512
  | .sriovNumvfsWrite _ _ _ _ => true
  | .partitionBindWrite _ _ _ _ _ => true
  | .partitionWaitTimeout _ p => p < 4096
  | .partitionQuiesce _ _ _ _ => true
  | .hostConfigRequest _ port _ => port < 512
  | .configFwCompletion _ p => p < 4096
  | .hostConfigShadowWrite _ p g _ _ _ _ => p < 4096 && g < 65536
  | .graftActionWrite _ _ _ _ => true
  | .graftCommit _ _ _ => true
  | .hostSlotPowerControl _ p k _ _ => p < 4096 && k < 256
  | .ungraftTimeout _ g => g < 65536
  | .hostSecondaryBusReset _ p k => p < 4096 && k < 256
  | .hostFunctionLevelReset _ p g => p < 4096 && g < 65536
  | .tlpIngressParse _ port _ => port < 512
  | .mgmtFunctionMemoryAccess _ p _ _ _ _ _ => p < 4096
  | .mfRegisterWrite _ p _ _ => p < 4096
  | .hostBarWrite _ p g gfid _ _ _ _ => p < 4096 && g < 65536 && gfid < 65536
  | .apertureActivate _ p gfid _ => p < 4096 && gfid < 65536
  | .vfBarEmulate _ p g _ => p < 4096 && g < 65536
  | .schedulerSelect _ port => port < 512
  | .flowControlUpdate _ port _ _ _ => port < 512
  | .shaperConform _ port cls _ => port < 512 && cls < 8
  | .creditWithholdEnd _ meter => meter < 262144
  | .tagDeadline _ port tag => port < 512 && tag < 16384
  | .tagQuarantineEnd _ port tag => port < 512 && tag < 16384
  | .cplTimeoutStorm _ port => port < 512
  | .fabricPacketArrive _ port _ => port < 512
  | .orderHoldTimeout _ _ => true
  | .pathChangeFlaggingEnd _ node => node < 32
  | .twinCopyArrive _ port _ => port < 512
  | .twinSkewTimeout _ r => r < 16384
  | .spillBlockClose _ _ _ => true
  | .spillBlockWritten _ _ _ => true
  | .drainBlockRead _ _ _ => true
  | .drainBlockLinked _ _ _ _ => true
  | .spillExit _ _ => true
  | .receiveFifoResume _ port => port < 512
  | .bramblePassEnd _ => true
  | .rsvActionWrite _ _ _ _ => true
  | .rsvCommit _ _ _ => true
  | .rsvAdmissionDone _ => true
  | .rsvReadmit _ r => r < 16384
  | .glBankWrite _ _ _ _ _ _ _ => true
  | .gateSwitch _ _ _ => true
  | .flitTransmit _ port upset => port < 512 && upset.all fun x => x.2.1 < 8 && x.2.2 < 22
  | .flitReceive _ port flit => port < 512 && flit.noise.all (fun x => x.1 < 512 && 0 < x.2 && x.2 < 256) &&
      decide (flit.noise.map (·.1)).Nodup
  | .ackTimerExpiry _ port => port < 512
  | .nakRepeat _ port => port < 512
  | .replayTimeout _ port => port < 512
  | .initFlitReceive _ port _ => port < 512
  | .initTimeout _ port => port < 512
  | .reinitTimeout _ port => port < 512
  | .blockLockLost _ port => port < 512
  | .linkDownTimeExpiry _ port => port < 512
  | .salvageComplete _ port => port < 512
  | .creditPoolAudit _ port _ => port < 512
  | .withdraw _ _ _ => true
  | .withdrawReinitRequest _ port => port < 512
  | .poolUpdate _ port _ => port < 512
  | .request _ port _ => port < 512
  | .grant _ port _ => port < 512
  | .refuse _ port _ => port < 512
  | .done _ port _ => port < 512
  | .detectRetry _ port _ _ => port < 512
  | .trainingBlockReceive _ lane b => lane < 544 && blockFits b
  | .trainStageTimeout _ port => port < 512
  | .retrainIntervalExpiry _ port => port < 512
  | .marginSample _ lane _ _ _ => lane < 544
  | .spareCommand _ _ _ _ => true
  | .spareTrained _ spare => spare < 32
  | .spareReadyTimeout _ spare => spare < 32
  | .swapFlitReached _ port => port < 512
  | .retrain _ _ _ => true
  | .counterClear _ _ _ => true
  | .portCfgWrite _ _ _ _ _ _ => true
  | .dataLinkUp _ port _ _ _ => port < 512
  | .trainTimeout _ port => port < 512
  | .surpriseDown _ port => port < 512
  | .hostLinkDown _ node port => node < 32 && port < 512
  | .hotResetReceive _ node port => node < 32 && port < 512
  | .hostPerstAssert _ cluster => cluster < 64
  | .hostPerstDeassert _ cluster => cluster < 64
  | .aspmL1Entry _ port => port < 512
  | .deviceL1Request _ port => port < 512
  | .ideKmMessage _ port _ _ => port < 512
  | .ideRekey _ port => port < 512
  | .fundamentalReset _ _ _ => true
  | .perstPulseEnd _ cluster => cluster < 64
  | .mfFunctionLevelReset _ p => p < 4096
  | .mfResetComplete _ p => p < 4096
  | .ringBatchWrite _ p _ => p < 4096
  | .hostDpcSoftwareTrigger _ p k => p < 4096 && k < 256
  | .hostDpcStatusClear _ p k => p < 4096 && k < 256
  | .spEnableWrite _ _ _ _ => true
  | .presenceChange _ c _ _ => c < 64
  | .seatDebounceEnd _ c => c < 64
  | .powerGood _ c l => c < 64 && samplesFit l
  | .perstDelayEnd _ c => c < 64
  | .faultTimerExpiry _ c l => c < 64 && samplesFit l
  | .fastTrip _ c _ _ => c < 64
  | .inrushTimeout _ c => c < 64
  | .undervoltageTrip _ c l => c < 64 && samplesFit l
  | .faultTimerClear _ c l => c < 64 && samplesFit l
  | .offTimeEnd _ c => c < 64
  | .commandedGateOff _ c => c < 64
  | .shareAdjust _ c l => c < 64 && samplesFit l
  | .shareOutOfRange _ c => c < 64
  | .feedLost _ c l => c < 64 && samplesFit l
  | .feedReturn _ c l => c < 64 && samplesFit l
  | .huskDrained _ row => (row < 512 || 4096 ≤ row) && row < 8192
  | .huskCommand _ _ _ => true
  | .huskRelease _ _ _ => true
  | .regionRestartHoldEnd _ region => region < 15
  | .regionRestart _ _ _ => true
  | .regionBistComplete _ region _ => region < 15
  | .quadrantQueueSweepDone _ region => region < 15
  | .read _ _ _ => true
  | .write _ _ _ _ => true
  | .blockRead _ _ _ _ _ => true
  | .rowRead _ _ _ _ => true
  | .rowWrite _ _ _ _ => true
  | .subscribe _ _ _ _ _ => true
  | .abort _ _ _ _ => true
  | .dtlsHandshake _ _ _ _ _ _ _ => true
  | .sessionIdleTimeout _ session => session < 16
  | .sessionClose _ _ _ => true
  | .trustAnchorWrite _ _ _ _ _ _ _ => true
  | .mgmtAddressWrite _ _ _ _ _ _ => true
  | .profileSave _ _ _ => true
  | .profileErase _ _ _ => true
  | .profileSwitch _ _ _ _ _ _ => true
  | .windowCommit _ _ _ => true
  | .windowDiscard _ _ => true
  | .pairStop _ pair => pair < 2
  | .watchdogExpiry _ pair => pair < 2
  | .pairRestartComplete _ pair => pair < 2
  | .pairRestart _ _ _ => true
  | .irqTake _ pair => pair < 2
  | .irqComplete _ pair => pair < 2
  | .irqConfigWrite _ source field _ => source < 2048 && field < 6
  | .mbInWrite _ row _ _ => row < 4097
  | .mbInTake _ row => row < 4097
  | .mbOutPlace _ row _ => row < 4097
  | .mbTake _ row _ => row < 4097
  | .doorbellSet _ row _ _ => row < 4097
  | .doorbellClear _ row _ _ _ => row < 4097
  | .sidebandWindowTransaction _ _ _ _ _ => true
  | .smEventClear _ _ => true
  | .mctpMessage _ _ endpoint _ _ _ => 16 ≤ endpoint && endpoint < 32
  | .i3cDynamicAddress _ sbPort _ => sbPort < 2
  | .protectionDescriptorWrite _ unit n _ => unit < 11 && (unit < 7 || n < 16) && n < 64
  | .acuFence _ _ => true
  | .accessDenial _ master priv access addr _ => master < 8 && priv < 3 && access < 3 && addr < 2 ^ 40
  | .debugHalt _ pair => pair < 2
  | .debugResume _ pair => pair < 2
  | .jtagInstruction _ _ => true
  | .tokenChallenge _ _ => true
  | .tokenSubmit _ _ _ => true
  | .debugLock _ _ => true
  | .svnCommit _ _ _ => true
  | .spdmRequest _ _ _ _ => true
  | .hssTreeBuilt _ => true
  | .coldReset _ => true
  | .warmReset _ => true
  | .orchardReset _ _ _ _ => true
  | .resetEnd _ _ _ _ => true
  | .portReset _ _ _ => true
  | .partitionReset _ _ _ => true
  | .partitionResetComplete _ p => p < 4096
  | .fwErase _ _ _ => true
  | .fwWrite _ _ _ _ _ => true
  | .fwVerify _ _ _ => true
  | .fwSwitch _ _ _ _ => true
  | .fwPairReloadDone _ pair => pair < 2
  | .fwTrialEnd _ => true
  | .ctrClear _ _ _ => true
  | .counterWrap _ key => key < 768
  | .sampleClear _ _ => true
  | .peakClear _ _ _ => true
  | .regionLimitExceeded _ limit _ a b _ _ => 1 ≤ limit && limit ≤ 3 && a < 15 && b < 15
  | .limitThrottleEnd _ region limit => region < 15 && 1 ≤ limit && limit ≤ 3
  | .throttleTempExceeded _ region _ => region < 15
  | .throttleLevelStep _ region cause _ => region < 15 && cause < 3
  | .overtemperatureIsolate _ region => region < 15
  | .coreReferenceLost _ _ => true
  | .corePllRelock _ => true
  | .coreReferenceHoldExpiry _ => true
  | .powerCapCheck _ _ => true
  | .hbmColdStartReady _ stack => stack < 2
  | .gpioChange _ _ => true
  | .bootImageAccepted _ => true
  | .fwOperationComplete _ => true
  | .profileStoreComplete _ => true
  | .faultTimerStart _ c l => c < 64 && samplesFit l
  | .perstOutDeassertDelayEnd _ cluster => cluster < 64
  | .verifyStageEnd _ port _ => port < 512
  | .prbsCheckerLock _ lane _ => lane < 544
  | .prbsCheckerLockLost _ lane _ => lane < 544
  | .receiverDetect _ port => port < 512
  | .hbmFailure _ stack => stack < 2
  | .controlFatal _ => true

end Sys2Proof
end

