-- ==== Sys2Proof/Machine/ExecCtr.lean ====
section
/-! DEFINITION. Meanings of the commands of counters, the sampler and peaks (R406, R410, R431). -/

namespace Sys2Proof.Machine

open Sys2Proof

/-- CTR_CLEAR: value and overflow flag are 0, and the unit's source falls with its last flag (R352, R406). -/
def State.ctrClear (s : State) (key : Nat) : State :=
  let s := (s.put .CTR_VALUE key 0).put .CTR_OVERFLOW key 0
  if (unitKeys (key / 8)).all fun k => s.get .CTR_OVERFLOW k = 0 then s.irqSignal (712 + key / 8) false else s

def execCtrClear (t : Time) (req : Req) (key : Nat) (s : State) : Res :=
  unit s (Instr.ctrClear t req key).wf
    ((s.at t).invoke req .CTR_CLEAR (some key) fun s => ok [] (s.ctrClear key))

/-- The next event of a counter at 2^48 - 1 (R406). -/
def execCounterWrap (t : Time) (key : Nat) (s : State) : Res :=
  let s1 := s.at t
  unit s (Instr.counterWrap t key).wf
    (if s1.get .CTR_VALUE key = 2 ^ 48 - 1 then s1.ctrAdd key 1 else s1)

/-- SAMPLE_CLEAR: the buffer is empty (R410). -/
def State.sampleClear (s : State) : State :=
  { s with sampler := { s.sampler with next := 0, filled := 0 }, objs := setColumn s.objs .SAMPLE_RECORD [] }

def execSampleClear (t : Time) (req : Req) (s : State) : Res :=
  unit s (Instr.sampleClear t req).wf
    ((s.at t).invoke req .SAMPLE_CLEAR none fun s => ok [] s.sampleClear)

/-- PEAK_CLEAR: TEMP_PEAK takes TEMP (R431). -/
def execPeakClear (t : Time) (req : Req) (region : Nat) (s : State) : Res :=
  unit s (Instr.peakClear t req region).wf
    ((s.at t).invoke req .PEAK_CLEAR (some region) fun s =>
      ok [] (s.put .TEMP_PEAK region (s.get .TEMP region)))

end Sys2Proof.Machine
end

