-- ==== Sys2Proof/Machine/ExecRoute.lean ====
section
/-! DEFINITION. Meanings of the ingress, aperture and window commands (R83 to R105, R14, R161). -/

namespace Sys2Proof.Machine

open Sys2Proof

/-- The port carries a PCI Express link that is up. -/
def State.pciUp (s : State) (port : Nat) : Bool := (s.isHost port || s.isDevice port) && (s.pport port).up

def execTlpIngressParse (t : Time) (port : Nat) (tlp : Tlp) (s : State) : Res :=
  let s1 := s.at t
  unit s (Instr.tlpIngressParse t port tlp).wf (if s1.pciUp port then s1.receive port tlp else s1)

/-- Room, a queue or credit has come for what waits at a port (R14). -/
def execReceiveFifoResume (t : Time) (port : Nat) (s : State) : Res :=
  unit s (Instr.receiveFifoResume t port).wf ((s.at t).resume port)

/-- A meter's recovery bucket holds at least M_RECOVER (R161). -/
def State.recovered (s : State) (m : Nat) : Bool :=
  let h := s.meterNow m
  let r := s.get .M_RECOVER m * 2 ^ 20
  if s.get .M_ALGO m = 1 then decide (r ≤ h.tp) else decide (r ≤ h.tc) || decide (r ≤ h.tp)

def execCreditWithholdEnd (t : Time) (meter : Nat) (s : State) : Res :=
  let s1 := s.at t
  unit s (Instr.creditWithholdEnd t meter).wf
    (if !(s1.meters.getD {} meter).holds.isEmpty && s1.recovered meter then s1.endWithhold meter else s1)

/-! ## Apertures (R95 to R98) -/

/-- Number of a virtual function, from 1: its place among its physical function's (R66, R97). -/
def State.vfNumber (s : State) (f : Nat) : Nat :=
  let i := s.fnInfo (s.get .PARENT_PF f)
  (s.get .FN_POSITION f - s.get .FN_POSITION (s.get .PARENT_PF f) - i.vfOffset) / i.vfStride + 1

/-- The aperture row of a partition's function and BAR. -/
def State.apertureOf (s : State) (p f bar : Nat) : Option Nat :=
  (s.rowsOf .AP_STATE).keys.find? fun a =>
    s.get .AP_STATE a ≠ 0 && s.get .AP_PARTITION a = p && s.get .AP_TARGET a = f && s.get .AP_BAR a = bar

/-- Ranges that a function held by some partition decodes below its device port: its VF BAR slices (R97), or
what its recorded BARs are (R96), which for a host on another chip that chip holds. -/
def State.fnRanges (s : State) (q g : Nat) : List (Nat × Nat) :=
  if s.get .FN_KIND g = 2 then
    (s.fnInfo (s.get .PARENT_PF g)).vfBars.map fun (y : Nat × Nat × Nat) =>
      (y.2.1 + (s.vfNumber g - 1) * 2 ^ y.2.2, y.2.2)
  else if s.get .HOST_NODE q ≠ s.node then Config.remoteBars g
  else ((s.rowsOf .AP_STATE).keys.filter fun a =>
    s.get .AP_STATE a ≠ 0 && s.get .AP_PARTITION a = q && s.get .AP_TARGET a = g).map fun a =>
      (s.get .AP_OFFSET a, s.get .AP_SIZE_LOG2 a)

/-- A recorded range may not be decoded (R98): another partition's function of the same device port
decodes an overlapping range, or the partition's own apertures overlap it. -/
def State.apertureClash (s : State) (p f bar base size off : Nat) : Option Nat :=
  let there := (s.deviceOf f).filter fun g => s.get .HELD_BY g < 4096 && s.get .HELD_BY g ≠ p && !isChipGfid f
  match there.find? fun g => (s.fnRanges (s.get .HELD_BY g) g).any fun r => overlap off size r.1 r.2 with
  | some g => some (s.get .HELD_BY g)
  | none =>
    if (s.rowsOf .AP_STATE).keys.any fun a =>
        s.get .AP_STATE a = 1 && s.get .AP_PARTITION a = p && (s.get .AP_TARGET a ≠ f || s.get .AP_BAR a ≠ bar) &&
          overlap base size (s.get .AP_BASE a) (s.get .AP_SIZE_LOG2 a) then some p else none

/-- An aperture set active, or in state 2 with an event that names both partitions. -/
def State.setAperture (s : State) (p f bar base size off src : Nat) : State :=
  let (a, s) := match s.apertureOf p f bar with
    | some a => (a, s)
    | none => s.pickFree (s.rowsOf .AP_STATE).keys 0 65536
  let b := base - base % 2 ^ size
  let o := off - off % 2 ^ min size 12
  let s := ((s.put .AP_PARTITION a p).put .AP_BASE a b).put .AP_SIZE_LOG2 a size
  let s := (((s.put .AP_TARGET a f).put .AP_OFFSET a o).put .AP_SOURCE a src).put .AP_BAR a bar
  match (s.put .AP_STATE a 0).apertureClash p f bar b size o with
  | some q => (s.event 98 [p, q]).put .AP_STATE a 2
  | none => s.put .AP_STATE a 1

/-- Key of a BAR of a function in what a graft records. -/
def barKey (f bar : Nat) : Nat := f * 8 + bar

/-- A BAR value recorded for a graft. -/
def State.recordBar (s : State) (g f bar base : Nat) : State :=
  s.updGraft g fun h => { h with bars := h.bars.filter (·.1 ≠ barKey f bar) ++ [(barKey f bar, base)] }

/-- The graft of partition p is in force and covers a function. -/
def State.graftCovers (s : State) (p g f : Nat) : Bool :=
  (s.grafts.getD {} g).inForce && s.get .PARTITION g = p && s.covers g f

/-- The base that a graft records for a BAR. -/
def State.barBase (s : State) (g f bar : Nat) : Nat := ((s.grafts.getD {} g).bars.lookup (barKey f bar)).getD 0

/-- BAR that a dword of the header belongs to, and whether the dword is its upper half. -/
def barAt (bars : List (Nat × Nat × Nat)) (types : List (Nat × Nat)) (off : Nat) : Option (Nat × Bool) :=
  if off < 0x10 ∨ 0x28 ≤ off then none
  else
    let n := (off - 0x10) / 4
    if bars.any fun (x : Nat × Nat × Nat) => x.1 = n then some (n, false)
    else if 0 < n && (bars.any fun (x : Nat × Nat × Nat) => x.1 = n - 1) &&
        bitsOf ((types.lookup (n - 1)).getD 0) 2 1 = 2 then some (n - 1, true)
    else none

/-- The base of a BAR once a dword of it is written. -/
def barValue (old : Nat) (high : Bool) (v : Nat) : Nat :=
  if high then old % 2 ^ 32 + v % 2 ^ 32 * 2 ^ 32 else old / 2 ^ 32 * 2 ^ 32 + v % 2 ^ 32 / 16 * 16

/-- A host's write of a BAR of a function grafted with KIND 0 or 1 is recorded: the old aperture goes, and the
completion will be withheld (R96). -/
def State.recordWrite (s : State) (p g f bar base rid tag : Nat) : State :=
  let s := (s.recordBar g f bar base).dropApertures fun a => s.apertureOf p f bar = some a
  { s with apPend := s.apPend.filter (fun (x : ApPend) => !(x.gfid = f && x.bar = bar)) ++
      [{ graft := g, gfid := f, bar := bar, base := base, rid := rid, tag := tag }] }

/-- A BAR write recorded and forwarded (R74, R96). -/
def State.barWritten (s : State) (p g f bar base rid tag : Nat) : State :=
  let s := s.recordWrite p g f bar base rid tag
  match s.ownHostPort p with
  | none => s
  | some port => s.receive port
      { kind := .cfgWrite, rid := rid, tag := tag, value := base, addr := 0x10 + 4 * bar, byteCount := 4, data := 4,
        target := (s.hostSees p f).getD 0 }

def execHostBarWrite (t : Time) (p g gfid bar base rid tag : Nat) (s : State) : Res :=
  let s1 := s.at t
  unit s (Instr.hostBarWrite t p g gfid bar base rid tag).wf
    (if s1.graftCovers p g gfid && s1.get .KIND g ≠ 2 then s1.barWritten p g gfid bar base rid tag else s1)

/-- Size (log 2) of a function's BAR, 12 at least. -/
def barSize (l : List (Nat × Nat × Nat)) (bar : Nat) : Nat :=
  max 12 (((l.find? fun (x : Nat × Nat × Nat) => x.1 = bar).map fun (x : Nat × Nat × Nat) => x.2.2).getD 12)

/-- A BAR write of a partition's function whose completion has come. -/
def State.barReady (s : State) (p gfid bar : Nat) (x : ApPend) : Bool :=
  x.gfid = gfid && x.bar = bar && s.get .PARTITION x.graft = p && x.cpl.isSome

/-- The completion of a BAR write has returned: the aperture is activated and the completion released (R96). -/
def State.apertureOn (s : State) (p gfid bar : Nat) : State :=
  match s.apPend.find? (s.barReady p gfid bar) with
  | none => s
  | some x =>
    let size := barSize (s.fnInfo gfid).bars bar
    let s1 := { s with apPend := s.apPend.filter fun (y : ApPend) => y ≠ x }
    let s2 := (s1.setAperture p gfid bar x.base size (x.base - x.base % 2 ^ size) 0).event 96 [p, gfid, bar]
    match x.cpl with
    | some q => s2.inject q
    | none => s2

def execApertureActivate (t : Time) (p gfid bar : Nat) (s : State) : Res :=
  let s1 := s.at t
  unit s (Instr.apertureActivate t p gfid bar).wf (if s1.odtakuUp then s1.apertureOn p gfid bar else s1)

/-- The aperture of one presented BAR (R97). -/
def State.vfAperture (s : State) (p g : Nat) (x : Nat × Nat) : State :=
  let f := s.get .GFID g
  let bar := x.1 % 8
  if !(s.grafts.getD {} g).mse then s.dropApertures fun a => s.apertureOf p f bar = some a
  else
    let l := (s.fnInfo (s.get .PARENT_PF f)).vfBars
    match l.find? (fun (y : Nat × Nat × Nat) => y.1 = bar) with
    | none => s
    | some (_, base, size) => s.setAperture p f bar x.2 (max 12 size) (base + (s.vfNumber f - 1) * 2 ^ size) 1

/-- Dwords of a presented virtual function that Odtaku completes: Command and the BARs (R97). -/
def vfEmulated (off : Nat) : Bool := off = 4 || (decide (0x10 ≤ off) && decide (off < 0x28))

/-- What a presented virtual function shows there: BAR n with the size and type of VF BAR n, Command as the
host wrote it with Capabilities List set in Status (log 76). -/
def State.vfWord (s : State) (g off : Nat) : Nat :=
  let h := s.grafts.getD {} g
  let f := s.get .GFID g
  let i := s.fnInfo (s.get .PARENT_PF f)
  if off = 4 then h.cmd % 2 ^ 16 + 2 ^ 20
  else match barAt i.vfBars i.vfTypes off with
    | none => 0
    | some (bar, high) =>
      let size := ((i.vfBars.find? fun (x : Nat × Nat × Nat) => x.1 = bar).map fun (x : Nat × Nat × Nat) => x.2.2).getD 12
      let b := s.barBase g f bar
      let b := b - b % 2 ^ size
      if high then b / 2 ^ 32 % 2 ^ 32 else b % 2 ^ 32 + (i.vfTypes.lookup bar).getD 0 % 16

/-- A host's write of such a dword; the aperture of every BAR follows. What the host writes into the rest of
Command Odtaku writes into the function itself (event 97, log 76). -/
def State.vfWrite (s : State) (p g off v : Nat) : State :=
  let f := s.get .GFID g
  let i := s.fnInfo (s.get .PARENT_PF f)
  let s :=
    if off = 4 then
      (s.updGraft g fun h => { h with cmd := v % 2 ^ 16, mse := bit v 1 }).event 97 [f, withBits (v % 2 ^ 16) 1 1 0]
    else match barAt i.vfBars i.vfTypes off with
      | none => s
      | some (bar, high) => s.recordBar g f bar (barValue (s.barBase g f bar) high v)
  ((s.grafts.getD {} g).bars).foldl (fun s x => s.vfAperture p g x) s

/-- A host's access to a dword of a presented virtual function that Odtaku completes (R97). -/
def State.vfAccess (s : State) (p g : Nat) (c : CfgReq) : State :=
  let off := c.reg / 4 * 4
  let s := if c.write && vfEmulated off then s.vfWrite p g off c.value else s
  match s.ownHostPort p with
  | some port => s.selfCpl port (cfgCpl c 0 (if c.write then 0 else s.vfWord g off))
  | none => s

/-- VF_BAR_EMULATE: while pair A is stopped the host's access is answered with Retry Status and has no
effect (R70, R97, R349). -/
def execVfBarEmulate (t : Time) (p g : Nat) (c : CfgReq) (s : State) : Res :=
  let s1 := s.at t
  unit s (Instr.vfBarEmulate t p g c).wf
    (if !(s1.graftCovers p g (s1.get .GFID g) && s1.get .KIND g = 2) then s1
      else if !s1.odtakuUp then
        match s1.ownHostPort p with
        | some port => s1.selfCpl port (cfgCpl c 2 0)
        | none => s1
      else s1.vfAccess p g c)

/-! ## Windows (R99 to R101) -/

/-- A window row as the shadow bank holds it: where it is a window at all. -/
def State.shadowOn (s : State) (k : Nat) : Bool := accessIsWindow (s.newest .PW_ACCESS k)

/-- Rows of 5200 that the shadow bank holds. -/
def State.shadowRows (s : State) : List Nat :=
  nub ((s.rowsOf .PW_ACCESS).keys ++ (s.stagedWindows.filter (·.1 = 0x5200)).map (·.2))

/-- The members of a group in the shadow bank. -/
def State.shadowMembers (s : State) (g : Nat) : List Nat :=
  (List.range (s.newest .MC_MEMBERS g)).map fun m => g * 32 + m

/-- The GFID has a locator row (R87). -/
def State.located (s : State) (g : Nat) : Bool := s.locNode g < 32

/-- A partition that is not assigned (R67). -/
def State.unassigned (s : State) (p : Nat) : Bool := 4096 ≤ p || s.get .PARTITION_STATE p = 0

/-- The checks of R100 for a staged row of 5200. -/
def State.windowCheck (s : State) (k : Nat) : Nat :=
  if !s.shadowOn k then 0
  else
    let base := s.newest .PW_BASE k
    let size := s.newest .PW_SIZE_LOG2 k
    let target := s.newest .PW_TARGET k
    let multi := s.newest .PW_KIND k = 1
    let ms := s.shadowMembers target
    firstCode [
      codeIf (s.unassigned (k / 256) || (!multi && !s.located target) ||
        ((!multi || s.newest .PW_GRANTOR k ≠ 0xFFFF) && s.unassigned (s.newest .PW_GRANTOR k))) 0x0102,
      codeIf (decide (size < 12) || base % 2 ^ size ≠ 0 || s.newest .PW_OFFSET k % 4096 ≠ 0) 0x0301,
      codeIf (s.shadowRows.any fun x => x ≠ k && x / 256 = k / 256 && s.shadowOn x &&
        overlap base size (s.newest .PW_BASE x) (s.newest .PW_SIZE_LOG2 x)) 0x0301,
      codeIf (if multi then ms.any fun m => !s.owned (s.newest .MC_TARGET m) (s.newest .MC_GRANTOR m)
              else !s.owned target (s.newest .PW_GRANTOR k)) 0x0301,
      codeIf (multi && (bit (s.newest .PW_ACCESS k) 0 || bit (s.newest .PW_ACCESS k) 2 || 1024 ≤ target ||
        ms.isEmpty)) 0x0301]

/-- The checks of R100 for a staged row of 5410. -/
def State.memberCheck (s : State) (m : Nat) : Nat :=
  if s.newest .MC_MEMBERS (m / 32) ≤ m % 32 then 0
  else firstCode [codeIf (!s.located (s.newest .MC_TARGET m) || s.unassigned (s.newest .MC_GRANTOR m)) 0x0102,
    codeIf (s.newest .MC_OFFSET m % 4096 ≠ 0) 0x0301,
    codeIf (!s.owned (s.newest .MC_TARGET m) (s.newest .MC_GRANTOR m)) 0x0301]

/-- The rows of 5200 of the shadow bank that name a group. -/
def State.shadowUsers (s : State) (g : Nat) : List Nat :=
  s.shadowRows.filter fun k => s.shadowOn k && s.newest .PW_KIND k = 1 && s.newest .PW_TARGET k = g

/-- The checks of R100 for a staged row of 5400: its members, and no window names an empty group. -/
def State.groupCheck (s : State) (g : Nat) : Nat :=
  firstCode ((s.shadowMembers g).map s.memberCheck ++
    [codeIf ((s.shadowMembers g).isEmpty && !(s.shadowUsers g).isEmpty) 0x0301])

/-- The grant pairs that the shadow bank makes, over all chips (R101). -/
def State.shadowPairs (s : State) : List (Nat × Nat) :=
  nubP ((s.shadowRows.filter s.shadowOn).flatMap fun k =>
    if s.newest .PW_KIND k = 0 then [(k / 256, s.newest .PW_TARGET k)]
    else (s.shadowMembers (s.newest .PW_TARGET k)).map fun m => (k / 256, s.newest .MC_TARGET m))

/-- Some chip would hold more than 65,536 grant pairs. -/
def State.tooManyPairs (s : State) : Bool :=
  let ps := s.shadowPairs
  (List.range 32).any fun n => decide (65536 < (ps.filter fun x => s.locNode x.2 = n).length)

/-- The targets of a row of 5200 by an accessor: before the change by `get`, after it by `newest` (R101). -/
def targetsBy (val : Obj → Nat → Nat) (k : Nat) : List Nat :=
  if !accessIsWindow (val .PW_ACCESS k) then []
  else if val .PW_KIND k = 0 then [val .PW_TARGET k]
  else (List.range (val .MC_MEMBERS (val .PW_TARGET k))).map fun m => val .MC_TARGET (val .PW_TARGET k * 32 + m)

/-- The rows of 5200 that a commit changes: those staged, and those that name a group of which a row is
staged. -/
def State.changedRows (s : State) : List Nat :=
  let rows := s.stagedWindows
  let gs := nub (rows.filterMap fun x =>
    if x.1 = 0x5400 then some x.2 else if x.1 = 0x5410 then some (x.2 / 32) else none)
  let uses := fun (val : Obj → Nat → Nat) (k : Nat) => val .PW_KIND k = 1 && gs.contains (val .PW_TARGET k)
  s.shadowRows.filter fun k =>
    rows.contains (0x5200, k) || uses (fun o r => s.get o r) k || uses (fun o r => s.newest o r) k

/-- The chips that a window commit affects (R101): those of the partitions whose windows change, and those that
deliver to a target named before or after the change. -/
def State.windowNodes (s : State) : List Nat :=
  let ks := s.changedRows
  let src := (nub (ks.map (· / 256))).flatMap fun p =>
    s.get .HOST_NODE p :: (s.graftsOf p).map fun g => s.get .FN_NODE (s.get .GFID g)
  let tgt := ks.flatMap fun k => targetsBy (fun o r => s.get o r) k ++ targetsBy (fun o r => s.newest o r) k
  (nub (src ++ tgt.map s.locNode)).filter (· < 32)

/-- WINDOW_COMMIT (R100, R101, R336): the staged rows in row-key order. -/
def State.windowCommit (s : State) (offers : List Time) : Nat × List Nat × State :=
  let rows := s.stagedWindows.mergeSort fun a b => a.1 < b.1 || (a.1 = b.1 && a.2 ≤ b.2)
  let check := fun (x : Nat × Nat) =>
    if x.1 = 0x5200 then s.windowCheck x.2 else if x.1 = 0x5410 then s.memberCheck x.2 else s.groupCheck x.2
  let units := unitsOf s.windowNodes
  let code := firstCode ([codeIf rows.isEmpty 0x0102, codeIf s.epochsRefused 0x0404, s.checkOffers offers,
    codeIf s.switching 0x0501] ++ rows.map check ++ [codeIf s.tooManyPairs 0x0602, codeIf (s.unitsBusy units) 0x0602])
  if code ≠ 0 then refuse code s
  else s.openFor 3 offers units (.windows (s.staged.filter fun h => windowObjs.contains h.obj))

def execWindowCommit (t : Time) (req : Req) (offers : List Time) (s : State) : Res :=
  unit s (Instr.windowCommit t req offers).wf
    ((s.at t).invoke req .WINDOW_COMMIT none fun s => s.windowCommit offers)

/-- A window commit is pending. -/
def State.windowPending (s : State) : Bool :=
  s.pendingReqs.any fun r => match r.work with
    | .windows _ => true
    | _ => false

/-- WINDOW_DISCARD (R106): the shadow bank returns to the active bank. -/
def execWindowDiscard (t : Time) (req : Req) (s : State) : Res :=
  unit s (Instr.windowDiscard t req).wf
    ((s.at t).invoke req .WINDOW_DISCARD none fun s =>
      if s.windowPending then refuse 0x0401 s
      else ok [] { s with staged := s.staged.filter fun h => !windowObjs.contains h.obj })

end Sys2Proof.Machine
end

