-- ==== Sys2Proof/Machine/ExecGraft.lean ====
section
/-! DEFINITION. Meanings of the graft commands and of what hosts write into their hierarchies
(R68 to R81, R268 to R275, R453). -/

namespace Sys2Proof.Machine

open Sys2Proof

/-! ## Graft commits (R75, R76) -/

def execGraftActionWrite (t : Time) (req : Req) (g action : Nat) (s : State) : Res :=
  unit s (Instr.graftActionWrite t req g action).wf
    ((s.at t).hexsum req fun s => s.writeSet req [entryOf .ACTION (some g) action])

/-- The rows submitted become pending in request k (R75). -/
def State.submitGrafts (s : State) (k : Nat) (rows : List Nat) : State :=
  rows.foldl (fun s g => (s.put .GRAFT_REQUEST g k).graftTo g 2) s

/-- The regions that grafts affect (R75). -/
def State.graftUnits (s : State) (rows : List Nat) : List (Nat × Nat) :=
  unitsOf (nub (rows.flatMap s.graftNodes))

/-- The first staged row with a unit that is busy fails the last check of R76. -/
def State.busyGraft (s : State) (rows : List Nat) : Option (Nat × Nat) :=
  (rows.find? fun g => s.unitsBusy (s.graftUnits [g])).map (·, 0x0602)

/-- GRAFT_COMMIT (R76); it waits for no profile switch (R336). -/
def State.graftCommit (s : State) (offers : List Time) : Nat × List Nat × State :=
  let rows := s.stagedGrafts
  let code := firstCode [codeIf rows.isEmpty 0x0102, codeIf s.epochsRefused 0x0404, s.checkOffers offers,
    codeIf s.switching 0x0501]
  if code ≠ 0 then refuse code s
  else match (s.graftChecks rows).or (s.busyGraft rows) with
    | some (g, c) => refuse c (s.put .GRAFT_RESULT g c)
    | none =>
      let (k, s) := s.openReq 3 offers (s.graftUnits rows) (.grafts rows)
      ok [k] (s.submitGrafts k rows)

def execGraftCommit (t : Time) (req : Req) (offers : List Time) (s : State) : Res :=
  unit s (Instr.graftCommit t req offers).wf
    ((s.at t).invoke req .GRAFT_COMMIT none fun s => s.graftCommit offers)

/-! ## Ungrafts that the keeper opens (R78) -/

/-- The keeper opens the kind-3 request of released grafts at the first edge at least 3 × P ahead; while
a unit is busy the request waits (log 26). -/
def State.openUngraft (s : State) (rows : List Nat) : State :=
  if rows.isEmpty then s
  else if s.unitsBusy (s.graftUnits rows) then
    rows.foldl (fun s g => s.updGraft g fun h => { h with waits := true }) s
  else
    let (k, s) := s.openReq 3 [s.edge (s.pipFrom s.now (3 * s.P))] (s.graftUnits rows) (.grafts rows)
    let s := rows.foldl (fun s g => s.updGraft g fun h => { h with waits := false, expiry := none }) s
    s.submitGrafts k rows

/-- UNGRAFT_TIMEOUT has passed in state 4: the ungraft goes on as ACTION 3 (R78). -/
def execUngraftTimeout (t : Time) (g : Nat) (s : State) : Res :=
  let s1 := s.at t
  let due := s1.get .GRAFT_STATE g = 4 && (match (s1.grafts.getD {} g).expiry with
    | some e => decide (e ≤ s1.now)
    | none => false)
  unit s (Instr.ungraftTimeout t g).wf (if due then (s1.put .ACTION g 3).openUngraft [g] else s1)

/-! ## What a host does to a bridge (R79, R81, R274, R275) -/

/-- Power Controller Control, where the host writes it, and Link Disable of a bridge take values (R78, R79): a write
of 1 opens the request of the grafts that are leaving, whatever the bridge's power was. When the reset that a return
brings completes is a free choice within 100 ms (log 5). -/
def State.slotPower (s : State) (p k : Nat) (write : Option Bool) (dis : Bool) : State :=
  let b := s.bridge p k
  let off := write.getD b.powerOff
  let gs := s.graftsAt p k
  let leaving := gs.filter fun g => s.get .GRAFT_STATE g = 4
  let s := if write = some true then s.openUngraft leaving else s
  let off := if off && !b.powerOff then !gs.isEmpty && leaving.isEmpty && gs.all (s.get .GRAFT_STATE · = 3)
             else off
  let cut := (off || dis) && !(b.powerOff || b.linkDis)
  let back := (b.powerOff && !off) || (b.linkDis && !dis)
  let s := s.updBridge p k fun b => { b with powerOff := off, linkDis := dis, dllla := b.dllla && !(off || dis) }
  let s := if cut then s.cutBridge p k else s
  if back && !gs.isEmpty then
    let (d, s) := s.pick 100000001
    (gs.foldl (fun s g => s.resetGraft p g) s).updBridge p k fun b => { b with resetting := some (s.now + ns d) }
  else s

def execHostSlotPowerControl (t : Time) (p k : Nat) (powerOff linkDisable : Bool) (s : State) : Res :=
  let s1 := s.at t
  unit s (Instr.hostSlotPowerControl t p k powerOff linkDisable).wf
    (if s1.presents p && decide (k < s1.get .VDSB_COUNT p) then s1.slotPower p k (some powerOff) linkDisable
      else s1)

/-- Secondary Bus Reset on a bridge (R81). -/
def State.secondaryReset (s : State) (p k : Nat) : State :=
  (s.graftsAt p k).foldl (fun s g => s.resetGraft p g) s

def execHostSecondaryBusReset (t : Time) (p k : Nat) (s : State) : Res :=
  let s1 := s.at t
  unit s (Instr.hostSecondaryBusReset t p k).wf
    (if s1.presents p && decide (k < s1.get .VDSB_COUNT p) then s1.secondaryReset p k else s1)

/-- A graft of the partition is in force. -/
def State.graftHere (s : State) (p g : Nat) : Bool :=
  (s.grafts.getD {} g).inForce && s.get .PARTITION g = p && s.presents p

def execHostFunctionLevelReset (t : Time) (p g : Nat) (s : State) : Res :=
  let s1 := s.at t
  unit s (Instr.hostFunctionLevelReset t p g).wf
    (if s1.graftHere p g then s1.fnReset p (s1.get .GFID g) else s1)

/-! ## Virtualised registers (R74) -/

/-- A configuration request goes on from the host port of a partition, as the host sent it (R71, R83). -/
def State.cfgSend (s : State) (p f rid tag addr : Nat) (write : Option Nat) : State :=
  match s.ownHostPort p with
  | none => s
  | some port => s.receive port
      { kind := if write.isSome then .cfgWrite else .cfgRead, rid := rid, tag := tag, addr := addr,
        target := (s.hostSees p f).getD 0, value := write.getD 0, byteCount := 4, data := if write.isSome then 4 else 0 }

/-- A configuration request to a function answered by the DK5120 itself. -/
def State.cfgDone (s : State) (p f rid tag status value : Nat) (read : Bool) : State :=
  match s.ownHostPort p with
  | none => s
  | some port => s.selfCpl port
      { kind := .cpl, rid := rid, tag := tag, cplId := (s.hostSees p f).getD 0, status := status, value := value,
        byteCount := 4, data := if status = 0 ∧ read then 4 else 0 }

/-- A host's write of a virtualised register (R74), and whether the write goes on to the function. -/
def State.shadowed (s : State) (p g : Nat) (reg : ShadowReg) (value : Nat) : Bool × State :=
  let f := s.get .GFID g
  let own := !s.sharedDevice p f
  match reg with
  | .sriovControl => (false, s)
  | .linkControl => (false, s)
  | .maxPayload => (false, s.updGraft g fun h => { h with mps := value % 8 })
  | .aerMask => (own, s.updGraft g fun h => { h with aerMask := value })
  | .aerSeverity => (own, s.updGraft g fun h => { h with aerSev := value })
  | .aerCorMask => (own, s.updGraft g fun h => { h with aerCorMask := value })
  | .initiateFlr => (false, if bit value 0 then s.fnReset p f else s)

/-- Offset of a virtualised register in a function's configuration space. -/
def shadowOff (i : FnInfo) (reg : ShadowReg) : Nat :=
  match reg with
  | .sriovControl => i.sriovCap + 8
  | .linkControl => i.pcieCap + 16
  | .maxPayload | .initiateFlr => i.pcieCap + 8
  | .aerMask => i.aerCap + 8
  | .aerSeverity => i.aerCap + 12
  | .aerCorMask => i.aerCap + 20

/-- HOST_CONFIG_SHADOW_WRITE: forwarded, or completed with success (R74). -/
def State.shadowWrite (s : State) (p g : Nat) (reg : ShadowReg) (value rid tag : Nat) : State :=
  let f := s.get .GFID g
  match s.shadowed p g reg value with
  | (true, s) => s.cfgSend p f rid tag (shadowOff (s.fnInfo f) reg) (some value)
  | (false, s) => s.cfgDone p f rid tag 0 0 false

def execHostConfigShadowWrite (t : Time) (p g : Nat) (reg : ShadowReg) (value rid tag : Nat) (s : State) : Res :=
  let s1 := s.at t
  unit s (Instr.hostConfigShadowWrite t p g reg value rid tag).wf
    (if s1.graftHere p g then s1.shadowWrite p g reg value rid tag else s1)

/-- A Resizable BAR Control register is written: the BAR has 2^(20 + n) bytes for BAR Size n, in bits [13:8], and its
aperture is deactivated (R96; the field is PRESUMED, PCI Express Base 6.2, log 83). -/
def State.resizeBar (s : State) (p f bar v : Nat) : State :=
  let size := 20 + bitsOf v 13 8
  let upd : FnInfo → FnInfo := fun i =>
    { i with bars := i.bars.map fun (x : Nat × Nat × Nat) => if x.1 = bar then (x.1, x.2.1, size) else x }
  let s := { s with fns := s.fns.map fun (x : Nat × FnInfo) => if x.1 = f then (x.1, upd x.2) else x }
  s.dropApertures fun a => s.apertureOf p f bar = some a

/-- A host's write of the dword at an offset of a grafted function (R74): what goes on to the function, none
where the write is completed with success and discarded. -/
def State.fnWrite (s : State) (p g f off v : Nat) : Option Nat × State :=
  let i := s.fnInfo f
  let via := fun (r : ShadowReg) (x : Nat) => match s.shadowed p g r x with
    | (true, s) => (some v, s)
    | (false, s) => (none, s)
  if off = i.pcieCap + 8 then
    let s := (s.shadowed p g .maxPayload (bitsOf v 7 5)).2
    let barred := bit v 15 && s.vfsElsewhere p f
    let s := if barred then s.event 74 [p, f]
             else if bit v 15 then s.quarantineEarly fun e => e.reqG = f else s
    let v := withBits v 7 5 (s.devMps (s.graftsOfPort (s.get .FN_NODE f) (s.get .FN_PORT f)))
    (some (if barred then withBits v 15 15 0 else v), s)
  else if off = i.pcieCap + 16 ∨ off = i.pcieCap + 48 then via .linkControl v
  else if s.get .FN_KIND f = 1 ∧ (off = i.sriovCap + 8 ∨ off = i.sriovCap + 16) then via .sriovControl v
  else if off = i.aerCap + 8 then via .aerMask v
  else if off = i.aerCap + 12 then via .aerSeverity v
  else if off = i.aerCap + 20 then via .aerCorMask v
  else match i.rebars.lookup off with
    | some bar => (some v, s.resizeBar p f bar v)
    | none => (some v, s)

/-! ## Registers of the virtual hierarchy (R68 to R70, R268, R273 to R275; places: log 11) -/

/-- The ID that a configuration request names. -/
def cfgId (c : CfgReq) : Nat := c.bus * 256 + c.dev * 8 + c.fn

/-- Element of the hierarchy that a request names (R68, R71). -/
def State.cfgElem (s : State) (p : Nat) (c : CfgReq) : Option Nat := s.elemOfId p (cfgId c)

/-- The request goes below a bridge. -/
def State.cfgBelow (s : State) (p : Nat) (c : CfgReq) : Bool := s.idBelow p (cfgId c)

def State.cfgPut (s : State) (p e off v : Nat) : State :=
  { s with cfg := s.cfg.updD [] (p * 512 + e) fun c => c.set off (v % 2 ^ 32) }

/-- Device IDs of R68. -/
def cfgDeviceId (e : Nat) : Nat := if e = 0 then 0x5120 else if e = 1 then 0x5122 else 0x5121

/-- Speed and width of the partition's host port, as Link Status shows them (R69). -/
def State.cfgLink (s : State) (p : Nat) : Nat :=
  let port := s.get .HOST_PORT p
  s.get .LINK_RATE port % 16 + s.get .LINK_WIDTH port * 16

/-- Bus numbers as a dword. -/
def busWord (pri sec sub : Nat) : Nat := pri % 256 + sec % 256 * 256 + sub % 256 * 65536

/-- Slot Capabilities of R69. -/
def slotCap (k : Nat) : Nat := 0x0004005B + (k + 1) * 2 ^ 19

/-- Dwords whose bits the host cannot write: identity, capabilities and the DOE status (log 11). -/
def cfgFixed : List Nat :=
  [0x00, 0x08, 0x2C, 0x34, 0x40, 0x44, 0x4C, 0x54, 0x64, 0x80, 0x90, 0x94, 0x1C4, 0x1D4, 0x304, 0x30C, 0x400, 0x404]

/-- Device Capabilities, with Max_Payload_Size Supported (R253, R268). -/
def devCap (raw mps : Nat) (flr : Bool) : Nat := withBits (withBits raw 2 0 mps) 28 28 (b2n flr)

/-- Link Capabilities: the fastest rate and the widest link of the host port, ASPM L1 and no L0s, an L1 Exit Latency of
4 to 8 us (R253, R255). -/
def State.linkCap (s : State) (p raw : Nat) : Nat :=
  let port := s.get .HOST_PORT p
  let v := withBits (withBits raw 3 0 (s.get .MAX_RATE port)) 9 4 (s.get .PORT_WIDTH port)
  withBits (withBits v 11 10 2) 17 15 3

/-- Device Capabilities 2: AtomicOp Routing, no AtomicOp Completer, no LTR, no OBFF, tags of 10 bits (R253, R254). -/
def devCap2 (raw : Nat) (bridge down : Bool) : Nat :=
  let v := withBits (withBits raw 5 5 (b2n down)) 6 6 (b2n bridge)
  withBits (withBits (withBits (withBits v 9 7 0) 11 11 0) 19 18 0) 17 16 3

/-- Device Capabilities 3: tags of 14 bits, and L0p where the host port accepts it (R253). -/
def State.devCap3 (s : State) (p raw : Nat) : Nat :=
  withBits (withBits raw 2 1 3) 3 3 (s.get .L0P_ENABLE (s.get .HOST_PORT p))

/-- Advanced Error Capabilities and Control: ECRC is checked and never generated (R254). -/
def aerCtl (raw : Nat) : Nat := withBits raw 7 5 4

/-- Power Management Capabilities: no PME, D0 and D3hot alone (R268). -/
def pmCap (raw : Nat) : Nat := withBits raw 31 25 0

/-- Lane of a Lane Margining register of a bridge's link (log 11). -/
def marginLane (off : Nat) : Option Nat := if 0x208 ≤ off ∧ off < 0x248 then some ((off - 0x208) / 4) else none

/-- Lane Margining at the Receiver (R253): a command gets its status from the margin monitor of the host port's lane. -/
def State.marginWord (s : State) (p lane raw : Nat) : Nat :=
  let l := s.physLane (s.get .HOST_PORT p) lane
  raw % 2 ^ 16 + Config.margining (raw % 2 ^ 16) (s.get .EYE_HEIGHT l) (s.get .EYE_WIDTH l) % 2 ^ 16 * 2 ^ 16

/-- A dword that every virtual bridge has, or what it holds otherwise: capabilities of R253 to R255. -/
def State.anyBridgeWord (s : State) (p raw off : Nat) : Nat :=
  if off = 0x44 then devCap raw (s.get .MPS_LIMIT p) false
  else if off = 0x4C then s.linkCap p raw
  else if off = 0x80 then pmCap raw
  else if off = 0x118 then aerCtl raw
  else if off = 0x1C4 then 0
  else if off = 0x1D4 then s.devCap3 p raw
  else raw

/-- A dword of a downstream bridge. -/
def State.bridgeWord (s : State) (p k off : Nat) : Nat :=
  let b := s.bridge p k
  let raw := s.anyBridgeWord p (s.cfgRaw p (2 + k) off) off
  if off = 0x18 then busWord b.priBus b.secBus b.subBus
  else if off = 0x4C then raw ||| 2 ^ 20
  else if off = 0x50 then
    raw % 2 ^ 16 + (s.cfgLink p + b2n b.dllla * 2 ^ 13) * 2 ^ 16
  else if off = 0x54 then slotCap k
  else if off = 0x58 then
    raw % 2 ^ 16 + (b2n b.abp + b2n b.pdc * 8 + b2n b.pds * 64 + b2n b.dllsc * 256) * 2 ^ 16
  else if off = 0x64 then devCap2 raw true true
  else if off = 0x94 then s.get .PRESENTED_VENDOR_ID p + s.get .PRESENTED_SUBSYSTEM_ID p * 2 ^ 16
  else if off = 0x104 then b.uncStatus
  else if off = 0x110 then b.corStatus
  else if off = 0x1A4 then withBits raw 15 0 0x5F
  else if off = 0x14C then 0x00C0 + (raw / 2 ^ 16 / 4 * 4 % 2 ^ 16 + b.dpcEn) * 2 ^ 16
  else if off = 0x150 then b2n b.dpcTrig + b.dpcReason * 2 + (if b.dpcReason = 3 then 0x20 else 0)
  else raw

/-- The host's port presents its IDE capability (R260). -/
def State.ideShown (s : State) (p : Nat) : Bool := s.get .IDE_MODE (s.get .HOST_PORT p) ≠ 0

/-- A dword of the IDE capability: a Link stream and four Selective streams, PCRC, IDE_KM, AES-256-GCM, no aggregation, no
partial header encryption, no flow-through (R258; fields PRESUMED, log 11); nothing where it is not presented. -/
def State.ideWord (s : State) (p off raw : Nat) : Nat :=
  if !s.ideShown p then 0
  else if off = 0x400 then 0x00010030
  else if off = 0x404 then 0x00030063
  else if off = 0x410 then 2 * b2n (bit (s.get .IDE_STREAMS_ACTIVE (s.get .HOST_PORT p)) 0)
  else raw

/-- A dword of the DOE capability: Status has Data Object Ready in bit 31 (R259; places PRESUMED, log 11). -/
def UpBridge.doeWord (u : UpBridge) (off raw : Nat) : Nat :=
  if off = 0x300 then 0x0002002E
  else if off = 0x304 then 0
  else if off = 0x308 then 0
  else if off = 0x30C then (if u.doeOut.isEmpty then 0 else 2 ^ 31)
  else if off = 0x314 then u.doeOut.headD 0
  else raw

/-- What the DOE mailbox answers to a data object (R259): Discovery names the three types, one a request; an object of a
type it does not offer gets no answer. -/
def doeAnswer (l : List Nat) : List Nat :=
  match l with
  | [h, _, i] =>
    if h % 2 ^ 24 = 1 then
      let k := i % 256
      [1, 3, if k < 3 then 1 + k * 2 ^ 16 + (k + 1) % 3 * 2 ^ 24 else 0xFFFF]
    else if h % 2 ^ 24 = 0x10001 ∨ h % 2 ^ 24 = 0x20001 then h :: Config.doeReply l else []
  | h :: _ => if h % 2 ^ 24 = 0x10001 ∨ h % 2 ^ 24 = 0x20001 then h :: Config.doeReply l else []
  | [] => []

/-- A write to a register of the DOE mailbox: Abort, Go, a dword in, a dword taken (R259). -/
def UpBridge.doeWrite (u : UpBridge) (off v : Nat) : UpBridge :=
  if off = 0x308 then
    if bit v 0 then { u with doeIn := [], doeOut := [] }
    else if bit v 31 then { u with doeIn := [], doeOut := doeAnswer u.doeIn }
    else u
  else if off = 0x310 then { u with doeIn := u.doeIn ++ [v] }
  else if off = 0x314 then { u with doeOut := u.doeOut.drop 1 }
  else u

/-- Link Control of the upstream bridge: Common Clock Configuration is reported as 1 where the clocking of the host port's
tile is the common clock (R423). -/
def State.linkControl (s : State) (p raw : Nat) : Nat :=
  if s.get .CLOCK_MODE (tileOf (s.get .HOST_PORT p)) = 0 then raw ||| 0x40 else raw

/-- A dword of the upstream bridge. -/
def State.upWord (s : State) (p off : Nat) : Nat :=
  let u := s.ups.getD {} p
  let raw := s.anyBridgeWord p (s.cfgRaw p 0 off) off
  if off = 0x18 then busWord u.priBus u.secBus u.subBus
  else if off = 0x50 then s.linkControl p (raw % 2 ^ 16) + s.cfgLink p * 2 ^ 16
  else if off = 0x94 then s.get .PRESENTED_VENDOR_ID p + s.get .PRESENTED_SUBSYSTEM_ID p * 2 ^ 16
  else if off = 0x104 then u.uncStatus
  else if off = 0x110 then u.corStatus
  else if off = 0x64 then devCap2 raw true false
  else if 0x300 ≤ off ∧ off < 0x318 then u.doeWord off raw
  else if 0x400 ≤ off ∧ off < 0x494 then s.ideWord p off raw
  else match marginLane off with
    | some j => s.marginWord p j raw
    | none => raw

/-- A dword of the management function: Revision ID 0xB0 and Class Code 0x088000 at 0x08, BAR0 a 64-bit
one, no other BAR, no interrupt pin, a payload of 512 bytes, Function Level Reset, tags of 10 and 14 bits, no PME, D3hot
in the power state; its AER status (R268, R273). -/
def State.mfWord (s : State) (p off : Nat) : Nat :=
  let raw := s.cfgRaw p 1 off
  if off = 0x08 then 0x088000B0
  else if off = 0x10 then raw / 2 ^ 16 * 2 ^ 16 + 4
  else if 0x18 ≤ off ∧ off < 0x28 then 0
  else if off = 0x30 then 0
  else if off = 0x3C then raw % 256
  else if off = 0x44 then devCap raw 2 true
  else if off = 0x64 then devCap2 raw false false
  else if off = 0x80 then pmCap raw
  else if off = 0x84 then withBits (withBits raw 15 8 0) 1 0 (if s.get .MF_STATE p = 2 then 3 else 0)
  else if off = 0x104 then (s.mf p).uncStatus
  else if off = 0x110 then (s.mf p).corStatus
  else if off = 0x1D4 then withBits raw 2 1 3
  else raw

/-- Header Type of an element (R68): type 1 for a bridge, 0 for the management function, with the
multi-function bit of a device that has more than one function. -/
def State.cfgHeaderType (s : State) (p e : Nat) : Nat :=
  if e = 0 then 0x81 else if e = 1 then 0x80
  else if 8 * ((e - 2) / 8) + 1 < s.get .VDSB_COUNT p then 0x81 else 1

/-- What a configuration read of an element returns (R68 to R70). -/
def State.cfgRead (s : State) (p e off : Nat) : Nat :=
  let off := off / 4 * 4
  if off = 0 then s.get .PRESENTED_VENDOR_ID p + cfgDeviceId e * 2 ^ 16
  else if off = 0x0C then withBits (s.cfgRaw p e off) 23 16 (s.cfgHeaderType p e)
  else if e = 0 then s.upWord p off
  else if e = 1 then s.mfWord p off
  else s.bridgeWord p (e - 2) off

/-- BAR0 of the management function decodes while Memory Space Enable is set (R95, R268, R269). -/
def State.mfAperture (s : State) (p : Nat) : State :=
  let base := s.cfgRaw p 1 0x10 / 2 ^ 16 * 2 ^ 16 + s.cfgRaw p 1 0x14 * 2 ^ 32
  if bit (s.cfgRaw p 1 0x04) 1 then s.setAperture p (chipGfid s.node) 0 base 16 base 2
  else s.dropApertures fun a => s.apertureOf p (chipGfid s.node) 0 = some a

/-- The management function's power state is written: D3hot and back (R268). -/
def State.mfPower (s : State) (p v : Nat) : State :=
  if v % 4 = 3 then (if s.get .MF_STATE p = 0 then s.put .MF_STATE p 2 else s)
  else if v % 4 = 0 ∧ s.get .MF_STATE p = 2 then (s.put .MF_STATE p 0).msixFlush p
  else s

/-- Bits of status cleared by writing ones. -/
def rw1c (old v : Nat) : Nat := without old v

/-- A configuration write to the management function; Initiate Function Level Reset is bit 15 of Device
Control (R272). -/
def State.mfCfg (s : State) (p off v : Nat) : State :=
  if off = 0x48 ∧ bit v 15 then ((s.bump .MF_FLR_COUNT p).mfReset p true)
  else
    let s := s.cfgPut p 1 off v
    if off = 0x104 then s.updMf p fun m => { m with uncStatus := rw1c m.uncStatus v }
    else if off = 0x110 then s.updMf p fun m => { m with corStatus := rw1c m.corStatus v }
    else if off = 0x04 ∨ off = 0x10 ∨ off = 0x14 then s.mfAperture p
    else if off = 0x84 then s.mfPower p v
    else s

/-- A configuration write to a downstream bridge. -/
def State.bridgeCfg (s : State) (p k off v : Nat) : State :=
  let old := s.cfgRaw p (2 + k) off
  let b := s.bridge p k
  let s := s.cfgPut p (2 + k) off v
  let hi := v / 2 ^ 16
  if off = 0x18 then
    s.updBridge p k fun b => { b with priBus := v % 256, secBus := v / 256 % 256, subBus := v / 65536 % 256 }
  else if off = 0x3C then (if bit v 22 && !bit old 22 then s.secondaryReset p k else s)
  else if off = 0x50 then s.slotPower p k none (bit v 4)
  else if off = 0x58 then
    (s.updBridge p k fun b =>
      { b with hpIntEn := bit v 5, abp := b.abp && !bit hi 0, pdc := b.pdc && !bit hi 3,
               dllsc := b.dllsc && !bit hi 8 }).slotPower p k (some (bit v 10)) b.linkDis
  else if off = 0x104 then s.updBridge p k fun b => { b with uncStatus := rw1c b.uncStatus v }
  else if off = 0x110 then s.updBridge p k fun b => { b with corStatus := rw1c b.corStatus v }
  else if off = 0x14C then
    let s := s.updBridge p k fun b => { b with dpcEn := hi % 4 }
    if bit hi 6 then s.dpcTrigger p k 3 else s
  else if off = 0x150 then (if bit v 0 then s.dpcClear p k else s)
  else s

/-- A configuration write to the upstream bridge: a Secondary Bus Reset reaches every bridge below it. -/
def State.upCfg (s : State) (p off v : Nat) : State :=
  let old := s.cfgRaw p 0 off
  let s := s.cfgPut p 0 off v
  if off = 0x18 then
    s.updUp p fun u => { u with priBus := v % 256, secBus := v / 256 % 256, subBus := v / 65536 % 256 }
  else if off = 0x3C then
    if bit v 22 && !bit old 22 then
      (List.range (s.get .VDSB_COUNT p)).foldl (fun s k => s.secondaryReset p k) s
    else s
  else if off = 0x104 then s.updUp p fun u => { u with uncStatus := rw1c u.uncStatus v }
  else if off = 0x110 then s.updUp p fun u => { u with corStatus := rw1c u.corStatus v }
  else if 0x300 ≤ off ∧ off < 0x318 then s.updUp p fun u => u.doeWrite off v
  else s

/-- A configuration write to an element, with its effect (R70, R84); one to a dword that only reads is discarded. -/
def State.cfgWrite (s : State) (p e off v : Nat) : State :=
  let off := off / 4 * 4
  if cfgFixed.contains off then s
  else if e = 0 then s.upCfg p off v
  else if e = 1 then s.mfCfg p off v
  else s.bridgeCfg p (e - 2) off v

/-! ## Configuration requests (R67, R70 to R72) -/

/-- A configuration request of a host answered with Unsupported Request (R71): it goes back as an ordinary
completion (R119), or straight where the host has no queue yet. -/
def State.cfgUr (s : State) (port p : Nat) (c : CfgReq) : State :=
  let q : Pkt := { dest := hostGfid p, src := chipGfid s.node, part := p, ur := true,
                   tlp := { cfgCpl c 1 0 with target := cfgId c, hdr := 16 } }
  if (s.keyOf q).isSome then s.inject { q with cls := s.classOf q.src q.dest p q.tlp }
  else s.selfCpl port { q.tlp with cplId := s.urCompleter q, target := 0 }

/-- A request to an element is carried out and answered. -/
def State.cfgDo (s : State) (port p e : Nat) (c : CfgReq) : State :=
  if e = 1 ∧ s.get .MF_STATE p = 1 then s.selfCpl port (cfgCpl c 2 0)
  else
    let v := s.cfgRead p e c.reg
    let s := if c.write then s.cfgWrite p e c.reg c.value else s
    s.selfCpl port (cfgCpl c 0 (if c.write then 0 else v))

/-- A request to firmware waits for it; while pair A is stopped hardware answers with Retry Status (R70, R349). -/
def State.cfgFirm (s : State) (port p : Nat) (c : CfgReq) : State :=
  if s.odtakuUp then s.setCfgWait p (s.cfgWait.getD [] p ++ [c]) else s.selfCpl port (cfgCpl c 2 0)

/-- A request to an element: at once, or by firmware from 0x100 on (R70). -/
def State.cfgTo (s : State) (port p e : Nat) (c : CfgReq) : State :=
  if c.reg < 0x100 then s.cfgDo port p e c else s.cfgFirm port p c

/-- A request as it goes on to a function, through the ingress rules. -/
def cfgTlp (c : CfgReq) : Tlp :=
  { kind := if c.write then .cfgWrite else .cfgRead, rid := c.rid, tag := c.tag, addr := c.reg, target := cfgId c,
    value := c.value, byteCount := 4, data := if c.write then 4 else 0 }

/-- A request to a grafted function: of a presented virtual function's header Odtaku completes the BARs and
Command (R97); a BAR write is recorded (R96); a write of a virtualised register follows R74. -/
def State.cfgFn (s : State) (port p g f : Nat) (c : CfgReq) : State :=
  let off := c.reg / 4 * 4
  let i := s.fnInfo f
  if s.get .KIND g = 2 ∧ vfEmulated off then s.cfgFirm port p c
  else if !c.write then s.receive port (cfgTlp c)
  else match barAt i.bars i.types off with
    | some (bar, high) =>
      (s.recordWrite p g f bar (barValue (s.barBase g f bar) high c.value) c.rid c.tag).receive port (cfgTlp c)
    | none => match s.fnWrite p g f off c.value with
      | (some v, s) => s.receive port { cfgTlp c with value := v }
      | (none, s) => s.selfCpl port (cfgCpl c 0 0)

/-- The graft and function that an ID below a bridge names. -/
def State.cfgGraft (s : State) (p rid : Nat) : Option (Nat × Nat) :=
  (s.fnOfId p rid).bind fun f => (s.graftOf p f).map fun g => (g, f)

/-- A request below a bridge (R71, R304): Unsupported Request while no function 0 is grafted there or the
partition is husked, else on to the function. -/
def State.cfgForward (s : State) (port p : Nat) (c : CfgReq) : State :=
  let zero := fun k => (s.graftsAt p k).any fun g => s.get .KIND g = 0 || s.get .VFUNC g = 0
  let empty := match s.bridgeOfBus p c.bus with
    | some (k, true) => !zero k
    | _ => false
  if empty || s.husked (partRow p) then s.cfgUr port p c
  else match s.cfgGraft p (cfgId c) with
    | none => s.receive port (cfgTlp c)
    | some (g, f) => s.cfgFn port p g f c

/-- A configuration request arrives at a host port (R67, R70 to R72). -/
def State.configRequest (s : State) (port : Nat) (c : CfgReq) : State :=
  if !s.isHost port || !(s.pport port).up then s
  else if s.husked port then s.bump .HUSK_DISCARDS port
  else match s.partOfPort port with
    | none => s.selfCpl port (cfgCpl c 2 0)
    | some p =>
      if !s.presents p then s.selfCpl port (cfgCpl c 2 0)
      else if s.cfgBelow p c then s.cfgForward port p c
      else match s.cfgElem p c with
        | none => s.cfgUr port p c
        | some e => s.cfgTo port p e c

def execHostConfigRequest (t : Time) (port : Nat) (c : CfgReq) (s : State) : Res :=
  unit s (Instr.hostConfigRequest t port c).wf ((s.at t).configRequest port c)

/-- Firmware completes the oldest request of a partition, while pair A runs (R70). -/
def State.fwConfig (s : State) (p : Nat) : State :=
  match s.cfgWait.getD [] p, s.odtakuUp with
  | c :: cs, true =>
    let s := s.setCfgWait p cs
    let port := s.get .HOST_PORT p
    if s.cfgBelow p c then
      match s.cfgGraft p (cfgId c) with
      | some (g, _) => s.vfAccess p g c
      | none => s.cfgUr port p c
    else match s.cfgElem p c with
      | some e => s.cfgDo port p e c
      | none => s.cfgUr port p c
  | _, _ => s

def execConfigFwCompletion (t : Time) (p : Nat) (s : State) : Res :=
  unit s (Instr.configFwCompletion t p).wf ((s.at t).fwConfig p)

end Sys2Proof.Machine
end

