-- ==== Sys2Proof/Machine/ExecTime.lean ====
section
/-! DEFINITION. Meanings of the commands of time, neighbours, the keeper and epoch requests
(R28 to R62, R390). -/

namespace Sys2Proof.Machine

open Sys2Proof

/-! ## Time sources (R29, R30, R35, R38, R39) -/

/-- An edge of TREF_PPS_IN lies within 100 ns of a second after the last (R29, log 23). -/
def ppsOnTime (last now : Time) : Bool :=
  let e := last + ms 1000
  e ≤ now + ns 100 && now ≤ e + ns 100

/-- TREF is lost (R38): the class is graded again at once (R30). -/
def State.trefLose (s : State) : State :=
  let s := { s with time := { s.time with clkPresent := false, ppsRun := 0, lastPps := 0, label := none } }
  if s.get .TIME_CLASS = 1 then s.regrade s.ownClass else s

/-- The root follows its source (R33, R35): the oscillator is steered, and a difference of 1 ms or
more raises an event. -/
def State.followSource (s : State) (source : Nat) (offset : Int) : State :=
  if s.get .ACTIVE_SOURCE ≠ source then s
  else
    let s := s.steer (offset * 1000)
    if offset ≤ -1000000 ∨ 1000000 ≤ offset then s.event 35 [source] else s

/-- The seconds label of an edge of TREF_PPS_IN (R38): PTP's where PTP is locked, else the label that
TOD_SECONDS gives the first edge after it was written, counted on from edge to edge (log 23). -/
def State.ppsLabel (s : State) : Nat :=
  let tod := s.get .TOD_SECONDS
  if s.time.ptpLocked then (s.now / 65536 + s.time.ptpOffset + 500000000).toNat / 1000000000
  else match s.time.label with
    | some l => if tod = s.time.todUsed then l + 1 else tod
    | none => tod

/-- A rising edge of TREF_PPS_IN, with TREF_CLK_IN present or not (R29, R35, R38): the difference between
orchard time and the root's source is a whole one, seconds included. -/
def State.ppsEdge (s : State) (clk : Bool) : State :=
  let last := s.time.lastPps
  let late := last ≠ 0 && !ppsOnTime last s.now
  let s := if late ∨ !clk then s.trefLose else s
  let run := if last = 0 ∨ late ∨ !clk then 1 else min 8 (s.time.ppsRun + 1)
  let l := s.ppsLabel
  let s := { s with time := { s.time with clkPresent := clk, ppsRun := run, lastPps := s.now, label := some l,
                                          todUsed := s.get .TOD_SECONDS } }
  s.followSource 0 ((l : Int) * 1000000000 - s.now / 65536)

def execTrefPpsEdge (t : Time) (clk : Bool) (s : State) : Res :=
  unit s (Instr.trefPpsEdge t clk).wf ((s.at t).ppsEdge clk)

def execTrefLost (t : Time) (s : State) : Res :=
  unit s (Instr.trefLost t).wf ((s.at t).trefLose)

/-- A PTP message in the chip's domain: the servo is locked after 16 s below 1 us (R29, R39). -/
def State.ptpIn (s : State) (domain : Nat) (offset : Int) : State :=
  if domain ≠ s.get .PTP_DOMAIN then s
  else
    let good := decide (-1000 < offset) && decide (offset < 1000)
    let since := if good then some (s.time.ptpGoodSince.getD s.now) else none
    let locked := match since with
      | some a => decide (a + ms 16000 ≤ s.now)
      | none => false
    let lost := s.time.ptpLocked && !locked
    let s := { s with time := { s.time with ptpGoodSince := since, ptpLocked := locked, ptpOffset := offset } }
    let s := if lost && s.get .TIME_CLASS = 2 then s.regrade s.ownClass else s
    s.followSource 1 offset

def execPtpMessageReceive (t : Time) (domain : Nat) (offset : Int) (s : State) : Res :=
  unit s (Instr.ptpMessageReceive t domain offset).wf ((s.at t).ptpIn domain offset)

/-- Orchard time that a source gives now: TREF by the label of its last edge, or PTP (R35, R38). -/
def State.sourceTime (s : State) (source : Nat) : Time :=
  if source = 0 then ms (1000 * s.time.label.getD 0) + (s.now - s.time.lastPps)
  else (s.now + s.time.ptpOffset * 65536).toNat

/-- A root that forms an orchard from cold sets its time from its source, by a whole number of milliseconds
(R35); the rest is slewed away. The model's choice (log 23): an orchard counts as forming from cold while no
source has set its time since the cold reset, no second keeper has held the role and no reservation is
granted. -/
def State.setCold (s : State) (source : Nat) : State :=
  if s.time.set ∨ s.anyGranted ∨ s.get .TIME_ROOT ≠ s.node ∨ 2 ≤ s.get .KEEPER_CHANGES then s
  else
    let now := s.now + (s.sourceTime source - s.now) / ms 1 * ms 1
    let s := { s with now := now, time := { s.time with set := true } }
    { s with pip := s.pipAt now }

/-- A source's condition of R29 holds: the clock present and 8 edges in a row, or the servo locked for
16 s. -/
def State.meetsR29 (s : State) (source : Nat) : Bool :=
  match source with
  | 0 => s.time.clkPresent && decide (8 ≤ s.time.ppsRun)
  | 1 => match s.time.ptpGoodSince with
    | some a => decide (a + ms 16000 ≤ s.now)
    | none => false
  | _ => true

/-- A source meets its condition: the chip grades itself again (R29, R30, R35). -/
def State.qualified (s : State) (source : Nat) : State :=
  if !s.meetsR29 source then s
  else
    let s := if source = 1 then { s with time := { s.time with ptpLocked := true } } else s
    if 2 ≤ source ∨ !bit (s.get .SOURCE_ENABLE) source then s.retime
    else (s.regrade s.ownClass).setCold source

def execTimeSourceQualified (t : Time) (source : Nat) (s : State) : Res :=
  unit s (Instr.timeSourceQualified t source).wf ((s.at t).qualified source)

/-- 10 s with the better class: the chip displaces the root it follows (R30). -/
def execTimeRootDisplace (t : Time) (s : State) : Res :=
  let s1 := s.at t
  unit s (Instr.timeRootDisplace t).wf
    (if s1.time.betterSince.isSome && !s1.holding && s1.outranks s1.time.rootClass (s1.get .TIME_ROOT)
      then s1.timeRoot else s1)

/-- An end marks the next flit; the flit's departure is stamped as it leaves (R33). -/
def execTimeMarkerSend (t : Time) (port : Nat) (s : State) : Res :=
  let s1 := s.at t
  unit s (Instr.timeMarkerSend t port).wf
    (if s1.isFabric port && s1.get .OL_STATE port = 2 then
      s1.updMarks port fun m => { m with mark := some m.next, next := (m.next + 1) % 64, txFrag := none }
     else s1)

/-- A PTM request of a device is answered with orchard time in ns (R40). -/
def execPtmRequest (t : Time) (port : Nat) (s : State) : Res :=
  let s1 := s.at t
  unit s (Instr.ptmRequest t port).wf
    (if s1.isDevice port && (s1.pport port).up then s1.emit (.link 40 [port, s1.now / 65536]) else s1)

/-! ## Pip period and time steps (R36, R43) -/

/-- Every region of every live member. -/
def State.allUnits (s : State) : List (Nat × Nat) := unitsOf s.live

/-- A write of PIP_PERIOD with offers (R43). -/
def State.writePeriod (s : State) (pr : Principal) (offers : List Time) (e : WEntry) :
    Nat × List Nat × State :=
  match s.resolve pr 2 e.addr with
  | .obj o row =>
    let d := o.info
    let code :=
      if e.ty ≠ d.ty.code ∨ !d.ty.lenOk e.len then 0x0302
      else firstCode [codeIf (!d.inRange e.val e.len) 0x0301, s.periodCode offers e.val,
        codeIf (d.prof && s.switching) 0x0501, codeIf (s.unitsBusy s.allUnits) 0x0602]
    if code ≠ 0 then (code, [0], s)
    else
      let (k, s) := (s.accept o row e.val).openReq 5 offers s.allUnits (.period e.val)
      ok [0xFFFFFFFF, k] s
  | .bad c => (c, [0], s)
  | .count _ => (0x0201, [0], s)

def execPipPeriodWrite (t : Time) (req : Req) (offers : List Time) (e : WEntry) (s : State) : Res :=
  unit s (Instr.pipPeriodWrite t req offers e).wf
    ((s.at t).hexsum req fun s =>
      if e.addr.idx = 0x2001 then s.writePeriod (s.principal req.path) offers e
      else s.writeSet req [e])

/-- TIME_STEP (R36). -/
def State.timeStep (s : State) (offers : List Time) (step : Int) : Nat × List Nat × State :=
  let code := firstCode [
    codeIf (step = 0 || step % 1000000 ≠ 0 || offers.any fun e => decide ((e : Int) + step * 65536 < 0)) 0x0301,
    codeIf s.anyGranted 0x0401, codeIf s.epochsRefused 0x0404, s.checkOffers offers,
    codeIf (s.unitsBusy s.allUnits) 0x0602]
  if code ≠ 0 then refuse code s else s.openFor 6 offers s.allUnits (.step step)

def execTimeStep (t : Time) (req : Req) (offers : List Time) (step : Int) (s : State) : Res :=
  unit s (Instr.timeStep t req offers step).wf
    ((s.at t).invoke req .TIME_STEP none fun s => s.timeStep offers step)

/-! ## Epoch requests (R46 to R49) -/

/-- Region 14 of this chip has staged a firmware switch and records it (R399). -/
def State.noteFwReady (s : State) (r : EpochReq) (node region : Nat) : State :=
  match r.work with
  | .firmware _ => if node = s.node ∧ region = 14 then { s with fw := { s.fw with ready := true } } else s
  | _ => s

/-- A chip's units can report: region 14 of this chip runs (R47); another chip's report has come. -/
def State.reports (s : State) (node : Nat) : Bool := node ≠ s.node || s.runs 14

/-- A unit reports ready, or its chip reports it isolated; a report counts strictly before the guard
point (R46, R47). -/
def State.unitReport (s : State) (k node region : Nat) (isolated : Bool) : State :=
  match s.req k with
  | none => s
  | some r =>
    if r.decided ∨ s.reqOver k ∨ s.guardOf r ≤ s.now ∨ !r.units.contains (node, region) ∨ !s.reports node then s
    else if isolated then
      s.updReq k fun r => { r with isolated := nubP (r.isolated ++ [(node, region)]),
                                   ready := r.ready.filter (· ≠ (node, region)) }
    else (s.noteFwReady r node region).updReq k fun r =>
      { r with ready := nubP (r.ready ++ [(node, region)]),
               isolated := r.isolated.filter (· ≠ (node, region)) }

/-- A prepare message of another chip's keeper, and the staged values with it (R46 step 1, R340): the chip
mirrors the request, and its own staged banks enter state 2 (R183). One that it holds takes the new offers. -/
def State.prepared (s : State) (k : Nat) (p : Machine.Prep) : State :=
  if s.get .KEEPER_ROLE = 1 ∨ (s.req k).any (fun r => !r.prep || r.decided) then s
  else
    let r : EpochReq := { num := k, kind := p.kind, offers := p.offers, units := p.units, work := p.work, prep := true }
    let old := (s.req k).map fun (r : EpochReq) => (r.ready, r.isolated)
    let s := if old.isNone then s.displace else s
    let r := { r with ready := (old.map fun (x : List (Nat × Nat) × List (Nat × Nat)) => x.1).getD [],
                      isolated := (old.map fun (x : List (Nat × Nat) × List (Nat × Nat)) => x.2).getD [] }
    let s := { s with reqs := s.reqs.filter (fun (x : EpochReq) => x.num ≠ k) ++ [r],
                      staged := s.staged.filter (fun (h : Held) => !p.rows.any fun (x : Held) => x.obj = h.obj && x.row = h.row) ++ p.rows }
    (s.bankStates p.work 1 2).showReq k p.kind p.offers

def execUnitReady (t : Time) (request node region : Nat) (isolated : Bool) (prep : Option Machine.Prep)
    (s : State) : Res :=
  let s0 := s.at t
  let s1 := match prep with
    | some p => s0.prepared request p
    | none => s0
  let s2 := if node = s1.node then s1.msg .ready [request, region] else s1
  unit s (Instr.unitReady t request node region isolated prep).wf
    (s2.unitReport request node region isolated)

def execGuardPoint (t : Time) (request : Nat) (s : State) : Res :=
  let s1 := s.at t
  unit s (Instr.guardPoint t request).wf
    (match s1.req request with
      | some r => s1.guard r
      | none => s1)

/-- The keeper's decision to commit reaches a chip that has prepared: it acknowledges (R46 step 4). -/
def State.decisionIn (s : State) (r : EpochReq) : State :=
  (((s.updReq r.num fun r => { r with decided := true }).put .EPOCH_STATE r.num 1).msg .ack [r.num]).decisionWork r

/-- The keeper sends its decision again until every chip has acknowledged, or it reaches this chip from
another keeper (R46). -/
def execDecisionResend (t : Time) (request : Nat) (acks : List Nat) (s : State) : Res :=
  let s1 := s.at t
  unit s (Instr.decisionResend t request acks).wf
    (match s1.req request with
      | none => s1
      | some r =>
        if s1.reqOver request then s1
        else if r.prep then (if r.decided then s1.msg .ack [request] else s1.decisionIn r)
        else if !r.decided then s1
        else
          let s2 := s1.updReq request fun r => { r with acks := nub (r.acks ++ acks) }
          let all := (nub (r.units.map (·.1))).all (nub (r.acks ++ acks)).contains
          if all then s2 else s2.msg .decision [request])

/-- A region of this chip has reported ready, holds no decision, and E - P has come (R48). -/
def State.mayQuery (s : State) (r : EpochReq) (region : Nat) : Bool :=
  !s.reqOver r.num && r.ready.contains (s.node, region) && (!r.decided || r.lacking.contains region) &&
    decide (r.epoch - s.P ≤ s.now)

/-- A ready unit without a decision asks the keeper and the standby at E - P (R48): `answer` says that it then
holds a commit decision, which it acts on as on one that came unasked (R211, R401). -/
def State.query (s : State) (r : EpochReq) (region : Nat) (answer : Bool) : State :=
  let s := s.msg .query [r.num, region]
  if answer then
    ((s.updReq r.num fun r => { r with decided := true, lacking := r.lacking.filter (· ≠ region) }).put .EPOCH_STATE
      r.num 1).decisionWork r
  else s.updReq r.num fun r => { r with lacking := nub (r.lacking ++ [region]) }

def execDecisionQuery (t : Time) (request region : Nat) (answer : Bool) (s : State) : Res :=
  let s1 := s.at t
  unit s (Instr.decisionQuery t request region answer).wf
    (match s1.req request with
      | none => s1
      | some r => if s1.mayQuery r region then s1.query r region answer else s1)

/-! ## Neighbours (R56 to R58) -/

/-- A trained fabric port sends a hello (R56). -/
def State.helloOut (s : State) (port : Nat) : State :=
  s.msg .hello [port, s.node, s.get .CHIP_SERIAL, s.get .PLANE, s.get .ORCHARD_ID, b2n s.selfHealthy,
    s.time.rootClass, s.get .TIME_ROOT, s.time.rootHops, s.get .KEEPER_NODE]

def execHelloSend (t : Time) (port : Nat) (s : State) : Res :=
  let s1 := s.at t
  unit s (Instr.helloSend t port).wf
    (if s1.isFabric port && s1.get .OL_STATE port = 2 then s1.helloOut port else s1)

/-- What a hello tells of its sender (R56, R61). -/
def State.noteMember (s : State) (h : Hello) : State :=
  let upd : Member → Member := fun m =>
    { m with heard := true, healthy := h.healthy, plane := h.plane,
             since := if h.healthy && !m.healthy then s.now else m.since }
  { s with members := s.members.updD {} h.node upd }

/-- A neighbour is up: it enters the topology, and the keeper is told (R57, R58). -/
def State.nbrUp (s : State) (port : Nat) (h : Hello) : State :=
  if s.get .NEIGHBOUR_STATE port = 2 then s
  else
    let links : List LinkRec :=
      [{ node := s.node, port := port, nbr := h.node, nbrPort := h.port },
       { node := h.node, port := h.port, nbr := s.node, nbrPort := port }]
    let s := { s with topo := s.topo.filter (fun (k : LinkRec) => !links.any fun (l : LinkRec) => l.node = k.node && l.port = k.port) ++ links }
    s.setNbr port 2

/-- A hello is received (R57). Two hellos are consecutive when less than three intervals lie between
them. While a chip of the same node ID keeps this one out, no port leaves the state refused. A chip whose
keeper is unknown or not healthy takes the neighbour's (log 35). -/
def State.helloIn (s : State) (port : Nat) (h : Hello) : State :=
  let st := s.nbrCheck h.orchard h.node h.plane
  let old := s.hello port
  let run := if s.now ≤ old.last + us 300 ∧ s.get .NEIGHBOUR_STATE port ≤ 2 then old.count + 1 else 1
  let s := { s with dupPorts := s.dupPorts.filter (· ≠ port) }
  let s := ((s.put .NEIGHBOUR_NODE port h.node).put .NEIGHBOUR_PORT port h.port).put .NEIGHBOUR_SERIAL port
    h.serial
  let s := if st = 0 then s else s.refuseNbr port st h.serial
  let heard : HelloH :=
    { count := if st = 0 then min 2 run else 0, last := s.now, healthy := h.healthy, plane := h.plane,
      rootClass := h.rootClass, rootNode := h.rootNode, hops := h.hops, keeper := h.keeper }
  let s := { s with hellos := s.hellos.set port heard }
  if st ≠ 0 then s.refreshIsland.retime
  else
    let s := s.noteMember h
    let s := if !s.dupPorts.isEmpty then s.refusePort 4 port
      else if 2 ≤ run then s.nbrUp port h else s.setNbr port 1
    let s := s.refreshIsland
    let lost := s.get .KEEPER_NODE = 0xFF || !s.healthyHere.contains (s.get .KEEPER_NODE)
    let s := if lost ∧ h.keeper < 32 ∧ h.keeper ≠ s.get .KEEPER_NODE ∧ s.get .KEEPER_ROLE ≠ 3 ∧ s.get .KEEPER_ROLE ≠ 4
      then s.setKeeper h.keeper else s
    s.retime.pushIfWanted

def execHelloReceive (t : Time) (port : Nat) (h : Hello) (s : State) : Res :=
  let s1 := s.at t
  unit s (Instr.helloReceive t port h).wf
    (if s1.isFabric port && s1.get .OL_STATE port = 2 then s1.helloIn port h else s1)

/-- Three hello intervals pass without a hello (R56). -/
def execNeighbourDown (t : Time) (port : Nat) (s : State) : Res :=
  let s1 := s.at t
  let due := s1.get .NEIGHBOUR_STATE port ≠ 0 && decide ((s1.hello port).last + us 300 ≤ s1.now)
  unit s (Instr.neighbourDown t port).wf (if due then (s1.nbrDown port).pushIfWanted else s1)

/-- A link-state message (R58, R92): the topology changes, and the keeper opens a route push. A link that
its far end has withdrawn stays in the topology (R213). -/
def State.linkMessage (s : State) (node port nbr nbrPort : Nat) (up withdrawn : Bool) : State :=
  let here := fun k : LinkRec => k.node = node && k.port = port
  let there := fun k : LinkRec => k.node = nbr && k.port = nbrPort
  let l : LinkRec := { node := node, port := port, nbr := nbr, nbrPort := nbrPort, withdrawn := withdrawn }
  let b : LinkRec := { node := nbr, port := nbrPort, nbr := node, nbrPort := port,
                       withdrawn := s.topo.any fun k => there k && k.withdrawn }
  let rest := s.topo.filter fun k => !here k && !there k
  let s := { s with topo := if up then rest ++ [l, b] else rest }.refreshIsland
  if s.get .KEEPER_ROLE = 1 then s.openPush else s

/-- The message goes on both planes: every chip that hears it learns what its island is (R59, log 35). -/
def execLinkStateMessage (t : Time) (node port nbr nbrPort : Nat) (up withdrawn : Bool) (s : State) : Res :=
  unit s (Instr.linkStateMessage t node port nbr nbrPort up withdrawn).wf
    ((s.at t).linkMessage node port nbr nbrPort up withdrawn)

/-! ## The keeper (R59 to R61, R390) -/

/-- The keeper's beacon on both planes (R60). -/
def State.beacon (s : State) : State := s.msg .beacon [s.node, s.pip]

/-- The standby keeper has missed three beacons and takes the role at a pip edge (R60); only a healthy chip does (R55).
The requests mirrored to it are its own to continue from then on. -/
def execKeeperTakeover (t : Time) (s : State) : Res :=
  let s1 := s.at t
  unit s (Instr.keeperTakeover t).wf
    (if s1.get .KEEPER_ROLE = 2 && s1.selfHealthy && s1.isEdge s1.now then ((s1.setKeeper s1.node).beacon).continueAll.pushIfWanted else s1)

/-- A chip of lower number that has been healthy for 10 s takes the keeper role at a pip edge (R61). -/
def State.mayHandOver (s : State) (n : Nat) : Bool :=
  let m := s.members.getD { since := s.now } n
  decide (n < s.get .KEEPER_NODE) && s.get .KEEPER_NODE ≠ 0xFF && s.pendingReqs.isEmpty &&
    s.healthyHere.contains n && decide (m.since + ms 10000 ≤ s.now) && s.isEdge s.now

def execKeeperHandover (t : Time) (node : Nat) (s : State) : Res :=
  let s1 := s.at t
  unit s (Instr.keeperHandover t node).wf
    (if s1.mayHandOver node then ((s1.msg .handover [node]).setKeeper node).pushIfWanted else s1)

/-- The first keeper of a cold island: its lowest healthy chip, without the hold (R390). As keeper it
opens the first kind-3 request (R389). -/
def execKeeperColdElection (t : Time) (s : State) : Res :=
  let s1 := s.at t
  let l := s1.healthyHere
  let go := s1.get .KEEPER_CHANGES = 0 && s1.get .KEEPER_NODE = 0xFF && s1.majority l &&
    s1.get .KEEPER_ROLE ≠ 4
  unit s (Instr.keeperColdElection t).wf
    (match l.head?, go with
      | some n, true =>
        let s2 := s1.setKeeper n
        if n = s2.node then (s2.beacon).openPush else s2
      | _, _ => s1)

end Sys2Proof.Machine
end

