-- ==== Sys2Proof/Machine/ExecHexsum.lean ====
section
/-! DEFINITION. Hexsum's own messages and its sessions: READ, WRITE, BLOCK_READ, ROW_READ, ROW_WRITE,
SUBSCRIBE, ABORT, handshakes, closing, trust anchors and management addresses (R318 to R329). -/

namespace Sys2Proof.Machine

open Sys2Proof

/-! ## Read entries (R315, R316, R323) -/

/-- A read entry as the model's answers hold it: type code, status, length in bytes, value (log 32). -/
abbrev Entry := Nat × Nat × Nat × Nat

/-- An entry that fails R315. -/
def badEntry (code : Nat) : Entry := (3, 0x80, 2, code)

/-- The read entry of an address. -/
def State.readEntry (s : State) (pr : Principal) (active : Bool) (a : ObjAddr) : Entry :=
  match s.resolve pr 1 a with
  | .bad c => badEntry c
  | .count n => if (Dict.rows a.idx).isSome then (4, 0, 4, n) else (2, 0, 1, n)
  | .obj o r =>
    if o.info.ty = .record then badEntry 0x0201
    else
      let v := s.readOf active o r
      (o.info.ty.code, v.2, o.info.ty.bytes, v.1)

/-- The octets of a value, the part of a read entry that varies: a string takes its object's length
(log 32). -/
def State.entryBytes (s : State) (pr : Principal) (a : ObjAddr) : Nat :=
  match s.resolve pr 1 a with
  | .obj o _ => 12 + ceilDiv o.info.ty.bytes 4 * 4
  | _ => 16

/-- Entries laid out in the body of an answer, each value in octets, the most significant first (R311). -/
def bodyOf (l : List Entry) : List Nat :=
  l.flatMap fun (code, status, n, v) => code :: status :: n :: beBytes v n

/-- The READ bit of an entry of 9000 that a shelf manager or a fabric-admin host has read (R299); the entry of 9002 is
written again at sequels and at close alone (R303). -/
def State.noteRead (s : State) (pr : Principal) (a : ObjAddr) : State :=
  if (pr = .sh ∨ pr = .fa) ∧ a.idx = 0x9000 ∧ a.row.isSome then
    { s with log := s.log.map fun (r : Rec) => if some r.entry = a.row then { r with read := true } else r }
  else s

/-- A list of addresses read. -/
def State.readAll (s : State) (req : Req) (as : List ObjAddr) : List Entry × State :=
  let pr := s.principal req.path
  (as.map (s.readEntry pr req.active), as.foldl (fun s a => s.noteRead pr a) s)

def execRead (t : Time) (req : Req) (addrs : List ObjAddr) (s : State) : Res :=
  unit s (Instr.read t req addrs).wf
    ((s.at t).hexsum req fun s =>
      if 32 < addrs.length then refuse 0x0302 s
      else
        let (l, s) := s.readAll req addrs
        ok (bodyOf l) s)

def execRowRead (t : Time) (req : Req) (addr : ObjAddr) (subs : List Nat) (s : State) : Res :=
  unit s (Instr.rowRead t req addr subs).wf
    ((s.at t).hexsum req fun s =>
      if 32 < subs.length ∨ addr.row.isNone then refuse 0x0302 s
      else
        let (l, s) := s.readAll req (subs.map fun n => { addr with sub := n })
        ok (bodyOf l) s)

/-! ## BLOCK_READ (R324) -/

/-- The keys of a table's rows that exist, rising. -/
def State.rowKeys (s : State) (idx : Nat) : List Nat :=
  if idx = 0x2100 then (s.reqs.map (·.num)).mergeSort (· ≤ ·)
  else if idx = 0x9100 then List.range 512 ++ (List.range 4096).map (· + 0x1000)
  else if idx = 0x9200 then (List.range 0x4000).filter errCode
  else (List.range ((Dict.rows idx).getD 0 + 1)).filter (s.rowOk idx)

/-- The subindices of an index: those of an array, or the fields. -/
def subsAt (idx : Nat) : List Nat :=
  let l := Dict.atIndex idx
  match arrayLen l with
  | some n => (List.range n).map (· + 1)
  | none => (l.map (·.info.sub)).mergeSort (· ≤ ·)

/-- The principal may read a row: some field, and a tenant its own rows only. -/
def State.mayReadRow (s : State) (pr : Principal) (idx row : Nat) : Bool :=
  (match pr with
    | .tn p => s.ownRow p idx row
    | _ => true) && (Dict.atIndex idx).any fun o => s.holds pr o 1

/-- The rows that a walk from a key meets. -/
def State.walkRows (s : State) (pr : Principal) (idx start count : Nat) : List Nat :=
  ((s.rowKeys idx).filter fun r => start ≤ r && s.mayReadRow pr idx r).take count

/-- The addresses that a BLOCK_READ names. -/
def State.blockAddrs (s : State) (pr : Principal) (a : ObjAddr) (count mode : Nat) : List ObjAddr :=
  if mode = 0 then
    (((subsAt a.idx).filter (a.sub ≤ ·)).take count).map fun n => { a with sub := n }
  else
    (s.walkRows pr a.idx (a.row.getD 0) count).flatMap fun r =>
      if mode = 1 then [{ a with row := some r }]
      else (subsAt a.idx).map fun n => { idx := a.idx, sub := n, row := some r }

/-- The addresses whose entries fit into a number of bytes. -/
def State.fitting (s : State) (pr : Principal) : Nat → List ObjAddr → List ObjAddr
  | _, [] => []
  | room, a :: as =>
    let n := s.entryBytes pr a
    if n ≤ room then a :: s.fitting pr (room - n) as else []

def execBlockRead (t : Time) (req : Req) (start : ObjAddr) (count mode : Nat) (s : State) : Res :=
  unit s (Instr.blockRead t req start count mode).wf
    ((s.at t).hexsum req fun s =>
      let pr := s.principal req.path
      let table := (Dict.rows start.idx).isSome
      if 2 < mode then refuse 0x0301 s
      else if (mode ≠ 0 ∧ !(table && start.row.isSome)) ∨ (Dict.atIndex start.idx).isEmpty then
        ok (0 :: bodyOf [s.readEntry pr req.active start]) s
      else
        let all := s.blockAddrs pr start count mode
        let fit := s.fitting pr (req.path.limit - 16) all
        let (l, s) := s.readAll req fit
        ok (b2n (decide (fit.length < all.length)) :: bodyOf l) s)

/-! ## WRITE and ROW_WRITE (R318, R325) -/

/-- A WRITE: without offers a write set; with them, the set with PIP_PERIOD's request (R43, R316). -/
def State.writeMsg (s : State) (req : Req) (offers : List Time) (entries : List WEntry) : Nat × List Nat × State :=
  let pr := s.principal req.path
  if offers.isEmpty then s.writeSet req entries
  else if 32 < entries.length then refuse 0x0302 s
  else match s.writeAll s pr offers 0 entries with
    | .error (c, i) => (c, [i], s)
    | .ok t =>
      match entries.reverse.findIdx? (·.addr.idx = 0x2001) with
      | none =>
        let c := s.checkOffers offers
        if c ≠ 0 then (c, [0], s) else ok [t.applyPipOf s, 0xFFFFFFFF] t
      | some k =>
        let i := entries.length - 1 - k
        match entries[i]? with
        | none => ok [t.applyPipOf s, 0xFFFFFFFF] t
        | some e =>
          match t.writePeriod pr offers e with
          | (0, body, u) => ok [t.applyPipOf s, body.getD 1 0] u
          | (c, _, _) => (c, [i], s)

def execWrite (t : Time) (req : Req) (offers : List Time) (entries : List WEntry) (s : State) : Res :=
  unit s (Instr.write t req offers entries).wf
    ((s.at t).hexsum req fun s => s.writeMsg req offers entries)

def execRowWrite (t : Time) (req : Req) (addr : ObjAddr) (entries : List WEntry) (s : State) : Res :=
  unit s (Instr.rowWrite t req addr entries).wf
    ((s.at t).hexsum req fun s =>
      if addr.row.isNone || entries.any fun e => e.addr.idx ≠ addr.idx || e.addr.row ≠ addr.row then refuse 0x0302 s
      else s.writeSet req entries)

/-! ## Subscriptions and ABORT (R328, R329) -/

/-- The first code of addresses that may not be read. -/
def State.addrsCode (s : State) (pr : Principal) (as : List ObjAddr) : Nat :=
  firstCode (as.map fun a =>
    let e := s.readEntry pr false a
    if e.2.1 = 0x80 then e.2.2.2 else 0)

/-- A subscription made, changed or cancelled. -/
def State.subscribe (s : State) (req : Req) (id period : Nat) (addrs : List ObjAddr) : Nat × List Nat × State :=
  let mine := s.subs.filter fun (x : SubH) => x.path = req.path
  let known := mine.any fun (x : SubH) => x.id = id
  let rest := s.subs.filter fun (x : SubH) => !(x.path = req.path && x.id = id)
  if period = 0 then
    if known then ok [id] { s with subs := rest } else refuse 0x0102 s
  else
    let code := firstCode [codeIf (decide (1024 < period)) 0x0301, codeIf (decide (16 < addrs.length)) 0x0302,
      codeIf (id ≠ 0 && !known) 0x0102, s.addrsCode (s.principal req.path) addrs,
      codeIf (id = 0 && (decide (8 ≤ mine.length) || decide (256 ≤ s.subs.length))) 0x0602]
    if code ≠ 0 then refuse code s
    else if id = 0 then
      let (n, s) := s.pickFree ((s.subs.map (·.id)).mergeSort (· ≤ ·)) 1 65535
      ok [n] { s with subs := s.subs ++ [{ id := n, path := req.path, period := period, addrs := addrs }] }
    else
      ok [id] { s with subs := s.subs.map fun (x : SubH) =>
        if x.path = req.path ∧ x.id = id then { x with period := period, addrs := addrs } else x }

def execSubscribe (t : Time) (req : Req) (subId period : Nat) (addrs : List ObjAddr) (s : State) : Res :=
  unit s (Instr.subscribe t req subId period addrs).wf
    ((s.at t).hexsum req fun s => s.subscribe req subId period addrs)

/-- A tag of a path belongs to a request that is answered or runs. -/
def State.tagKnown (s : State) (path : Path) (tag : Nat) : Bool :=
  (s.cache.any fun (a : Answer) => a.path = path && a.tag = tag) ||
    (match s.rsvJob with
      | some (r, _, _) => r.path = path && r.tag = tag
      | none => false)

/-- ABORT (R329). Every request is accepted as it arrives, so none waits to be dropped. -/
def State.abort (s : State) (req : Req) (target kind : Nat) : Nat × List Nat × State :=
  let isIt := fun x : SubH => x.path = req.path && x.id = target
  if kind = 1 then
    if s.subs.any isIt then ok [0] { s with subs := s.subs.filter fun x => !isIt x } else ok [2] s
  else if kind = 0 ∧ s.tagKnown req.path target then ok [1] s
  else ok [2] s

def execAbort (t : Time) (req : Req) (target kind : Nat) (s : State) : Res :=
  unit s (Instr.abort t req target kind).wf
    ((s.at t).hexsum req fun s => s.abort req target kind)

/-! ## Sessions (R320, R321) -/

/-- Row of 1810 that authenticates a client. -/
def State.anchorOf (s : State) (hash : Nat) : Option Nat :=
  (List.range 16).find? fun n => s.get .TRUST_VALID n = 1 && s.get .TRUST_HASH n = hash

/-- Free rows of 1800 among the sessions, or among the endpoints. -/
def State.freeSessions (s : State) (lo : Nat) : List Nat :=
  ((List.range 16).map (· + lo)).filter fun n => s.get .SESSION_STATE n = 0

/-- A row of 1800 opens. -/
def State.openSession (s : State) (n principal transport peer anchor : Nat) : State :=
  let s := (((s.put .SESSION_STATE n 2).put .SESSION_PRINCIPAL n principal).put .SESSION_TRANSPORT n transport)
  let s := ((s.put .SESSION_PEER n peer).put .SESSION_OPENED n s.now).put .SESSION_REQUESTS n 0
  { s with sessions := s.sessions.set n { anchor := anchor, last := s.now },
           cache := s.cache.filter fun (a : Answer) => a.path.session ≠ some n }

/-- The chip answers a peer on an address of its own: the link-local one, or a static one that is not 0 (R321). -/
def State.answersTo (s : State) (peer : Nat) : Bool :=
  if peerV4 peer then s.get .MGMT_IPV4_ADDR ≠ 0 else peerLocal peer || s.get .MGMT_IPV6_ADDR ≠ 0

/-- A handshake that meets every condition of R320. -/
def State.handshakeOk (s : State) (chainLen : Nat) (optionsOk sigOk cookie : Bool) (peer : Nat) : Bool :=
  s.odtakuUp && bit (s.get .HEXSUM_ENABLE) 0 && s.get .MGMT_ETH_MODE ≠ 0 && optionsOk && sigOk && cookie &&
    1 ≤ chainLen && chainLen ≤ 4 && s.answersTo peer

/-- DTLS_HANDSHAKE (R320). -/
def State.handshake (s : State) (hash chainLen : Nat) (optionsOk sigOk cookie : Bool) (peer : Nat) : State :=
  match s.anchorOf hash with
  | none => s.event 320 [peer]
  | some a =>
    if !s.handshakeOk chainLen optionsOk sigOk cookie peer ∨ (s.freeSessions 0).isEmpty then s.event 320 [peer]
    else
      let rows := s.freeSessions 0
      let (k, s) := s.pick rows.length
      s.openSession (rows.getD k 0) (s.get .TRUST_PRINCIPAL a) 0 peer a

def execDtlsHandshake (t : Time) (anchorHash chainLen : Nat) (optionsOk sigOk cookie : Bool) (peer : Nat)
    (s : State) : Res :=
  unit s (Instr.dtlsHandshake t anchorHash chainLen optionsOk sigOk cookie peer).wf
    ((s.at t).handshake anchorHash chainLen optionsOk sigOk cookie peer)

def execSessionIdleTimeout (t : Time) (session : Nat) (s : State) : Res :=
  let s1 := s.at t
  let late := (s1.sessions.getD {} session).last + ms (1000 * s1.get .HEXSUM_IDLE_TIMEOUT) ≤ s1.now
  unit s (Instr.sessionIdleTimeout t session).wf
    (if session < 16 ∧ s1.get .SESSION_STATE session ≠ 0 ∧ late then s1.closeSession session else s1)

def execSessionClose (t : Time) (req : Req) (session : Nat) (s : State) : Res :=
  unit s (Instr.sessionClose t req session).wf
    ((s.at t).invoke req .SESSION_CLOSE (some session) fun s => ok [] (s.closeSession session))

def execTrustAnchorWrite (t : Time) (req : Req) (anchor sub ty len value : Nat) (s : State) : Res :=
  unit s (Instr.trustAnchorWrite t req anchor sub ty len value).wf
    ((s.at t).hexsum req fun s =>
      s.writeSet req [{ addr := { idx := 0x1810, sub := sub, row := some anchor }, ty := ty, octets := beBytes value len }])

def execMgmtAddressWrite (t : Time) (req : Req) (sub ty len value : Nat) (s : State) : Res :=
  unit s (Instr.mgmtAddressWrite t req sub ty len value).wf
    ((s.at t).hexsum req fun s =>
      s.writeSet req [{ addr := { idx := 0x1802, sub := sub }, ty := ty, octets := beBytes value len }])

end Sys2Proof.Machine
end

