-- ==== Sys2Proof/Machine/Profile.lean ====
section
/-! DEFINITION. Profiles as shared operations: what a save takes, what a load and a switch do (R331 to
R336). -/

namespace Sys2Proof.Machine

open Sys2Proof

/-- The rows of an object that a save takes. -/
def State.saveRows (s : State) (o : Obj) : List Nat :=
  (nub ((s.rowsOf o).keys ++ (s.pendB.filter (·.obj = o)).map (·.row))).filter fun r => s.saveVal o r ≠ o.default r

/-- The contents that a save takes now (R333): every profile-stored value that is not the default. -/
def State.takeProfile (s : State) : ProfileH :=
  { vals := profObjs.flatMap fun o => (s.saveRows o).map fun r => (o, r, s.saveVal o r) }

/-- PROF_CHECK of contents (R333). -/
def ProfileH.crc (p : ProfileH) : Nat :=
  Config.profileCrc (p.vals.map fun v => (v.1.ctorIdx, v.2.1, v.2.2)) % 2 ^ 32

/-- A profile is valid: it holds contents and its check agrees (R332). -/
def State.profileValid (s : State) (n : Nat) : Bool :=
  s.get .PROF_VALID n = 1 && s.get .PROF_CHECK n = (s.profiles.getD {} n).crc

/-- A save, an erase or a switch runs (R333, R336). -/
def State.storeBusy (s : State) : Bool := s.storeOp.isSome || s.switching

/-! ## Comparison (R334) -/

/-- Bit of PS_DIFF_CLASS of an apply class. -/
def Cls.bit : Cls → Nat
  | .L => 0
  | .P => 1
  | .E => 2
  | .Q => 3
  | .B => 4

/-- PS_DIFF_CLASS of one chip. -/
def State.diffClasses (s : State) (node n : Nat) : Nat :=
  if node = s.node then maskOf (nub ((s.profileDiff (s.profiles.getD {} n)).map fun d => d.1.info.cls.bit))
  else Config.remote node Obj.PS_DIFF_CLASS.ctorIdx n % 32

/-- PS_FIRST_QB of a differing value. -/
def qbWord (node : Nat) (d : Obj × Nat) : Nat :=
  let i := d.1.info
  let (sub, row) := match i.shape with
    | .arr _ => (d.2 + 1, 0)
    | _ => (i.sub, d.2)
  node * 2 ^ 56 + i.idx * 2 ^ 40 + sub * 2 ^ 32 + row

/-- The differing Q and B objects of one chip, as PS_FIRST_QB writes them. -/
def State.diffQb (s : State) (node n : Nat) : List Nat :=
  if node = s.node then
    ((s.profileDiff (s.profiles.getD {} n)).filter fun d => d.1.info.cls = .Q || d.1.info.cls = .B).map (qbWord node)
  else if s.diffClasses node n / 8 = 0 then [] else [Config.remote node Obj.PS_FIRST_QB.ctorIdx n % 2 ^ 64]

/-- The chips that differing grafts and windows of this chip touch (R75, R101). -/
def State.diffNodes (s : State) (n : Nat) : List Nat :=
  let p := s.profiles.getD {} n
  (s.profileDiff p).flatMap fun d =>
    let (o, r) := d
    let host := fun q : Nat => s.get .HOST_NODE q
    if o.info.idx = 0x4100 then
      [host (s.get .PARTITION r), host (p.val .PARTITION r), s.get .FN_NODE (s.get .GFID r), s.get .FN_NODE (p.val .GFID r)]
    else if o.info.idx = 0x5200 then
      host (r / 256) :: [s.locNode (s.get .PW_TARGET r), s.locNode (p.val .PW_TARGET r)]
    else if o.info.idx = 0x5410 then [s.locNode (s.get .MC_TARGET r), s.locNode (p.val .MC_TARGET r)]
    else []

/-! ## Grafts and windows of a profile (R332, R335) -/

/-- Objects that a profile's load holds back for the first kind-3 epoch. -/
def heldBack : List Obj := graftFields ++ windowObjs

/-- Fields of a graft row staged from values, and the graft applied where the row names one. -/
def State.graftFrom (s : State) (vals : List Held) (g : Nat) : State :=
  let s := if (s.grafts.getD {} g).inForce then s.removeGraft g else s
  let mine := vals.filter fun h => h.row = g && graftFields.contains h.obj && h.obj ≠ .ACTION
  let s : State := { s with staged := (s.staged.filter fun (h : Held) => !(h.row = g && graftFields.contains h.obj)) ++ mine }
  if s.newest .PARTITION g < 4096 then s.applyGraft g else (s.commitRow graftFields g).graftTo g 0

/-- Windows as an epoch leaves them: the grant pairs follow, and no window stays void by an earlier
row (R100, R101). -/
def State.windowsFrom (s : State) (vals : List Held) : State :=
  let mine := vals.filter fun h => windowObjs.contains h.obj
  let s := mine.foldl (fun s h => s.put h.obj h.row h.val) s
  let rows := (mine.filter fun h => h.obj.info.idx = 0x5200).map (·.row)
  let s := { s with voids := s.voids.filter fun k => !rows.contains k }
  { s with grantPairs := s.derivePairs }

/-- What the first kind-3 epoch applies of a loaded profile (R332): grafts, then windows. -/
def State.takeFirst (s : State) : State :=
  if s.firstEpoch.isEmpty then s
  else
    let l := s.firstEpoch
    let s := { s with firstEpoch := [] }
    let gs := nub ((l.filter fun h => graftFields.contains h.obj).map (·.row))
    (gs.foldl (fun s g => s.graftFrom l g) s).windowsFrom l

/-! ## Units with differing Q objects (R335) -/

/-- A port is taken to TRAIN_STATE 0 with no partition on it (3000, R265, R262). -/
def State.quietPort (s : State) (port : Nat) : State :=
  if s.isHost port then s.hostDown port
  else if s.isDevice port then
    let s := (s.linkLost port).deviceGone s.node port 0
    s.updPport port fun h => { h with up := false }
  else if s.isFabric port then
    let s := if s.get .OL_STATE port ≠ 0 then s.linkDown port 1 else s
    s.toStage port 0
  else s

/-- The ports, partitions and channels that a differing Q object of this chip takes down. -/
def qPorts (d : Obj × Nat) : List Nat :=
  let i := d.1.info.idx
  if i = 0x3000 ∨ i = 0x3100 ∨ i = 0x3200 ∨ i = 0x3600 then [d.2]
  else if i = 0xE020 then (List.range 64).map (· + 64 * d.2)
  else []

/-- A channel with a differing Q object is powered off and starts again at state 0 (R279). -/
def State.quietSlot (s : State) (c : Nat) : State :=
  if [2, 3, 4].contains (s.get .SP_STATE c) then s.slotEnable c 0 else s

/-- Every differing Q value applied: the units are quiesced, the values put, the units released. -/
def State.applyQ (s : State) (l : List Change) : State :=
  let ds := l.map fun c => (c.1, c.2.1)
  let ports := (nub (ds.flatMap qPorts)).filter fun p => s.get .PORT_ROLE p ≠ 0
  let parts := rowsIn l [.HOST_NODE, .HOST_PORT, .VDSB_COUNT, .FORERUNNER_MODE, .MPS_LIMIT]
  let slots := rowsIn l [.SP_SENSE_GAIN, .SP_VSENSE_RATIO]
  let s := ports.foldl State.quietPort s
  let s := parts.foldl (fun s p => match s.ownHostPort p with
    | some port => s.hostDown port
    | none => s.partReset p) s
  let s := slots.foldl State.quietSlot s
  let gone := (rowsIn l [.PORT_ROLE]).filter fun p => s.get .PORT_ROLE p = 3
  let s := l.foldl (fun s c => s.put c.1 c.2.1 c.2.2) s
  let s := (gone.filter fun p => s.get .PORT_ROLE p ≠ 3).foldl State.dropFabric s
  let s := (rowsIn l [.SRIOV_NUMVFS]).foldl (fun s g => s.setVfs g (s.get .SRIOV_NUMVFS g)) s
  let s := parts.foldl (fun s p => if s.get .PARTITION_STATE p = 0 then s.rebind p else s) s
  let s := (slots.filter fun c => s.get .SP_ENABLE c = 1 && !s.slotHeld c).foldl (fun s c => s.slotEnable c 1) s
  ports.foldl (fun s p => if s.get .PORT_ROLE p = 0 then s.portPark p else s.portStart p) s

/-! ## Ports that the power cap parks (R429) -/

/-- A port is parked at cap step 11; its role comes back when the step is undone. -/
def State.capPark (s : State) (port : Nat) : State :=
  let role := s.get .PORT_ROLE port
  let s := s.quietPort port
  let s := s.updLink port fun h => { h with wanted := none, pushed := false }
  let s := { (s.put .WITHDRAWN port 0) with capParked := s.capParked ++ [(port, role)] }
  ((s.portPark port).put .PORT_ROLE port 0).perstJudge (clusterOf port)

/-- What a fabric port that is withdrawn to be parked wants: no request at all. -/
def parkMsg : Ctl := { op := 0 }

end Sys2Proof.Machine
end

