-- ==== Sys2Proof/Machine/ExecProfile.lean ====
section
/-! DEFINITION. Meanings of the profile commands (R333 to R336). -/

namespace Sys2Proof.Machine

open Sys2Proof

/-! ## Saves and erasures (R333) -/

/-- PROFILE_SAVE: the values are taken at the first edge more than 5 us later. -/
def State.profileSave (s : State) (n : Nat) : Nat × List Nat × State :=
  let code := firstCode [codeIf (decide (3 < n)) 0x0301, codeIf s.storeBusy 0x0501]
  if code ≠ 0 then refuse code s
  else ok [] { s with storeOp := some { n := n, save := true, pip := s.pipAfter s.now (us 5) } }

def execProfileSave (t : Time) (req : Req) (n : Nat) (s : State) : Res :=
  unit s (Instr.profileSave t req n).wf
    ((s.at t).invoke req .PROFILE_SAVE none fun s => s.profileSave n)

/-- PROFILE_ERASE. -/
def State.profileErase (s : State) (n : Nat) : Nat × List Nat × State :=
  let code := firstCode [codeIf (decide (3 < n)) 0x0301, codeIf (n = s.get .ACTIVE_PROFILE) 0x0401,
    codeIf s.storeBusy 0x0501]
  if code ≠ 0 then refuse code s else ok [] { s with storeOp := some { n := n, save := false } }

def execProfileErase (t : Time) (req : Req) (n : Nat) (s : State) : Res :=
  unit s (Instr.profileErase t req n).wf
    ((s.at t).invoke req .PROFILE_ERASE none fun s => s.profileErase n)

/-- The word that advances PROF_GENERATION is written: the new contents replace the old. -/
def State.profileStored (s : State) (n : Nat) (p : ProfileH) : State :=
  let s := { s with storeOp := none, profiles := s.profiles.putD {} n p }
  let s := ((s.put .PROF_VALID n 1).put .PROF_SAVED n s.now).put .PROF_CHECK n p.crc
  s.bump .PROF_GENERATION n

/-- An erase is complete. -/
def State.profileEmptied (s : State) (n : Nat) : State :=
  let s := { s with storeOp := none, profiles := s.profiles.erase n }
  (s.put .PROF_VALID n 0).put .PROF_CHECK n 0

/-- A save or an erase completes; a save only after its values were taken (R333). -/
def execProfileStoreComplete (t : Time) (s : State) : Res :=
  let s1 := s.at t
  unit s (Instr.profileStoreComplete t).wf
    (match s1.storeOp with
      | some op =>
        match op.save, op.taken with
        | true, some p => s1.profileStored op.n p
        | true, none => s1
        | false, _ => s1.profileEmptied op.n
      | none => s1)

/-! ## Switches (R334) -/

/-- The chips that a switch names. -/
def State.named (s : State) (nodes : Nat) : List Nat := if nodes = 0 then s.live else bitList nodes 32

/-- The profile is valid on a chip. -/
def State.validOn (s : State) (node n : Nat) : Bool :=
  if node = s.node then s.profileValid n else Config.remote node Obj.PROF_VALID.ctorIdx n = 1

/-- PROFILE_SWITCH: comparison, checks and the kind-1 request. -/
def State.profileSwitch (s : State) (offers : List Time) (n force nodes : Nat) : Nat × List Nat × State :=
  let named := s.named nodes
  let c1 := firstCode [codeIf (decide (3 < n) || decide (1 < force)) 0x0301,
    codeIf (named.any fun k => !s.live.contains k) 0x0102, codeIf (named.any fun k => !s.validOn k n) 0x0102]
  if c1 ≠ 0 then refuse c1 (s.put .PS_RESULT 0 c1)
  else
    let cls := named.foldl (fun m k => m ||| s.diffClasses k n) 0
    let qb := (named.flatMap fun k => s.diffQb k n).foldl min (2 ^ 64 - 1)
    let s := (s.put .PS_DIFF_CLASS 0 cls).put .PS_FIRST_QB 0 qb
    let units := unitsOf (nub (named ++ (s.diffNodes n).filter (· < 32)))
    let c2 := firstCode [codeIf (decide (8 ≤ cls) && force = 0) 0x0401,
      codeIf (s.epochsRefused || s.get .PAIR_B_STATE ≠ 0) 0x0404, s.checkOffers offers,
      codeIf (named.contains s.node && s.storeBusy) 0x0501, codeIf (s.unitsBusy units) 0x0602]
    let s := s.put .PS_RESULT 0 c2
    if c2 ≠ 0 then refuse c2 s else s.openFor 1 offers units (.profile n force (maskOf named))

def execProfileSwitch (t : Time) (req : Req) (offers : List Time) (n force nodes : Nat) (s : State) : Res :=
  unit s (Instr.profileSwitch t req offers n force nodes).wf
    ((s.at t).invoke req .PROFILE_SWITCH none fun s => s.profileSwitch offers n force nodes)

end Sys2Proof.Machine
end

