-- ==== Sys2Proof/Machine/Edge.lean ====
section
/-! DEFINITION. What a pip edge does, part by part (R38, R40, R44, R50, R60, R61, R78, R132, R151, R167, R181,
R269, R300, R305, R328, R333, R396, R400, R408, R413 to R415). -/

namespace Sys2Proof.Machine

open Sys2Proof

/-! ## The snapshot bank (R408) -/

/-- The statistics that every edge copies. -/
def snapObjs : List Obj :=
  [.INGRESS_REFUSALS, .EGRESS_REFUSALS, .HOST_RX_TLPS, .HOST_RX_BYTES, .HOST_TX_TLPS, .HOST_TX_BYTES, .RED_TLPS,
   .TAGS_LIVE, .TAGS_QUARANTINED, .CPL_TIMEOUTS, .UNEXPECTED_CPLS, .ORDER_HOLDS, .UR_GENERATED,
   .FQ_CELLS_ONCHIP, .FQ_CELLS_SPILLED, .SC_TX_TLPS, .SC_TX_BYTES, .SC_DISCARDS, .CELLS_USED, .SHARED_USED,
   .POOL_DENIALS, .RSV_ACCEPTED, .RSV_HELD, .RSV_OVERSIZE, .RSV_LATE, .TWIN_DUPLICATES, .TWIN_LOST,
   .TWIN_WINDOW_DISCARDS, .FLITS_REPLAYED, .FEC_CORRECTED, .BAD_FLITS]

/-- Rows of a statistic that may differ from its default. -/
def State.snapRows (s : State) (o : Obj) : List Nat :=
  match o with
  | .TAGS_LIVE | .TAGS_QUARANTINED => nub (s.tags.map (·.2.part))
  | .FQ_CELLS_ONCHIP | .FQ_CELLS_SPILLED => s.queues.map (·.2.num)
  | .CELLS_USED | .SHARED_USED => nub (s.cells.map fun c => c.2 % 2 ^ 14)
  | o => (s.rowsOf o).keys

/-- The values of the statistics now. -/
def State.snapNow (s : State) : List (Obj × Tab Nat) :=
  (snapObjs.map fun o =>
    (o, (s.snapRows o).foldl (fun (t : Tab Nat) r => t.putD (o.default r) r (s.shown o r)) [])).filter
      fun c => !c.2.isEmpty

/-- A value of a bank. -/
def bankVal (b : List (Obj × Tab Nat)) (o : Obj) (row : Nat) : Nat := (column b o).getD (o.default row) row

/-! ## Shadowed values (R44, R211, R305, R406) -/

/-- The last value of each object's row. -/
def lastOf (l : List Held) : List Change :=
  l.foldl (fun acc h => (acc.filter fun c => !(c.1 = h.obj && c.2.1 = h.row)) ++ [(h.obj, h.row, h.val)]) []

/-- No husk holds a partition: neither its own nor its host port's (R72). -/
def State.unhusked (s : State) (p : Nat) : Bool :=
  !s.husked (partRow p) && !(match s.ownHostPort p with
    | some port => s.husked port
    | none => false)

/-- A partition that no husk holds any more becomes active, unless a reset that fell during the husk is not
complete (R72, R397). -/
def State.releasePart (s : State) (p : Nat) : State :=
  if s.get .PARTITION_STATE p = 3 && !(s.parts.getD {} p).resetInHusk && s.unhusked p then s.activate p true else s

/-- An accepted release of a husk applies (R72, R262, R305). A partition whose reset is not complete stays
in state 3 until it is. -/
def State.releaseHusk (s : State) (row : Nat) : State :=
  if s.get .HUSK_STATE row ≠ 2 then s
  else
    let mine := (s.log.filter fun r => r.state = 0 &&
      ((r.action = 1 && r.err.kind = 2 && r.err.idx = row) || (r.action = 2 && partRow r.err.idx = row))).map (·.seq)
    let s := (mine.foldl State.closeSeq s).put .HUSK_STATE row 0
    let s :=
      if row < 512 then
        if s.isHost row then
          match s.partOfPort row with
          | some p => s.releasePart p
          | none => s
        else if !s.isDevice row then s
        else if (s.pport row).up then s.put .DP_STATE row 3
        else if !s.presentAt row then s.put .DP_STATE row 0
        else if (s.perstH (clusterOf row)).asserted then s.put .DP_STATE row 1
        else (s.put .DP_STATE row 2).startTraining row
      else
        s.releasePart (row - 0x1000)
    (s.huskAgain.getD [] row).foldl State.raise { s with huskAgain := s.huskAgain.erase row }

/-- Accepted class-P values due at this edge take effect, then the releases of husks. -/
def State.applyShadow (s : State) : State :=
  let (due, rest) := s.pendP.partition fun h => h.pip ≤ s.pip
  let s := { s with pendP := rest }
  let s := s.enforce (lastOf (due.filter fun h => h.obj ≠ .HUSK_RELEASE))
  ((due.filter fun h => h.obj = .HUSK_RELEASE).map (·.row)).foldl State.releaseHusk s

/-- A save takes its values (R333). -/
def State.saveDue (s : State) : State :=
  match s.storeOp with
  | some op =>
    if op.save ∧ op.taken.isNone ∧ op.pip ≤ s.pip then
      { s with storeOp := some { op with taken := some s.takeProfile } }
    else s
  | none => s

/-! ## Traffic (R132, R151, R167, R181) -/

/-- A granted reservation names the key of a flow queue (R132). -/
def State.namesKey (s : State) (r k : Nat) : Bool :=
  let dst := s.get .RSV_DST_NODE r
  let target := if dst = s.node then s.get .RSV_DST_PORT r else 512 + dst
  let port := s.get .RSV_SRC_PORT r
  let src := s.get .RSV_SRC_NODE r
  let p := keySource k
  keyClass k = s.get .RSV_CLASS r && keyTarget k = target &&
    (keyRoute k = 0 || (s.get .RSV_TWIN r = 1 && keyRoute k ≤ 2)) &&
    ((s.get .HOST_PORT p = port && s.get .HOST_NODE p = src) ||
      ((s.rowsOf .FN_PORT).keys.any fun g =>
        s.get .FN_PORT g = port && s.get .FN_NODE g = src && s.get .HELD_BY g = p)) &&
    (s.crossing [r]).contains r

/-- Queues empty throughout the pip that ended are released; an arrival at the edge's instant keeps its queue
(R132). -/
def State.releaseQueues (s : State) : State :=
  let rs := s.grantedRows
  { s with queues := s.liveQueues.map fun x =>
      if x.2.isEmpty && !x.2.spill && decide (x.2.usedPip + 1 < s.pip) && !rs.any fun r => s.namesKey r x.1 then
        (x.1, { x.2 with left := some s.now })
      else x }

/-- What a reservation's window holds is discarded with it. -/
def State.clearRsvH (s : State) (r : Nat) : State :=
  let cells := (s.rsv r).slots.flatMap fun x => x.2.2
  { s.freeCells cells with rsvs := s.rsvs.erase r }

/-- Released reservations whose TLPs have left go (R178). -/
def State.dropOld (s : State) : State :=
  let gone := (s.oldRsvs.filter fun x => x.till ≤ s.now).map (·.row)
  let s := (gone.filter fun r => !s.rsvGranted r).foldl State.clearRsvH s
  { s with oldRsvs := s.oldRsvs.filter fun x => s.now < x.till }

/-- Allowances refill, and TLPs held for them go on (R167); so do the chip's own packets that wait. -/
def State.refillRsvs (s : State) : State :=
  let s := s.dropOld
  let s := { s with rsvs := s.rsvs.map fun x => (x.1, { x.2 with bytes := 0, tlps := 0 }) }
  let held := (s.rx.flatMap fun c => (c.2.filter fun i => i.why = Wait.reservation).map (·.port))
  (nub (held ++ [ownPort])).foldl State.resume s

/-- A gate list starts at entry 0 (R181); a port without one holds the mask 0xFF. -/
def State.gateRestart (s : State) (e : Nat) : State :=
  match s.activeBank e with
  | some b =>
    { s with gates := s.gates.set e { mask := s.get .GL_ENTRY (glKey e b 0) % 256, entry := 0, start := s.now } }
  | none => { s with gates := s.gates.erase e }

/-- Cycles that start at this edge (R181). -/
def State.gateCycles (s : State) : State :=
  ((s.rowsOf .GL_ACTIVE_BANK).keys.filter fun e =>
    match s.activeBank e with
    | some b => (s.pip - s.get .PIP_ANCHOR_NUMBER) % s.get .GL_CYCLE_PIPS (e * 2 + b) = 0
    | none => false).foldl State.gateRestart s

/-! ## Keeper, grafts and partitions (R60, R61, R78, R81, R396) -/

/-- Own health since when (R61). A keeper or standby that is not healthy any more loses the role (R55). -/
def State.noteHealth (s : State) : State :=
  let ok := s.selfHealthy
  let s := if (s.get .KEEPER_ROLE = 1 ∨ s.get .KEEPER_ROLE = 2) ∧ !ok then s.refreshIsland else s
  { s with members := s.members.updD {} s.node fun (m : Member) =>
      { m with healthy := ok, since := if ok && !m.healthy then s.now else m.since } }

/-- An island that has had a keeper, holds the majority and knows none has its lowest healthy chip as keeper again
(R59). DEDUCED (log 35): where a neighbour names a keeper, that one is kept. -/
def State.reelect (s : State) : State :=
  let l := s.healthyHere
  let named := s.upPorts.any fun p => (s.hello p).keeper < 32
  match l.head? with
  | some n =>
    if s.get .KEEPER_NODE = 0xFF ∧ s.get .KEEPER_CHANGES ≠ 0 ∧ s.dupPorts.isEmpty ∧ s.majority l ∧ !named then
      s.setKeeper n
    else s
  | none => s

/-- The keeper's beacon, and what it owes; a keeper that is not healthy is silent (R55, R60). -/
def State.keeperEdge (s : State) : State :=
  let s := s.reelect
  if s.get .KEEPER_ROLE = 1 ∧ s.odtakuUp ∧ s.selfHealthy then
    let owed := (s.grafts.filter fun (g : Nat × GraftH) => g.2.waits).map (·.1)
    ((s.msg .beacon [s.node, s.pip]).pushIfWanted).openUngraft owed
  else s

/-- Attention buttons due, whose rows enter state 4, and bridges whose reset has completed (R75, R78, R79). -/
def State.bridgeEdge (s : State) : State :=
  let due := (s.grafts.filter fun (g : Nat × GraftH) =>
    match g.2.abpPip with
    | some n => decide (n ≤ s.pip)
    | none => false).map (·.1)
  let s := due.foldl (fun s g =>
    let s := (s.updGraft g fun h => { h with abpPip := none })
    if s.get .GRAFT_STATE g = 3 then
      (s.updBridge (s.get .PARTITION g) (s.get .VDSB g) fun b => { b with abp := true }).graftTo g 4
    else s) s
  ((s.bridges.filter fun (b : Nat × Bridge) => match b.2.resetting with
    | some t => decide (t < s.now)
    | none => false).map (·.1)).foldl (fun s k =>
    s.updBridge (k / 256) (k % 256) fun b =>
      { b with resetting := none, dllla := b.dllla || (s.fn0Shown (k / 256) (k % 256) && !b.blocks) }) s

/-- A partition reset is complete but for the edge (R72, R396, R397). -/
def State.resetOver (s : State) (p : Nat) : Bool :=
  let h := s.parts.getD {} p
  let st := s.get .PARTITION_STATE p
  ((st = 1 && !h.from0) || (st = 3 && s.unhusked p)) && !h.resets && s.hostUp p

/-- The partition becomes active; out of state 3 with change bits. -/
def State.resetEndsFor (s : State) (p : Nat) : State :=
  if s.resetOver p then s.activate p (s.get .PARTITION_STATE p = 3) else s

/-- Every partition whose reset is over. -/
def State.partitionEdge (s : State) : State := (s.rowsOf .PARTITION_STATE).keys.foldl State.resetEndsFor s

/-- Pair B follows pair A in a bank switch (R400). -/
def State.pairBEdge (s : State) : State :=
  if s.fw.pairBDue ∧ s.get .PAIR_A_STATE = 0 ∧ s.get .PAIR_B_STATE = 0 then
    let s := { s with fw := { s.fw with pairBDue := false } }
    let s := (s.updPair 1 fun h => { h with reloading := true, stoppedAt := s.now, stack := [] }).put .PAIR_B_STATE 0 1
    s.regrade 3
  else s

/-- Open corrected records, and contained ones without action, close (R300). -/
def State.closeRecords (s : State) : State :=
  ((s.log.filter fun (r : Rec) => r.state = 0 && r.cls ≤ 1 && r.action = 0 && r.time < s.now).map (·.seq)).foldl
    State.closeSeq s

/-! ## Management functions (R40, R269, R270) -/

/-- The host has enabled PTM on the management function: bit 0 of its PTM Control register (R40, log 11). -/
def State.ptmEnabled (s : State) (p : Nat) : Bool := bit (s.cfgRaw p 1 Config.ptmControl) 0

/-- The time outputs at an edge (R38): PIP_OUT, TREF_CLK_OUT, one of whose edges falls on every pip edge, and
TREF_PPS_OUT at a whole second. -/
def State.timeOut (s : State) : State :=
  let s := (s.emit (.pin 38 0 true)).emit (.pin 38 2 true)
  if s.now % ms 1000 = 0 then s.emit (.pin 38 1 true) else s

/-- PTM measurements of this pip: partition and offset (R40). -/
def State.hostPtm (s : State) (l : List (Nat × Int)) : State :=
  let good := l.filter fun x => x.1 < 4096 && s.hostUp x.1 && s.ptmEnabled x.1
  let s := ((s.rowsOf .HOST_PTM_VALID).keys.filter fun p => !(good.map (·.1)).contains p).foldl
    (fun s p => s.put .HOST_PTM_VALID p 0) s
  good.foldl (fun s x => (s.put .HOST_TIME_OFFSET x.1 (ofInt 64 x.2)).put .HOST_PTM_VALID x.1 1) s

/-- A 64-bit register read from a host address: the tail mirror of ring n (R268, R269). -/
def State.tailRead (s : State) (p n : Nat) : State :=
  let m := s.mf p
  if bit (m.ringCtrl n) 1 && s.get .MF_STATE p = 0 && s.get .PARTITION_STATE p = 2 then
    s.issue p { kind := .memRead, addr := m.ring64 n 0x18, byteCount := 8, tag := n }
  else s

/-- Management functions at an edge: tail mirrors, and vector 38 (R269, R270). -/
def State.mfEdge (s : State) : State :=
  let s := (s.mfs.map (·.1)).foldl (fun s p => (List.range 3).foldl (fun s n => s.tailRead p n) s) s
  ((s.rowsOf .MF_PIP_IRQ).filter fun (r : Nat × Nat) => r.2 = 1 && s.hostHere r.1).foldl (fun s r => s.msix r.1 38) s

/-! ## Subscriptions, telemetry and IPFIX (R328, R413 to R415) -/

/-- The entry that a push carries: a statistic from the bank, any other object as a READ gives it. -/
def State.pushEntry (s : State) (pr : Principal) (a : ObjAddr) : List Nat :=
  match s.resolve pr 1 a with
  | .obj o r =>
    if snapObjs.contains o then bodyOf [(o.info.ty.code, 0, o.info.ty.bytes, bankVal s.snapshot o r)] else bodyOf [s.readEntry pr false a]
  | _ => bodyOf [s.readEntry pr false a]

/-- A path takes a push: a mailbox only while MB_OUT is empty and no response waits for it (R327, log 91). -/
def State.pushFits (s : State) (path : Path) : Bool :=
  let free := fun row : Nat => s.get .MB_OUT_STATE row = 0 && !(s.mbox row).running
  match path with
  | .mailbox p => free p
  | .smMailbox => free smRow
  | _ => true

/-- The pushes due at this edge; PUSH_SEQ counts those that cannot be sent too. -/
def State.pushEdge (s : State) : State :=
  let n := s.pip % 2 ^ 32
  let due := s.subs.filter fun (x : SubH) => n % x.period = 0
  let s1 := { s with subs := s.subs.map fun (x : SubH) =>
    if n % x.period = 0 then { x with seq := (x.seq + 1) % 65536 } else x }
  if !s.odtakuUp then s1
  else due.foldl (fun s x =>
    if s.pathOpen x.path ∧ s.pushFits x.path then
      s.emit (.push x.path x.id x.seq n (x.addrs.flatMap (s.pushEntry (s.principal x.path))))
    else s) s1

/-- The difference of two counts of a width. -/
def delta (bits new old : Nat) : Nat := (new + 2 ^ bits - old % 2 ^ bits) % 2 ^ bits

/-- A telemetry entry from the bank (R413). -/
def State.telemetryWord (s : State) (p seq : Nat) (old : List Nat) : Nat :=
  let d := fun i bits : Nat =>
    let o := telemetryObjs.getD i .RED_TLPS
    delta o.info.ty.bits (bankVal s.snapshot o p) (old.getD i 0) % 2 ^ bits
  let spilled := ((s.queues.filter fun (q : Nat × Queue) => keySource q.1 = p).map fun (q : Nat × Queue) => q.2.spilled).sum
  seq * 2 ^ 480 + s.pip % 2 ^ 32 * 2 ^ 448 + d 0 48 * 2 ^ 400 + d 1 48 * 2 ^ 352 + d 2 32 * 2 ^ 320 +
    d 3 32 * 2 ^ 288 + d 4 32 * 2 ^ 256 + d 5 32 * 2 ^ 224 + d 6 32 * 2 ^ 192 + d 7 32 * 2 ^ 160 + d 8 32 * 2 ^ 128 +
    spilled % 2 ^ 32 * 2 ^ 96 + s.tagCount p false % 2 ^ 32 * 2 ^ 64 + s.get .HOST_TIME_OFFSET p

/-- Telemetry entries due at this edge (R413). -/
def State.telemetryEdge (s : State) : State :=
  ((s.rowsOf .MF_TELEMETRY_PERIOD).filter fun (r : Nat × Nat) =>
    r.2 ≠ 0 && s.pip % 2 ^ 32 % r.2 = 0 && s.hostHere r.1).foldl (fun s r =>
      let p := r.1
      let (seq, old) := s.telemetry.getD (0, []) p
      let w := s.telemetryWord p seq old
      let kept := ((seq + 1) % 2 ^ 32, telemetryObjs.map fun o => bankVal s.snapshot o p)
      let s := { s with telemetry := s.telemetry.set p kept }
      s.ringPush p 0 w) s

/-- The first open session of a collector's anchor (R414). -/
def State.ipfixSession (s : State) (c : Nat) : Option Nat :=
  let a := s.get .IPFIX_ANCHOR c
  let l := (List.range 16).filter fun n => s.get .SESSION_STATE n = 2 && (s.sessions.getD {} n).anchor = a &&
    s.get .SESSION_PRINCIPAL n ≤ 2 && s.get .SESSION_PRINCIPAL n ≠ 0
  l.foldl (fun acc n => match acc with
    | none => some n
    | some b => if s.get .SESSION_OPENED n < s.get .SESSION_OPENED b then some n else some b) none

/-- Data records of template 256: one per port and class (R415). -/
def State.records256 (s : State) (base : List (Obj × Tab Nat)) : List (List Nat) :=
  s.usedPorts.flatMap fun e => (List.range 8).map fun c =>
    let k := e * 8 + c
    let d := fun o : Obj => delta 64 (bankVal s.snapshot o k) (bankVal base o k)
    [s.now / 65536, k, d .SC_TX_BYTES, d .SC_TX_TLPS, d .SC_DISCARDS]

/-- Data records of template 257: one per partition of this chip (R415). -/
def State.records257 (s : State) (base : List (Obj × Tab Nat)) : List (List Nat) :=
  ((s.rowsOf .HOST_PORT).keys.filter s.hostHere).map fun p =>
    let d := fun o : Obj => delta o.info.ty.bits (bankVal s.snapshot o p) (bankVal base o p)
    [s.now / 65536, p, d .HOST_RX_BYTES, d .HOST_RX_TLPS, d .HOST_TX_BYTES, d .HOST_TX_TLPS,
     d .INGRESS_REFUSALS + d .EGRESS_REFUSALS]

/-- Records in runs of n. -/
def runsOf (n : Nat) : Nat → List (List Nat) → List (List (List Nat))
  | 0, _ => []
  | _, [] => []
  | fuel + 1, l => l.take n :: runsOf n fuel (l.drop n)

/-- A collector's export takes the bank (R414, R415). -/
def State.ipfixTake (s : State) (c : Nat) : State :=
  let h := s.ipfix.getD {} c
  let left := h.queue.length
  let s := if left = 0 then s else s.bump .IPFIX_DROPPED c left
  let bound := h.session.or (s.ipfixSession c)
  match bound with
  | none => { s with ipfix := s.ipfix.set c { h with queue := [] } }
  | some n =>
    let exports := if h.session = some n then h.exports else 0
    let mask := s.get .IPFIX_TEMPLATES c
    let r6 := if bit mask 0 then s.records256 h.base else []
    let r7 := if bit mask 1 then s.records257 h.base else []
    let msgs := (runsOf 27 r6.length r6).map (fun r => (256, r)) ++ (runsOf 19 r7.length r7).map fun r => (257, r)
    let q := (msgs.zip (List.range msgs.length)).map fun x => (decide (x.2 = 0) && exports % 64 = 0, x.1.1, x.1.2)
    { s with ipfix := s.ipfix.set c { h with session := some n, exports := exports + 1, queue := q, base := s.snapshot } }

/-- The exports due at this edge. -/
def State.ipfixEdge (s : State) : State :=
  ((List.range 4).filter fun c => s.get .IPFIX_ANCHOR c ≠ 0xFF && s.pip % 2 ^ 32 % s.get .IPFIX_PERIOD c = 0).foldl
    State.ipfixTake s

end Sys2Proof.Machine
end

