-- ==== Sys2Proof/Machine/ExecPip.lean ====
section
/-! DEFINITION. Meanings of the commands of the pip edge, the background engines, IPFIX export and
the rings (R41, R44, R50, R412, R414). -/

namespace Sys2Proof.Machine

open Sys2Proof

/-! ## The pip edge (R41, R44, R50) -/

/-- Queues, schedulers and reservations at an edge (R132, R151, R167, R181). -/
def State.trafficEdge (s : State) : State :=
  (((s.releaseQueues).refillRsvs).unparkAll fun _ => true).gateCycles

/-- Swapped settings and what they release (R44, R78, R117, R300, R333, R396). -/
def State.settingsEdge (s : State) : State :=
  ((({ s with storm := [], seenPip := [], paused := [] }.applyShadow).saveDue).partitionEdge).closeRecords

/-- What the chip sends at an edge (R41, R269, R328, R413, R414). -/
def State.reportEdge (s : State) : State := (((s.mfEdge).pushEdge).telemetryEdge).ipfixEdge

/-- The adaptive loops of the core-supply groups in AVS_MODE 1: steps of 5 mV, one per 5 us at most, within 700
and 800 mV; what a loop asks for is a free value (R420, log 73). -/
def State.setpoints (s : State) : State :=
  if s.get .AVS_MODE ≠ 1 then s
  else
    let d := s.P / us 5
    [8, 9, 10, 11, 14].foldl (fun s r =>
      let (k, s) := s.free
      s.put .VDD_SET_MV r (min 800 (max 700 (s.get .VDD_SET_MV r + 5 * (k % (2 * d + 1)) - 5 * d)))) s

/-- The chip's own work in the pip that closes, which no command reports: passes of the engines (R416),
corrected words of the HBM stacks and work units of the pairs (R51, R404). How many is a free value
(log 39). -/
def State.background (s : State) : State :=
  if s.boot ≠ .odtaku then s
  else
    let s := (List.range 6).foldl (fun s n => let (k, s) := s.free; s.bump .ENGINE_PASSES n k) s
    let s := (List.range 2).foldl (fun s n => let (k, s) := s.free; s.countStack n 0xA2 k) s
    let s := (List.range 2).foldl (fun s n =>
      if s.get (if n = 0 then .PAIR_A_STATE else .PAIR_B_STATE) ≠ 0 then s
      else let (k, s) := s.free; s.countControl (0xC0 + n) k) s
    s.setpoints

/-- The edge of the next pip: the statistics are copied first, as the closing pip left them (R408). -/
def State.nextEdge (s : State) (ptm : List (Nat × Int)) : State :=
  let s := { s with pip := s.pip + 1 }.background
  let s := { s with snapshot := s.snapNow }
  let s := ((s.settingsEdge.noteHealth).irqEdge 704).trafficEdge
  let s := (s.timeOut.bridgeEdge).keeperEdge
  ((s.hostPtm ptm).reportEdge).pairBEdge

def execPipEdge (ptm : List (Nat × Int)) (s : State) : Res :=
  unit s (Instr.pipEdge ptm).wf ((s.at (s.edge (s.pip + 1))).nextEdge ptm)

/-- Odtaku closes the set of shadowed values for the coming edge (R44). -/
def execShadowSetClose (t : Time) (s : State) : Res :=
  unit s (Instr.shadowSetClose t).wf
    (let s := s.at t; { s with closedPip := max s.closedPip (s.pipAt s.now + 1) })

/-- What a patrol scrub found (R298, R416): an error that ECC corrects in a memory of the region, or one that it
does not, in a queue context, link word, tag-table or route memory. -/
def State.scrubbed (s : State) (engine region wrong : Nat) : State :=
  if wrong = 0 ∨ 2 < engine then s
  else if wrong = 1 then
    (if engine = 2 then s.countStack (region - 12) 0xA2 1 else s).raise
      { code := 0x100C, kind := 1, idx := region, region := region }
  else if engine = 1 ∧ region < 12 then s.raise { code := 0x3001, kind := 1, idx := region, region := region }
  else s

/-- An engine pauses until the next edge (R50). `wrong` says what a scrub found in the pip: 0 no error, 1 errors
that ECC corrects, 2 one that it does not. -/
def execEngineBudgetExhausted (t : Time) (engine region wrong : Nat) (s : State) : Res :=
  let s1 := s.at t
  unit s (Instr.engineBudgetExhausted t engine region wrong).wf
    (if engineRuns engine region && !s1.pausedIn engine region then
        ({ s1 with paused := s1.paused ++ [(engine, region)] }).scrubbed engine region wrong
      else s1)

/-! ## IPFIX (R414, R415) -/

/-- The next message of a collector's snapshot leaves as a PUSH of one read entry. -/
def State.ipfixSend (s : State) (c : Nat) : State :=
  let h := s.ipfix.getD {} c
  match h.session, h.queue with
  | some n, (withTemplates, template, records) :: rest =>
    if !s.odtakuUp ∨ !s.pathOpen (.udp n) ∨ s.pausedIn 6 14 then s
    else
      let fields := [s.node, s.now / ns 1000000000, h.seq, b2n withTemplates, template] ++ records.flatten
      let v := Config.ipfixOctets fields
      let h1 : IpfixH :=
        { h with seq := (h.seq + records.length) % 2 ^ 32, pushSeq := (h.pushSeq + 1) % 65536, queue := rest }
      let s := { s with ipfix := s.ipfix.set c h1 }
      let s := (s.put .IPFIX_MESSAGE c v).bump .IPFIX_SENT c
      s.emit (.push (.udp n) (0xFF00 + c) h.pushSeq (s.pip % 2 ^ 32) [Obj.IPFIX_MESSAGE.info.ty.code, 0, v])
  | _, _ => s

def execIpfixMessageSend (t : Time) (c : Nat) (s : State) : Res :=
  unit s (Instr.ipfixMessageSend t c).wf ((s.at t).ipfixSend c)

/-! ## Ring batches (R269, R271, R412) -/

/-- Up to four staged entries of a ring, up to the ring's end, are written to host memory; then the head
mirror, and then the vector of the ring. -/
def State.ringBatch (s : State) (p n : Nat) : State :=
  let m := s.mf p
  let r := m.ring n
  let k := min (min 4 r.staged.length) (m.ringSize n - r.head % m.ringSize n)
  if k = 0 ∨ s.get .MF_STATE p ≠ 0 ∨ s.get .PARTITION_STATE p ≠ 2 ∨ !bit (m.ringCtrl n) 0 ∨
      s.pausedIn 6 (quadRegion (s.get .HOST_PORT p)) then s
  else
    let words := (r.staged.take k).foldl (fun a e => a * 2 ^ 512 + e) 0
    let head := (r.head + k) % m.ringSize n
    let s := s.issue p { kind := .memWrite, addr := m.ring64 n 0 + 64 * r.head, data := 64 * k, value := words }
    let s := s.updMf p fun m => { m with rings := m.rings.updD {} n fun r =>
      { r with staged := r.staged.drop k, head := head } }
    let s := if bit (m.ringCtrl n) 2 then
        s.issue p { kind := .memWrite, addr := m.ring64 n 0x20, data := 4, value := head }
      else s
    s.msix p (34 + n)

def execRingBatchWrite (t : Time) (p ring : Nat) (s : State) : Res :=
  unit s (Instr.ringBatchWrite t p ring).wf ((s.at t).ringBatch p ring)

end Sys2Proof.Machine
end

