-- ==== Sys2Proof/Machine/ExecRsv.lean ====
section
/-! DEFINITION. Meanings of the commands of reservations and gate lists (R176 to R183). -/

namespace Sys2Proof.Machine

open Sys2Proof

/-! ## Committing reservations (R176) -/

def execRsvActionWrite (t : Time) (req : Req) (r action : Nat) (s : State) : Res :=
  unit s (Instr.rsvActionWrite t req r action).wf
    ((s.at t).hexsum req fun s => s.writeSet req [entryOf .RSV_ACTION (some r) action])

/-- A row is staged for release: it holds a grant and RSV_ACTION 2 is staged (R176). -/
def State.releaseStaged (s : State) (r : Nat) : Bool := s.rsvGranted r && s.newest .RSV_ACTION r = 2

/-- The rows that a commit submits, in row-key order. -/
def State.stagedRsvs (s : State) : List Nat :=
  (s.rowsOf .RSV_STATE).keys.filter fun r => s.get .RSV_STATE r = 1 || s.releaseStaged r

/-- RSV_COMMIT is accepted: pair B begins admission, and the answer comes when it ends (R176). DESIGN CHOICE (log 86):
while an earlier admission still runs the command is refused with 0x0501. -/
def State.rsvCommit (s : State) (req : Req) (offers : List Time) : Option (Nat × List Nat) × State :=
  let rows := s.stagedRsvs
  let code := firstCode [s.mayInvoke req .RSV_COMMIT none, codeIf rows.isEmpty 0x0102,
    codeIf (s.epochsRefused || s.get .PAIR_B_STATE ≠ 0) 0x0404, s.checkOffers offers,
    codeIf s.rsvJob.isSome 0x0501]
  if code ≠ 0 then (some (code, []), s) else (none, { s with rsvJob := some (req, offers, rows) })

def execRsvCommit (t : Time) (req : Req) (offers : List Time) (s : State) : Res :=
  unit s (Instr.rsvCommit t req offers).wf
    ((s.at t).hexsumK req fun s => s.rsvCommit req offers)

/-- Fields of a row of 7000 that a commit carries. -/
def rsvFields : List Obj :=
  [.RSV_SRC_NODE, .RSV_SRC_PORT, .RSV_DST_NODE, .RSV_DST_PORT, .RSV_CLASS, .RSV_ADDR_BASE, .RSV_ADDR_SIZE_LOG2,
    .RSV_BYTES_PER_PIP, .RSV_TLPS_PER_PIP, .RSV_DEADLINE_REQ, .RSV_TWIN, .RSV_ACTION]

/-- The outcome of admission for one row (R176, R177). -/
def State.noteVerdict (s : State) (x : Nat × Verdict) : State :=
  let (r, v) := x
  let s := ((s.put .RSV_RESULT r v.code).put .RSV_REFUSE_DETAIL r (v.hop * 2048 + v.cause)).put
    .RSV_PATH_BOUND r v.bound
  s.put .RSV_STATE r (if v.code = 0 then 2 else 6)

/-- The chips on the paths of reservations. -/
def State.rsvNodes (s : State) (rs : List Nat) : List Nat :=
  nub (rs.flatMap fun r => (s.rsvPaths r).flatMap fun p => (p.getD []).map (·.1))

/-- Admission ends (R176): outcomes are written and the request is opened with the offers that still lie
3 × P ahead. -/
def State.admissionDone (s : State) (offers : List Time) (rows : List Nat) : Nat × List Nat × State :=
  let free := rows.filter s.releaseStaged
  let vs := s.admitRows s.grantedRows (rows.filter fun r => s.get .RSV_STATE r = 1)
  let won := (vs.filter (·.2.code = 0)).map (·.1)
  let offers := offers.filter fun e => s.now + 3 * s.P ≤ e
  let units := unitsOf (s.rsvNodes (won ++ free))
  let work : Work := .reservations (won ++ free)
    (won.flatMap fun r => rsvFields.map fun o => { obj := o, row := r, val := s.newest o r : Held })
  let busy := s.unitsBusy units
  let s := vs.foldl State.noteVerdict s
  let back := fun s : State => won.foldl (fun s r => s.put .RSV_STATE r 1) s
  if offers.isEmpty then refuse 0x0402 (back s)
  else if won.isEmpty ∧ free.isEmpty then refuse 0x0601 s
  else if busy then refuse 0x0602 (back s)
  else
    let (k, s) := s.openReq 3 offers units work
    ok [k] ((won ++ free).foldl (fun s r => s.put .RSV_REQUEST r k) s)

def execRsvAdmissionDone (t : Time) (s : State) : Res :=
  let s1 := s.at t
  unit s (Instr.rsvAdmissionDone t).wf
    (match s1.rsvJob with
      | some (req, offers, rows) =>
        if s1.get .PAIR_B_STATE ≠ 0 then s1
        else
          let (code, body, s2) := ({ s1 with rsvJob := none }).admissionDone offers rows
          s2.answer req code body
      | none => s1)

/-! ## Re-admission (R179) -/

/-- A granted reservation takes a state; an event names it on the change. -/
def State.rsvTo (s : State) (r st : Nat) : State :=
  if s.get .RSV_STATE r = st then s else (s.event 179 [r, st]).put .RSV_STATE r st

/-- Pair B runs the bound again for a reservation (R179). -/
def State.readmit (s : State) (r : Nat) : State :=
  let x := s.outcome r
  (s.put .RSV_PATH_BOUND r x.2).rsvTo r x.1

def execRsvReadmit (t : Time) (r : Nat) (s : State) : Res :=
  let s1 := s.at t
  let st := s1.get .RSV_STATE r
  unit s (Instr.rsvReadmit t r).wf
    (if (st = 3 ∨ st = 4) ∧ s1.get .PAIR_B_STATE = 0 then s1.readmit r else s1)

/-! ## Gate lists (R180 to R183) -/

/-- Entry and header fields of a bank, row port × 2 + bank of 7101, written in one set (R182). -/
def execGlBankWrite (t : Time) (req : Req) (bank : Nat) (entry length cycle : Option Nat) (value : Nat)
    (s : State) : Res :=
  let one := match entry with
    | some i => [entryOf .GL_ENTRY (some (glKey (bank / 2) (bank % 2) i)) value]
    | none => []
  unit s (Instr.glBankWrite t req bank entry length cycle value).wf
    ((s.at t).hexsum req fun s =>
      s.writeSet req (one ++ entriesOf (some bank) [(.GL_LENGTH, length), (.GL_CYCLE_PIPS, cycle)]))

/-- The staged banks of the island, as node and row of 7101 (R183). -/
def State.stagedBanks (s : State) : List (Nat × Nat) :=
  s.live.flatMap fun n =>
    ((if n = s.node then (s.rowsOf .GL_BANK_STATE).keys else List.range 1024).filter fun b =>
      s.orchGet .GL_BANK_STATE n b = 1).map fun b => (n, b)

/-- A staged bank's durations exceed its cycle. -/
def State.bankTooLong (s : State) (x : Nat × Nat) : Bool :=
  decide (s.glCycleAt x.1 (x.2 / 2) (x.2 % 2) (s.get .PIP_PERIOD) < s.glSumAt x.1 (x.2 / 2) (x.2 % 2))

/-- A cycle of N pips starts at the pip edge e (R181). -/
def State.cycleAt (s : State) (n : Nat) (e : Time) : Bool :=
  (s.pipAt e - s.get .PIP_ANCHOR_NUMBER) % n = 0

/-- At some offer a cycle of a switched port's staged or active bank does not start. -/
def State.misaligned (s : State) (x : Nat × Nat) (offers : List Time) : Bool :=
  offers.any fun e =>
    !s.cycleAt (s.glVal x.1 .GL_CYCLE_PIPS x.2) e ||
      (match s.activeBankAt x.1 (x.2 / 2) with
        | some a => !s.cycleAt (s.orchGet .GL_CYCLE_PIPS x.1 (x.2 / 2 * 2 + a)) e
        | none => false)

/-- Gate wait at a port through a switch of some banks: the worse of the staged bank alone and of one
cycle of the active bank before it (R183). DESIGN CHOICE (log 86): of two staged
banks of one port the second, which the first yields to at the same edge, counts. -/
def State.switchWait (s : State) (banks : List (Nat × Nat)) (n e c need : Nat) : Nat :=
  match (banks.filter fun x => x.1 = n && x.2 / 2 = e).getLast? with
  | some b =>
    let new := s.timelineAt n e (b.2 % 2)
    let lead := match s.activeBankAt n e with
      | some a => s.timelineAt n e a
      | none => []
    max (gateWait [] new c need) (gateWait lead new c need)
  | none => s.gateWaitAt n e c need

/-- A reservation uses a port that a switch changes. -/
def State.switched (s : State) (banks : List (Nat × Nat)) (r : Nat) : Bool :=
  (s.rsvPaths r).any fun p => (p.getD []).any fun h => banks.any fun x => x.1 = h.1 && x.2 / 2 = h.2

/-- L of a reservation over the paths that it has. -/
def State.boundHeld (s : State) (rs : List Nat) (r : Nat) (gw : Nat → Nat → Nat → Nat → Nat) : Nat :=
  (((s.rsvPaths r).filterMap id).map fun p => boundOf (s.hopTerms rs r gw p)).foldl max 0

/-- The first granted reservation that uses a switched port and that the switch would break (R183). -/
def State.blockedBy (s : State) (banks : List (Nat × Nat)) : Option Nat :=
  (s.grantedRows.filter (s.switched banks)).find? fun r =>
    let L := s.boundHeld s.grantedRows r (s.switchWait banks)
    decide (s.get .RSV_DEADLINE_GRANTED r < s.deadlineOf L) || decide (periodNs (s.get .PIP_PERIOD) < L)

/-- GATE_SWITCH (R183). Pair B computes the re-admission: DESIGN CHOICE (log 86), while it is stopped the command is
refused with 0x0404, as RSV_COMMIT is (R176). -/
def State.gateSwitch (s : State) (offers : List Time) : Nat × List Nat × State :=
  let banks := s.stagedBanks
  let blocked := s.blockedBy banks
  let units := unitsOf (nub (banks.map (·.1)))
  let code := firstCode [codeIf banks.isEmpty 0x0102,
    codeIf (s.epochsRefused || s.get .PAIR_B_STATE ≠ 0) 0x0404, s.checkOffers offers,
    codeIf (banks.any s.bankTooLong) 0x0301, codeIf (banks.any fun b => s.misaligned b offers) 0x0301,
    codeIf blocked.isSome 0x0601, codeIf (s.unitsBusy units) 0x0602]
  let s := (s.put .GS_RESULT 0 code).put .GS_BLOCKING_RSV 0
    (if code = 0x0601 then blocked.getD 0xFFFFFFFF else 0xFFFFFFFF)
  if code ≠ 0 then refuse code s
  else
    let mine := (banks.filter fun x => x.1 = s.node).map (·.2)
    let (k, s) := s.openReq 2 offers units (.gates mine)
    ok [k] (mine.foldl (fun s b => s.put .GL_BANK_STATE b 2) s)

def execGateSwitch (t : Time) (req : Req) (offers : List Time) (s : State) : Res :=
  unit s (Instr.gateSwitch t req offers).wf
    ((s.at t).invoke req .GATE_SWITCH none fun s => s.gateSwitch offers)

end Sys2Proof.Machine
end

