-- ==== Sys2Proof/Machine/EpochWork.lean ====
section
/-! DEFINITION. What an applied epoch does, kind by kind (R36, R43, R72, R75, R80, R87, R92, R93, R101, R123,
R175, R179, R183, R211, R213, R221, R335, R400). -/

namespace Sys2Proof.Machine

open Sys2Proof

/-! ## What every kind-3 epoch leaves (R80, R87, R101, R116) -/

/-- Every row of 5020 replaced: GFID, node, port (R87, R92). -/
def State.setLocs (s : State) (l : List (Nat × Nat × Nat)) : State :=
  let s := { s with objs := setColumn (setColumn s.objs .LOC_NODE []) .LOC_PORT [] }
  l.foldl (fun s x => (s.put .LOC_NODE x.1 x.2.1).put .LOC_PORT x.1 x.2.2) s

/-- The locator follows 4200 and the bindings of 4000 (R87). -/
def State.relocate (s : State) : State :=
  let fns := (s.rowsOf .FN_NODE).map fun x => (x.1, x.2, s.get .FN_PORT x.1)
  let hosts := ((s.rowsOf .HOST_NODE).filter fun x => s.get .HOST_PORT x.1 < 512).map fun x =>
    (hostGfid x.1, x.2, s.get .HOST_PORT x.1)
  s.setLocs (fns ++ hosts)

/-- Every target of a window is owned by its grantor (R99, R104). -/
def State.stillOwned (s : State) (k : Nat) : Bool :=
  let t := s.get .PW_TARGET k
  if s.get .PW_KIND k = 0 then s.owned t (s.get .PW_GRANTOR k)
  else (List.range (s.get .MC_MEMBERS t)).all fun m =>
    s.owned (s.get .MC_TARGET (t * 32 + m)) (s.get .MC_GRANTOR (t * 32 + m))

/-- Windows whose target is no longer owned become void (R101, R270). -/
def State.voidLost (s : State) : State :=
  let ks := (s.rowsOf .PW_ACCESS).keys.filter fun k => s.windowOn k && !s.stillOwned k
  ks.foldl (fun s k => ({ s with voids := s.voids ++ [k] }.event 101 [k]).msix (k / 256) 37) s

/-- Grafts in force that the bridge does not present and whose function is back (R80). -/
def State.regraft (s : State) : State :=
  ((s.grafts.filter fun (g : Nat × GraftH) => g.2.inForce && !g.2.shown).map (·.1)).foldl (fun s g =>
    if s.fnPresent (s.get .GFID g) ∧ s.get .PARTITION_STATE (s.get .PARTITION g) = 2 ∧
        ((s.grafts.getD {} g).lost = false ∨ s.get .AUTO_REGRAFT g = 1) then
      (s.showGraft g true).updGraft g fun h => { h with lost := false }
    else s) s

/-- Tables that follow ownership: voids, grant pairs, tags. -/
def State.ownersSettle (s : State) : State :=
  let s := s.voidLost
  ({ s with grantPairs := s.derivePairs }).quarantineLost

/-- What every kind-3 epoch leaves: the locator, the tables that follow ownership, grafts that come back. -/
def State.tablesSettle (s : State) : State := (s.relocate.ownersSettle).regraft

/-! ## Reservations (R175, R179, R211, R213) -/

/-- Cells, minimums and the sender's view of its neighbours as the reservations in force need them; both ends change
them with the epoch, and no message tells of them (R211). -/
def State.rsvTables (s : State) : State :=
  let rs := s.grantedRows
  let s := s.put .SCHED_PARTITION_CELLS 0 (s.schedCells rs)
  let s := s.fabricPorts.foldl State.setMins s
  s.updPeerMins fun port v _ => s.unitsNeeded rs s.node port v

/-- A granted reservation takes what pair B has found of it (R179). -/
def State.rsvOutcome (s : State) (x : Nat × Nat × Nat) : State :=
  if s.rsvGranted x.1 then (s.put .RSV_PATH_BOUND x.1 x.2.2).rsvTo x.1 x.2.1 else s

/-- Pair B runs the bound again for every reservation in force (R178, R335). -/
def State.readmitAll (s : State) : State :=
  if s.get .PAIR_B_STATE ≠ 0 then s else s.grantedRows.foldl State.readmit s

/-- A released reservation is kept until the TLPs accepted before its epoch have left: within two pips of their
own, which is 2 × P from the epoch at most (R174, R178). -/
def State.keepOld (s : State) (r : Nat) : State :=
  let vals := (rsvFields ++ [Obj.RSV_DEADLINE_GRANTED, .RSV_PATH_BOUND]).map fun o =>
    { obj := o, row := r, val := s.get o r : Held }
  { s with oldRsvs := s.oldRsvs.filter (·.row ≠ r) ++ [{ row := r, vals := vals, till := s.now + 2 * s.P }] }

/-- A row of 7000 at its epoch: granted with the values that were admitted, or released (R176, R178). Values that
software has staged since stay staged. -/
def State.rsvRow (vals : List Held) (s : State) (r : Nat) : State :=
  let mine := vals.filter fun h => h.row = r
  if mine.isEmpty then
    let s : State := { s.keepOld r with staged := dropHeld s.staged .RSV_ACTION r }
    ((s.put .RSV_ACTION r 0).put .RSV_DEADLINE_GRANTED r 0).put .RSV_STATE r 0
  else
    let s := mine.foldl (fun s (h : Held) => s.put h.obj r h.val) (s.clearRsvH r)
    let s : State := { s with staged := s.staged.filter fun h => !mine.contains h,
                              oldRsvs := s.oldRsvs.filter (·.row ≠ r) }
    let s := s.put .RSV_DEADLINE_GRANTED r (s.deadlineOf (s.get .RSV_PATH_BOUND r))
    s.put .RSV_STATE r 3

def State.applyRsvs (s : State) (rows : List Nat) (vals : List Held) : State :=
  (rows.foldl (State.rsvRow vals) s).rsvTables

/-! ## Routes (R88, R92, R93, R123, R213, R221) -/

/-- The streams of an ingress node, and the counts toward it, start again (R221). -/
def State.resetStreams (s : State) (n : Nat) : State :=
  let s := (s.streams.keys.filter fun k => k / 32 % 32 = n).foldl State.expireStream s
  let s : State := { s with streams := s.streams.filter (fun x => x.1 / 32 % 32 ≠ n),
                            txSeq := s.txSeq.filter (fun x => x.1 % 32 ≠ n) }
  s.bump .STREAM_RESETS

/-- A row of 5000 as pushed; ACTIVE_PORT is PRIMARY_PORT again, and a change of it flags the traffic
toward the node (R92, R123). -/
def State.putRoute (s : State) (r : RouteRow) : State :=
  let n := r.node
  let s := if r.valid && n ≠ s.node && s.get .ACTIVE_PORT n ≠ r.primary then
      { s with flagUntil := s.flagUntil.set n (s.now + us (s.get .ORDER_HOLD_TIMEOUT)) }
    else s
  let s := ((s.put .PRIMARY_PORT n r.primary).put .ALTERNATE_PORT n r.alternate).put .TWIN_A_PORT n r.twinA
  let s := ((s.put .TWIN_B_PORT n r.twinB).put .HOPS n r.hops).put .ROUTE_VALID n (b2n r.valid)
  s.put .ACTIVE_PORT n r.primary

/-- The TLPs of a queue are refused as at egress (R93). -/
def State.refuseQueue (s : State) (k : Nat) : State :=
  match s.queues.find k with
  | some q => q.pkts.foldl (fun s p => s.refuseTlp true p) (s.dropQueue k)
  | none => s

/-- The queues toward a node that has lost its route: their TLPs meet R93 at their dequeue, at the port that
serves them; those that no port serves are refused now. -/
def State.loseRoute (s : State) (k : Nat) : State :=
  match s.queues.find k with
  | some q => if q.port < 512 then s else s.refuseQueue k
  | none => s

/-- A withdrawn port that this push avoids, wherever another path exists (R213 step 2). -/
def State.avoids (s : State) (rows : List RouteRow) (port : Nat) : Bool :=
  rows.all fun r => [(r.primary, 2), (r.twinA, 0), (r.twinB, 1)].all fun x =>
    x.1 ≠ port || (s.avoiding.routePort x.2 s.node r.node).isNone

/-- A route push applies. -/
def State.applyRoutes (s : State) (p : Push) : State :=
  let rows := p.rows
  let up := rows.filter fun r => r.valid && s.get .ROUTE_VALID r.node = 0 && r.node ≠ s.node
  let down := rows.filter fun r => !r.valid && s.get .ROUTE_VALID r.node = 1
  let s := (up.map (·.node)).foldl State.resetStreams s
  let s := ((rows.foldl State.putRoute s).bump .ROUTE_GENERATION).withRoutes p
  let lost := s.queues.keys.filter fun k => down.any fun r => keyTarget k = 512 + r.node
  let s := (lost.foldl State.loseRoute s).moveQueues
  let cut := s.queues.keys.filter fun k =>
    512 ≤ keyTarget k && keyRoute k ≠ 0 && s.portOfKey k = 0xFFFF && !s.routeLost k
  let s := cut.foldl State.dropQueue s
  let free := s.links.keys.filter fun e => s.get .WITHDRAWN e = 1 && s.avoids rows e
  let s := free.foldl (fun s e => s.updLink e fun h => { h with pushed := true }) s
  (p.outcomes.foldl State.rsvOutcome s).rsvTables

/-! ## Grafts and windows (R72, R75, R101) -/

/-- A row of a graft request at its epoch. -/
def State.graftRow (s : State) (g : Nat) : State :=
  if s.newest .ACTION g = 1 then s.applyGraft g
  else if (s.grafts.getD {} g).inForce then s.removeGraft g
  else
    let s : State := { s with staged := graftFields.foldl (fun l o => dropHeld l o g) s.staged }
    (s.put .ACTION g 0).graftTo g 0

/-- Partitions that wait since their binding become active when an epoch carries their grafts; at the
first kind-3 epoch every one does (R72). DESIGN CHOICE (log 75): for a partition bound after the first kind-3
epoch any later one that grafts to it is the one that activates it. -/
def State.firstActive (s : State) (ps : List Nat) : State :=
  (ps.filter fun p => s.get .PARTITION_STATE p = 1 && (s.parts.getD {} p).from0).foldl
    (fun s p => s.activate p false) s

/-- Grafts of a request; partitions that wait and that it grafts to become active (log 75). -/
def State.applyGrafts (s : State) (rows : List Nat) : State :=
  let ps := nub ((rows.filter fun g => s.newest .ACTION g = 1).map fun g => s.newest .PARTITION g)
  (rows.foldl State.graftRow s).firstActive ps

/-- The window bank of a commit (R101); rows written again since stay staged. -/
def State.applyWindows (s : State) (rows : List Held) : State :=
  let s := { s with staged := s.staged.filter fun h => !rows.contains h }
  (s.windowsFrom rows).bump .ACTIVE_GENERATION

/-- The first kind-3 epoch since the reset (R72, R166, R332, R389). -/
def State.firstKind3 (s : State) : State :=
  if s.get .FORWARDING_AT ≠ 0 then s
  else
    let s := s.takeFirst.firstActive (s.rowsOf .PARTITION_STATE).keys
    (s.readmitAll.rsvTables).put .FORWARDING_AT 0 (ceilDiv (s.now - s.resetEnd) (ms 1))

/-! ## Gates, period and step (R36, R43, R183) -/

/-- A staged bank takes its port over (R183). -/
def State.bankIn (s : State) (b : Nat) : State :=
  let e := b / 2
  let old := s.get .GL_ACTIVE_BANK e
  let s := if old < 2 then s.put .GL_BANK_STATE (e * 2 + old) 0 else s
  let mine := s.staged.filter fun h =>
    (h.obj = .GL_ENTRY || h.obj = .GL_LENGTH || h.obj = .GL_CYCLE_PIPS) && glBank h.obj h.row = b
  let s : State := { s with staged := s.staged.filter fun h => !mine.contains h }
  let s := mine.foldl (fun s (h : Held) => s.put h.obj h.row h.val) s
  ((s.put .GL_BANK_STATE b 3).put .GL_ACTIVE_BANK e (b % 2)).gateRestart e

/-- Every gate list starts again at entry 0 of its active bank. -/
def State.allGates (s : State) : State := (s.rowsOf .GL_ACTIVE_BANK).keys.foldl State.gateRestart s

/-- The anchor of pip n at an instant. -/
def State.anchor (s : State) (t n : Nat) : State := (s.put .PIP_ANCHOR_TIME 0 t).put .PIP_ANCHOR_NUMBER 0 n

/-- A new pip period runs from here (R43). -/
def State.applyPeriod (s : State) (v : Nat) : State :=
  let s := { s with time := { s.time with eras := (s.get .PIP_ANCHOR_TIME, s.P) :: s.time.eras } }
  let s := (s.anchor s.now (s.pipAt s.now)).put .PIP_PERIOD 0 v
  { s with staged := dropHeld s.staged .PIP_PERIOD 0 }.allGates

/-- Orchard time steps, and the pip counter runs on (R36). -/
def State.applyStep (s : State) (step : Int) : State :=
  let n := s.pipAt s.now
  let moved := fun t : Time => ((t : Int) + step * 65536).toNat
  let eras := (s.get .PIP_ANCHOR_TIME, s.P) :: s.time.eras
  let s := { s with now := moved s.now, time := { s.time with eras := eras.map fun (e : Time × Time) => (moved e.1, e.2) } }
  (s.anchor s.now n).allGates

/-! ## Profile switches (R335) -/

/-- Objects of 4000 that differ and are of class B: the partition resets as at a link down. -/
def State.bParts (s : State) (l : List Change) : State :=
  let ps := nub ((l.filter fun c => c.1.info.cls = .B && c.1.info.idx = 0x4000).map fun c => c.2.1)
  let s := l.foldl (fun s c => s.put c.1 c.2.1 c.2.2) s
  ps.foldl (fun s p => match s.ownHostPort p with
    | some port => s.hostDown port
    | none => s.partReset p) s

/-- Staged values of profile-stored objects are gone: every shadow bank is its new active bank. -/
def State.dropShadows (s : State) : State :=
  let s := { s with staged := s.staged.filter fun h => !h.obj.info.prof }
  ((s.rowsOf .GRAFT_STATE).filter fun x => x.2 = 1).foldl (fun s x => s.put .GRAFT_STATE x.1 0) s

/-- What a switch changes on this chip. The profile's values replace class-B values that are still pending (R316). -/
def State.profileHere (s : State) (n : Nat) : State :=
  let p := s.profiles.getD {} n
  let ds : List Change := (s.profileDiff p).map fun d => (d.1, d.2, p.val d.1 d.2)
  let s := { s with pendB := s.pendB.filter fun h => !h.obj.info.prof || h.val = p.val h.obj h.row }
  let chipB := ds.filter fun c => c.1.info.cls = .B && c.1.info.idx ≠ 0x4000
  if !chipB.isEmpty then { s with loadNext := some n }.restart 1 false
  else
    let held := fun c : Change => heldBack.contains c.1
    let hs := (ds.filter held).map fun c => { obj := c.1, row := c.2.1, val := c.2.2 : Held }
    let gs := nub ((hs.filter fun h => graftFields.contains h.obj).map (·.row))
    let vals := gs.flatMap fun g => graftFields.map fun o => { obj := o, row := g, val := p.val o g : Held }
    let ws := hs.filter fun h => windowObjs.contains h.obj
    let rest := ds.filter fun c => !held c
    let s := s.dropShadows
    let s := s.enforce (rest.filter fun c =>
      c.1 ≠ .PIP_PERIOD && c.1.info.cls ≠ .Q && c.1.info.cls ≠ .B)
    let s := (rest.filter fun c => c.1 = .PIP_PERIOD).foldl (fun s c => s.applyPeriod c.2.2) s
    let s := s.applyQ (rest.filter fun c => c.1.info.cls = .Q)
    let s := s.bParts (rest.filter fun c => c.1.info.cls = .B)
    let s := gs.foldl (fun s g => s.graftFrom vals g) s
    let s := if ws.isEmpty then s else (s.windowsFrom ws).bump .ACTIVE_GENERATION
    let s := s.ownersSettle.readmitAll
    (s.put .ACTIVE_PROFILE 0 n).put .LOAD_SOURCE 0 4

/-! ## Firmware (R400, R401) -/

/-- Pair A of a named chip stops for its new section; as keeper it has sent the beacon of this edge. -/
def State.pairSwitch (s : State) : State :=
  let s := if s.get .KEEPER_ROLE = 1 ∧ s.pip < s.pipAt s.now ∧ s.odtakuUp then s.beacon else s
  let s := (s.updPair 0 fun h => { h with reloading := true, stoppedAt := s.now, stack := [] }).put .PAIR_A_STATE 0 1
  let fw : FwH := { s.fw with ready := false, old := s.activeFwBank, pairBDue := false,
                              trialUntil := some (s.now + ms (1000 * s.get .FW_TRIAL_TIME)) }
  { s with fw := fw }

end Sys2Proof.Machine
end

