-- ==== Sys2Proof/Machine/ExecEpoch.lean ====
section
/-! DEFINITION. Meaning of the edge of an epoch (R46, R48). -/

namespace Sys2Proof.Machine

open Sys2Proof

/-- A kind-3 epoch: its own work, what the first one brings, and the tables that follow (R72, R101). -/
def State.kind3 (s : State) (f : State → State) : State := (((f s).firstKind3).tablesSettle).pushIfWanted

/-- The work of a request that holds a commit decision. -/
def State.applyWork (s : State) (r : EpochReq) : State :=
  match r.work with
  | .profile n _ nodes => if bit nodes s.node then s.profileHere n else s
  | .gates banks => (banks.filter fun b => !r.lacking.contains (quadRegion (b / 2))).foldl State.bankIn s
  | .routes p =>
    match p.locs with
    | none => s.kind3 fun s => s.applyRoutes p
    | some locs => ((((s.applyRoutes p).firstKind3).setLocs locs).ownersSettle.regraft).pushIfWanted
  | .grafts rows => s.kind3 fun s => s.applyGrafts rows
  | .windows rows => s.kind3 fun s => s.applyWindows rows
  | .reservations rows vals => s.kind3 fun s => s.applyRsvs rows vals
  | .firmware nodes => if bit nodes s.node && s.fw.decided then s.pairSwitch else s
  | .period v => s.applyPeriod v
  | .step ns => s.applyStep ns

/-- Regions of this chip that reported ready to another chip's keeper (R48). -/
def State.readyHere (s : State) (r : EpochReq) : List Nat :=
  if r.prep then (r.ready.filter fun (u : Nat × Nat) => u.1 = s.node).map (·.2) else []

/-- Regions of this chip that reported ready and hold no decision at E are isolated (R48). -/
def State.isolateLacking (s : State) (l : List Nat) : State :=
  l.foldl (fun s n => s.raise { code := 0x3003, kind := 1, idx := n, region := n }) s

/-- The mirror of another chip's request that was not decided for this epoch: it goes with the shadow state, and
the next prepare message brings it again (R47, R340). -/
def State.dropPrep (s : State) (r : EpochReq) : State :=
  if r.prep then { (s.bankStates r.work 2 1).clearReqRow r.num with reqs := s.reqs.filter (·.num ≠ r.num) } else s

/-- The edge of E of a request. Without a decision every region that reported ready is isolated (R48); the keeper's
own holds its decision from the guard point on. With one, a region that lacks the decision does not apply: it is isolated at this edge
and loads the committed state before it forwards again (R48), so what the others take is all that the chip
forwards by. The objects lie in region 14: where it lacks the decision they stay as they are. -/
def State.epochEdge (s : State) (r : EpochReq) : State :=
  if s.reqOver r.num then s
  else if !r.decided then (s.isolateLacking (nub (r.lacking ++ s.readyHere r))).dropPrep r
  else
    let s := (s.put .EPOCH_STATE r.num 2).put .APPLIED_EPOCH r.num r.epoch
    (if r.lacking.contains 14 then s else s.applyWork r).isolateLacking r.lacking

def execEpochApply (request : Nat) (s : State) : Res :=
  unit s (Instr.epochApply request).wf
    (match s.req request with
      | some r => (s.at r.epoch).epochEdge r
      | none => s)

end Sys2Proof.Machine
end

