-- ==== Sys2Proof/Machine/Power.lean ====
section
/-! DEFINITION. Throttles of regions and the power cap as shared operations (R425 to R429). -/

namespace Sys2Proof.Machine

open Sys2Proof

/-- THROTTLE_LEVEL and REGION_STATE follow the throttles in force: the lowest level applies (R426, R427). -/
def State.throttleShow (s : State) (r : Nat) : State :=
  let ts := (s.regions.getD {} r).throttles
  let s := s.put .THROTTLE_LEVEL r (ts.foldl (fun m (x : Nat × Throttle) => min m x.2.level) 8)
  if s.get .REGION_STATE r ≤ 1 then s.put .REGION_STATE r (if ts.isEmpty then 0 else 1) else s

/-- A throttle of a region for a cause: 0 temperature, 1 gradient, 2 supply, 4 power cap. -/
def State.setThrottle (s : State) (r cause level : Nat) : State :=
  let h : Throttle := { level := level, stepAt := s.now }
  let s := { s with regions := s.regions.updD {} r fun x => { x with throttles := x.throttles.set cause h } }
  (s.put .LIMIT_FLAGS r (s.get .LIMIT_FLAGS r ||| 2 ^ cause)).throttleShow r

/-- It ends. -/
def State.endThrottle (s : State) (r cause : Nat) : State :=
  let s := { s with regions := s.regions.updD {} r fun x => { x with throttles := x.throttles.erase cause } }
  let f := s.get .LIMIT_FLAGS r
  (s.put .LIMIT_FLAGS r (if bit f cause then f - 2 ^ cause else f)).throttleShow r

/-- A running region begins to throttle at 7/8; the control complex has no throttle, so that none is in force
there (R427, log 84). -/
def State.throttle (s : State) (r cause : Nat) : State :=
  if r = 14 ∨ !s.runs r ∨ ((s.regions.getD {} r).throttles.find cause).isSome then s else s.setThrottle r cause 7

/-- Level of the quadrants at a cap step: 8 without a throttle (R429). -/
def capLevel (step : Nat) : Nat := if step < 7 then 8 else max 4 (14 - step)

/-- The cap's throttle of a quadrant follows CAP_STEP. -/
def State.capThrottle (s : State) (r : Nat) : State :=
  let l := capLevel (s.get .CAP_STEP)
  if r < 8 ∨ 12 ≤ r ∨ !s.runs r then s
  else if l = 8 then
    if ((s.regions.getD {} r).throttles.find 4).isSome then s.endThrottle r 4 else s
  else s.setThrottle r 4 l

end Sys2Proof.Machine
end

