-- ==== Sys2Proof/Machine/ExecErr.lean ====
section
/-! DEFINITION. Meanings of the commands of husks, regions, BIST and fatal errors (R298, R304 to R309,
R391, R392). -/

namespace Sys2Proof.Machine

open Sys2Proof

/-! ## Husks (R304, R305, R309) -/

/-- No flow queue holds a cell of the husked unit (R304). -/
def State.drained (s : State) (row : Nat) : Bool :=
  if row < 512 then !s.queues.any fun x => s.portFor x.1 x.2 = row && !x.2.isEmpty
  else !s.queues.any fun x => x.2.pkts.any fun p => !p.internal && partRow p.part = row

def execHuskDrained (t : Time) (row : Nat) (s : State) : Res :=
  let s1 := s.at t
  unit s (Instr.huskDrained t row).wf
    (if s1.husked row && s1.drained row then s1.put .HUSK_DRAINED row 1 else s1)

/-- The error of HUSK_COMMAND: its unit is a port or a partition (R298). -/
def huskErr (row : Nat) : Err :=
  if row < 512 then { code := 0x2006, kind := 2, idx := row }
  else { code := 0x2006, kind := 5, idx := row - 0x1000, part := some (row - 0x1000) }

def execHuskCommand (t : Time) (req : Req) (row : Nat) (s : State) : Res :=
  unit s (Instr.huskCommand t req row).wf
    ((s.at t).invoke req .HUSK_COMMAND (some row) fun s =>
      if s.husked row then refuse 0x0401 s else ok [] (s.raise (huskErr row)))

/-- HUSK_DRAINED reads 1 on every other chip of the orchard for a partition's row, as each tells: a free value for
each (R305, log 5). -/
def State.othersDrained (s : State) : Bool × State :=
  (s.members.keys.filter (· ≠ s.node)).foldl (fun (x : Bool × State) _ =>
    let (k, s) := x.2.pick 2
    (x.1 && k = 1, s)) (true, s)

/-- The conditions of a release that this chip shows (R305). -/
def State.releasable (s : State) (row : Nat) : Bool :=
  let cause := s.get .HUSK_CAUSE row
  s.get .HUSK_STATE row = 1 && s.get .HUSK_DRAINED row = 1 &&
    (512 ≤ row || s.get .HUSK_RETRAINED row = 1) &&
    (!(cause = 0x2001 || cause = 0x2002) || s.get .SP_STATE (clusterOf row) = 4)

/-- HUSK_RELEASE: accepted, it applies at the first edge more than 5 us later (R305). -/
def execHuskRelease (t : Time) (req : Req) (row : Nat) (s : State) : Res :=
  unit s (Instr.huskRelease t req row).wf
    ((s.at t).invoke req .HUSK_RELEASE (some row) fun s =>
      let (others, s) := if row < 512 then (true, s) else s.othersDrained
      if !s.releasable row || !others then refuse 0x0401 s
      else
        let s := { s with releases := s.releases.set row s.now }
        let h : Held := { obj := .HUSK_RELEASE, row := row, val := 0, pip := s.applyPip }
        ok [] ({ s with pendP := s.pendP ++ [h] }.put .HUSK_STATE row 2))

/-! ## Regions (R306, R391, R392) -/

/-- 10 ms in reset have passed, and no limit that isolates is exceeded: BIST begins (R306, R425). -/
def execRegionRestartHoldEnd (t : Time) (region : Nat) (s : State) : Res :=
  let s1 := s.at t
  let due := s1.get .REGION_STATE region = 3 &&
    decide ((s1.regions.getD {} region).heldAt + ms 10 ≤ s1.now) && (s1.regions.getD {} region).overLimit.isEmpty
  unit s (Instr.regionRestartHoldEnd t region).wf
    (if due then { s1 with regions := s1.regions.updD {} region fun h => { h with bist := true } } else s1)

/-- REGION_RESTART (R309): an isolated region is held in reset. -/
def execRegionRestart (t : Time) (req : Req) (region : Nat) (s : State) : Res :=
  unit s (Instr.regionRestart t req region).wf
    ((s.at t).invoke req .REGION_RESTART none fun s =>
      if 13 < region then refuse 0x0301 s
      else if s.get .REGION_STATE region ≠ 2 then refuse 0x0401 s
      else
        let s := { s with regions := s.regions.updD {} region fun h => { h with heldAt := s.now, bist := false } }
        ok [] (s.put .REGION_STATE region 3))

/-- A new failing row of a memory is remapped to a spare, or stays unrepaired: spares in use by memory, and
the rows unrepaired (R391). -/
def remapRows (region : Nat) : List (Nat × Nat) → Tab Nat → List (Nat × Nat) → Tab Nat × List (Nat × Nat)
  | [], t, bad => (t, bad)
  | (m, row) :: l, t, bad =>
    let k := region * 256 + m % 256
    if t.getD 0 k < 64 then remapRows region l (t.updD 0 k (· + 1)) bad
    else remapRows region l t (bad ++ [(m, row)])

/-- Memories 0 to 15 of a quadrant are its buffer banks, a row of which holds one cell (log 31). -/
def bankMemory (region m : Nat) : Bool := 8 ≤ region && region < 12 && m < 16

/-- Cell of a row of a buffer bank (R17). -/
def cellOfRow (region m row : Nat) : Nat := row % 16384 * 64 + 16 * (region - 8) + m

/-- Host, device and fabric ports of a region start again (R306). -/
def State.portAgain (s : State) (port : Nat) : State :=
  if s.get .PORT_ROLE port = 2 then
    if s.presentAt port && !(s.perstH (clusterOf port)).asserted then s.startTraining port else s
  else
    let held := match s.partOfPort port with
      | some p => (s.parts.getD {} p).heldDown
      | none => false
    if held then s else s.portStart port

/-- The ports that a region serves (R12). -/
def State.regionPorts (s : State) (region : Nat) : List Nat :=
  s.usedPorts.filter fun p => if region < 8 then tileOf p = region else quadRegion p = region

/-- The sweep of an isolated quadrant's queues ends: their cells are free (R306). -/
def State.sweepQuadrant (s : State) (region : Nat) : State :=
  let s := s.freeCells (s.regions.getD {} region).sweep
  { s with regions := s.regions.updD {} region fun h => { h with sweep := [] } }

/-- The region runs again: it reads 0 and its record closes (R300, R306). -/
def State.regionRuns (s : State) (region : Nat) : State :=
  let again := s.get .REGION_STATE region = 3 || s.boot = .odtaku
  let s := s.sweepQuadrant region
  let s := { s with regions := s.regions.updD {} region fun h => { isolations := h.isolations } }
  let s := (((s.put .REGION_STATE region 0).put .LIMIT_FLAGS region 0).throttleShow region).capThrottle region
  let mine := (s.log.filter fun r => r.state = 0 && r.action = 3 && r.err.region = region).map (·.seq)
  let s := mine.foldl State.closeSeq s
  if again then
    ((s.regionPorts region).filter fun p => s.runs (tileOf p) && s.runs (quadRegion p)).foldl State.portAgain s
  else s

/-- Both banks or the Gajor SRAM have failed: the chip stays under the ROM with ALERT_N low. -/
def State.romFails (s : State) : State :=
  let s := { s with boot := .failed }.emit (.pin 362 0 false)
  (List.range 64).foldl (fun s c => if s.get .SP_STATE c = 0 then s else s.slotOff c) s

/-- BIST of a region ends with the new failing rows, as memory and row (R391, R392). -/
def State.bistDone (s : State) (region : Nat) (failing : List (Nat × Nat)) : State :=
  let (t, bad) := remapRows region failing s.remaps []
  let n := failing.length - bad.length
  let mine := fun c : Nat => 8 ≤ region && c % 64 / 16 = region - 8
  let cells := (bad.filter fun x => bankMemory region x.1).map fun x => cellOfRow region x.1 x.2
  let worn := (nub ((s.badCells.filter fun c => !mine c) ++ cells)).mergeSort (· ≤ ·)
  let s : State := { s with remaps := t, badCells := worn }
  let s := if n = 0 then s else s.bump .ROWS_REMAPPED 0 n
  if bad.all fun x => bankMemory region x.1 then s.regionRuns region
  else
    let s := s.put .BIST_FAILED 0 (s.get .BIST_FAILED ||| 2 ^ region)
    if region = 14 then s.romFails
    else
      let s : State := if s.get .REGION_STATE region = 3 then s.put .REGION_STATE region 4 else s
      s.raise { code := 0x3001, kind := 1, idx := region, region := region }

/-- A region in BIST: not started since the reset, or restarting (R306, R389, R443). -/
def State.inBist (s : State) (region : Nat) : Bool :=
  let st := s.get .REGION_STATE region
  (st = 4 && s.boot ≠ .reset && !(12 ≤ region && s.hbmCold.contains (region - 12))) ||
    (st = 3 && (s.regions.getD {} region).bist)

def execRegionBistComplete (t : Time) (region : Nat) (failing : List (Nat × Nat)) (s : State) : Res :=
  let s1 := s.at t
  unit s (Instr.regionBistComplete t region failing).wf
    (if s1.inBist region then s1.bistDone region failing else s1)


def execQuadrantQueueSweepDone (t : Time) (region : Nat) (s : State) : Res :=
  let s1 := s.at t
  let due := decide (8 ≤ region) && decide (region < 12) &&
    (s1.get .REGION_STATE region = 2 || s1.get .REGION_STATE region = 3)
  unit s (Instr.quadrantQueueSweepDone t region).wf (if due then s1.sweepQuadrant region else s1)

/-! ## Fatal errors (R298) -/

def execHbmFailure (t : Time) (stack : Nat) (s : State) : Res :=
  unit s (Instr.hbmFailure t stack).wf
    ((s.at t).raise { code := 0x3005, kind := 1, idx := 12 + stack, region := 12 + stack })

def execControlFatal (t : Time) (s : State) : Res :=
  unit s (Instr.controlFatal t).wf
    ((s.at t).raise { code := 0x3006, kind := 1, idx := 14, region := 14 })

end Sys2Proof.Machine
end

