-- ==== Sys2Proof/Machine/Boot.lean ====
section
/-! DEFINITION. The checks of images and tokens, the HSS state, and how the chip starts after a reset as
shared operations (R371 to R387). -/

namespace Sys2Proof.Machine

open Sys2Proof

/-! ## Bytes -/

/-- Bytes a to b of a list. -/
def slice (l : List Nat) (a b : Nat) : List Nat := (l.drop a).take (b + 1 - a)

/-! ## Keys (R373, R375) -/

/-- The checks of R373 on a key set and on two signatures over a message, with some key sets revoked. -/
def keysOk (revoked keyset : Nat) (ecdsaKey lmsKey msg ecdsaSig lmsSig : List Nat) : Bool :=
  keyset < 4 && !bit revoked keyset && Config.sha384 ecdsaKey = Config.ecdsaHash keyset &&
    Config.sha384 lmsKey = Config.lmsHash keyset && Config.lmsTypeOk lmsKey &&
    Config.ecdsaVerify ecdsaKey msg ecdsaSig && Config.lmsVerify lmsKey msg lmsSig

/-- The effective rollback counter (R376). -/
def State.rollback (s : State) : Nat := max (s.get .ROLLBACK_FUSED) (s.get .ROLLBACK_MIRROR % 128)

/-- A blow that the mirror records as PENDING is completed: the fused count follows the mirror's (R376). -/
def State.finishBlow (s : State) : State :=
  let m := s.get .ROLLBACK_MIRROR
  if bit m 15 then (s.put .ROLLBACK_FUSED 0 (max (s.get .ROLLBACK_FUSED) (m % 128))).put .ROLLBACK_MIRROR 0 (m % 128)
  else s

/-! ## Images (R371 to R374) -/

/-- A field of an image's header. -/
def hdrField (h : List Nat) (a b : Nat) : Nat := beNat (slice h a b)

/-- R373 on the bytes of a bank, with a mask of revoked key sets. -/
def State.accepts (s : State) (bank revoked : Nat) : Bool :=
  let h := s.flash.bytes (bankBase bank) 4096
  let len := hdrField h 12 15
  hdrField h 0 3 = 1 && decide (1 ≤ len) && decide (len ≤ 4190208) &&
    bit (hdrField h 10 10) (s.get .LIFECYCLE_STATE) &&
    keysOk revoked (hdrField h 9 9) (slice h 64 160) (slice h 161 216) (slice h 0 223) (slice h 224 319)
      (slice h 320 2091) &&
    decide (s.rollback ≤ hdrField h 8 8) &&
    Config.sha384 (s.flash.bytes (bankBase bank + 4096) len) = hdrField h 16 63

/-- No byte of a bank has been written since delivery. -/
def State.untouched (s : State) (bank : Nat) : Bool :=
  !s.flash.any fun c => bankBase bank ≤ c.1 && c.1 < bankBase bank + 0x400000

/-- A bank passes R373. The image of a bank that nothing has written is the delivered one, which the flash
of the model does not list: B100 speaks for it (log 37). -/
def State.bankPasses (s : State) (bank revoked : Nat) : Bool :=
  if s.untouched bank then
    (s.get .FW_BANK_STATE bank = 1 || s.get .FW_BANK_STATE bank = 2) && !bit revoked (s.get .FW_KEYSET bank) &&
      decide (s.rollback ≤ s.get .FW_SVN bank)
  else s.accepts bank revoked

/-- B100 takes version, SVN and key set from a bank's header (R388). -/
def State.readHeader (s : State) (bank : Nat) : State :=
  let h := s.flash.bytes (bankBase bank) 16
  ((s.put .FW_VERSION bank (hdrField h 4 7)).put .FW_SVN bank (hdrField h 8 8)).put .FW_KEYSET bank (hdrField h 9 9)

/-! ## HSS signatures (R381, R382) -/

/-- The leaves of a tree. -/
def leaves : Nat := 2 ^ 20

/-- The change to the next tree, once it is built and a top leaf is left (R382). -/
def State.treeChange (s : State) : State :=
  if s.get .HSS_BOTTOM_Q < leaves ∨ s.get .HSS_NEXT_READY = 0 ∨ leaves ≤ s.get .HSS_TOP_Q then s
  else
    let s := (s.put .HSS_TOP_Q 0 (s.get .HSS_TOP_Q + 1)).put .HSS_NEXT_READY 0 0
    { s with sec := { s.sec with tree := s.sec.tree + 1 } }.put .HSS_BOTTOM_Q 0 0

/-- A signature: the next index is recorded, then the leaf used. -/
def State.hssSign (s : State) : State := (s.put .HSS_BOTTOM_Q 0 (s.get .HSS_BOTTOM_Q + 1)).treeChange

/-- A bottom tree is ready to sign. -/
def State.hssReady (s : State) : Bool := decide (s.get .HSS_BOTTOM_Q < leaves)

/-- Every top leaf and the last tree are spent. -/
def State.hssSpent (s : State) : Bool := !s.hssReady && decide (leaves ≤ s.get .HSS_TOP_Q)

/-- Pair B starts with the HSS seed, which only SECURED has (R377): with the tree exhausted and no signature for the next,
the leaf before TOP_Q is forfeited (R382). -/
def State.hssRestart (s : State) : State :=
  if s.get .LIFECYCLE_STATE ≠ 1 ∨ s.hssReady ∨ s.hssSpent then s else (s.bump .HSS_FORFEITED).treeChange

/-- What the compound device identifier is derived from (R377). -/
def State.cdi (s : State) : List Nat :=
  let b := s.activeFwBank
  s.flash.bytes (bankBase b + 16) 48 ++ [s.get .FW_VERSION b, s.get .FW_SVN b, s.get .FW_KEYSET b, s.get .LIFECYCLE_STATE]

/-- Pair B issues a new Alias certificate when the CDI has changed; in SECURED that spends one HSS
signature; a returned chip has no identity key (R378, R384). -/
def State.aliasCert (s : State) : State :=
  if s.get .LIFECYCLE_STATE = 3 ∨ s.sec.alias_ = s.cdi then s
  else
    let s := { s with sec := { s.sec with alias_ := s.cdi } }
    if s.get .LIFECYCLE_STATE = 1 ∧ s.hssReady then s.hssSign else s

end Sys2Proof.Machine
end

