-- ==== Sys2Proof/Machine/ExecGajor.lean ====
section
/-! DEFINITION. Meanings of the commands of the control complex: pairs, interrupts, mailboxes, sideband
ports, memory protection and debug (R345 to R370, R440). -/

namespace Sys2Proof.Machine

open Sys2Proof

/-! ## Pairs (R347 to R349) -/

/-- The state object of a pair: 0 A, 1 B. -/
def pairObj (k : Nat) : Obj := if k = 0 then .PAIR_A_STATE else .PAIR_B_STATE

/-- The counter of a pair's stops. -/
def pairStopsObj (k : Nat) : Obj := if k = 0 then .PAIR_A_STOPS else .PAIR_B_STOPS

/-- Stops of a pair in the last 24 h. -/
def State.recentStops (s : State) (k : Nat) : Nat :=
  ((s.pairH k).stops.filter fun t => s.now < t + ms 86400000).length

/-- A stop during a firmware trial: the old bank starts from now on, and the new one reads 3 (R401). -/
def State.trialFails (s : State) : State :=
  match s.fw.trialUntil with
  | some u =>
    if s.now < u then
      let old := s.fw.old
      let s := { s with fw := { old := old } }.event 401 [otherBank old, old]
      s.bankTo old 3
    else s
  | none => s

/-- Configuration requests that wait for firmware are completed with Retry Status (R349). -/
def State.cfgRetry (s : State) : State :=
  s.cfgWait.foldl (fun s (x : Nat × List CfgReq) =>
    (x.2.foldl (fun s c => s.selfCpl (s.get .HOST_PORT x.1) (cfgCpl c 2 0)) s).setCfgWait x.1 []) s

/-- What follows when a pair no longer runs: without pair B the time class is 3, without pair A hardware
completes what waits for firmware (R349). -/
def State.pairGone (s : State) (k : Nat) : State := if k = 1 then s.regrade 3 else s.cfgRetry

/-- A pair stops under R347: it is captured and counted, and restarts unless the limit is reached. -/
def State.stopPair (s : State) (k : Nat) : State :=
  if s.get (pairObj k) ≠ 0 ∨ s.boot ≠ .odtaku then s
  else
    let s := (s.updPair k fun h => { h with stops := h.stops ++ [s.now], stoppedAt := s.now, stack := [] }).bump
      (pairStopsObj k)
    let held := s.get .PAIR_RESTART_LIMIT ≤ s.recentStops k
    let s := (s.put (pairObj k) 0 (if held then 2 else 1)).raise
      { code := 0x3007, kind := 1, idx := 14, region := 14, detail := k }
    s.trialFails.pairGone k

def execPairStop (t : Time) (pair : Nat) (s : State) : Res :=
  unit s (Instr.pairStop t pair).wf ((s.at t).stopPair pair)

/-- Four edges without a write to the pair's watchdog (R347). -/
def execWatchdogExpiry (t : Time) (pair : Nat) (s : State) : Res :=
  unit s (Instr.watchdogExpiry t pair).wf ((s.at t).stopPair pair)

/-- A pair runs: its work goes on (R348, R369, R400), and pair A empties the mailbox slots that a reset left (R272). A keeper sends its beacon and continues the
requests (R60); with pair B the class is graded again (R349). -/
def State.pairRuns (s : State) (k : Nat) : State :=
  let s := s.put (pairObj k) 0 0
  let s := if k = 0 then (s.mboxes.keys.filter fun r => (s.mbox r).late && s.get .MF_STATE r = 0).foldl State.mbEmpty s
           else s
  let s := if k = 1 then s.regrade s.ownClass else s
  if s.get .KEEPER_ROLE = 1 ∧ s.get .PAIR_A_STATE = 0 ∧ s.get .PAIR_B_STATE = 0 then
    ((s.msg .beacon [s.node, s.pip]).continueAll).pushIfWanted
  else s

/-- The open record of a pair's stop closes (R348). -/
def State.closePair (s : State) (k : Nat) : State :=
  ((s.log.filter fun r => r.state = 0 && r.err.code = 0x3007 && r.err.detail = k).map (·.seq)).foldl State.closeSeq s

/-- The ROM does not accept the active bank at a pair's restart: the pair stays stopped, the bank reads 3 and the
failure is captured (R374). -/
def State.pairUnverified (s : State) (k : Nat) : State :=
  ((s.put (pairObj k) 0 2).put .FW_BANK_STATE s.activeFwBank 3).raise
    { code := 0x3007, kind := 1, idx := 14, region := 14, detail := k }

/-- A stopped pair has restarted, at least 1 ms after its stop (R348), with the active bank verified (R374). -/
def execPairRestartComplete (t : Time) (pair : Nat) (s : State) : Res :=
  let s1 := s.at t
  let h := s1.pairH pair
  unit s (Instr.pairRestartComplete t pair).wf
    (if s1.get (pairObj pair) = 1 ∧ !h.reloading ∧ h.stoppedAt + ms 1 ≤ s1.now then
        if !s1.bankPasses s1.activeFwBank (s1.get .KEYSET_REVOKED) then s1.pairUnverified pair
        else
          let s2 := if pair = 1 then s1.hssRestart else s1
          (s2.pairRuns pair).closePair pair
      else s1)

def execPairRestart (t : Time) (req : Req) (pair : Nat) (s : State) : Res :=
  unit s (Instr.pairRestart t req pair).wf
    ((s.at t).invoke req .PAIR_RESTART none fun s =>
      if 1 < pair then refuse 0x0301 s
      else if s.get (pairObj pair) ≠ 2 then refuse 0x0401 s
      else ok [] ((s.updPair pair fun h => { h with stoppedAt := s.now }).put (pairObj pair) 0 1))

/-! ## Interrupts (R353 to R356) -/

/-- The group field of a pair. -/
def State.groupBits (s : State) (k : Nat) : Nat := s.get (if k = 0 then .GROUP_BITS_A else .GROUP_BITS_B)

/-- The group of a source at its pair: the upper b bits of its priority. -/
def State.groupOf (s : State) (k i : Nat) : Nat := s.get .IRQ_PRIORITY i / 2 ^ (8 - s.groupBits k)

/-- The pending sources of a pair that may be delivered. -/
def State.irqWaiting (s : State) (k : Nat) : List Nat :=
  (s.rowsOf .IRQ_PENDING).keys.filter fun i =>
    s.get .IRQ_PENDING i = 1 && s.get .IRQ_TARGET i = k && s.get .IRQ_PRIORITY i ≠ 0xFF

/-- The most urgent of them: lowest priority value, then lowest number. -/
def State.mostUrgent (s : State) (k : Nat) : Option Nat :=
  (s.irqWaiting k).foldl (fun acc i =>
    match acc with
    | none => some i
    | some b => if s.get .IRQ_PRIORITY i < s.get .IRQ_PRIORITY b then some i else some b) none

/-- It is taken: no handler is active, or its group is lower and the stack is not full (R354). -/
def State.mayTake (s : State) (k i : Nat) : Bool :=
  match (s.pairH k).stack with
  | [] => true
  | a :: l => decide (s.groupOf k i < s.groupOf k a) && decide (l.length < 15)

/-- A source is taken: its latch clears. The handler clears the cause of a level source (log 18), a
counter's overflow apart, which a clear ends (R406). -/
def State.takeSource (s : State) (k i : Nat) : State :=
  let s := (s.updPair k fun h => { h with stack := i :: h.stack }).put .IRQ_PENDING i 0
  let keep := decide (712 ≤ i) && decide (i ≤ 807)
  let s := if s.get .IRQ_SENSE i = 0 && !keep then s.updIrq i fun h => { h with high := false } else s
  s.countControl 0xC2 1

/-- R354 applied at a pair. -/
def State.takeIrq (s : State) (k : Nat) : State :=
  if s.get (pairObj k) ≠ 0 ∨ s.boot ≠ .odtaku then s
  else match s.mostUrgent k with
    | some i => if s.mayTake k i then s.takeSource k i else s
    | none => s

def execIrqTake (t : Time) (pair : Nat) (s : State) : Res :=
  unit s (Instr.irqTake t pair).wf ((s.at t).takeIrq pair)

/-- A level source is sampled again (R355). -/
def State.resample (s : State) (i : Nat) : State :=
  if s.get .IRQ_SENSE i ≠ 0 then s
  else s.put .IRQ_PENDING i (b2n ((s.irq i).high && s.get .IRQ_ENABLE i = 1 && !s.irqActive i))

/-- A field of a source written: 0 priority, 1 sense, 2 target, 3 group field of its pair, 4 enable. A
disabled source is not pending (R353). 5 sets a software source or a pair doorbell (R352). -/
def State.irqField (s : State) (i field v : Nat) : State :=
  match field with
  | 0 => if v < 256 then s.put .IRQ_PRIORITY i v else s
  | 1 => if v < 4 then (s.put .IRQ_SENSE i v).resample i else s
  | 2 => if v < 2 then s.put .IRQ_TARGET i v else s
  | 3 => if v ≤ 8 then s.put (if s.get .IRQ_TARGET i = 0 then .GROUP_BITS_A else .GROUP_BITS_B) 0 v else s
  | 5 => if 1024 ≤ i ∨ (808 ≤ i ∧ i ≤ 815) then s.irqEdge i else s
  | _ =>
    if v = 0 then (s.put .IRQ_ENABLE i 0).put .IRQ_PENDING i 0
    else if v = 1 then (s.put .IRQ_ENABLE i 1).resample i
    else s

/-- The top handler of a pair completes (R355). -/
def State.irqDone (s : State) (k : Nat) : State :=
  match (s.pairH k).stack with
  | [] => s
  | i :: l =>
    let s := s.updPair k fun h => { h with stack := l }
    let held := (s.irq i).held
    let s := s.updIrq i fun h => { h with held := [] }
    let s := held.foldl (fun s x => s.irqField i x.1 x.2) s
    (s.resample i).takeIrq k

def execIrqComplete (t : Time) (pair : Nat) (s : State) : Res :=
  unit s (Instr.irqComplete t pair).wf ((s.at t).irqDone pair)

/-- A write while the source is active applies at its completion; the enable applies at once (R356). -/
def execIrqConfigWrite (t : Time) (source field value : Nat) (s : State) : Res :=
  let s1 := s.at t
  unit s (Instr.irqConfigWrite t source field value).wf
    (if s1.irqActive source ∧ field < 4 then
      s1.updIrq source fun h => { h with held := h.held ++ [(field, value)] }
     else s1.irqField source field value)

/-! ## Mailboxes (R357 to R361) -/

def execMbInWrite (t : Time) (row offset : Nat) (bytes : List Nat) (s : State) : Res :=
  unit s (Instr.mbInWrite t row offset bytes).wf ((s.at t).mbIn row offset bytes)

def execMbInTake (t : Time) (row : Nat) (s : State) : Res :=
  let s1 := s.at t
  unit s (Instr.mbInTake t row).wf (if s1.odtakuUp then s1.mbInTaken row else s1)

def execMbOutPlace (t : Time) (row : Nat) (bytes : List Nat) (s : State) : Res :=
  let s1 := s.at t
  unit s (Instr.mbOutPlace t row bytes).wf (if s1.odtakuUp then s1.mbOut row bytes else s1)

def execMbTake (t : Time) (row value : Nat) (s : State) : Res :=
  unit s (Instr.mbTake t row value).wf ((s.at t).mbTaken row value)

def execDoorbellSet (t : Time) (row : Nat) (toFw : Bool) (bits : Nat) (s : State) : Res :=
  unit s (Instr.doorbellSet t row toFw bits).wf ((s.at t).dbSet row toFw bits)

def execDoorbellClear (t : Time) (row : Nat) (toFw : Bool) (bits setBits : Nat) (s : State) : Res :=
  unit s (Instr.doorbellClear t row toFw bits setBits).wf ((s.at t).dbClear row toFw bits setBits)

/-! ## The sideband ports (R319, R362, R440) -/

/-- ALERT_N after a change of what drives it (R362). -/
def State.alertFrom (s s0 : State) : State :=
  if s.alert = s0.alert then s else s.emit (.pin 362 0 (!s.alert))

/-- SM_EVENT bits cleared by writing 1. -/
def State.smClear (s : State) (bits : Nat) : State :=
  (s.updMbox smRow fun m => { m with smEvent := without m.smEvent (bits % 16) }).alertFrom s

def State.smMaskSet (s : State) (v : Nat) : State := (s.updMbox smRow fun m => { m with smMask := v }).alertFrom s

/-- A register of the window as read. -/
def State.windowReg (s : State) (off : Nat) : Nat :=
  let m := s.mbox smRow
  if off = 0x214 then m.smEvent
  else if off = 0x218 then m.smMask
  else s.mbRead smRow off

/-- A register of the window written: the read-write registers keep the bytes not written (log 36). -/
def State.windowWrite (s : State) (w : Nat × Nat × Nat) : State :=
  let (off, v, mask) := w
  let merged := without (s.windowReg off) mask ||| v
  if off = 0x214 then s.smClear v
  else if off = 0x218 then s.smMaskSet merged
  else if off = 0x210 then s.mbReg smRow off merged
  else s.mbReg smRow off v

/-- A transaction on sideband port 1 (R362): a write goes into MB_IN and the registers, a read answers up
to 32 bytes. -/
def State.sideband (s : State) (write : Bool) (off : Nat) (bytes : List Nat) (count : Nat) : State :=
  if write then
    let bs := bytes.take 32
    let slot := if off < 0x100 then bs.take (0x100 - off) else []
    let s := if slot.isEmpty then s else s.mbIn smRow off slot
    (regsOf (off + slot.length) (bs.drop slot.length)).foldl State.windowWrite (s.irqSignal 709 true)
  else
    s.event 362 (off :: (List.range (min count 32)).map fun i => byteOf (s.windowReg ((off + i) / 4 * 4)) ((off + i) % 4))
where
  /-- Byte i of a little-endian register. -/
  byteOf (v i : Nat) : Nat := v / 256 ^ i % 256

def execSidebandWindowTransaction (t : Time) (write : Bool) (offset : Nat) (bytes : List Nat) (count : Nat)
    (s : State) : Res :=
  unit s (Instr.sidebandWindowTransaction t write offset bytes count).wf
    ((s.at t).sideband write offset bytes count)

def execSmEventClear (t : Time) (bits : Nat) (s : State) : Res :=
  unit s (Instr.smEventClear t bits).wf ((s.at t).smClear bits)

/-- An MCTP message on sideband port 0 (R319): Hexsum opens the endpoint's row of 1800 and refuses a message
above 1,024 bytes; SPDM goes to pair B; anything else is dropped. -/
def State.mctp (s : State) (i3c : Bool) (row msgType vendor size : Nat) : State :=
  if i3c ≠ (s.i3c.find 0).isSome then s
  else if msgType = 0x7E ∧ vendor = 0x1FA7 then
    if !bit (s.get .HEXSUM_ENABLE) (if i3c then 2 else 1) then s
    else
      let s := s.irqSignal (if i3c then 708 else 707) true
      let (v, s) := s.free
      let s := if s.get .SESSION_STATE row = 0 then
          s.openSession row 1 (if i3c then 2 else 1) (v % 256 * 2 ^ 136) 0
        else s
      if 1024 < size ∧ s.odtakuUp then
        (s.bump .REQUESTS_REFUSED).emit (.reply (if i3c then .mctpI3c row else .mctpSmbus row) 0 0x0302 [] false)
      else s
  else if msgType = 5 then s.event 379 [row]
  else s

def execMctpMessage (t : Time) (i3c : Bool) (endpoint msgType vendor size : Nat) (s : State) : Res :=
  unit s (Instr.mctpMessage t i3c endpoint msgType vendor size).wf
    ((s.at t).mctp i3c endpoint msgType vendor size)

def execI3cDynamicAddress (t : Time) (sbPort addr : Nat) (s : State) : Res :=
  let s1 := s.at t
  unit s (Instr.i3cDynamicAddress t sbPort addr).wf { s1 with i3c := s1.i3c.set sbPort addr }

/-! ## Memory protection (R363 to R366) -/

/-- The array of a protection unit: access control of the seven masters, then the cores' units. -/
def descriptorObj (u : Nat) : Obj :=
  [Obj.ACU_REGIONS_A0, .ACU_REGIONS_A1, .ACU_REGIONS_B0, .ACU_REGIONS_B1, .ACU_REGIONS_DMA, .ACU_REGIONS_HOST,
    .ACU_REGIONS_DEBUG, .MPU_REGIONS_A0, .MPU_REGIONS_A1, .MPU_REGIONS_B0, .MPU_REGIONS_B1].getD u .ACU_REGIONS_A0

def execProtectionDescriptorWrite (t : Time) (unit_ n value : Nat) (s : State) : Res :=
  let s1 := s.at t
  let v := value % 2 ^ 64
  unit s (Instr.protectionDescriptorWrite t unit_ n value).wf
    (if descriptorOk v then s1.put (descriptorObj unit_) n v else s1.event 363 [unit_, n, 0x0301])

def execAcuFence (t : Time) (req : Req) (s : State) : Res :=
  unit s (Instr.acuFence t req).wf ((s.at t).invoke req .ACU_FENCE none fun s => ok [] s)

/-- Memories and registers on the management interconnect (R350, R351). -/
inductive GajorMem where
  | rom
  | sramA
  | sramB
  | sramShared
  | sramLocked
  | registers
  | mailboxes
  | sterostoLocked
  | sterosto
  deriving DecidableEq, Repr

/-- Where they lie: base and size. -/
def gajorMap : List (GajorMem × Nat × Nat) :=
  [(.rom, 0, 0x40000), (.sramA, 0x10000000, 0x200000), (.sramB, 0x10200000, 0x100000),
   (.sramShared, 0x10300000, 0xC0000), (.sramLocked, 0x103C0000, 0x40000), (.registers, 0x20000000, 0x4000000),
   (.mailboxes, 0x40000000, 0x2000000), (.sterostoLocked, 0x100000000, 0x1000000),
   (.sterosto, 0x101000000, 0xFF000000)]

/-- What an address names. -/
def gajorAt (a : Nat) : Option GajorMem :=
  (gajorMap.find? fun x => x.2.1 ≤ a && a < x.2.1 + x.2.2).map (·.1)

/-- A region that is in force and contains an address (R363). -/
def descriptorHolds (v a : Nat) : Bool :=
  let base := bitsOf v 63 32 * 256
  bit v 26 && base ≤ a && a < base + 2 ^ (bitsOf v 31 27 + 8)

/-- Regions of a unit: 64, or 16 of a core's protection unit. -/
def descriptorCount (u : Nat) : Nat := if u < 7 then 64 else 16

/-- A unit permits an access: the region with the lowest number that contains the address decides, and none denies
(R363, R364). -/
def State.regionPermits (s : State) (u priv access a : Nat) : Bool :=
  match ((List.range (descriptorCount u)).map fun n => s.get (descriptorObj u) n).find? fun v => descriptorHolds v a with
  | some v => bit v ([25, 22, 19].getD priv 19 - access)
  | none => false

/-- The check of R364 on an access: the hard-wired rules of R350 and R368 first, then the core's protection unit, then
the master's access control unit. -/
def State.permits (s : State) (master priv access a : Nat) : Bool :=
  let core := decide (master < 4)
  match gajorAt a with
  | some .sramLocked | some .sterostoLocked =>
    core && (s.boot = .rom || ((master = 2 || master = 3) && priv = 0))
  | some .rom => core && access = 2
  | _ =>
    if master = 6 && !s.debugOpen then access = 0 && Config.identityReg a
    else (!core || s.regionPermits (7 + master) priv access a) && s.regionPermits master priv access a

/-- A denied access (R366, R368): counted and recorded; a debug denial is written to Sterosto, and one of
the DMA writer or the host mailbox path stops the pair that programmed it. -/
def State.denied (s : State) (master priv access a : Nat) : State :=
  let w := master * 2 ^ 60 + priv * 2 ^ 58 + access * 2 ^ 56 + a
  let s := ((s.bump .ACCESS_DENIALS).put .LAST_DENIAL 0 w).event 366 [master, w]
  if master = 6 then
    { s.bump .DEBUG_DENIALS with denials := s.denials ++ [(a, access, s.get .LIFECYCLE_STATE)] }
  else if master = 5 then s.stopPair 0
  else if master = 4 then
    let (k, s) := s.pick 2
    s.stopPair k
  else s

/-- The SRAM of R350. -/
def inSram (a : Nat) : Bool := decide (0x10000000 ≤ a) && decide (a < 0x10400000)

/-- A word of the SRAM is read with some wrong bits: one is corrected and captured in region 14, more stop the pair
that has read it (R347, R350). -/
def State.sramRead (s : State) (master wrong : Nat) : State :=
  if wrong = 1 then s.raise { code := 0x100C, kind := 1, idx := 14, region := 14 }
  else if 2 ≤ wrong ∧ master < 4 then s.stopPair (master / 2)
  else s

/-- The word of an address of Sterosto, which takes the first 1 GiB of its window (R351). -/
def sterostoWord (a : Nat) : Option Nat :=
  if 0x100000000 ≤ a ∧ a < 0x140000000 then some ((a - 0x100000000) / 8) else none

/-- A Sterosto word read with three wrong bits or more raises an event that names its address, and a write mends it
(R351). -/
def State.sterostoAccess (s : State) (access a wrong : Nat) : State :=
  match sterostoWord a with
  | none => s
  | some w =>
    if access = 0 ∧ 3 ≤ wrong then
      { s with badWords := nub (s.badWords ++ [w]) }.event 351 [a / 8 * 8]
    else if access = 1 then { s with badWords := s.badWords.filter (· ≠ w) }
    else s

/-- An access on the management interconnect (R364, R366). The units of both cores of a pair check it; where they
differ the pair stops (R345, R347). -/
def State.accessed (s : State) (master priv access a wrong : Nat) : State :=
  let ok := master = 7 || s.permits master priv access a
  let s1 := if !ok then s.denied master priv access a
    else if access = 0 && inSram a then s.sramRead master wrong
    else s.sterostoAccess access a wrong
  if master < 4 ∧ s.permits (master / 2 * 2) priv access a ≠ s.permits (master / 2 * 2 + 1) priv access a then
    s1.stopPair (master / 2)
  else s1

def execAccessDenial (t : Time) (master priv access addr wrong : Nat) (s : State) : Res :=
  unit s (Instr.accessDenial t master priv access addr wrong).wf ((s.at t).accessed master priv access addr wrong)

/-! ## Debug (R367, R369) -/

def execDebugHalt (t : Time) (pair : Nat) (s : State) : Res :=
  let s1 := s.at t
  unit s (Instr.debugHalt t pair).wf
    (if s1.debugOpen ∧ s1.get (pairObj pair) = 0 then (s1.put (pairObj pair) 0 3).pairGone pair else s1)

def execDebugResume (t : Time) (pair : Nat) (s : State) : Res :=
  let s1 := s.at t
  unit s (Instr.debugResume t pair).wf
    (if s1.get (pairObj pair) = 3 then s1.pairRuns pair else s1)

/-- IDCODE (R367). -/
def idcode : Nat := 0xB5120E4B

/-- A JTAG instruction in force: the driving ones act only while SYS_RESET_N is low, as BYPASS
otherwise. -/
def execJtagInstruction (t : Time) (code : Nat) (s : State) : Res :=
  let s1 := s.at t
  let eff := if code ≤ 2 ∨ (code ≤ 7 ∧ s1.boot = .reset) then code else 0
  let s2 := { s1 with jtag := eff }
  unit s (Instr.jtagInstruction t code).wf (if eff = 1 then s2.event 367 [idcode] else s2)

end Sys2Proof.Machine
end

