-- ==== Sys2Proof/Machine/ExecFw.lean ====
section
/-! DEFINITION. Meanings of the commands of the firmware update (R398 to R401). -/

namespace Sys2Proof.Machine

open Sys2Proof

/-! ## The standby bank (R398) -/

/-- Checks that an erase, a write or a verification makes of its bank: a known bank, no operation in
progress, and not the active one. -/
def State.fwBankCode (s : State) (bank : Nat) : Nat :=
  firstCode [codeIf (decide (1 < bank)) 0x0301, codeIf (s.get .FW_OP_STATE ≠ 0) 0x0501,
    codeIf (bank = s.activeFwBank) 0x0401]

/-- An operation on a bank begins. -/
def State.fwBegin (s : State) (bank op : Nat) : State :=
  { s with fw := { s.fw with bank := bank } }.put .FW_OP_STATE 0 op

/-- FW_ERASE. -/
def State.fwErase (s : State) (bank : Nat) : Nat × List Nat × State :=
  let code := s.fwBankCode bank
  if code ≠ 0 then refuse code s else ok [] ((s.fwBegin bank 1).put .FW_BANK_STATE bank 0)

def execFwErase (t : Time) (req : Req) (bank : Nat) (s : State) : Res :=
  unit s (Instr.fwErase t req bank).wf
    ((s.at t).invoke req .FW_ERASE none fun s => s.fwErase bank)

/-- FW_WRITE: 1 to 1,016 bytes at an offset of the bank. -/
def State.fwWrite (s : State) (bank offset : Nat) (bytes : List Nat) : Nat × List Nat × State :=
  let n := bytes.length
  let code := firstCode [codeIf (n = 0 || decide (1016 < n)) 0x0302, s.fwBankCode bank,
    codeIf (decide (0x400000 < offset + n)) 0x0301]
  if code ≠ 0 then refuse code s
  else
    let s := (s.fwBegin bank 2).put .FW_BANK_STATE bank 0
    ok [] ({ s with flash := s.flash.writeAll (bankBase bank + offset) bytes }.bump .FW_LOADED_BYTES bank n)

def execFwWrite (t : Time) (req : Req) (bank offset : Nat) (bytes : List Nat) (s : State) : Res :=
  unitFlash s (Instr.fwWrite t req bank offset bytes).wf
    ((s.at t).invoke req .FW_WRITE none fun s => s.fwWrite bank offset bytes)

/-- FW_VERIFY begins; its outcome comes when it completes. -/
def State.fwVerify (s : State) (bank : Nat) : Nat × List Nat × State :=
  let code := s.fwBankCode bank
  if code ≠ 0 then refuse code s else ok [] (s.fwBegin bank 3)

def execFwVerify (t : Time) (req : Req) (bank : Nat) (s : State) : Res :=
  unit s (Instr.fwVerify t req bank).wf
    ((s.at t).invoke req .FW_VERIFY none fun s => s.fwVerify bank)

/-- The section table in the first 32 bytes of a bank's code keeps the limits of the pairs. -/
def State.sectionsFit (s : State) (bank : Nat) : Bool :=
  let z := Config.sectionSizes (s.flash.bytes (bankBase bank + 4096) 32)
  decide (z.1 ≤ 1536 * 1024) && decide (z.2 ≤ 768 * 1024)

/-- A verification ends: the bank reads 1, or 3 when a check failed. -/
def State.fwVerified (s : State) (bank : Nat) : State :=
  let good := s.accepts bank (s.get .KEYSET_REVOKED) && s.sectionsFit bank
  (s.readHeader bank).put .FW_BANK_STATE bank (if good then 1 else 3)

/-- The operation in progress completes; a verification runs on pair B. -/
def State.fwComplete (s : State) : State :=
  let b := s.fw.bank
  match s.get .FW_OP_STATE with
  | 1 => (({ s with flash := s.flash.erase (bankBase b) 0x400000 }.put .FW_LOADED_BYTES b 0).put .FW_BANK_STATE b 0).put
      .FW_OP_STATE 0 0
  | 2 => s.put .FW_OP_STATE 0 0
  | 3 => if s.get .PAIR_B_STATE ≠ 0 then s else (s.fwVerified b).put .FW_OP_STATE 0 0
  | _ => s

def execFwOperationComplete (t : Time) (s : State) : Res :=
  unitFlash s (Instr.fwOperationComplete t).wf ((s.at t).fwComplete)

/-! ## The switch (R399) -/

/-- A chip's standby bank reads 1. -/
def State.standbyOk (s : State) (n : Nat) : Bool :=
  if n = s.node then s.get .FW_BANK_STATE (otherBank s.activeFwBank) = 1
  else s.orchGet .FW_BANK_STATE n 0 = 1 || s.orchGet .FW_BANK_STATE n 1 = 1

/-- FW_SWITCH: the kind-4 request whose units are region 14 of every named chip. -/
def State.fwSwitch (s : State) (offers : List Time) (nodes : Nat) : Nat × List Nat × State :=
  let named := s.named nodes
  let units := named.map fun n => (n, 14)
  let code := firstCode [codeIf (s.get .FW_OP_STATE ≠ 0) 0x0501, codeIf (!named.all s.standbyOk) 0x0401,
    codeIf (s.epochsRefused || named.any fun n => s.orchGet .PAIR_A_STATE n 0 ≠ 0 || s.orchGet .PAIR_B_STATE n 0 ≠ 0)
      0x0404, s.checkOffers offers, codeIf (s.unitsBusy units) 0x0602]
  let s := s.put .FW_SWITCH_RESULT 0 code
  if code ≠ 0 then refuse code s else s.openFor 4 offers units (.firmware (maskOf named))

def execFwSwitch (t : Time) (req : Req) (offers : List Time) (nodes : Nat) (s : State) : Res :=
  unit s (Instr.fwSwitch t req offers nodes).wf
    ((s.at t).invoke req .FW_SWITCH none fun s => s.fwSwitch offers nodes)

/-! ## The pairs change over (R400, R401) -/

/-- The banks change places once pair B runs the new image. -/
def State.switchOver (s : State) : State :=
  let new := otherBank s.fw.old
  let s := { s with fw := { s.fw with decided := false } }
  s.bankTo new 1

/-- A pair's new section has been loaded. Pair B follows pair A at the next edge. -/
def State.fwReloaded (s : State) (k : Nat) : State :=
  if (s.pairH k).reloading = false ∨ s.get (pairObj k) ≠ 1 then s
  else
    let s := (s.updPair k fun h => { h with reloading := false }).pairRuns k
    if s.fw.trialUntil.isNone then s
    else if k = 0 then { s with fw := { s.fw with pairBDue := true } }
    else s.switchOver

def execFwPairReloadDone (t : Time) (pair : Nat) (s : State) : Res :=
  unit s (Instr.fwPairReloadDone t pair).wf ((s.at t).fwReloaded pair)

/-- FW_TRIAL_TIME has passed since E without a stop. -/
def State.trialOver (s : State) : State :=
  match s.fw.trialUntil with
  | some u => if u ≤ s.now then { s with fw := { s.fw with trialUntil := none } } else s
  | none => s

def execFwTrialEnd (t : Time) (s : State) : Res :=
  unit s (Instr.fwTrialEnd t).wf ((s.at t).trialOver)

end Sys2Proof.Machine
end

