-- ==== Sys2Proof/Machine/ExecLanes.lean ====
section
/-! DEFINITION. Meanings of the lane, training, spare and port commands (R223 to R251). -/

namespace Sys2Proof.Machine

open Sys2Proof

/-! ## Lanes in training (R227 to R232) -/

/-- A lane has met the condition of a stage (R227); stage 3 fails a lane with a skew beyond 6 ns (R230). -/
def LaneH.met (h : LaneH) (st : Nat) : Bool :=
  match st with
  | 2 => decide (64 ≤ h.syncRun)
  | 3 => decide (64 ≤ h.sameRun) && decide (h.skew ≤ 6000)
  | 4 => h.eqDone && h.eqPeerDone
  | _ => true

/-- The receiver's next request, or EQ_OP 4: a free choice (R231, log 5). -/
def State.eqNext (s : State) (port lane : Nat) : State :=
  let (k, s) := s.pick 4
  let (a, s) := s.pick 8
  let op := if k = 0 then 4 else k
  let s := s.updLane lane fun h =>
    { h with ownNum := (h.ownNum + 1) % 16, ownOp := op,
             ownArg := if op = 1 then a else if op = 4 then 0 else a % 3,
             waitEcho := op ≠ 4, eqDone := op = 4 }
  s.emit (.train lane (s.ownBlock port lane (s.indexOf port lane) 4))

/-- The receiver of a lane stops asking: EQ_OP 4 (R231). -/
def State.eqStop (s : State) (port lane : Nat) : State :=
  if (s.laneH lane).eqDone then s
  else
    let s := s.updLane lane fun h =>
      { h with ownNum := (h.ownNum + 1) % 16, ownOp := 4, ownArg := 0, waitEcho := false, eqDone := true }
    s.emit (.train lane (s.ownBlock port lane (s.indexOf port lane) 4))

/-- A tap of C-2, C-1, C+1 moved. DESIGN CHOICE (log 87): a magnitude of 0 is at its limit, and so is a tap that the
request's code does not name. -/
def moveTap (c : Nat × Nat × Nat) (tap : Nat) (up : Bool) : Option (Nat × Nat × Nat) :=
  let f := fun n : Nat => if up then some (n + 1) else if n = 0 then none else some (n - 1)
  match tap with
  | 0 => (f c.1).map fun n => (n, c.2.1, c.2.2)
  | 1 => (f c.2.1).map fun n => (c.1, n, c.2.2)
  | 2 => (f c.2.2).map fun n => (c.1, c.2.1, n)
  | _ => none

/-- The partner's request handled by the lane's transmitter (R231, R232): taps and status. PRESUMED (log 21): PCI Express
Base 6.2 defines presets 0 to 10 for 64.0 GT/s. -/
def eqHandle (rate taps op arg : Nat) : Nat × Nat :=
  if op = 1 then
    if rate = 0x11 then
      match flPreset arg with
      | some (a, b, c) => (tapsWord a b c, 0)
      | none => (taps, 2)
    else if arg ≤ 10 then (Config.presetFl64 arg, 0) else (taps, 2)
  else if op = 2 ∨ op = 3 then
    match moveTap (tapsOf taps) arg (op = 2) with
    | some (a, b, c) => if tapsOk a b c then (tapsWord a b c, 0) else (taps, 1)
    | none => (taps, 1)
  else (taps, 0)

/-- The equalisation fields of a block in stage 4. -/
def State.eqIn (s : State) (port lane rate : Nat) (b : TBlock) : State :=
  let h := s.laneH lane
  let fresh := 1 ≤ b.eqOp && b.eqOp ≤ 4 && b.eqNum ≠ h.eqNum
  let s :=
    if fresh then
      let (taps, st) := eqHandle rate (s.get .TX_TAPS lane) b.eqOp b.eqArg
      let s := (s.put .TX_TAPS lane taps).updLane lane fun h =>
        { h with eqNum := b.eqNum, eqStatus := st, eqPeerDone := h.eqPeerDone || b.eqOp = 4 }
      s.emit (.train lane (s.ownBlock port lane (s.indexOf port lane) 4))
    else s
  if h.waitEcho ∧ b.echoNum = h.ownNum then s.eqNext port lane else s

/-- What one block changes at its lane, in stage `st` (R228, R229). -/
def State.blockIn (s : State) (port lane st rate : Nat) (b : TBlock) : State :=
  if b.sync = 0x2A3C5E69 then
    (s.put .POLARITY_INVERTED lane 1).updLane lane fun h => { h with syncRun := 0, sameRun := 0 }
  else if b.sync ≠ 0xD5C3A196 then
    s.updLane lane fun h => { h with syncRun := 0, sameRun := 0 }
  else
    let w := widthOf b.width
    let s := s.updLane lane fun h =>
      { h with syncRun := min 64 (h.syncRun + 1),
               sameRun := if h.peerWidth = w ∧ h.peerRate = b.rate then min 64 (h.sameRun + 1) else 1,
               index := b.laneIndex, peerWidth := w, peerRate := b.rate,
               skew := b.skew }
    if st = 4 then s.eqIn port lane rate b else s

/-- Stage 4 begins on lanes: FL-106 starts on F4 (R232), and each receiver asks (R231). -/
def State.startEq (s : State) (port rate : Nat) (lanes : List Nat) : State :=
  lanes.foldl (fun s l =>
    let s := if rate = 0x11 then s.put .TX_TAPS l (tapsWord 0 4 6) else s
    s.eqNext port l) s

/-- Lanes' counts of stage 3 start again. -/
def State.startIdentity (s : State) (lanes : List Nat) : State :=
  lanes.foldl (fun s l => s.updLane l fun h => { h with sameRun := 0 }) s

/-- Stage 3 ends: order, width and rate (R225, R229). -/
def State.identified (s : State) (port : Nat) : State :=
  let ls := s.trainLanes port
  let w := s.get .PORT_WIDTH port
  let phys := ls.filter fun x => x.2 < 512
  let straight := phys.all fun x => (s.laneH x.2).index = x.2 - port
  let turned := phys.all fun x => (s.laneH x.2).index = w - 1 - (x.2 - port)
  if !straight && !turned then s.trainFail port 3
  else
    let s := s.put .LANE_ORDER port (if straight then 0 else 1)
    let peerRate := if ls.all fun x => (s.laneH x.2).peerRate = 1 then 0x11 else 0x10
    let s := s.updTrain port fun t =>
      { t with width := min t.width ls.length, rate := min t.rate peerRate }
    (s.toStage port 4).startEq port (s.train port).rate (ls.map (·.2))

/-- Stage 6 begins, with flit boundaries still to be found (R233); a spare in place of a lane enters state 3 before it (R249). -/
def State.toAlign (s : State) (port : Nat) : State :=
  let s := match s.spareOf port with
    | some k =>
      if s.get .SPARE_STATE k = 1 then (s.put .SPARE_STATE k 3).put .LANE_STATE (spareLane k) 2 else s
    | none => s
  (s.updLink port fun h => { h with lock := false, good := 0, bad := 0 }).toStage port 6

/-- A stage whose condition every lane meets ends (R227). -/
def State.stageDone (s : State) (port : Nat) : State :=
  let st := s.get .TRAIN_STATE port
  let ls := s.trainLanes port
  if ls.isEmpty || !(ls.all fun x => (s.laneH x.2).met st) then s
  else match st with
    | 2 => (s.toStage port 3).startIdentity (ls.map (·.2))
    | 3 => s.identified port
    | 4 => s.toStage port 5
    | _ => s

/-! ## Spares in training (R244, R249) -/

def State.spareH (s : State) (k : Nat) : SpareH := s.spares.getD {} k

def State.updSpare (s : State) (k : Nat) (f : SpareH → SpareH) : State :=
  { s with spares := s.spares.updD {} k f }

/-- A spare begins its own training for a lane (R244). -/
def State.trainSpare (s : State) (k j : Nat) : State :=
  let s := (s.updLane (spareLane k) fun _ => {}).updSpare k fun _ => { stage := 2, stageAt := s.now }
  let s := ((s.put .SPARE_LANE k j).put .LANE_STATE (spareLane k) 1).put .SPARE_STATE k 1
  (s.updLink (s.get .SPARE_PORT k) fun h => { h with rxOnSpare := false }).sendBlock (s.get .SPARE_PORT k) (spareLane k) 2

/-- The spare takes the place of lane j in the stage that runs; its blocks say so, in stage 5 too (R249). -/
def State.substitute (s : State) (port k j : Nat) : State :=
  let s := (s.failLane port j).put .LANE_STATE (s.physLane port j) 3
  let s := (s.trainSpare k j).toStage port (s.get .TRAIN_STATE port)
  if s.get .TRAIN_STATE port = 4 then s.startEq port (s.train port).rate [spareLane k]
  else if s.get .TRAIN_STATE port = 5 then s.sendBlock port (spareLane k) 5
  else s

/-- A spare has failed: it is parked, and serves no lane (R244). -/
def State.spareBroken (s : State) (k : Nat) : State :=
  (((s.put .SPARE_LANE k 0xFF).put .LANE_STATE (spareLane k) 0).put .SPARE_STATE k 4).event 244 [k]

/-- Lanes that fail a stage: one is replaced by an idle bound spare, otherwise training fails, and a spare that stands in
for one of them has failed (R227, R244, R249). -/
def State.lanesFail (s : State) (port : Nat) (js : List Nat) : State :=
  let st := s.get .TRAIN_STATE port
  match s.spareOf port with
  | none => s.trainFail port st
  | some k =>
    match js with
    | [j] =>
      if s.get .SPARE_STATE k = 0 ∧ 2 ≤ st ∧ st ≤ 5 then s.substitute port k j
      else if s.get .SPARE_STATE k = 1 ∧ s.get .SPARE_LANE k = j then (s.spareBroken k).trainFail port st
      else s.trainFail port st
    | _ =>
      if s.get .SPARE_STATE k = 1 ∧ js.contains (s.get .SPARE_LANE k) then (s.spareBroken k).trainFail port st
      else s.trainFail port st

/-- A spare that fails its own training: failed, the request it served ends, and the port is
narrowed (R244, R250, log 22). -/
def State.spareFails (s : State) (port k : Nat) : State :=
  let j := s.get .SPARE_LANE k
  let mine := fun m : Option Ctl => match m with
    | some c => if c.kind = 3 then none else some c
    | none => none
  let s := s.updLink port fun h =>
    { h with own := mine h.own, theirs := mine h.theirs, toDone := mine h.toDone,
             granted := h.granted && (mine h.own).isSome }
  let s := s.spareBroken k
  if j < 16 then (s.failLane port j).narrow port true else s.narrow port true

/-- A spare's own stage ends when its lane meets the condition. -/
def State.spareStage (s : State) (port k : Nat) : State :=
  let st := (s.spareH k).stage
  let l := spareLane k
  if 2 ≤ st && st ≤ 4 && (s.laneH l).met st then
    let s := (s.updSpare k fun h => { h with stage := st + 1, stageAt := s.now }).sendBlock port l (min 4 (st + 1))
    if st = 2 then s.startIdentity [l]
    else if st = 3 then s.startEq port (s.get .LINK_RATE port) [l]
    else s
  else s

/-- A block on a lane or spare of a port (R228, R229, R249); STAGE 5 on a spare tells that it has passed at the
partner (R244). One whose CHECK fails is ignored; one that arrives
inverted tells the polarity alone. -/
def State.trainBlock (s : State) (lane : Nat) (b : TBlock) : State :=
  match s.portAtLane lane with
  | none => s
  | some port =>
    let st := s.get .TRAIN_STATE port
    if !s.isFabric port || (b.sync ≠ 0x2A3C5E69 && (!blockOk b || b.stage = 0 || 5 < b.stage)) then s
    else if lane < 512 then
      if 2 ≤ st && st ≤ 4 && !s.laneFailed port (s.logLane port lane) then
        (s.blockIn port lane st (s.train port).rate b).stageDone port
      else s
    else
      let k := lane - 512
      let s := if 2 ≤ st ∧ st ≤ 5 ∧ s.get .SPARE_STATE k = 0 ∧ b.laneIndex < 16 ∧ b.sync = 0xD5C3A196 then
          s.substitute port k b.laneIndex else s
      if (s.substitutes port (s.get .SPARE_LANE k)).isSome then
        if 2 ≤ st ∧ st ≤ 4 then (s.blockIn port lane st (s.train port).rate b).stageDone port else s
      else if s.get .SPARE_STATE k = 1 then
        let s := if b.stage = 5 ∧ b.sync = 0xD5C3A196 then s.updSpare k fun h => { h with peerDone := true } else s
        (s.blockIn port lane (s.spareH k).stage (s.get .LINK_RATE port) b).spareStage port k
      else s

/-! ## Meanings -/

/-- Receiver detection on a fabric port (R227). -/
def execDetectRetry (t : Time) (port : Nat) (first last : Bool) (s : State) : Res :=
  let s1 := s.at t
  unit s (Instr.detectRetry t port first last).wf
    (if s1.isFabric port && s1.get .TRAIN_STATE port = 1 && (first || last) then s1.toStage port 2
      else s1)

def execTrainingBlockReceive (t : Time) (lane : Nat) (b : TBlock) (s : State) : Res :=
  unit s (Instr.trainingBlockReceive t lane b).wf ((s.at t).trainBlock lane b)

/-- Limit of a stage (R227). -/
def stageLimit (st : Nat) : Time := ms ([0, 0, 2, 1, 20, 1, 1].getD st 0)

/-- The limit of a stage has passed: of the port's training, or of a spare's own. Stage 5 ends with VERIFY_STAGE_END. -/
def State.stageLate (s : State) (port : Nat) : State :=
  let st := s.get .TRAIN_STATE port
  if 2 ≤ st ∧ st ≤ 6 then
    if s.now < (s.train port).stageAt + stageLimit st ∨ st = 5 then s
    else
      let s := if st = 4 then (s.trainLanes port).foldl (fun s x => s.eqStop port x.2) s else s
      let bad := ((s.trainLanes port).filter fun x => !(s.laneH x.2).met st).map (·.1)
      if bad.isEmpty && st = 4 then s.stageDone port else s.lanesFail port bad
  else match s.spareOf port with
    | some k =>
      if s.get .SPARE_STATE k = 1 ∧ (s.spareH k).stage < 5 ∧
          (s.spareH k).stageAt + stageLimit (s.spareH k).stage ≤ s.now then
        if (s.spareH k).stage = 4 ∧ (s.laneH (spareLane k)).eqPeerDone then
          (s.eqStop port (spareLane k)).spareStage port k
        else s.spareFails port k
      else s
    | none => s

def execTrainStageTimeout (t : Time) (port : Nat) (s : State) : Res :=
  let s1 := s.at t
  unit s (Instr.trainStageTimeout t port).wf (if s1.isFabric port then s1.stageLate port else s1)

/-- Bit errors that stage 5 allows (R227). -/
def State.verifyLimit (s : State) (port : Nat) : Nat :=
  match s.spareOf port with
  | some k => s.get .SPARE_VERIFY_LIMIT k
  | none => 100

/-- A spare's own millisecond of stage 5 has passed with some bit errors: its blocks then say STAGE 5, or it has failed
(R228, R244). -/
def State.spareVerified (s : State) (port errs : Nat) : State :=
  match s.spareOf port with
  | none => s
  | some k =>
    if s.get .SPARE_STATE k = 1 ∧ (s.spareH k).stage = 5 ∧ (s.spareH k).ownDone = false ∧
        (s.spareH k).stageAt + stageLimit 5 ≤ s.now then
      if errs ≤ s.get .SPARE_VERIFY_LIMIT k then
        (s.updSpare k fun h => { h with ownDone := true }).sendBlock port (spareLane k) 5
      else s.spareFails port k
    else s

/-- The millisecond of stage 5 has passed: `errs` are the bit errors of the logical lanes in order, or of a spare that
trains alone. -/
def execVerifyStageEnd (t : Time) (port : Nat) (errs : List Nat) (s : State) : Res :=
  let s1 := s.at t
  let ls := s1.trainLanes port
  let bad := ((List.range ls.length).filter fun i => s1.verifyLimit port < errs.getD i 0).filterMap fun i =>
    ls[i]?.map (·.1)
  let due := s1.isFabric port && s1.get .TRAIN_STATE port = 5 &&
    decide ((s1.train port).stageAt + stageLimit 5 ≤ s1.now)
  unit s (Instr.verifyStageEnd t port errs).wf
    (if s1.isFabric port && s1.get .TRAIN_STATE port = 7 then s1.spareVerified port (errs.getD 0 0)
      else if !due then s1 else if bad.isEmpty then s1.toAlign port else s1.lanesFail port bad)

/-- RETRAIN_INTERVAL after a failure has passed (R227). -/
def execRetrainIntervalExpiry (t : Time) (port : Nat) (s : State) : Res :=
  let s1 := s.at t
  let due := match (s1.train port).failedAt with
    | some a => s1.isFabric port && s1.get .TRAIN_STATE port = 0 &&
        decide (a + us (s1.get .RETRAIN_INTERVAL port) ≤ s1.now)
    | none => false
  unit s (Instr.retrainIntervalExpiry t port).wf (if due then s1.startDetect port else s1)

/-! ## The margin monitor (R236, R240, R246, R250) -/

/-- The width of a PCI Express link that leaves its failed lanes out (R236). -/
def State.degradedWidth (s : State) (port : Nat) : Nat :=
  s.soundWidth port (s.get .LINK_WIDTH port) (s.get .LINK_WIDTH port)

/-- A degraded lane of a host or device port is left out (R236). -/
def State.degrade (s : State) (port lane : Nat) : State :=
  let s := (s.failLane port (lane - port)).put .LANE_STATE lane 3
  (s.put .LINK_WIDTH port (s.degradedWidth port)).emit (.link 236 [port, lane])

/-- A REQUEST of kind 3, phase TRAIN, for a logical lane (R246). -/
def trainMsg (j : Nat) : Ctl := { op := 1, kind := 3, phase := 1, lane := j }

/-- What a trigger on a lane of a fabric port does (R246, R250). -/
def State.fabricTrigger (s : State) (port lane : Nat) : State :=
  match s.spareOf port with
  | none => s
  | some k =>
    let st := s.get .SPARE_STATE k
    if 512 ≤ lane then (if st = 3 then s.narrow port true else s)
    else
      let j := s.logLane port lane
      if st = 0 then
        if s.get .SPARE_AUTO k = 1 ∧ s.noRequest port ∧ s.get .OL_STATE port = 2 then
          s.newReq port (trainMsg j)
        else s
      else if st ≤ 3 then (s.failLane port j).narrow port false
      else s

/-- A trigger of R240. -/
def State.marginTrigger (s : State) (lane : Nat) : State :=
  let s := (s.bump .MARGIN_TRIGGERS lane).raise { code := 0x1006, kind := 3, idx := lane }
  match s.portAtLane lane with
  | none => s
  | some port =>
    if s.isFabric port then s.fabricTrigger port lane
    else if s.get .DEGRADE_ACTION port = 1 then s.degrade port lane
    else s

/-- The errors of a host or device lane since the last sample, in symbols, by PCI Express's lane mapping (R238). Each
symbol has a bit in error at least; how many more is a free choice. -/
def State.pcieErrors (s : State) (lane : Nat) (syms : Option Nat) : State :=
  match syms, s.portAtLane lane with
  | some n, some port =>
    if s.isFabric port ∨ 512 ≤ lane then s
    else
      let (k, s) := s.pick (7 * n + 1)
      s.laneErrors lane (n + k) n
  | _, _ => s

/-- A sample of a lane in service; a window of 1 ms that has ended gives CORRECTED_RATE (R240). A trigger starts both
runs anew (log 22). -/
def State.sampleLane (s : State) (lane height width : Nat) : State :=
  let s := (s.put .EYE_HEIGHT lane (height % 256)).put .EYE_WIDTH lane (width % 256)
  let h := s.laneH lane
  let ends := decide (h.winAt + ms 1 ≤ s.now)
  let s := if ends then (s.put .CORRECTED_RATE lane (h.winCount % 2 ^ 32)).updLane lane fun h =>
      { h with winCount := 0, winAt := s.now } else s
  let low := if height < s.get .MARGIN_THRESHOLD lane then h.lowRun + 1 else 0
  let most := s.get .ERROR_RATE_THRESHOLD lane
  let rate := if !ends then h.rateRun else if most ≠ 0 ∧ most < h.winCount then h.rateRun + 1 else 0
  if 3 ≤ low ∨ 2 ≤ rate then
    (s.updLane lane fun h => { h with lowRun := 0, rateRun := 0 }).marginTrigger lane
  else s.updLane lane fun h => { h with lowRun := low, rateRun := rate }

/-- Tile of a lane or spare (R11, R223). -/
def laneTile (lane : Nat) : Nat := if lane < 512 then lane / 64 else (lane - 512) / 4

/-- The margin monitor samples while its engine has budget (R240): the eye, and the errors of a host or device lane
since the last sample. What it finds crosses from the tile to the control complex, three words of it; while the crossing
is full it takes no sample (R13, R14, log 77). -/
def execMarginSample (t : Time) (lane height width : Nat) (corrected : Option Nat) (s : State) : Res :=
  let s1 := s.at t
  let x : Xing := .tileCtl (laneTile lane) true
  unit s (Instr.marginSample t lane height width corrected).wf
    (if s1.get .LANE_STATE lane = 2 ∧ s1.pausedIn 3 (laneTile lane) = false ∧ s1.xFull x = false then
      ((s1.xPut x 12).pcieErrors lane corrected).sampleLane lane height width
    else s1)

/-! ## Spares (R244 to R248) -/

/-- SPARE_COMMAND: TRAIN and then SWAP for a lane (R246, R247, 3410.07). DESIGN CHOICE (log 87): beside a spare that is
not in state 0, one that is not bound, a port that is not ACTIVE and one on which a request stands are refused with
0x0401, and a lane that the link does not have with 0x0301. -/
def State.spareCmd (s : State) (k j : Nat) : Nat × List Nat × State :=
  let port := s.get .SPARE_PORT k
  let code := firstCode [codeIf (512 ≤ port || s.get .SPARE_STATE k ≠ 0) 0x0401,
    codeIf (!(s.logLanes port).contains j) 0x0301,
    codeIf (s.get .OL_STATE port ≠ 2 || !s.noRequest port) 0x0401]
  if code ≠ 0 then refuse code s else ok [] (s.newReq port (trainMsg j))

def execSpareCommand (t : Time) (req : Req) (spare lane : Nat) (s : State) : Res :=
  unit s (Instr.spareCommand t req spare lane).wf
    ((s.at t).invoke req .SPARE_COMMAND (some spare) fun s => s.spareCmd spare lane)

/-- Stage 5 has passed at both ends: the spare mirrors its lane (R244), and the responder's DONE ends
the TRAIN request (R246). -/
def execSpareTrained (t : Time) (spare : Nat) (s : State) : Res :=
  let s1 := s.at t
  let port := s1.get .SPARE_PORT spare
  unit s (Instr.spareTrained t spare).wf
    (if s1.get .SPARE_STATE spare = 1 && port < 512 && s1.get .TRAIN_STATE port = 7 &&
          (s1.spareH spare).ownDone && (s1.spareH spare).peerDone then
        let s2 := ((s1.updSpare spare fun _ => { readyAt := s1.now }).put .LANE_STATE (spareLane spare)
          2).put .SPARE_STATE spare 2
        s2.sendDone port
      else s1)

/-- 100 ms in ready with no SWAP request (R244). -/
def execSpareReadyTimeout (t : Time) (spare : Nat) (s : State) : Res :=
  let s1 := s.at t
  let port := s1.get .SPARE_PORT spare
  unit s (Instr.spareReadyTimeout t spare).wf
    (if s1.get .SPARE_STATE spare = 2 && decide ((s1.spareH spare).readyAt + ms 100 ≤ s1.now) &&
          !(s1.link port).swaps then s1.parkSpare port
      else s1)

/-- A flit count has reached a flit number (R234). -/
def countPast (count flit : Nat) : Bool := decide ((count + 2 ^ 32 - flit) % 2 ^ 32 < 2 ^ 31)

/-- The responder of a SWAP sends DONE once its receiver has switched and its transmit count has
passed its own SWAP_FLIT (R247). -/
def State.swapCheck (s : State) (port : Nat) : State :=
  let h := s.link port
  match h.toDone, h.swapTx with
  | some m, some f =>
    if m.kind = 3 ∧ m.phase = 2 ∧ h.rxOnSpare ∧ countPast h.txCount ((f + 1) % 2 ^ 32) then
      ((s.updLink port fun h => { h with swapTx := none, swapRx := none }).swapDone port).sendDone port
    else s
  | _, _ => s

/-- The receive count reaches the partner's SWAP_FLIT: the spare is active, and the next exchange is skipped (R34, R244,
R247). -/
def execSwapFlitReached (t : Time) (port : Nat) (s : State) : Res :=
  let s1 := s.at t
  let due := match (s1.link port).swapRx with
    | some f => s1.get .OL_STATE port = 2 && countPast (s1.link port).rxCount f
    | none => false
  unit s (Instr.swapFlitReached t port).wf
    (if due && !(s1.link port).rxOnSpare then
        ((s1.spareTakes port).updLink port fun h => { h with rxOnSpare := true }).swapCheck port
      else s1)

/-! ## Requests (R224, R225, R237 to R239, R251) -/

/-- RATE code of a fabric rate (R245). -/
def rateCode (r : Nat) : Nat := if r = 0x11 then 1 else 0

/-- A physical retrain of a fabric port is wanted (R251): withdrawn first while the link is ACTIVE, or will be;
otherwise training starts again from stage 2 with every lane. -/
def State.retrainFabric (s : State) (port : Nat) : State :=
  if 2 ≤ s.get .OL_STATE port then
    s.withdrawPort port { op := 1, kind := 5, width := widthCode (s.get .PORT_WIDTH port),
                          rate := rateCode (fabricRate (s.get .MAX_RATE port)) }
  else (s.restartAt port (s.get .PORT_WIDTH port) (fabricRate (s.get .MAX_RATE port))).put .OL_STATE port 0

/-- RETRAIN (R236, R251). -/
def State.retrainPort (s : State) (port : Nat) : Nat × List Nat × State :=
  if s.isFabric port then ok [] (s.retrainFabric port)
  else if s.isHost port || s.isDevice port then
    ok [] ((s.put .FAILED_LANES port 0).emit (.link 251 [port]))
  else refuse 0x0401 s

def execRetrain (t : Time) (req : Req) (port : Nat) (s : State) : Res :=
  unit s (Instr.retrain t req port).wf
    ((s.at t).invoke req .RETRAIN (some port) fun s => s.retrainPort port)

/-- COUNTER_CLEAR (R238). -/
def execCounterClear (t : Time) (req : Req) (lane : Nat) (s : State) : Res :=
  unit s (Instr.counterClear t req lane).wf
    ((s.at t).invoke req .COUNTER_CLEAR (some lane) fun s =>
      ok [] (((s.put .BIT_ERRORS lane 0).put .SYMBOL_ERRORS lane 0).put .MARGIN_TRIGGERS lane 0))

/-- A write of a port's rate, width and role (R224, R225). -/
def execPortCfgWrite (t : Time) (req : Req) (port : Nat) (role width rate : Option Nat) (s : State) : Res :=
  unit s (Instr.portCfgWrite t req port role width rate).wf
    ((s.at t).hexsum req fun s => s.writeSet req
      (entriesOf (some port) [(.MAX_RATE, rate), (.PORT_WIDTH, width), (.PORT_ROLE, role)]))

/-- A lane runs two bits per PAM4 symbol: FL rates and 64 GT/s (R237). -/
def State.pam4 (s : State) (lane : Nat) : Bool :=
  match s.portAtLane lane with
  | some p => decide (6 ≤ s.get .MAX_RATE p)
  | none => true

/-- Errors in the last 256 bits. -/
def LaneH.recent (h : LaneH) : Nat := (h.wrong.filter id).length

/-- One received bit at a checker of degree n and tap m: whether it is in error, whether the checker holds lock after
it, and the checker. Without lock the received bits seed the register, and 64 error-free ones in a row give lock; with it
the register runs on by itself, and 32 errors in 256 bits lose the lock, after which the checker seeds itself anew
(R237). -/
def checkBit (n m : Nat) (lock : Bool) (h : LaneH) (b : Bool) : Bool × Bool × LaneH :=
  let p := prbsNext n m h.prbs
  if lock then
    let h := { h with prbs := prbsShift n h.prbs p, wrong := (xor b p :: h.wrong).take 256 }
    if 32 ≤ h.recent then (xor b p, false, { h with seeded := 0, clean := 0, wrong := [] }) else (xor b p, true, h)
  else
    let clean := if h.seeded < n ∨ xor b p then 0 else h.clean + 1
    (false, decide (64 ≤ clean),
      { h with prbs := prbsShift n h.prbs b, seeded := min n (h.seeded + 1), clean := clean, wrong := [] })

/-- Received bits at a checker, in order: which are in error, lock and checker after them. -/
def checkBits (n m : Nat) : Bool → LaneH → List Bool → List Bool × Bool × LaneH
  | lock, h, [] => ([], lock, h)
  | lock, h, b :: bs =>
    let x := checkBit n m lock h b
    let y := checkBits n m x.2.1 x.2.2 bs
    (x.1 :: y.1, y.2.1, y.2.2)

/-- PAM4 symbols of two bits each with a bit in error. -/
def pairsWrong : List Bool → Nat
  | a :: b :: l => b2n (a || b) + pairsWrong l
  | [a] => b2n a
  | [] => 0

/-- The checker of a lane takes received bits: PRBS_LOCK, and the errors while it holds lock (R237, R238). -/
def State.checkLane (s : State) (lane : Nat) (bits : List Bool) : State :=
  let (n, m) := prbsTaps (s.get .PRBS_CHECK lane)
  let (e, lock, h) := checkBits n m (s.get .PRBS_LOCK lane = 1) (s.laneH lane) bits
  let bad := (e.filter id).length
  let s := ((s.updLane lane fun _ => h).bumpHold .BIT_ERRORS lane bad).bumpHold .SYMBOL_ERRORS lane
    (if s.pam4 lane then pairsWrong e else bad)
  s.put .PRBS_LOCK lane (b2n lock)

/-- A checker without lock receives bits, and locks after 64 error-free ones (R237). -/
def execPrbsCheckerLock (t : Time) (lane : Nat) (bits : List Bool) (s : State) : Res :=
  let s1 := s.at t
  unit s (Instr.prbsCheckerLock t lane bits).wf
    (if s1.get .PRBS_CHECK lane = 0 ∨ s1.get .PRBS_LOCK lane = 1 then s1 else s1.checkLane lane bits)

/-- A checker with lock receives bits: errors are counted, and 32 in 256 bits lose the lock (R237, R238). -/
def execPrbsCheckerLockLost (t : Time) (lane : Nat) (bits : List Bool) (s : State) : Res :=
  let s1 := s.at t
  unit s (Instr.prbsCheckerLockLost t lane bits).wf
    (if s1.get .PRBS_CHECK lane = 0 ∨ s1.get .PRBS_LOCK lane = 0 then s1 else s1.checkLane lane bits)

end Sys2Proof.Machine
end

