-- ==== Sys2Proof/Machine/ExecLink.lean ====
section
/-! DEFINITION. Meanings of the Orchard Link's commands (R189 to R221, R233, R246 to R248). -/

namespace Sys2Proof.Machine

open Sys2Proof

/-! ## Flits in (R190 to R194, R197, R201 to R210, R226, R233, R234, R238) -/

/-- The parts of a DATA flit follow R197: only the first may go on from an earlier flit, only the
last may run on, and then the flit is full. -/
def partsOk : Bool → List Part → Bool
  | _, [] => true
  | atStart, q :: qs =>
    let g := granulesOf q.pkt.tlp.bytes
    1 ≤ q.granules && q.granules ≤ 59 && q.start + q.granules ≤ g && (q.first = decide (q.start = 0)) &&
      (q.last = decide (q.start + q.granules = g)) && (q.first || atStart) && (q.last || qs.isEmpty) && partsOk false qs

/-- A flit's type, VALID_GRANULES, FIRST_START and payload agree (R193, R197, R198, R215). -/
def flitFramed (f : Flit) : Bool :=
  let v := lhValid f.header
  let fs := lhFirst f.header
  match lhType f.header, f.payload with
  | 0, .idle => v = 0 && fs = 63
  | 1, .data ps =>
    let n := (ps.map (·.granules)).sum
    !ps.isEmpty && partsOk true ps && v = n && n ≤ 59 && fs = firstStart ps 0 &&
      (n = 59 || (ps.getLast?.map (·.last)).getD true)
  | 2, .control m => v = (if m.op = 5 then 5 else 4) && fs = 63
  | 3, .init _ => v = 12
  | _, _ => false

/-- The flit that a receiver takes, where it is good (R192). -/
def flitTaken (f : Flit) : Option Flit :=
  match flitDecoded f with
  | some g => if flitFramed g then some g else none
  | none => none

/-- Bits set in a byte. -/
def popCount (n : Nat) : Nat := ((List.range 8).filter fun i => n.testBit i).length

/-- The corrections of a flit counted (R192, R226, R238). -/
def State.corrected (s : State) (port : Nat) (f : Flit) : State :=
  let fixed := flitCorrections f
  let s := (s.bump .FEC_CORRECTED port fixed.length).countTile port 0x83 fixed.length
  fixed.foldl (fun s x =>
    let j := (s.train port).offset + x.1 % max 1 (s.get .LINK_WIDTH port)
    let l := if s.sparedLane port = some j then ((s.spareOf port).map spareLane).getD 0 else s.physLane port j
    if s.get .LANE_STATE l = 2 then s.laneErrors l (popCount x.2) 1 else s) s

/-- The SWAP request for the lane that the spare carries (R247, R248). It waits while another request stands (R216). -/
def State.askSwap (s : State) (port k : Nat) : State :=
  let m : Ctl := { op := 1, kind := 3, phase := 2, lane := s.get .SPARE_LANE k, swapFlit := (s.link port).swapFlit 1 }
  if (s.link port).swaps ∨ s.get .OL_STATE port ≠ 2 then s
  else if s.noRequest port then (s.updLink port fun h => { h with swapTx := some m.swapFlit }).newReq port m
  else s.updLink port fun h => { h with deferred := some m }

/-- Block lock is lost (R233, R248): a ready spare takes over at once, and the partner is asked to switch as well. -/
def State.lockLost (s : State) (port : Nat) : State :=
  let s := s.updLink port fun h => { h with lock := false, good := 0, lockLostAt := some s.now }
  match s.spareOf port with
  | none => s
  | some k =>
    if s.get .SPARE_STATE k ≠ 2 then s
    else ((s.spareTakes port).updLink port fun h => { h with rxOnSpare := true }).askSwap port k

/-- Training ends when the receiver holds block lock, and the port enters INIT (R198, R227). -/
def State.lockFound (s : State) (port : Nat) : State :=
  let s := s.updLink port fun h => { h with lock := true, lockLostAt := none }
  if s.get .TRAIN_STATE port = 6 then
    ((s.trainDone port).clearPortCounters port).enterInit port else s

/-- The receiver's runs of good and bad flits (R233). -/
def State.lockStep (s : State) (port : Nat) (good : Bool) : State :=
  let h := s.link port
  if good then
    let s := s.updLink port fun h => { h with good := min 4 (h.good + 1), bad := 0 }
    if !h.lock && 3 ≤ h.good then s.lockFound port else s
  else
    let s := s.updLink port fun h => { h with good := 0, bad := min 8 (h.bad + 1) }
    if h.lock && 7 ≤ h.bad then s.lockLost port else s

/-- A NAK is due, once in an episode (R205). -/
def State.nakNow (s : State) (port : Nat) : State :=
  if (s.link port).nakOpen then s
  else s.updLink port fun h => { h with nakDue := true, nakOpen := true, nakAt := s.now }

/-- ACK_KIND and ACK_SEQ of a good flit (R201, R203, R205 to R207). DESIGN CHOICE (log 90): a value that lies both before
O - 1 and after L by the half-space comparison is a protocol error, not a stale acknowledge. -/
def State.ackIn (s : State) (port kind a : Nat) : State :=
  if kind ≠ 1 ∧ kind ≠ 2 then s
  else
    let h := s.link port
    let o := seqPrev h.oldest
    let l := seqPrev (s.get .TX_NEXT_SEQ port)
    if seqDist a o = 32768 ∨ seqDist a l = 32768 ∨ seqAfter a l then s.unplanned port
    else if seqBefore a o then s.bump .STALE_ACKS port
    else
      let again := h.replay.isSome && h.replayNak = some a
      let s := s.ackUpTo port a
      if kind = 1 ∨ again then s
      else (s.bump .NAKS_RECEIVED port).startReplay port (seqNext a) (some a)

/-- The credit return of a good flit (R209, R210); it unparks the port's queues (R151). -/
def State.creditIn (s : State) (port v n : Nat) : State :=
  let r := (s.link port).R v
  let d := (n + 2 ^ 21 - r) % 2 ^ 21
  if d = 0 ∨ 2 ^ 20 ≤ d then s
  else (s.updLink port fun h => { h with back := h.back.set v (withParity n) }).unparkPort port

/-- Units that the pool holds, a packet partly received among them. -/
def State.unitsHeld (s : State) (port : Nat) : Nat :=
  ((List.range 8).map fun v => s.poolHeld port v).sum +
    (match (s.link port).rxPart with
      | some (p, _) => creditUnits p
      | none => 0)

/-- Units of the packets that begin in a flit. -/
def unitsIn (ps : List Part) : Nat := ((ps.filter (·.first)).map fun q => creditUnits q.pkt).sum

/-- The parts of an accepted DATA flit (R197): a packet whose last granule has come is the
receiver's, for its own step (log 15); the last may run on, from the granule at which it begins. -/
def State.takeParts (s : State) (port seq : Nat) (ps : List Part) : State :=
  match ps.getLast? with
  | none => s
  | some q =>
    if q.last then s.updLink port fun h => { h with rxPart := none, resume := 0 }
    else if q.first then
      s.updLink port fun h =>
        { h with rxPart := some (q.pkt, q.granules, seq, (ps.map (·.granules)).sum - q.granules), resume := 0 }
    else s.updLink port fun h =>
      { h with rxPart := h.rxPart.map fun x => (x.1, x.2.1 + q.granules, x.2.2.1, x.2.2.2), resume := 0 }

/-- A DATA or CONTROL flit with SEQ = EXP is accepted; an acknowledgement is owed (R203, R204). -/
def State.acceptFlit (s : State) (port seq : Nat) (pl : Payload) : State :=
  let h := s.link port
  let owed := h.owed + 1
  let s := s.updLink port fun h =>
    { h with owed := owed, ackFrom := if h.owed = 0 then s.now else h.ackFrom,
             ackDue := h.ackDue || decide (s.get .ACK_COALESCE port ≤ owed), nakOpen := false }
  let s := s.put .RX_EXPECTED port (seqNext seq)
  match pl with
  | .data ps => s.takeParts port seq ps
  | _ => s

/-- A flit would go on with another packet than the one that the receiver holds in part, or elsewhere in it
(R192, R197). -/
def State.strayPart (s : State) (port : Nat) (ps : List Part) : Bool :=
  match (partsAfter (s.link port).resume ps).head?, (s.link port).rxPart with
  | some q, some (p, held, _) => q.first || q.pkt ≠ p || q.start ≠ held
  | some q, none => !q.first
  | none, _ => false

/-- The packets that begin in a flit would take the pool beyond POOL_UNITS (R209). -/
def State.overflows (s : State) (port : Nat) (ps : List Part) : Bool :=
  decide (s.poolUnits port < s.unitsHeld port + unitsIn (partsAfter (s.link port).resume ps))

/-- The packets of the DATA flit that is expected; none of any other flit. -/
def State.expected (s : State) (port : Nat) (f : Flit) : List Part :=
  match f.payload with
  | .data ps => if s.get .OL_STATE port = 2 ∧ lhSeq f.header = s.get .RX_EXPECTED port then ps else []
  | _ => []

/-- A bad flit of a link in ACTIVE (R192, R205). It counts, whatever its type was (R234); DESIGN CHOICE (log 87): one
among the trailing INIT flits counts until the next good INIT. -/
def State.badFlit (s : State) (port : Nat) : State :=
  let s := ((s.bump .BAD_FLITS port).countTile port 0x82 1).lockStep port false
  if s.get .OL_STATE port ≠ 2 then s
  else (s.updLink port fun h => { h with rxCount := (h.rxCount + 1) % 2 ^ 32 }).nakNow port

/-- Sequence rules of a good IDLE, DATA or CONTROL flit in ACTIVE (R201, R203). -/
def State.sequenceIn (s : State) (port ftype seq : Nat) (pl : Payload) : State :=
  let e := s.get .RX_EXPECTED port
  if s.get .OL_STATE port ≠ 2 then s
  else if seqDist seq e = 32768 then s.unplanned port
  else if seqAfter seq e then s.nakNow port
  else if ftype = 0 then s
  else if seqBefore seq e then s.updLink port fun h => { h with ackDue := true }
  else s.acceptFlit port seq pl

/-- CHIP_SERIAL that a flit carries: INIT alone does (R198). -/
def initSerial (f : Flit) : Option Nat :=
  match f.payload with
  | .init i => some i.serial
  | _ => none

/-- A good flit (R194, R203). What an INIT or CONTROL payload or a whole packet says is the step of
its own command (log 15). -/
def State.goodFlit (s : State) (port : Nat) (f : Flit) : State :=
  let h := f.header
  let s := (s.lockStep port true).timingIn port f.timing
  let s := if 2 ≤ s.get .OL_STATE port ∧ s.get .NEIGHBOUR_NODE port ≠ lhNode h ∧
      s.get .NEIGHBOUR_NODE port ≠ 0xFF then s.foundNode port (lhNode h) (initSerial f) else s
  if s.get .OL_STATE port ≠ 2 then s
  else if lhType h = 3 then s.updLink port fun l => { l with rxCount := 0 }
  else
    let s := s.updLink port fun l => { l with rxCount := (l.rxCount + 1) % 2 ^ 32 }
    let s := (s.ackIn port (lhAckKind h) (lhAckSeq h)).creditIn port (lhVc h) (lhCount h)
    s.sequenceIn port (lhType h) (lhSeq h) f.payload

/-- The receiver takes flits: in stage 6 of training, and from then on. -/
def State.hearsFlits (s : State) (port : Nat) : Bool :=
  s.isFabric port && decide (6 ≤ s.get .TRAIN_STATE port)

def execFlitReceive (t : Time) (port : Nat) (flit : Flit) (s : State) : Res :=
  let s1 := s.at t
  unit s (Instr.flitReceive t port flit).wf
    (if !s1.hearsFlits port then s1
      else
        let s2 := s1.corrected port flit
        match flitTaken flit with
        | none => s2.badFlit port
        | some f =>
          let ps := s2.expected port f
          if s2.strayPart port ps then s2.badFlit port
          else if s2.overflows port ps then (s2.badFlit port).unplanned port
          else s2.goodFlit port f)

/-! ## Flits out and the timers (R194, R199, R200, R204, R205, R207) -/

/-- A flit leaves. `upset` are the bits of the sender's counts that have turned over since the last one: a count that
no longer agrees with its parity is an unplanned cause (R214). -/
def execFlitTransmit (t : Time) (port : Nat) (upset : List (Bool × Nat × Nat)) (s : State) : Res :=
  let s1 := s.at t
  let s2 := if upset.isEmpty then s1 else s1.updLink port fun h => upset.foldl LinkH.upset h
  let s3 := if s2.get .OL_STATE port = 2 && !(s2.link port).parityOk then s2.unplanned port else s2
  unit s (Instr.flitTransmit t port upset).wf
    (if s1.isFabric port then (s3.transmit port).swapCheck port else s1)

/-- The ack timer reaches ACK_TIMER (R204). -/
def execAckTimerExpiry (t : Time) (port : Nat) (s : State) : Res :=
  let s1 := s.at t
  let h := s1.link port
  let due := s1.get .OL_STATE port = 2 && h.owed ≠ 0 &&
    decide (h.ackFrom + ns (s1.get .ACK_TIMER port) ≤ s1.now)
  unit s (Instr.ackTimerExpiry t port).wf
    (if due then s1.updLink port fun h => { h with ackDue := true } else s1)

/-- 1 us without an accepted flit: the NAK is repeated (R205). -/
def execNakRepeat (t : Time) (port : Nat) (s : State) : Res :=
  let s1 := s.at t
  let h := s1.link port
  let due := s1.get .OL_STATE port = 2 && h.nakOpen && decide (h.nakAt + us 1 ≤ s1.now)
  unit s (Instr.nakRepeat t port).wf
    (if due then s1.updLink port fun h => { h with nakDue := true, nakAt := s1.now } else s1)

/-- No valid acknowledgement for the replay timeout (R207). -/
def execReplayTimeout (t : Time) (port : Nat) (s : State) : Res :=
  let s1 := s.at t
  let h := s1.link port
  let due := s1.get .OL_STATE port = 2 && s1.unacked port ≠ 0 && decide (h.advAt + ns h.timeout ≤ s1.now)
  unit s (Instr.replayTimeout t port).wf
    (if due then s1.startReplay port h.oldest none else s1)

/-- A good INIT flit (R199). -/
def execInitFlitReceive (t : Time) (port : Nat) (init : Init) (s : State) : Res :=
  unit s (Instr.initFlitReceive t port init).wf
    (if (s.at t).isFabric port then (s.at t).initIn port init else s.at t)

/-- 10 ms in INIT: physical retrain (R200, R251). -/
def execInitTimeout (t : Time) (port : Nat) (s : State) : Res :=
  let s1 := s.at t
  let due := s1.get .OL_STATE port = 1 && decide ((s1.link port).since + ms 10 ≤ s1.now)
  unit s (Instr.initTimeout t port).wf
    (if due then
        (s1.restartAt port (s1.get .PORT_WIDTH port) (fabricRate (s1.get .MAX_RATE port))).put .OL_STATE
          port 0
      else s1)

/-- 100 us in REINIT: declared down with cause 2 (R200). -/
def execReinitTimeout (t : Time) (port : Nat) (s : State) : Res :=
  let s1 := s.at t
  let due := s1.get .OL_STATE port = 3 && decide ((s1.link port).since + us 100 ≤ s1.now)
  unit s (Instr.reinitTimeout t port).wf (if due then s1.linkDown port 2 else s1)

/-- The receiver loses block lock: 8 bad flits, or lost deskew (R233). -/
def execBlockLockLost (t : Time) (port : Nat) (s : State) : Res :=
  let s1 := s.at t
  unit s (Instr.blockLockLost t port).wf
    (if s1.isFabric port && (s1.link port).lock then s1.lockLost port else s1)

/-- A loss of block lock persists for LINK_DOWN_TIME (R218). -/
def execLinkDownTimeExpiry (t : Time) (port : Nat) (s : State) : Res :=
  let s1 := s.at t
  let due := match (s1.link port).lockLostAt with
    | some b => s1.get .OL_STATE port ≠ 0 && !(s1.link port).lock &&
        decide (b + ns (s1.get .LINK_DOWN_TIME port) ≤ s1.now)
    | none => false
  unit s (Instr.linkDownTimeExpiry t port).wf (if due then s1.linkDown port 1 else s1)

/-- The packets that wait in replay memory are salvaged as the spill reserve takes them; the port may
then reach ACTIVE (R199, R219). -/
def execSalvageComplete (t : Time) (port : Nat) (s : State) : Res :=
  let s1 := s.at t
  let s2 := s1.salvageInto port true (s1.link port).salvage
  let s3 := match (s2.link port).peer with
    | some i => if s2.get .OL_STATE port = 1 ∧ (s2.link port).salvage.isEmpty then s2.initIn port i else s2
    | none => s2
  unit s (Instr.salvageComplete t port).wf (s3)

/-! ## Credits (R211 to R214) -/

/-- A withdrawn port asks for the reinitialisation of R213. -/
def reinitMsg : Ctl := { op := 1, kind := 1 }

/-- The audit (R212, R213): `held` is what the walk of the pool found on each channel. DEDUCED (log 74): a rise is one
from 0. -/
def State.audit (s : State) (port : Nat) (held : List Nat) : State :=
  let h := s.link port
  let def_ := fun v : Nat =>
    toInt 21 ((h.arrived.getD 0 v + 2 ^ 21 - s.get .VC_RETURNED (port * 8 + v)) % 2 ^ 21) - (held.getD v 0 : Int)
  let was := s.get .CREDIT_DEFICIT port
  let s := (List.range 8).foldl (fun s v =>
    (s.put .VC_HELD (port * 8 + v) (held.getD v 0)).put .VC_DEFICIT (port * 8 + v) (ofInt 32 (def_ v))) s
  let sum := ((List.range 8).map def_).sum
  let s := s.put .CREDIT_DEFICIT port (ofInt 32 sum)
  let s := if was = 0 ∧ 0 < sum then
      s.raise { code := 0x1007, kind := 2, idx := port, detail := sum.toNat }
    else s
  if (List.range 8).any fun v => decide (def_ v < 0) then s.unplanned port
  else
    let leak := decide ((s.get .LEAK_THRESHOLD port * s.poolUnits port : Nat) ≤ 64 * sum) ||
      decide (0 < def_ 6) || decide (0 < def_ 7)
    if leak ∧ s.get .WITHDRAWN port = 0 then s.withdrawPort port reinitMsg else s

def execCreditPoolAudit (t : Time) (port : Nat) (held : List Nat) (s : State) : Res :=
  let s1 := s.at t
  unit s (Instr.creditPoolAudit t port held).wf
    (if s1.get .OL_STATE port = 2 ∧ s1.pausedIn 5 (quadRegion port) = false then s1.audit port held else s1)

/-- WITHDRAW (R213, 3200.19). -/
def execWithdraw (t : Time) (req : Req) (port : Nat) (s : State) : Res :=
  unit s (Instr.withdraw t req port).wf
    ((s.at t).invoke req .WITHDRAW (some port) fun s =>
      if s.get .WITHDRAWN port = 1 then refuse 0x0401 s
      else ok [] (s.withdrawPort port reinitMsg))

/-- Neither end retains a flit: every flit of this end is acknowledged, and this end has acknowledged every flit of
the partner's (R202, R213). -/
def State.linkDrained (s : State) (port : Nat) : Bool :=
  let h := s.link port
  h.mem.isEmpty && h.owed = 0 && !h.ackDue && !h.nakOpen && h.rxPart.isNone

/-- The push has applied and neither end retains a flit: the withdrawing end sends its REQUEST (R213), or
parks a port that the power cap sheds (R429). -/
def execWithdrawReinitRequest (t : Time) (port : Nat) (s : State) : Res :=
  let s1 := s.at t
  let s2 := match (s1.link port).wanted with
    | some m =>
      if s1.get .WITHDRAWN port = 1 ∧ s1.get .OL_STATE port = 2 ∧ (s1.link port).pushed ∧
          s1.linkDrained port ∧ s1.noRequest port then
        (if m = parkMsg then s1.capPark port else s1.newReq port m)
      else s1
    | none => s1
  unit s (Instr.withdrawReinitRequest t port).wf (s2)

/-- The partner's effective minimums, as a POOL_UPDATE carries them (R211). -/
def execPoolUpdate (t : Time) (port : Nat) (mins : List Nat) (s : State) : Res :=
  let s1 := s.at t
  unit s (Instr.poolUpdate t port mins).wf
    (if s1.get .OL_STATE port = 2 then s1.peerTold port mins else s1)

/-! ## Requests (R216, R246, R247, R250, R251) -/

/-- A SWAP_FLIT keeps the rule of R247 against a transmit count. -/
def swapRule (count f : Nat) : Bool :=
  2048 ≤ (f + 2 ^ 32 - count) % 2 ^ 32 && (f + 2 ^ 32 - count) % 2 ^ 32 < 2 ^ 31

/-- A request that can be granted at this end (R246, R247). The count at which the partner sent its
REQUEST is this end's receive count; a SWAP of R248 names a flit that has passed. -/
def State.grantable (s : State) (port : Nat) (m : Ctl) : Bool :=
  if m.kind = 3 then
    if m.phase = 1 then s.spareIn port 0
    else if m.phase = 2 then
      s.spareIn port 2 && (swapRule ((s.link port).rxCount - 1) m.swapFlit || countPast (s.link port).rxCount m.swapFlit)
    else false
  else 1 ≤ m.kind && m.kind ≤ 5

/-- The responder grants, and does its part (R216, R246, R247). -/
def State.grantReq (s : State) (port : Nat) (m : Ctl) : State :=
  let s := s.updLink port fun h => { h with theirs := some m, toDone := some m }
  if m.kind = 3 ∧ m.phase = 1 then
    let s := s.sendCtl port { m with op := 2 }
    match s.spareOf port with
    | some k => s.trainSpare k m.lane
    | none => s
  else if m.kind = 3 then
    let f := (s.link port).swapFlit 2
    (s.updLink port fun h => { h with swapTx := some f, swapRx := some m.swapFlit }).sendCtl port
      { m with op := 2, swapFlit := f }
  else (s.sendCtl port { m with op := 2 }).actOn port m

/-- A REQUEST arrives (R216). -/
def State.requestIn (s : State) (port : Nat) (m : Ctl) : State :=
  let h := s.link port
  let no := fun (s : State) (reason : Nat) => s.sendCtl port { m with op := 3, reason := reason }
  match h.own with
  | some o =>
    if h.granted then no s 2
    else
      let s := s.bump .COLLISIONS port
      let lower := s.node < s.get .NEIGHBOUR_NODE port ||
        (s.node = s.get .NEIGHBOUR_NODE port && s.get .CHIP_SERIAL < s.get .NEIGHBOUR_SERIAL port)
      if lower then no s 1
      else
        let s := s.updLink port fun h => { h with own := none, deferred := some o }
        if s.grantable port m then s.grantReq port m else (no s 3).reissue port m.kind
  | none =>
    if h.theirs.isSome then no s 2
    else if s.grantable port m then s.grantReq port m
    else no s 3

def execRequest (t : Time) (port : Nat) (m : Ctl) (s : State) : Res :=
  let s1 := s.at t
  unit s (Instr.request t port m).wf
    (if s1.get .OL_STATE port = 2 then s1.requestIn port m else s1)

/-- Whether a message answers the end's own request. -/
def LinkH.answers (h : LinkH) (m : Ctl) : Bool :=
  match h.own with
  | some o => o.reqId = m.reqId && o.kind = m.kind
  | none => false

/-- A GRANT arrives: the requester proceeds (R216, R246, R247). -/
def State.grantIn (s : State) (port : Nat) (m : Ctl) : State :=
  let h := s.link port
  match h.own with
  | none => s
  | some o =>
    if !h.answers m || h.granted then s
    else
      let s := s.updLink port fun h => { h with granted := true }
      if o.kind = 3 ∧ o.phase = 1 then
        match s.spareOf port with
        | some k => s.trainSpare k o.lane
        | none => s
      else if o.kind = 3 then
        s.updLink port fun h => { h with swapTx := some o.swapFlit, swapRx := some m.swapFlit }
      else s.actOn port o

def execGrant (t : Time) (port : Nat) (m : Ctl) (s : State) : Res :=
  let s1 := s.at t
  unit s (Instr.grant t port m).wf
    (if s1.get .OL_STATE port = 2 then s1.grantIn port m else s1)

/-- A REFUSE arrives: the request ends (R216). One lost to a collision is issued again after the
partner's DONE. -/
def State.refuseIn (s : State) (port : Nat) (m : Ctl) : State :=
  let h := s.link port
  if !h.answers m then s
  else
    let s := s.updLink port fun h =>
      { h with own := none, granted := false, swapTx := none,
               deferred := if m.reason = 1 then h.own else h.deferred }
    s.event 216 [port, m.kind, m.reason]

def execRefuse (t : Time) (port : Nat) (m : Ctl) (s : State) : Res :=
  let s1 := s.at t
  unit s (Instr.refuse t port m).wf
    (if s1.get .OL_STATE port = 2 then s1.refuseIn port m else s1)

/-- After the DONE of TRAIN the requester sends SWAP (R247). -/
def State.sendSwap (s : State) (port j : Nat) : State :=
  let f := (s.link port).swapFlit 1
  (s.updLink port fun h => { h with swapTx := some f }).newReq port
    { op := 1, kind := 3, phase := 2, lane := j, swapFlit := f }

/-- A DONE arrives: the request no longer stands (R216); TRAIN is followed by SWAP, and SWAP's swap is
complete (R247). -/
def State.doneIn (s : State) (port : Nat) (m : Ctl) : State :=
  let h := s.link port
  match h.own with
  | some o =>
    if !h.answers m then s
    else
      let s := s.updLink port fun h => { h with own := none, granted := false }
      let s :=
        if o.kind = 3 ∧ o.phase = 1 then s.sendSwap port o.lane
        else if o.kind = 3 then
          let s := if (s.link port).rxOnSpare then s else s.spareTakes port
          (s.updLink port fun h => { h with rxOnSpare := true, swapTx := none, swapRx := none }).swapDone port
        else s
      s.reissue port o.kind
  | none => s.reissue port m.kind

def execDone (t : Time) (port : Nat) (m : Ctl) (s : State) : Res :=
  let s1 := s.at t
  unit s (Instr.done t port m).wf
    (if s1.get .OL_STATE port = 2 then s1.doneIn port m else s1)

end Sys2Proof.Machine
end

