-- ==== Sys2Proof/Machine/ExecOrchard.lean ====
section
/-! DEFINITION. Meanings of the commands of functions and partitions (R64 to R67, R72, R260). -/

namespace Sys2Proof.Machine

open Sys2Proof

/-! ## Enumeration (R65, R66) -/

/-- The rows of 4200 of a device port. -/
def State.fnsOfPort (s : State) (port : Nat) : List Nat :=
  (s.rowsOf .FN_PORT).keys.filter fun g => s.get .FN_PORT g = port && s.get .FN_NODE g = s.node

/-- Link IDE of a device before its enumeration: established where both ends want it (R259, R260). -/
def State.deviceIde (s : State) (port : Nat) (fns : List FnInfo) : State :=
  if s.get .IDE_MODE port ≠ 0 ∧ fns.any (·.ide) then
    (s.updPport port fun h => { h with rekeyAt := s.now }).put .IDE_STREAMS_ACTIVE port 1
  else s

/-- The functions found get their GFIDs; what is not found reads PRESENT 0, and each physical function
has VF Enable and NumVFs written from its row, and gets the virtual functions that it holds (R64 to R66). -/
def State.enumerated (s : State) (port : Nat) (fns : List FnInfo) : State :=
  let old := s.fnsOfPort port
  let s0 := s
  let s := old.foldl (fun s g => s.put .PRESENT g 0) s
  let s := (fns.filter (·.kind ≠ 2)).foldl (fun s f => (s.assignFn s.node port f 0).2) s
  let pfs := (s.fnsOfPort port).filter fun g => s.get .PRESENT g = 1 && s.get .FN_KIND g = 1
  (pfs.foldl (fun s g => s.setVfs g (s.get .SRIOV_NUMVFS g)) s).withdrawMissing s0 old

/-- What a device port reports in its Link Capabilities: Surprise Down Error Reporting Capable and Data Link Layer Link
Active Reporting Capable (R263; bits PRESUMED, log 83). -/
def portLinkCap : Nat := 2 ^ 19 + 2 ^ 20

/-- Enumeration of the device below a port (R65, R73, R255, R262, R263): Odtaku writes the device's Max_Payload_Size,
enables ASPM L1 in its Link Control under ASPM_L1_ALLOW and masks nothing in its AER; with the rows complete the port is in service
and the keeper raises an event; grafts return at the next kind-3 epoch, which the keeper names (R80). -/
def State.enumeration (s : State) (port : Nat) (fns : List FnInfo) : State :=
  let due := s.isDevice port && s.get .DP_STATE port = 3 && (s.pport port).up &&
    decide (s.get .KEEPER_NODE < 32) && s.odtakuUp
  if !due then s
  else if s.get .IDE_MODE port = 2 ∧ !fns.any (·.ide) then s.event 260 [port]
  else
    let s := (s.deviceIde port fns).enumerated port fns
    let s := s.emit (.link 73 [port, s.devMps (s.graftsOfPort s.node port)])
    let s := (s.emit (.link 255 [port, 2, s.get .ASPM_L1_ALLOW port])).emit (.link 263 [port, portLinkCap, 0])
    let s := s.put .DP_STATE port 4
    ({ s with pushWanted := true }.event 65 [port]).pushIfWanted

def execDeviceEnumeration (t : Time) (port : Nat) (fns : List FnInfo) (s : State) : Res :=
  unit s (Instr.deviceEnumeration t port fns).wf ((s.at t).enumeration port fns)

/-- SRIOV_NUMVFS written (R66). -/
def execSriovNumvfsWrite (t : Time) (req : Req) (gfid value : Nat) (s : State) : Res :=
  unit s (Instr.sriovNumvfsWrite t req gfid value).wf
    ((s.at t).hexsum req fun s => s.writeSet req [entryOf .SRIOV_NUMVFS (some gfid) value])

/-! ## Partitions (R67, R72) -/

/-- HOST_NODE, HOST_PORT or both written in one set (R67, R72). -/
def execPartitionBindWrite (t : Time) (req : Req) (p : Nat) (node port : Option Nat) (s : State) : Res :=
  unit s (Instr.partitionBindWrite t req p node port).wf
    ((s.at t).hexsum req fun s =>
      s.writeSet req (entriesOf (some p) [(.HOST_NODE, node), (.HOST_PORT, port)]))

/-- 900 ms have passed since the end of reset, or since the binding where that is later (R72). -/
def State.waitedOut (s : State) (p : Nat) : Bool :=
  let h := s.parts.getD {} p
  s.get .PARTITION_STATE p = 1 && h.from0 && decide (max s.resetEnd h.boundAt + ms 900 ≤ s.now)

def execPartitionWaitTimeout (t : Time) (p : Nat) (s : State) : Res :=
  let s1 := s.at t
  unit s (Instr.partitionWaitTimeout t p).wf (if s1.waitedOut p then s1.activate p false else s1)

/-- PARTITION_QUIESCE with 1: reset actions, and the host port held in link-down (R72, R396). -/
def State.quiesce (s : State) (p : Nat) : State :=
  let s := s.partActions p
  let s := { s with parts := s.parts.updD {} p fun h => { h with heldDown := true, resets := true } }
  let s := match s.ownHostPort p with
    | some port => s.linkLost port
    | none => s
  s.put .PARTITION_STATE p 4

/-- PARTITION_QUIESCE with 0: the host port is released to train (R72). -/
def State.resumePart (s : State) (p : Nat) : State :=
  let s := { s with parts := s.parts.updD {} p fun h => { h with heldDown := false, from0 := false } }
  let s := match s.ownHostPort p with
    | some port => if s.hostHeld port then s else s.startTraining port
    | none => s
  s.put .PARTITION_STATE p 1

def execPartitionQuiesce (t : Time) (req : Req) (p arg : Nat) (s : State) : Res :=
  unit s (Instr.partitionQuiesce t req p arg).wf
    ((s.at t).invoke req .PARTITION_QUIESCE (some p) fun s =>
      let st := s.get .PARTITION_STATE p
      if 1 < arg then refuse 0x0301 s
      else if (arg = 1 ∧ st ≠ 2) ∨ (arg = 0 ∧ st ≠ 4) then refuse 0x0401 s
      else ok [] (if arg = 1 then s.quiesce p else s.resumePart p))

end Sys2Proof.Machine
end

