-- ==== Sys2Proof/Machine/ExecPcie.lean ====
section
/-! DEFINITION. Meanings of the host-port, device-port and management-function commands
(R253 to R276, R454). -/

namespace Sys2Proof.Machine

open Sys2Proof

/-- A link that is up changes its width: the partner's L0p is accepted where L0P_ENABLE allows it, in Flit mode
(R253). DESIGN CHOICE (log 88): DATA_LINK_UP tells of the new width, since the table has no row for it. -/
def State.l0p (s : State) (port width : Nat) : State :=
  if s.get .L0P_ENABLE port = 1 ∧ (s.pport port).flit ∧ 0 < width then s.put .LINK_WIDTH port width else s

/-- Data Link Layer up on a host or device port (R236, R253, R262, R305): at no more than MAX_RATE, and at a width that
leaves out failed lanes. -/
def State.dlUp (s : State) (port width rate : Nat) (flitMode : Bool) : State :=
  let width := s.soundWidth port (s.get .PORT_WIDTH port) width
  let rate := min rate (s.get .MAX_RATE port)
  if !(s.isHost port || s.isDevice port) || s.get .TRAIN_STATE port ≠ 8 then s
  else if (s.pport port).up then s.l0p port width
  else if width = 0 then s
  else if !flitMode && !(s.get .NONFLIT_ALLOW port = 1 && rate ≤ 5) then
    ((s.updPport port fun h => { h with free := false }).event 253 [port]).put .TRAIN_STATE port 0
  else
    let s := (s.clearPortCounters port).setLanes port 2
    let s := s.updPport port fun h => { h with up := true, flit := flitMode, l1 := false }
    let s := (s.put .LINK_WIDTH port width).put .LINK_RATE port rate
    let s := if s.husked port then s.put .HUSK_RETRAINED port 1 else s
    if s.isDevice port && s.get .DP_STATE port = 2 then
      s.put .DP_STATE port 3
    else s

def execDataLinkUp (t : Time) (port width rate : Nat) (flitMode : Bool) (s : State) : Res :=
  unit s (Instr.dataLinkUp t port width rate flitMode).wf ((s.at t).dlUp port width rate flitMode)

/-- TRAIN_TIMEOUT passes in state 2 (R262). -/
def execTrainTimeout (t : Time) (port : Nat) (s : State) : Res :=
  let s1 := s.at t
  let due := s1.isDevice port && s1.get .DP_STATE port = 2 &&
    (s1.pport port).trainAt + ms (s1.get .TRAIN_TIMEOUT port) ≤ s1.now
  unit s (Instr.trainTimeout t port).wf
    (if due then (s1.event 262 [port]).perstPulse port true else s1)

/-- Data Link Layer down at a device port with presence intact (R262, R454). -/
def State.surprise (s : State) (port : Nat) : State :=
  let st := s.get .DP_STATE port
  if !s.isDevice port || !(s.pport port).up then s
  else
    let s := s.linkLost port
    let s := if st = 3 ∨ st = 4 then s.bump .SURPRISE_DOWNS port else s
    let s := if st = 3 ∨ st = 4 ∨ st = 5 then s.raise { code := 0x2003, kind := 2, idx := port } else s
    if (s.perstH (clusterOf port)).asserted then s else s.startTraining port

def execSurpriseDown (t : Time) (port : Nat) (s : State) : Res :=
  unit s (Instr.surpriseDown t port).wf ((s.at t).surprise port)

/-- PARTITION_QUIESCE holds a host port in link-down (R72). -/
def State.quiesced (s : State) (port : Nat) : Bool :=
  match s.partOfPort port with
  | some p => (s.parts.getD {} p).heldDown
  | none => false

/-- A host link goes down and trains again, unless something holds it (R265). -/
def State.hostDropped (s : State) (port : Nat) : State :=
  let s := s.hostDown port
  if s.quiesced port || s.hostHeld port then s else s.startTraining port

/-- The partition bound to a host port of another chip, whose chip tells of it (R116). -/
def State.remoteHost (s : State) (node port : Nat) : State :=
  match (s.rowsOf .HOST_PORT).keys.find? fun p => s.get .HOST_PORT p = port && s.get .HOST_NODE p = node with
  | some p => s.partRemote p
  | none => s

def execHostLinkDown (t : Time) (node port : Nat) (s : State) : Res :=
  let s1 := s.at t
  unit s (Instr.hostLinkDown t node port).wf
    (if node ≠ s1.node then s1.remoteHost node port
     else if s1.isHost port && (s1.pport port).up then s1.hostDropped port else s1)

/-- A Hot Reset received on a host port (R396). -/
def execHotResetReceive (t : Time) (node port : Nat) (s : State) : Res :=
  let s1 := s.at t
  unit s (Instr.hotResetReceive t node port).wf
    (if node ≠ s1.node then s1.remoteHost node port
     else if s1.isHost port && (s1.pport port).up then (s1.event 396 [port]).hostDropped port else s1)

/-- Host ports that a cluster's HOST_PERST_N holds (R264). -/
def State.perstHosts (s : State) (c : Nat) : List Nat :=
  ((List.range 8).map (· + 8 * c)).filter fun p => s.isHost p && s.get .PERST_IN_SEL p = 1

/-- HOST_PERST_N has been low for 1 us (R264). -/
def execHostPerstAssert (t : Time) (cluster : Nat) (s : State) : Res :=
  let s1 := (s.at t).updPerst cluster fun h => { h with hostLow := true }
  unit s (Instr.hostPerstAssert t cluster).wf
    ((s1.perstHosts cluster).foldl (fun s p => s.hostDown p) s1)

/-- HOST_PERST_N rises: the ports leave Detect (R264). -/
def execHostPerstDeassert (t : Time) (cluster : Nat) (s : State) : Res :=
  let s1 := (s.at t).updPerst cluster fun h => { h with hostLow := false }
  unit s (Instr.hostPerstDeassert t cluster).wf
    ((s1.perstHosts cluster).foldl (fun s p =>
      if s.get .TRAIN_STATE p = 0 ∧ !s.quiesced p then s.startTraining p else s) s1)

/-- Byte offset of Link Control in the virtual upstream bridge (log 11). -/
def upLinkControl : Nat := 0x50

/-- The host has enabled ASPM L1 in the virtual upstream bridge (R255, log 11). -/
def State.hostL1 (s : State) (port : Nat) : Bool :=
  match s.partOfPort port with
  | none => false
  | some p => bit (((s.cfg.getD [] (p * 512)).find upLinkControl).getD 0) 1

/-- A host port enters L1 when the conditions of R255 hold. -/
def execAspmL1Entry (t : Time) (port : Nat) (s : State) : Res :=
  let s1 := s.at t
  let idle := !(s1.queues.any fun q => s1.portFor q.1 q.2 = port && !q.2.isEmpty) &&
    decide ((s1.pport port).busyAt + us (s1.get .L1_IDLE_TIME port) ≤ s1.now)
  let go := s1.isHost port && (s1.pport port).up && s1.hostL1 port && s1.get .ASPM_L1_ALLOW port = 1 &&
    idle && !s1.reserved port
  unit s (Instr.aspmL1Entry t port).wf
    (if go then (s1.emit (.link 255 [port, 1])).updPport port fun h => { h with l1 := true } else s1)

/-- A device asks for L1: refused with PM_Active_State_Nak while a reservation names the port (R255). -/
def execDeviceL1Request (t : Time) (port : Nat) (s : State) : Res :=
  let s1 := s.at t
  let asked := s1.isDevice port && (s1.pport port).up
  let grant := s1.get .ASPM_L1_ALLOW port = 1 && !s1.reserved port
  unit s (Instr.deviceL1Request t port).wf
    (if !asked then s1
     else if grant then (s1.emit (.link 255 [port, 1])).updPport port fun h => { h with l1 := true }
     else s1.emit (.link 255 [port, 0]))

/-- An IDE stream's keys are set or the stream stops (R258 to R260). Stream 0 is Link IDE. Of a stream that is active
the other key set is set: the port sends with it from now on, and takes it from the first TLP that carries it. -/
def State.ideKm (s : State) (port stream : Nat) (setKeys : Bool) : State :=
  let old := s.get .IDE_STREAMS_ACTIVE port
  let b := 2 ^ stream
  let may := (s.isHost port || s.isDevice port) && stream < 5 && s.get .IDE_MODE port ≠ 0
  if !may then s
  else if setKeys then
    let s := if bit old stream then
        (s.bump .IDE_KEY_REFRESHES port).updPport port fun h => { h with txK := h.txK ^^^ b, rxNew := h.rxNew ||| b }
      else s
    (s.updPport port fun h => { h with rekeyAt := s.now }).put .IDE_STREAMS_ACTIVE port (old ||| b)
  else
    (s.updPport port fun h =>
      { h with txK := without h.txK b, rxK := without h.rxK b, rxNew := without h.rxNew b }).put
        .IDE_STREAMS_ACTIVE port (without old b)

def execIdeKmMessage (t : Time) (port stream : Nat) (setKeys : Bool) (s : State) : Res :=
  unit s (Instr.ideKmMessage t port stream setKeys).wf ((s.at t).ideKm port stream setKeys)

/-- IDE_REKEY_INTERVAL has passed: the device's keys are refreshed (R259). -/
def execIdeRekey (t : Time) (port : Nat) (s : State) : Res :=
  let s1 := s.at t
  let every := s1.get .IDE_REKEY_INTERVAL port
  let due := s1.isDevice port && bit (s1.get .IDE_STREAMS_ACTIVE port) 0 && every ≠ 0 &&
    (s1.pport port).rekeyAt + ms (1000 * every) ≤ s1.now
  unit s (Instr.ideRekey t port).wf
    (if due then
      (((s1.updPport port fun h => { h with rekeyAt := s1.now, txK := h.txK ^^^ 1, rxNew := h.rxNew ||| 1 }).emit
        (.link 259 [port])).bump .IDE_KEY_REFRESHES port)
     else s1)

/-- FUNDAMENTAL_RESET (R267). -/
def execFundamentalReset (t : Time) (req : Req) (port : Nat) (s : State) : Res :=
  unit s (Instr.fundamentalReset t req port).wf
    ((s.at t).invoke req .FUNDAMENTAL_RESET (some port) fun s =>
      if !s.isDevice port || !s.clusterFree (clusterOf port) then refuse 0x0401 s
      else ok [] (s.perstPulse port false))

/-- A pulse of PERST_OUT_N ends (R267). -/
def execPerstPulseEnd (t : Time) (cluster : Nat) (s : State) : Res :=
  let s1 := s.at t
  let due := match (s1.perstH cluster).pulse with
    | some (b, d) => decide (b + d ≤ s1.now)
    | none => false
  unit s (Instr.perstPulseEnd t cluster).wf
    (if due then (s1.updPerst cluster fun h => { h with pulse := none }).perstJudge cluster else s1)

/-- The 100 ms of sources 1 and 2 have passed (R266). -/
def execPerstOutDeassertDelayEnd (t : Time) (cluster : Nat) (s : State) : Res :=
  unit s (Instr.perstOutDeassertDelayEnd t cluster).wf ((s.at t).perstJudge cluster)

/-- Receiver detection finds a partner on a device port with source 1 (R261). -/
def execReceiverDetect (t : Time) (port : Nat) (s : State) : Res :=
  let s1 := s.at t
  unit s (Instr.receiverDetect t port).wf
    (if s1.isDevice port && s1.get .PRESENCE_SOURCE port = 1 then
        ((s1.updPport port fun h => { h with detected := true }).dpPresence port).perstJudge
          (clusterOf port)
      else s1)

/-- A Function Level Reset of a management function is accepted (R272). -/
def execMfFunctionLevelReset (t : Time) (p : Nat) (s : State) : Res :=
  unit s (Instr.mfFunctionLevelReset t p).wf (((s.at t).bump .MF_FLR_COUNT p).mfReset p true)

/-- It is complete: the mailbox slots are empty, or will be once pair A runs again (R272). -/
def execMfResetComplete (t : Time) (p : Nat) (s : State) : Res :=
  let s1 := s.at t
  unit s (Instr.mfResetComplete t p).wf
    (if s1.get .MF_STATE p = 1 then (if s1.odtakuUp then s1.mbEmpty p else s1).put .MF_STATE p 0 else s1)

/-- An access to BAR0 of a management function in state 1 is refused (R103, R118, R272). -/
def State.mfRefused (s : State) (p : Nat) (write : Bool) (rid tag : Nat) : State :=
  s.refuseTlp false
    { part := p, src := hostGfid p, inPort := s.get .HOST_PORT p,
      tlp := { kind := if write then .memWrite else .memRead, rid := rid, tag := tag } }

/-- IDE_MODE 2 refuses an access to BAR0: no active stream of the host port covers it (R260). -/
def State.mfUncovered (s : State) (p offset : Nat) : Bool :=
  match s.ownHostPort p with
  | none => false
  | some port =>
    let at_ := (s.apertureOf p (chipGfid s.node) 0).map fun a => s.get .AP_BASE a + offset
    s.get .IDE_MODE port = 2 &&
      (s.coveringStream port false { kind := .memRead, addr := at_.getD offset }).isNone

/-- The host writes or reads BAR0 (R269): a write is applied whole, a read is answered. -/
def execMgmtFunctionMemoryAccess (t : Time) (p : Nat) (write : Bool) (offset : Nat) (bytes : List Nat)
    (rid tag : Nat) (s : State) : Res :=
  let s1 := s.at t
  unit s (Instr.mgmtFunctionMemoryAccess t p write offset bytes rid tag).wf
    (if s1.get .MF_STATE p = 1 || s1.mfUncovered p (offset % 65536) then s1.mfRefused p write rid tag
      else if write then s1.barWrite p offset bytes
      else s1.event 269 (p :: offset ::
        (List.range (ceilDiv bytes.length 4)).map fun i => s1.mfRead p (offset / 4 * 4 + 4 * i)))

/-- One register of BAR0 written (R269, R360). -/
def execMfRegisterWrite (t : Time) (p offset value : Nat) (s : State) : Res :=
  let s1 := s.at t
  unit s (Instr.mfRegisterWrite t p offset value).wf
    (if s1.get .MF_STATE p = 1 then s1.mfRefused p true 0 0
      else s1.mfReg p offset value)

/-- The host writes DPC Software Trigger (R274). -/
def execHostDpcSoftwareTrigger (t : Time) (p k : Nat) (s : State) : Res :=
  let s1 := s.at t
  unit s (Instr.hostDpcSoftwareTrigger t p k).wf
    (if s1.presents p && decide (k < s1.get .VDSB_COUNT p) then s1.dpcTrigger p k 3 else s1)

/-- The host clears DPC Trigger Status (R275): the bridge presents its functions again when they
are present. -/
def execHostDpcStatusClear (t : Time) (p k : Nat) (s : State) : Res :=
  unit s (Instr.hostDpcStatusClear t p k).wf ((s.at t).dpcClear p k)

end Sys2Proof.Machine
end

