-- ==== Sys2Proof/Machine/ExecPower.lean ====
section
/-! DEFINITION. Meanings of the commands of device power, clocks and temperature (R422 to R429, R443,
R448). -/

namespace Sys2Proof.Machine

open Sys2Proof

/-! ## Limits between regions (R13, R424, R425) -/

/-- The crossings of R13, from the lower region. -/
def crossingFrom (a b : Nat) : Bool :=
  (a < 8 && (b = 8 + a / 2 || b = 14)) || (8 ≤ a && a < 12 && a < b && b ≤ 14)

/-- Two regions are neighbours; one that has not started is none (R443). -/
def State.neighbours (s : State) (a b : Nat) : Bool :=
  (crossingFrom a b || crossingFrom b a) && s.get .REGION_STATE a ≠ 4 && s.get .REGION_STATE b ≠ 4

/-- A measured temperature in 1/8 degree. -/
def State.setTemp (s : State) (r : Nat) (v : Int) : State :=
  let s := s.put .TEMP r (ofInt 16 v)
  if toInt 16 (s.get .TEMP_PEAK r) < v then s.put .TEMP_PEAK r (ofInt 16 v) else s

/-- A tile's reference takes a state; the lowest tile whose reference is good feeds the core PLLs (R421,
R422). -/
def State.setRef (s : State) (tile st : Nat) : State :=
  let s := s.put .REF_STATE tile st
  match (List.range 8).find? fun t => s.get .REF_STATE t = 0 with
  | some t => { s.put .CORE_REF_TILE 0 t with refLostAt := none }
  | none => { s with refLostAt := some (s.refLostAt.getD s.now) }

/-- The values measured. -/
def State.measure (s : State) (limit a b : Nat) (va vb : Int) : State :=
  match limit with
  | 1 => (s.setTemp a va).setTemp b vb
  | 2 => (s.put .VDD_MV a (va.toNat % 65536)).put .VDD_MV b (vb.toNat % 65536)
  | _ => if a < 8 then s.put .REF_OFFSET a (ofInt 16 va) else s.put .REF_OFFSET b (ofInt 16 vb)

/-- Supply error of a region against its setpoint, over the two setpoints' product. -/
def State.supplyError (s : State) (a b : Nat) (va : Int) : Int :=
  (va - s.get .VDD_SET_MV a) * s.get .VDD_SET_MV b

/-- What the values measured call for: 0 nothing, 1 the mild action of a limit, 2 isolation. `severe` says that
the severe condition has lasted its time; for a rail outside its tolerance and a lost reference it is all. -/
def State.passed (s : State) (limit : Nat) (severe : Bool) (a b : Nat) (va vb : Int) : Nat :=
  match limit with
  | 1 =>
    let d := (va - vb).natAbs
    if (severe ∧ 240 < d) ∨ 280 < d then 2 else if 200 < d then 1 else 0
  | 2 =>
    let d := (s.supplyError a b va - s.supplyError b a vb).natAbs * 100
    let one := s.get .VDD_SET_MV a * s.get .VDD_SET_MV b
    if severe ∧ (a = b ∨ 5 * one < d) then 2 else if 3 * one < d then 1 else 0
  | _ => if severe then 2 else if 300 < (if a < 8 then va else vb).natAbs then 1 else 0

/-- The region that the table acts on: never region 14. -/
def State.actingRegion (s : State) (limit a b : Nat) (va vb : Int) : Nat :=
  let r := match limit with
    | 1 => if vb ≤ va then a else b
    | 2 => if s.supplyError a b va ≤ s.supplyError b a vb then a else b
    | _ => if a < 8 then a else b
  if r = 14 then (if a = 14 then b else a) else r

/-- A region is isolated under R425 and stays so while the condition lasts. -/
def State.limitIsolate (s : State) (r limit : Nat) : State :=
  let s := { s with regions := s.regions.updD {} r fun h => { h with overLimit := nub (limit :: h.overLimit) } }
  if s.runs r then s.raise { code := 0x3004, kind := 1, idx := r, region := r } else s

/-- The action of R425 on a region: its table's mild or severe row. -/
def State.limitAct (s : State) (limit r : Nat) (severe : Bool) : State :=
  let s := { s with regions := s.regions.updD {} r fun h => { h with beyond := h.beyond.set limit s.now } }
  if limit = 3 then
    let s := s.put .LIMIT_FLAGS r (s.get .LIMIT_FLAGS r ||| 8)
    if severe then (s.setRef r 2).limitIsolate r 3 else (s.setRef r 1).event 425 [r]
  else if severe then s.limitIsolate r limit
  else s.throttle r limit

/-- Two neighbours differ beyond a limit, or a rail is out of tolerance. A reference is the tile's alone. -/
def State.limitExceeded (s : State) (limit : Nat) (severe : Bool) (a b : Nat) (va vb : Int) : State :=
  let pair := s.neighbours a b && (limit ≠ 3 || a < 8 || b < 8)
  if !(pair || (limit = 2 && severe && a = b && a ≠ 14)) then s
  else
    let s := s.measure limit a b va vb
    match s.passed limit severe a b va vb with
    | 0 => s
    | n => s.limitAct limit (s.actingRegion limit a b va vb) (n = 2)

def execRegionLimitExceeded (t : Time) (limit : Nat) (severe : Bool) (a b : Nat) (va vb : Int) (s : State) : Res :=
  unit s (Instr.regionLimitExceeded t limit severe a b va vb).wf
    ((s.at t).limitExceeded limit severe a b va vb)

/-- 100 ms within the limit: the throttle ends, the reference is good, an isolated region may restart once no
other limit holds it. -/
def State.limitEnd (s : State) (r limit : Nat) : State :=
  let h := s.regions.getD {} r
  if s.now < h.beyond.getD limit 0 + ms 100 then s else
  let s := { s with regions := s.regions.updD {} r fun h =>
    { h with overLimit := h.overLimit.filter (· ≠ limit), beyond := h.beyond.erase limit } }
  if limit = 3 then
    let f := s.get .LIMIT_FLAGS r
    let s := s.put .LIMIT_FLAGS r (if bit f 3 then f - 8 else f)
    if r < 8 then s.setRef r 0 else s
  else s.endThrottle r limit

def execLimitThrottleEnd (t : Time) (region limit : Nat) (s : State) : Res :=
  unit s (Instr.limitThrottleEnd t region limit).wf ((s.at t).limitEnd region limit)

/-! ## Temperature (R426 to R428, R443) -/

def execThrottleTempExceeded (t : Time) (region : Nat) (temp : Int) (s : State) : Res :=
  let s1 := (s.at t).setTemp region temp
  unit s (Instr.throttleTempExceeded t region temp).wf
    (if (s1.get .THROTTLE_TEMP * 8 : Nat) < temp then s1.throttle region 0 else s1)

/-- The temperature of a region says that its throttle may not take a step: down only above THROTTLE_TEMP, up
only 3 degrees below it (R427). -/
def State.tempHolds (s : State) (r : Nat) (up : Bool) : Bool :=
  let limit := ((s.get .THROTTLE_TEMP * 8 : Nat) : Int)
  if up then decide (limit - 24 < toInt 16 (s.get .TEMP r)) else decide (toInt 16 (s.get .TEMP r) ≤ limit)

/-- The level of a cause falls after a millisecond, to 4/8 at least, or rises after 10 ms without the cause;
a throttle for temperature ends at 8/8, the others end under R425. -/
def State.levelStep (s : State) (r cause : Nat) (up : Bool) : State :=
  match (s.regions.getD {} r).throttles.find cause with
  | none => s
  | some h =>
    if cause = 0 ∧ s.tempHolds r up then s
    else if up then
      if s.now < h.stepAt + ms 10 then s
      else if cause = 0 ∧ 7 ≤ h.level then s.endThrottle r 0
      else s.setThrottle r cause (min 8 (h.level + 1))
    else if s.now < h.stepAt + ms 1 then s
    else s.setThrottle r cause (max 4 (h.level - 1))

def execThrottleLevelStep (t : Time) (region cause : Nat) (up : Bool) (s : State) : Res :=
  unit s (Instr.throttleLevelStep t region cause up).wf ((s.at t).levelStep region cause up)

/-- 115 degrees: the region is isolated, or for region 14 the chip resets (R428). -/
def State.overTemp (s : State) (r : Nat) : State :=
  let s := if toInt 16 (s.get .TEMP r) < 920 then s.setTemp r 920 else s
  if r = 14 then s.raise { code := 0x3006, kind := 1, idx := 14, region := 14 }
  else s.raise { code := 0x3004, kind := 1, idx := r, region := r }

def execOvertemperatureIsolate (t : Time) (region : Nat) (s : State) : Res :=
  unit s (Instr.overtemperatureIsolate t region).wf ((s.at t).overTemp region)

/-- A cold stack reports 0 degrees or above: its region begins BIST (R443). -/
def execHbmColdStartReady (t : Time) (stack : Nat) (s : State) : Res :=
  unit s (Instr.hbmColdStartReady t stack).wf
    (let s1 := s.at t; { s1 with hbmCold := s1.hbmCold.filter (· ≠ stack) })

/-! ## Core reference (R421, R422) -/

/-- The tile that feeds the core PLLs loses its reference, or it goes out of range. -/
def execCoreReferenceLost (t : Time) (lost : Bool) (s : State) : Res :=
  let s1 := s.at t
  unit s (Instr.coreReferenceLost t lost).wf
    (s1.setRef (s1.get .CORE_REF_TILE) (if lost then 2 else 1))

/-- The core PLLs are locked to the tile that feeds them. -/
def execCorePllRelock (t : Time) (s : State) : Res :=
  let s1 := s.at t
  unit s (Instr.corePllRelock t).wf (s1.event 422 [s1.get .CORE_REF_TILE])

/-- No tile reference for 10 ms: 0x3006. -/
def execCoreReferenceHoldExpiry (t : Time) (s : State) : Res :=
  let s1 := s.at t
  let due := match s1.refLostAt with
    | some a => decide (a + ms 10 ≤ s1.now)
    | none => false
  unit s (Instr.coreReferenceHoldExpiry t).wf
    (if due then s1.raise { code := 0x3006, kind := 1, idx := 14, region := 14 } else s1)

/-! ## The power cap (R429) -/

/-- Ports that step 11 sheds: a fabric port in service is withdrawn first. -/
def State.capShed (s : State) : State :=
  ((s.rowsOf .CAP_SHED).keys.filter fun p => s.get .CAP_SHED p = 1 && s.get .PORT_ROLE p ≠ 0).foldl (fun s p =>
    if s.isFabric p ∧ s.get .OL_STATE p = 2 then s.withdrawPort p parkMsg else s.capPark p) s

/-- They return. -/
def State.capReturn (s : State) : State :=
  let back := s.capParked
  let s := { s with capParked := [] }
  let s := back.foldl (fun s x =>
    if s.get .PORT_ROLE x.1 = 0 then (s.put .PORT_ROLE x.1 x.2).portStart x.1 else s) s
  (s.links.keys.filter fun p => (s.link p).wanted = some parkMsg).foldl State.restored s

/-- CAP_STEP takes a value. -/
def State.capTo (s : State) (step : Nat) : State :=
  let was := s.get .CAP_STEP
  let s := [8, 9, 10, 11].foldl State.capThrottle (s.put .CAP_STEP 0 step)
  if step = 11 ∧ was ≠ 11 then s.capShed else if was = 11 ∧ step ≠ 11 then s.capReturn else s

/-- The 1 ms average against POWER_CAP. -/
def State.capCheck (s : State) (avg : Nat) : State :=
  let s := s.put .POWER_EST 0 (avg % 2 ^ 32)
  let cap := s.get .POWER_CAP
  let step := s.get .CAP_STEP
  if cap < avg then
    let s := { s with capSince := none }
    if step = 11 then (s.put .CAP_UNMET 0 1).event 429 [avg] else (s.bump .CAP_STEPS_TAKEN).capTo (step + 1)
  else
    let s := s.put .CAP_UNMET 0 0
    if cap ≤ avg + 10 then { s with capSince := none }
    else
      let since := s.capSince.getD s.now
      if step ≠ 0 ∧ since + ms 100 ≤ s.now then { s with capSince := some s.now }.capTo (step - 1)
      else { s with capSince := some since }

def execPowerCapCheck (t : Time) (average : Nat) (s : State) : Res :=
  unit s (Instr.powerCapCheck t average).wf ((s.at t).capCheck average)

/-! ## GPIO (R448) -/

/-- The balls that are inputs. -/
def State.gpioInputs (s : State) : Nat := if s.get .AVS_MODE = 0 then 0xFFFF else 0xFFE0

/-- A change on a ball: with its mask bit set, an event and its source. -/
def State.gpioOne (s : State) (was now i : Nat) : State :=
  if bit was i = bit now i then s
  else if bit (s.get .GPIO_EVENT_MASK) i then (s.event 448 [i, b2n (bit now i)]).irqSignal (850 + i) (bit now i)
  else s.updIrq (850 + i) fun h => { h with high := bit now i }

def State.gpioIn (s : State) (levels : Nat) : State :=
  let was := s.get .GPIO_IN
  let now := levels &&& s.gpioInputs
  (List.range 16).foldl (fun s i => s.gpioOne was now i) (s.put .GPIO_IN 0 now)

def execGpioChange (t : Time) (levels : Nat) (s : State) : Res :=
  unit s (Instr.gpioChange t levels).wf ((s.at t).gpioIn levels)

end Sys2Proof.Machine
end

