-- ==== Sys2Proof/Machine/ExecReset.lean ====
section
/-! DEFINITION. Meanings of the commands of start-up and reset (R72, R332, R374, R389 to R397, R443). -/

namespace Sys2Proof.Machine

open Sys2Proof

/-! ## Chip-wide resets (R393, R394) -/

/-- PWR_GOOD low (R393). -/
def execColdReset (t : Time) (s : State) : Res :=
  unit s (Instr.coldReset t).wf ((s.at t).resetNow 0)

/-- SYS_RESET_N low for 1 us (R393). -/
def execWarmReset (t : Time) (s : State) : Res :=
  unit s (Instr.warmReset t).wf ((s.at t).resetNow 1)

/-- ORCHARD_RESET is accepted: the named chips are told (R394). -/
def State.orchardReset (s : State) (nodes keep : Nat) : Nat × List Nat × State :=
  if 1 < keep ∨ 2 ^ 32 ≤ nodes then refuse 0x0301 s
  else ok [] (s.event 394 [maskOf (s.named nodes), keep])

/-- The chip resets once it has answered, where the command names it. -/
def execOrchardReset (t : Time) (req : Req) (nodes keepSlots : Nat) (s : State) : Res :=
  let s1 := s.at t
  let s2 := s1.invoke req .ORCHARD_RESET none fun s => s.orchardReset nodes keepSlots
  let told := (s2.out.drop s1.out.length).contains (.event 394 [maskOf (s1.named nodes), keepSlots])
  unit s (Instr.orchardReset t req nodes keepSlots).wf
    (if told && (s1.named nodes).contains s1.node then s2.restart 2 (keepSlots = 1) else s2)

/-! ## The end of a reset (R332, R390, R443) -/

/-- A cold chip counts orchard time from 0 at the end of its reset (R390). -/
def State.fromZero (s : State) : State :=
  let s : State := { s with slots := s.slots.map fun (x : Nat × SlotH) =>
    (x.1, { x.2 with offUntil := x.2.offUntil - s.now, debFrom := 0 }) }
  { s with now := 0, pip := 0 }

/-- The pins are latched where the reset ended with a pin edge, and BIST starts; a reset raised inside the chip ends 2 ms
after it began, no sooner (R332). From here on JTAG's driving instructions act as BYPASS (R367). Which HBM stacks report
below 0 degrees is a free choice (log 5, R443). -/
def State.endReset (s : State) (pinEn sel1 sel0 : Bool) : State :=
  if s.boot ≠ .reset ∨ (2 ≤ s.get .LAST_RESET ∧ s.now < s.resetAt + ms 2) then s
  else
    let kind := s.get .LAST_RESET
    let s := if kind = 0 then s.fromZero else s
    let s : State := if kind ≤ 1 then { s with latchedPins := (pinEn, sel1, sel0) } else s
    let (a, s) := s.pick 2
    let (b, s) := s.pick 2
    { s with boot := .rom, resetEnd := s.now, jtag := if s.jtag ≤ 2 then s.jtag else 0,
             hbmCold := (if a = 1 then [0] else []) ++ (if b = 1 then [1] else []) }

def execResetEnd (t : Time) (pinEn sel1 sel0 : Bool) (s : State) : Res :=
  unit s (Instr.resetEnd t pinEn sel1 sel0).wf ((s.at t).endReset pinEn sel1 sel0)

/-! ## The profile (R332, R316) -/

/-- The profile that a reset loads, with LOAD_SOURCE. -/
def State.selection (s : State) : Option (Nat × Nat) :=
  let (pinEn, sel1, sel0) := s.latchedPins
  let dflt := s.get .DEFAULT_PROFILE
  let pick := if pinEn then 2 * b2n sel1 + b2n sel0 else dflt
  match s.loadNext with
  | some n => if s.profileValid n then some (n, 4) else if s.profileValid dflt then some (dflt, 2) else none
  | none =>
    if s.profileValid pick then some (pick, if pinEn then 0 else 1)
    else if s.profileValid dflt then some (dflt, 2) else none

/-- The values of a profile in force; grafts and windows wait for the first kind-3 epoch. -/
def State.loadValues (s : State) (n : Nat) : State :=
  let p := s.profiles.getD {} n
  let kept := s.objs.map fun c => if c.1.info.idx = 0x8000 ∧ c.1.info.prof = true then (c.1, []) else c
  let s := { s with objs := kept.filter fun c => !c.2.isEmpty }
  let s := (p.vals.filter fun v => !heldBack.contains v.1).foldl (fun s v => s.put v.1 v.2.1 v.2.2) s
  let wait := (p.vals.filter fun v => heldBack.contains v.1).map fun v =>
    { obj := v.1, row := v.2.1, val := v.2.2 : Held }
  let s := { s with firstEpoch := wait }
  ((wait.filter fun h => h.obj = .PARTITION && h.val < 4096).map (·.row)).foldl (fun s g => s.put .GRAFT_STATE g 2) s

/-- Class-B values that were pending come into force in place of the profile's (R316). -/
def State.loadPending (s : State) : State :=
  s.pendB.foldl (fun s h => s.put h.obj h.row h.val) { s with pendB := [], loadNext := none }

/-- The profile is selected and loaded. -/
def State.loadProfile (s : State) : State :=
  let s := match s.selection with
    | some (n, src) => ((s.loadValues n).put .ACTIVE_PROFILE 0 n).put .LOAD_SOURCE 0 src
    | none => ((s.put .ACTIVE_PROFILE 0 0xFF).put .LOAD_SOURCE 0 3).event 332 [0xFF]
  s.loadPending

/-! ## What starts with the loaded values (R72, R181, R208, R389, R394) -/

/-- Gate banks and reservations that Sterosto held through the reset: pending ones are staged again. -/
def State.rebuild (s : State) : State :=
  let banks := s.rowsOf .GL_BANK_STATE
  let s := (banks.filter fun x => x.2 = 2).foldl (fun s x => s.put .GL_BANK_STATE x.1 1) s
  let s := (banks.filter fun x => x.2 = 3).foldl (fun s x =>
    (s.put .GL_ACTIVE_BANK (x.1 / 2) (x.1 % 2)).gateRestart (x.1 / 2)) s
  ((s.rowsOf .RSV_STATE).filter fun x => x.2 = 2).foldl (fun s x => s.put .RSV_STATE x.1 1) s

/-- Partitions bound by the profile wait (R72). -/
def State.bindLoaded (s : State) : State := (s.rowsOf .HOST_PORT).keys.foldl State.rebind s

/-- A channel that ORCHARD_RESET kept on stays on with SP_ENABLE 1; the others start from state 0. -/
def State.startSlot (s : State) (c : Nat) : State :=
  let on := s.get .SP_ENABLE c
  if s.get .SP_STATE c = 4 then (if on = 1 then s else s.slotEnable c 0)
  else if on = 1 ∧ !s.slotHeld c then s.slotEnable c 1 else s

/-- Ports start where their tile and quadrant run. -/
def State.startPorts (s : State) : State :=
  ((s.usedPorts).filter fun p => s.runs (tileOf p) && s.runs (quadRegion p)).foldl State.portStart s

/-- Odtaku starts on both pairs and brings the loaded chip up. Without a forwarding lifecycle state every
port stays parked and every channel off (R384). -/
def State.startUp (s : State) : State :=
  let s := { s with boot := .odtaku }.put .REGION_STATE 14 0
  let s := (s.hssRestart.aliasCert).loadProfile
  let s := (nub ((s.rowsOf .VC_MIN_SET).keys.map (· / 8))).foldl State.setMins s
  let s := ((s.rebuild.bindLoaded).refreshIsland).regrade s.ownClass
  if s.get .LIFECYCLE_STATE = 1 ∨ s.get .LIFECYCLE_STATE = 2 then
    ((List.range 64).foldl State.startSlot s).startPorts
  else
    let s := (List.range 64).foldl (fun s c => if s.get .SP_STATE c = 0 then s else s.slotOff c) s
    s.usedPorts.foldl State.portPark s

/-! ## The ROM (R374) -/

/-- The ROM completes a blow that is pending, then tries the active bank, then the other (R374, R376). -/
def State.romStart (s : State) : State :=
  if s.boot ≠ .rom then s
  else
    let s := s.finishBlow
    let a := s.activeFwBank
    let b := otherBank a
    let mask := s.get .KEYSET_REVOKED
    if s.bankPasses a mask then s.startUp
    else
      let s := s.put .FW_BANK_STATE a 3
      if s.bankPasses b mask then ((s.bankTo b 3).event 374 [a]).startUp
      else (s.put .FW_BANK_STATE b 3).romFails

def execBootImageAccepted (t : Time) (s : State) : Res :=
  unit s (Instr.bootImageAccepted t).wf ((s.at t).romStart)

/-! ## Ports and partitions (R395 to R397) -/

/-- PORT_RESET: a host or device port takes its failed lanes in again (R236). The link of a host port is held in Detect for 1 ms before it trains. -/
def State.portReset (s : State) (port : Nat) : Nat × List Nat × State :=
  let note := fun s : State =>
    { s with ctrReset := nub (s.ctrReset ++ [port]) }
  if 511 < port then refuse 0x0301 s
  else match s.get .PORT_ROLE port with
    | 1 => ok [] (((note ((s.put .FAILED_LANES port 0).hostDown port)).emit (.link 395 [port])).portAgain port)
    | 2 =>
      if s.clusterFree (clusterOf port) then ok [] ((note (s.put .FAILED_LANES port 0)).perstPulse port false) else refuse 0x0401 s
    | 3 => ok [] ((note s).retrainFabric port)
    | _ => refuse 0x0401 s

def execPortReset (t : Time) (req : Req) (port : Nat) (s : State) : Res :=
  unit s (Instr.portReset t req port).wf
    ((s.at t).invoke req .PORT_RESET none fun s => s.portReset port)

/-- PARTITION_RESET. -/
def execPartitionReset (t : Time) (req : Req) (p : Nat) (s : State) : Res :=
  unit s (Instr.partitionReset t req p).wf
    ((s.at t).invoke req .PARTITION_RESET none fun s =>
      if 4095 < p then refuse 0x0301 s else ok [] (s.partReset p))

/-- Every function reset of a partition has completed: the first pip edge with the host link up makes it
active, this one where it is an edge. -/
def State.resetsDone (s : State) (p : Nat) : State :=
  let st := s.get .PARTITION_STATE p
  if st = 1 ∨ st = 3 ∨ st = 4 then
    let s := { s with parts := s.parts.updD {} p fun h => { h with resets := false } }
    if s.isEdge s.now then s.resetEndsFor p else s
  else s

def execPartitionResetComplete (t : Time) (p : Nat) (s : State) : Res :=
  unit s (Instr.partitionResetComplete t p).wf ((s.at t).resetsDone p)

end Sys2Proof.Machine
end

