-- ==== Sys2Proof/Machine/ExecSched.lean ====
section
/-! DEFINITION. Meanings of the scheduler's commands (R151, R153, R156, R181). -/

namespace Sys2Proof.Machine

open Sys2Proof

def execSchedulerSelect (t : Time) (port : Nat) (s : State) : Res :=
  unit s (Instr.schedulerSelect t port).wf ((s.at t).select port)

/-- Credits come back at a port, headers and data of each type: its parked queues are unparked (R136, R151). -/
def State.creditsIn (s : State) (port : Nat) (a b c : Nat × Nat) : State :=
  let add := fun (t : Tab Nat) (i : Nat) (n : Nat × Nat) => (t.updD 0 i (· + n.1)).updD 0 (i + 3) (· + n.2)
  (s.updPport port fun h => { h with fc := add (add (add h.fc 0 a) 1 b) 2 c }).unparkPort port

def execFlowControlUpdate (t : Time) (port : Nat) (posted nonPosted cpl : Nat × Nat) (s : State) : Res :=
  let s1 := s.at t
  unit s (Instr.flowControlUpdate t port posted nonPosted cpl).wf
    (if !s1.isFabric port && (s1.pport port).up then s1.creditsIn port posted nonPosted cpl else s1)

/-- A flow queue's shaper holds zero or more tokens again: its start tag joins V (R152, R156). -/
def State.conform (s : State) (k : Nat) : State :=
  s.updQ k fun q =>
    if s.queueConforms k q then
      { q with tag := tagMax q.tag (s.vtime (s.portFor k q) (keyClass k)),
               tokens := s.queueTokens k q, tokensAt := s.age, held := false }
    else q

/-- A bucket's refill reaches zero: of a queue, or of a port and class (R156). -/
def execShaperConform (t : Time) (port cls : Nat) (key : Option Nat) (s : State) : Res :=
  let s1 := s.at t
  unit s (Instr.shaperConform t port cls key).wf
    (match key with
      | some k => if s1.portNow k = port ∧ keyClass k = cls then s1.conform k else s1
      | none => s1)

/-- The next entry of a gate list begins (R181). -/
def State.nextGate (s : State) (port : Nat) : State :=
  match s.activeBank port with
  | none => s
  | some b =>
    let l := s.timeline port b
    let g := s.gates.getD {} port
    match l[g.entry]? with
    | none => s
    | some (d, _) =>
      if s.now < g.start + ns d then s
      else
        let i := if g.entry + 1 < l.length then g.entry + 1 else 0
        let m := (l[i]?.map (·.2)).getD 0xFF
        { s with gates := s.gates.putD {} port { mask := m, entry := i, start := g.start + ns d } }

def execGateEntryStart (t : Time) (port : Nat) (s : State) : Res :=
  unit s (Instr.gateEntryStart t port).wf ((s.at t).nextGate port)

end Sys2Proof.Machine
end

