-- ==== Sys2Proof/Machine/ExecSec.lean ====
section
/-! DEFINITION. Meanings of the security commands: tokens, the rollback counter, attestation (R375 to
R388). -/

namespace Sys2Proof.Machine

open Sys2Proof

/-! ## Tokens (R385 to R387) -/

/-- A fresh challenge from the random source; the one before is invalid. -/
def State.newChallenge (s : State) : Nat × List Nat × State :=
  let v := Config.random s.fresh % 2 ^ 384
  ok [v] { s with fresh := s.fresh + 1, sec := { s.sec with challenge := some v } }

def execTokenChallenge (t : Time) (req : Req) (s : State) : Res :=
  unit s (Instr.tokenChallenge t req).wf
    ((s.at t).invoke req .TOKEN_CHALLENGE none fun s => s.newChallenge)

/-- The bytes assembled in TOKEN_BUFFER. -/
def State.tokenBytes (s : State) : List Nat := (List.range 5).flatMap fun n => beBytes (s.get .TOKEN_BUFFER n) 512

/-- Key sets revoked once a mask is added. -/
def State.revokedWith (s : State) (mask : Nat) : Nat := (s.get .KEYSET_REVOKED ||| mask) % 16

/-- Code of a token whose length and kind are right. -/
def State.tokenCode (s : State) (b : List Nat) : Nat :=
  let kind := hdrField b 2 2
  let arg := hdrField b 60 63
  let keyset := hdrField b 3 3
  let revoked := s.revokedWith arg
  let bad := hdrField b 0 1 ≠ 2 || hdrField b 4 11 ≠ s.get .CHIP_SERIAL || s.sec.challenge ≠ some (hdrField b 12 59) ||
    !keysOk (s.get .KEYSET_REVOKED) keyset (slice b 64 160) (slice b 161 216) (slice b 0 220) (slice b 221 316)
      (slice b 317 2088) ||
    (kind = 1 && s.get .LIFECYCLE_STATE ≠ 1) || (kind ≠ 3 && arg ≠ 0) ||
    (kind = 3 && (decide (15 < arg) || bit arg keyset))
  if bad then 0x0301
  else if kind = 3 ∧ (revoked = 15 ∨ !(s.bankPasses 0 revoked || s.bankPasses 1 revoked)) then 0x0401
  else 0

/-- TOKEN_SUBMIT: the buffer is cleared at each submission, the challenge consumed by an accepted one. -/
def State.tokenSubmit (s : State) (len : Nat) : Nat × List Nat × State :=
  let b := s.tokenBytes
  let kind := hdrField b 2 2
  let code := if len ≠ 2089 ∨ kind = 0 ∨ 3 < kind then 0x0302 else s.tokenCode b
  let s := ((List.range 5).foldl (fun s n => s.put .TOKEN_BUFFER n 0) s).put .TOKEN_RESULT 0 code
  if code ≠ 0 then refuse code s
  else
    let s := { s with sec := { s.sec with challenge := none } }
    if kind = 1 then ok [] ({ s with sec := { s.sec with token := true } }.put .LIFECYCLE_PENDING 0 2)
    else if kind = 2 then ok [] ({ s with sec := { s.sec with returned := true } }.put .LIFECYCLE_PENDING 0 3)
    else ok [] (s.put .KEYSET_REVOKED 0 (s.revokedWith (hdrField b 60 63)))

/-- An accepted return token makes the chip warm-reset after its answer (R386). -/
def execTokenSubmit (t : Time) (req : Req) (len : Nat) (s : State) : Res :=
  let s1 := s.at t
  let s2 := s1.invoke req .TOKEN_SUBMIT none fun s => s.tokenSubmit len
  unit s (Instr.tokenSubmit t req len).wf
    (if s2.sec.returned && !s1.sec.returned then s2.resetNow 4 else s2)

/-- DEBUG_LOCK discards the token; the chip leaves DEBUG-UNLOCKED at the next warm reset. -/
def State.debugLock (s : State) : Nat × List Nat × State :=
  ok [] ({ s with sec := { s.sec with token := false } }.put .LIFECYCLE_PENDING 0 (if s.sec.unlocked then 1 else 0xFF))

def execDebugLock (t : Time) (req : Req) (s : State) : Res :=
  unit s (Instr.debugLock t req).wf
    ((s.at t).invoke req .DEBUG_LOCK none fun s => s.debugLock)

/-! ## Rollback (R376) -/

/-- SVN_COMMIT: mirror with PENDING, fuses, PENDING cleared; a standby bank below the counter fails. -/
def State.svnCommit (s : State) (target : Nat) : Nat × List Nat × State :=
  let b := s.activeFwBank
  if s.get .FW_SVN b < target ∨ target < s.rollback then refuse 0x0301 s
  else if target = s.rollback then ok [] s
  else
    let s := (s.put .ROLLBACK_FUSED 0 target).put .ROLLBACK_MIRROR 0 target
    let o := otherBank b
    ok [] (if s.get .FW_SVN o < target ∧ s.get .FW_BANK_STATE o ≠ 0 then s.put .FW_BANK_STATE o 3 else s)

def execSvnCommit (t : Time) (req : Req) (target : Nat) (s : State) : Res :=
  unit s (Instr.svnCommit t req target).wf
    ((s.at t).invoke req .SVN_COMMIT none fun s => s.svnCommit target)

/-! ## Attestation (R379 to R382) -/

/-- Signatures issued in the second in hand, in all and to one requester. -/
def State.hssCount (s : State) (requester : Nat) : Nat × Nat :=
  if s.sec.second = s.now / ms 1000 then (s.sec.total, s.sec.by_.getD 0 requester) else (0, 0)

/-- One more is issued. -/
def State.hssIssue (s : State) (requester : Nat) : State :=
  let (n, m) := s.hssCount requester
  let old := if s.sec.second = s.now / ms 1000 then s.sec.by_ else []
  { s with sec := { s.sec with second := s.now / ms 1000, total := n + 1, by_ := old.set requester (m + 1) } }.hssSign

/-- An SPDM request is answered: 0 Busy; 1 with the ECDSA signature or none; 2 with the HSS element too. -/
def State.spdm (s : State) (requester code : Nat) (signed : Bool) : State :=
  let answer := fun (s : State) (kind : Nat) => s.event 379 [requester, code, kind, Config.spdmBody code kind]
  let (n, m) := s.hssCount requester
  if s.get .PAIR_B_STATE ≠ 0 then answer s 0
  else if !signed ∨ s.get .LIFECYCLE_STATE ≠ 1 then answer s 1
  else if s.hssSpent then answer (s.event 381 []) 1
  else if 64 ≤ n ∨ 4 ≤ m ∨ !s.hssReady then answer s 0
  else answer (s.hssIssue requester) 2

/-- Pair B answers once it runs (R346). -/
def execSpdmRequest (t : Time) (requester code : Nat) (signed : Bool) (s : State) : Res :=
  let s1 := s.at t
  unit s (Instr.spdmRequest t requester code signed).wf
    (if s1.boot = .odtaku then s1.spdm requester code signed else s1)

/-- The next bottom tree is built; a change that waited for it is made (R381, R382). -/
def execHssTreeBuilt (t : Time) (s : State) : Res :=
  let s1 := s.at t
  unit s (Instr.hssTreeBuilt t).wf
    (if s1.boot = .odtaku ∧ s1.get .PAIR_B_STATE = 0 ∧ s1.get .LIFECYCLE_STATE = 1 then
      (s1.put .HSS_NEXT_READY 0 1).treeChange
     else s1)

end Sys2Proof.Machine
end

