-- ==== Sys2Proof/Machine/ExecSlot.lean ====
section
/-! DEFINITION. Meanings of the slot power commands (R277 to R296). -/

namespace Sys2Proof.Machine

open Sys2Proof

/-- The channel's gates are on: state 3 or 4. -/
def State.powered (s : State) (c : Nat) : Bool := s.get .SP_STATE c = 3 || s.get .SP_STATE c = 4

/-- The state that a trip finds: 3 or 4, also where a break of the same sample has left it (R288). -/
def State.slotRan (s : State) (c : Nat) : Option Nat :=
  if s.powered c then some (s.get .SP_STATE c)
  else (s.slot c).broke.bind fun b => if b.1 / us 1 = s.now / us 1 then some b.2.1 else none

/-- Since when the channel is in the state that a trip finds. -/
def State.slotSince (s : State) (c : Nat) : Time :=
  if s.powered c then (s.slot c).stateAt else ((s.slot c).broke.map (·.2.2)).getD s.now

/-- The limit in force (R282, R284). -/
def State.slotLimit (s : State) (c st : Nat) : Nat :=
  if st = 3 then s.get .SP_INRUSH_LIMIT c else s.get .SP_LIMIT c

/-! ## Samples (R279, R283, R284, R286, R290, R294) -/

/-- A sample above the limit in force (R284). -/
def State.slotOver (s : State) (c st iA iB : Nat) : Bool := s.slotLimit c st < iA || s.slotLimit c st < iB

/-- The rail is at SP_PG_THRESHOLD (R283). -/
def State.railGood (s : State) (c v : Nat) : Bool := decide (s.get .SP_PG_THRESHOLD c ≤ v)

/-- A sample above the limit advances T, which trips at SP_FAULT_TIME; where it would have counted toward
power-good, SP_PG_HELD advances (R284, R290). -/
def State.sampleOver (s : State) (c st v : Nat) : State :=
  let s := if (s.slot c).timer = 0 ∧ st = 3 ∧ s.railGood c v then s.bump .SP_PG_HELD c else s
  let s := s.updSlot c fun h => { h with timer := h.timer + 1, calm := 0, good := 0 }
  if s.get .SP_FAULT_TIME c ≤ (s.slot c).timer then s.slotTrip c (if st = 3 then 2 else 1) else s

/-- A sample at or below the limit: ten calm ones clear T; from the next on, the power-good count runs (R283,
R284). -/
def State.sampleWithin (s : State) (c st iA iB v : Nat) : State :=
  let t := (s.slot c).timer
  let lim := s.slotLimit c st
  let quiet := decide (100 * iA ≤ lim * 95) && decide (100 * iB ≤ lim * 95)
  let s := if t = 0 then s else s.updSlot c fun h =>
    if quiet then (if 10 ≤ h.calm + 1 then { h with timer := 0, calm := 0 } else { h with calm := h.calm + 1 })
    else { h with calm := 0 }
  if st ≠ 3 then s
  else
    let s := s.updSlot c fun h => { h with good := if t = 0 ∧ s.railGood c v then h.good + 1 else 0 }
    if s.get .SP_STATE c = 3 ∧ s.get .SP_PG_DEBOUNCE c ≤ (s.slot c).good then s.toSlot c 4 else s

/-- The undervoltage test of state 4: 50 samples without a break (R286). -/
def State.sampleRail (s : State) (c v : Nat) : State :=
  if s.slotRan c ≠ some 4 then s
  else
    let s := s.updSlot c fun h => { h with low := if v < s.get .SP_UV_THRESHOLD c then h.low + 1 else 0 }
    if 50 ≤ (s.slot c).low then s.slotTrip c 5 else s

/-- A bit of SP_FEED_STATUS. -/
def State.feedBit (s : State) (c n : Nat) : Bool := bit (s.get .SP_FEED_STATUS c) n

/-- A feed is lost after 1 ms below 1/16 of the other with the sum above SP_SHARE_MIN, and returns after 10 ms
above 1/4 of it (R294). -/
def State.sampleFeed (s : State) (c feed i other : Nat) : State :=
  let poor := decide (s.get .SP_SHARE_MIN c < i + other) && decide (16 * i < other)
  let s := s.updSlot c fun h =>
    { h with starved := h.starved.putD 0 feed (if poor then h.starved.getD 0 feed + 1 else 0),
             fed := h.fed.putD 0 feed (if other < 4 * i then h.fed.getD 0 feed + 1 else 0) }
  let status := s.get .SP_FEED_STATUS c
  if !s.feedBit c feed && decide (1000 ≤ (s.slot c).starved.getD 0 feed) then
    (s.put .SP_FEED_STATUS c (status ||| 2 ^ feed)).raise { code := 0x1008, kind := 4, idx := c }
  else if s.feedBit c feed && decide (10000 ≤ (s.slot c).fed.getD 0 feed) then
    s.put .SP_FEED_STATUS c (without status (2 ^ feed))
  else s

/-- A feed current as the converter reads it: at most its full scale of 1,200 mV at SP_SENSE_GAIN (R279). -/
def State.adcCurrent (s : State) (c i : Nat) : Nat := min i (1200000 / s.get .SP_SENSE_GAIN c)

/-- The rail as the converter reads it through the divider (R278, R279). -/
def State.adcRail (s : State) (c v : Nat) : Nat := min v (1200 * s.get .SP_VSENSE_RATIO c / 1000)

/-- One sample of the two feed currents and the rail, in mA and mV. -/
def State.slotSample (s : State) (c iA iB v : Nat) : State :=
  let iA := s.adcCurrent c iA
  let iB := s.adcCurrent c iB
  let v := s.adcRail c v
  let s := s.updSlot c fun h => { h with last := ((iA, iB) :: h.last).take 100 }
  let s := match s.slotRan c with
    | some st => if s.slotOver c st iA iB then s.sampleOver c st v else s.sampleWithin c st iA iB v
    | none => s
  ((s.sampleRail c v).sampleFeed c 0 iA iB).sampleFeed c 1 iB iA

/-- The mean of a feed's last 100 samples; of those taken so far, where they are fewer (log 82). -/
def meanOf (l : List Nat) : Nat := l.foldl (· + ·) 0 / l.length

/-- Samples given as runs of equal ones, one a microsecond, the last at the instant of the command. -/
def sampleTimes (t : Time) (l : List (Nat × Nat × Nat × Nat)) : List (Time × Nat × Nat × Nat) :=
  let all := l.flatMap fun x => List.replicate x.1 x.2
  List.zipWith (fun (k : Nat) (x : Nat × Nat × Nat) => (t - us (all.length - 1 - k), x)) (List.range all.length) all

/-- The samples of a channel up to the instant t, and the objects that show them (R279, R296). -/
def State.slotSamples (s : State) (t : Time) (c : Nat) (l : List (Nat × Nat × Nat × Nat)) : State :=
  let s := ((sampleTimes t l).foldl (fun s x => (s.at x.1).slotSample c x.2.1 x.2.2.1 x.2.2.2) s).at t
  let h := s.slot c
  match l.getLast? with
  | none => s
  | some x => ((s.put .SP_I_A c (meanOf (h.last.map (·.1)))).put .SP_I_B c (meanOf (h.last.map (·.2)))).put
      .SP_V_RAIL c (s.adcRail c x.2.2.2)

/-- Presence inputs take new levels (R280, R288). A break in the sample of a trip that came first is the husk's trigger,
and the channel stays latched. -/
def State.presence (s : State) (c : Nat) (long short : Bool) : State :=
  let h := s.slot c
  if h.long = long ∧ h.short = short then s
  else
    let s := s.updSlot c fun h => { h with long := long, short := short, debFrom := s.now }
    let on := s.get .SP_STATE c = 3 || s.get .SP_STATE c = 4
    let s :=
      if s.get .SP_STATE c = 1 ∧ long ∧ short then s.toSlot c 2
      else if s.get .SP_STATE c = 2 ∧ !(long && short) then s.toSlot c 1
      else if on && h.seated && !(long && short) then
        (if short then s.event 288 [c] else s).slotBreak c
      else if s.get .SP_STATE c = 5 && h.seated && !(long && short) && h.stateAt / us 1 = s.now / us 1 then
        s.raisePorts c 0x2001
      else s
    (s.slotPorts c).foldl (fun s p => if s.get .PRESENCE_SOURCE p = 0 then s.dpPresence p else s) s

/-- The share loop moves the duty, at most every 100 us, on the means of the last 100 samples, and freezes it while a feed
is lost (R293, R294). DESIGN CHOICE (log 89): SP_FEED_STATUS[2] clears when the loop finds the difference at or below 10 %;
the spec names no end of it. -/
def State.share (s : State) (c : Nat) : State :=
  let iA := s.get .SP_I_A c
  let iB := s.get .SP_I_B c
  let d := s.get .SP_SHARE_DUTY c
  let big := max iA iB
  let diff := big - min iA iB
  let wide := decide (big < 10 * diff)
  if !(s.get .SP_SHARE_ENABLE c = 1 && s.powered c && decide (s.get .SP_SHARE_MIN c < iA + iB)) then
    s.updSlot c fun h => { h with wideAt := none }
  else if s.now < (s.slot c).adjAt + us 100 then s
  else
    let s := s.updSlot c fun h =>
      { h with adjAt := s.now, wideAt := if wide then some (h.wideAt.getD s.now) else none }
    let s := if wide then s else s.put .SP_FEED_STATUS c (without (s.get .SP_FEED_STATUS c) 4)
    if s.get .SP_FEED_STATUS c % 4 = 0 ∧ 5 * big < 100 * diff then
      s.put .SP_SHARE_DUTY c (if iA < iB then min 1024 (d + 4) else d - 4)
    else s

def execSpEnableWrite (t : Time) (req : Req) (c value : Nat) (s : State) : Res :=
  unit s (Instr.spEnableWrite t req c value).wf
    ((s.at t).hexsum req fun s => s.writeSet req [entryOf .SP_ENABLE (some c) value])

def execPresenceChange (t : Time) (c : Nat) (long short : Bool) (s : State) : Res :=
  unit s (Instr.presenceChange t c long short).wf ((s.at t).presence c long short)

/-- The seating debounce of a channel has run out (R281). -/
def execSeatDebounceEnd (t : Time) (c : Nat) (s : State) : Res :=
  unit s (Instr.seatDebounceEnd t c).wf ((s.at t).slotApply c)

/-- Samples, with which the power-good count reaches SP_PG_DEBOUNCE (R283, R290). -/
def execPowerGood (t : Time) (c : Nat) (l : List (Nat × Nat × Nat × Nat)) (s : State) : Res :=
  unit s (Instr.powerGood t c l).wf (s.slotSamples t c l)

/-- SP_PERST_DELAY after power-good has passed (R283). -/
def execPerstDelayEnd (t : Time) (c : Nat) (s : State) : Res :=
  let s1 := s.at t
  let gone := s1.get .SP_STATE c = 4 && (s1.slot c).offCmd.isNone &&
    (s1.slot c).stateAt + ms (s1.get .SP_PERST_DELAY c) ≤ s1.now
  unit s (Instr.perstDelayEnd t c).wf
    (if gone then (s1.updPerst c fun h => { h with powerOk := true }).perstJudge c else s1)

/-- Samples, with which T leaves 0 (R284, R290). -/
def execFaultTimerStart (t : Time) (c : Nat) (l : List (Nat × Nat × Nat × Nat)) (s : State) : Res :=
  unit s (Instr.faultTimerStart t c l).wf (s.slotSamples t c l)

/-- Samples, with which T reaches SP_FAULT_TIME (R284). -/
def execFaultTimerExpiry (t : Time) (c : Nat) (l : List (Nat × Nat × Nat × Nat)) (s : State) : Res :=
  unit s (Instr.faultTimerExpiry t c l).wf (s.slotSamples t c l)

/-- The fast comparator trips (R285). -/
def execFastTrip (t : Time) (c iA iB : Nat) (s : State) : Res :=
  let s1 := s.at t
  let above := (s1.slotRan c).any fun st =>
    let level := s1.slotLimit c st * s1.get .SP_FAST_TRIP_PCT c
    level < 100 * iA || level < 100 * iB
  unit s (Instr.fastTrip t c iA iB).wf (if above then s1.slotTrip c 3 else s1)

/-- SP_INRUSH_TIMEOUT in state 3 (R282). -/
def execInrushTimeout (t : Time) (c : Nat) (s : State) : Res :=
  let s1 := s.at t
  unit s (Instr.inrushTimeout t c).wf
    (if s1.slotRan c = some 3 && s1.slotSince c + us (s1.get .SP_INRUSH_TIMEOUT c) ≤ s1.now then
        s1.slotTrip c 4 else s1)

/-- Samples, with which the rail has stayed below SP_UV_THRESHOLD (R286). -/
def execUndervoltageTrip (t : Time) (c : Nat) (l : List (Nat × Nat × Nat × Nat)) (s : State) : Res :=
  unit s (Instr.undervoltageTrip t c l).wf (s.slotSamples t c l)

/-- Samples, with which T clears (R284). -/
def execFaultTimerClear (t : Time) (c : Nat) (l : List (Nat × Nat × Nat × Nat)) (s : State) : Res :=
  unit s (Instr.faultTimerClear t c l).wf (s.slotSamples t c l)

/-- Off-time has run out (R281, R289). -/
def execOffTimeEnd (t : Time) (c : Nat) (s : State) : Res :=
  unit s (Instr.offTimeEnd t c).wf ((s.at t).slotApply c)

/-- 100 us after a commanded power-off the gates fall (R292). -/
def execCommandedGateOff (t : Time) (c : Nat) (s : State) : Res :=
  let s1 := s.at t
  let due := match (s1.slot c).offCmd with
    | some x => decide (x + us 100 ≤ s1.now)
    | none => false
  unit s (Instr.commandedGateOff t c).wf (if due then s1.slotOff c else s1)

/-- Samples, and the share loop's turn (R293). -/
def execShareAdjust (t : Time) (c : Nat) (l : List (Nat × Nat × Nat × Nat)) (s : State) : Res :=
  unit s (Instr.shareAdjust t c l).wf ((s.slotSamples t c l).share c)

/-- The difference has stayed above 10 % for 100 ms (R293). -/
def execShareOutOfRange (t : Time) (c : Nat) (s : State) : Res :=
  let s1 := s.at t
  let due := s1.get .SP_SHARE_ENABLE c = 1 && s1.powered c && !s1.feedBit c 2 &&
    (s1.slot c).wideAt.any fun x => decide (x + ms 100 ≤ s1.now)
  unit s (Instr.shareOutOfRange t c).wf
    (if due then (s1.event 293 [c]).put .SP_FEED_STATUS c (s1.get .SP_FEED_STATUS c ||| 4) else s1)

/-- Samples, with which a feed is lost (R294). -/
def execFeedLost (t : Time) (c : Nat) (l : List (Nat × Nat × Nat × Nat)) (s : State) : Res :=
  unit s (Instr.feedLost t c l).wf (s.slotSamples t c l)

/-- Samples, with which a feed returns (R294). -/
def execFeedReturn (t : Time) (c : Nat) (l : List (Nat × Nat × Nat × Nat)) (s : State) : Res :=
  unit s (Instr.feedReturn t c l).wf (s.slotSamples t c l)

end Sys2Proof.Machine
end

