-- ==== Sys2Proof/Machine/ExecSpill.lean ====
section
/-! DEFINITION. Meanings of the spill, drain and audit commands (R22, R23, R140 to R146, R307). -/

namespace Sys2Proof.Machine

open Sys2Proof

/-- The packet that stands for a list of cells where events are filtered: that of the first cell that
carries one. -/
def cellsPkt (l : List Cel) : Pkt := ((pktsOf l).head?).getD {}

/-- The quadrant of a queue's port. -/
def State.quadOfKey (s : State) (k : Nat) : Nat := s.portNow k % 512 / 128

/-! ## Spill (R22, R141) -/

/-- The open block of a sub-list closes with 16 cells, or 1 us after the last arrival at its staging; the
cells that wait behind it open the next (R141). -/
def State.spillClose (s : State) (k : Nat) (u : Sub) : State :=
  let s := s.fillStage k u
  let l := s.subOf k u
  let n := l.openCells.length
  if n = 16 ∨ (n ≠ 0 ∧ l.lastStage + us 1 ≤ s.now) then (s.updSub k u SubQ.close).fillStage k u else s

def execSpillBlockClose (t : Time) (key : Nat) (sub : Sub) (s : State) : Res :=
  unit s (Instr.spillBlockClose t key sub).wf ((s.at t).spillClose key sub)

/-- The oldest block being written is in HBM: its cells are freed (R141). -/
def State.spillWritten (s : State) (k : Nat) (u : Sub) : State :=
  match (s.subOf k u).seg.find? (·.state = .writing) with
  | none => s
  | some b =>
    if !s.stackOk b.stack then s else
    let n := b.cells.length
    let s := (s.countQuad (s.quadOfKey k) 0x62 n (cellsPkt b.cells)).countStack b.stack 0xA0 1
    let s := (s.freeCells (b.cells.map (·.idx))).bump .SPILL_BYTES_WRITTEN 0 (256 * n)
    s.updSub k u fun l => { l with seg := updBlock .writing (fun b => { b with state := .stored }) l.seg }

def execSpillBlockWritten (t : Time) (key : Nat) (sub : Sub) (s : State) : Res :=
  unit s (Instr.spillBlockWritten t key sub).wf ((s.at t).spillWritten key sub)

/-! ## Drain (R142, R307) -/

/-- The oldest block may be read: it is in HBM, the head list is below DRAIN_WINDOW, and the power cap leaves
room (R142, R429). -/
def State.mayDrain (s : State) (l : SubQ) : Bool :=
  decide (l.head.length < s.get .DRAIN_WINDOW) && s.spillDue.2 ≤ s.now &&
    (match l.seg with
      | b :: _ => b.state = .stored
      | [] => false)

def State.drainRead (s : State) (k : Nat) (u : Sub) : State :=
  let l := s.subOf k u
  let n := ((l.seg.head?).map (·.cells.length)).getD 0
  if !s.mayDrain l then s
  else
    let s := { s with spillDue := (s.spillDue.1, s.now + spillTime (s.get .CAP_STEP) n) }
    s.updSub k u fun l => { l with seg := updBlock .stored (fun b => { b with state := .reading }) l.seg }

def execDrainBlockRead (t : Time) (key : Nat) (sub : Sub) (s : State) : Res :=
  unit s (Instr.drainBlockRead t key sub).wf ((s.at t).drainRead key sub)

/-- Cells of a block with new indices in the buffer. -/
def recell : List Cel → List Nat → List Cel
  | c :: cs, i :: is => { c with idx := i, hbm := true } :: recell cs is
  | _, _ => []

/-- Every cell of a sub-list. -/
def SubQ.whole (l : SubQ) : List Cel := l.head ++ l.seg.flatMap (·.cells) ++ l.stage

/-- The TLPs of a sub-list with a cell lost in a spill block that drain has reached, by stamp: a cell of theirs stands
in the head list or in the block drained now (R307). -/
def SubQ.reached (l : SubQ) (now : List Cel) : List Nat :=
  let lost := (l.whole.filter fun c => c.pkt.any (·.lost = 2)).map (·.stamp)
  lost.filter fun n => (l.head ++ now).any (·.stamp = n)

/-- A sub-list without the TLPs of some stamps. -/
def SubQ.without (l : SubQ) (st : List Nat) : SubQ :=
  let keep := fun c : Cel => !st.contains c.stamp
  { l with head := l.head.filter keep, seg := l.seg.map fun b => { b with cells := b.cells.filter keep },
           stage := l.stage.filter keep }

/-- TLPs of a queue lost with a spill block: discarded, and captured against their partitions (R307). -/
def State.lostPkts (s : State) (k : Nat) (ps : List Pkt) : State :=
  let s := ps.foldl (fun s p => s.raise { streamErr 0x2010 p with detail := p.cells }) s
  if ps.isEmpty then s else s.updQ k fun q => { q with usedPip := s.pip }

/-- The block being read is linked to the head list, in cells charged to the spill reserve; a queue
parked for it is unparked (R142, R151). A TLP with a cell in a lost block is discarded whole when drain reaches it, and
the loss is captured with the number of its cells (R307). DESIGN CHOICE (log 75): the drained cells come from the bank rotation of
the egress port's cluster, and (log 77) take the crossing of its quadrant. While the reserve has no room the block waits. -/
def State.drainLink (s : State) (k : Nat) (u : Sub) (ok : Bool) : State :=
  match (s.subOf k u).seg with
  | [] => s
  | b :: _ =>
    if b.state ≠ .reading then s
    else
      let e := s.portNow k % 512
      let x := Xing.quadHbm (e / 128) b.stack false
      let lost := !ok || b.lost || !s.stackOk b.stack
      let l0 := s.subOf k u
      let l := if lost then l0.mark 2 (b.cells.map (·.stamp)) else l0
      let gone := l.reached b.cells
      let kept := b.cells.filter fun c => !gone.contains c.stamp
      if s.reserveFree < kept.length ∨ s.xFull x then s
      else
        match s.allocCells (clusterOf e) (chargeWord 3 e (keyClass k)) kept.length with
        | none => s
        | some (cs, s) =>
          let s := s.xPut x (256 * b.cells.length)
          let n := b.cells.length
          let s := (s.countQuad (s.quadOfKey k) 0x63 n (cellsPkt b.cells)).countStack b.stack 0xA1 1
          let s := s.lostPkts k ((l.whole.filter fun c => gone.contains c.stamp).filterMap (·.pkt))
          let s := s.updSub k u fun _ =>
            { (l.without gone) with head := (l.without gone).head ++ recell kept cs, seg := (l.without gone).seg.drop 1 }
          (s.freeCells (l0.bufferCells.filter fun c => !(l.without gone).bufferCells.contains c)).unpark k

def execDrainBlockLinked (t : Time) (key : Nat) (sub : Sub) (eccOk : Bool) (s : State) : Res :=
  unit s (Instr.drainBlockLinked t key sub eccOk).wf ((s.at t).drainLink key sub eccOk)

/-- A TLP of the queue waits in a receive FIFO for the spill path, which it is the first to take (R140). -/
def State.spillWaits (s : State) (k : Nat) : Bool :=
  s.rx.any fun x => x.2.any fun i => i.why = Wait.spill && s.keyOf i.pkt = some k

/-- Every segment is empty and no TLP waits for the path: the queue leaves spill (R140, R143). -/
def execSpillExit (t : Time) (key : Nat) (s : State) : Res :=
  let s1 := s.at t
  unit s (Instr.spillExit t key).wf (s1.updQ key fun q => if q.canExit && !s1.spillWaits key then q.exit else q)

/-! ## Bramble (R145, R146) -/

/-- Cells still marked at the end of a pass: in use, on no list of R141 and in no twin window, and not
touched during the pass. -/
def State.strayCells (s : State) : List Nat :=
  let held := s.queues.flatMap (fun x => x.2.bufferCells) ++
    s.rsvs.flatMap fun x => x.2.slots.flatMap fun y => y.2.2
  s.cells.keys.filter fun c => !held.contains c && !s.touched.contains c

/-- A leak: counted, named, recorded, and reclaimed where BRAMBLE_POLICY says so. -/
def State.leak (s : State) (c : Nat) : State :=
  let s := ((s.bump .LEAKS_FOUND).put .LAST_LEAK_CELL 0 c).raise { code := 0x1005, kind := 0, idx := 0 }
  if s.get .BRAMBLE_POLICY = 1 then (s.freeCells [c]).bump .LEAKS_RECLAIMED else s

/-- A pass of Bramble ends. -/
def State.bramble (s : State) : State :=
  let l := s.strayCells.map fun c => (c, min 3 (s.leaks.getD 0 c + 1))
  let found := (l.filter fun x => x.2 = 3 && s.leaks.getD 0 x.1 ≠ 3).map (·.1)
  found.foldl State.leak ({ s with leaks := l, touched := [] }.bump .BRAMBLE_PASSES)

def execBramblePassEnd (t : Time) (s : State) : Res :=
  unit s (Instr.bramblePassEnd t).wf (if (s.at t).paused.any fun x => x.1 = 7 then s.at t else (s.at t).bramble)

end Sys2Proof.Machine
end

