-- ==== Sys2Proof/Machine/ExecTags.lean ====
section
/-! DEFINITION. Meanings of the commands of the tag table, order streams and twin windows (R113, R117,
R123, R124, R186, R220). -/

namespace Sys2Proof.Machine

open Sys2Proof

/-! ## The tag table (R113, R117) -/

/-- The sweep finds a live entry whose DEADLINE has passed (R113); it counts toward a storm (R117). -/
def State.deadlineAt (s : State) (port tag : Nat) : State :=
  match s.tagLookup port tag with
  | none => s
  | some (n, e) =>
    if e.quarantined ∨ before40 s.now40 e.deadline then s
    else s.deadlinePassed n e

def execTagDeadline (t : Time) (port tag : Nat) (s : State) : Res :=
  unit s (Instr.tagDeadline t port tag).wf ((s.at t).deadlineAt port tag)

/-- The sweep finds a quarantined entry whose QUARANTINE_END has passed (R113). -/
def State.quarantineEnd (s : State) (port tag : Nat) : State :=
  match s.tagLookup port tag with
  | none => s
  | some (n, e) =>
    if !e.quarantined ∨ before40 s.now40 e.qend then s else (s.freeTag n).unparkPort port

def execTagQuarantineEnd (t : Time) (port tag : Nat) (s : State) : Res :=
  unit s (Instr.tagQuarantineEnd t port tag).wf ((s.at t).quarantineEnd port tag)

/-- The timeouts of a port have reached TO_STORM_LIMIT in this pip (R117). -/
def execCplTimeoutStorm (t : Time) (port : Nat) (s : State) : Res :=
  unit s (Instr.cplTimeoutStorm t port).wf ((s.at t).stormAt port)

/-! ## Arrivals from the fabric (R186, R220) -/

/-- A fabric port whose link is ACTIVE. -/
def State.fabricOpen (s : State) (port : Nat) : Bool := s.isFabric port && s.get .OL_STATE port = 2

def execFabricPacketArrive (t : Time) (port : Nat) (pkt : Pkt) (s : State) : Res :=
  let s1 := s.at t
  unit s (Instr.fabricPacketArrive t port pkt).wf
    (if s1.fabricOpen port && pkt.twin = 0 then s1.fabricArrive port pkt else s1)

def execTwinCopyArrive (t : Time) (port : Nat) (pkt : Pkt) (s : State) : Res :=
  let s1 := s.at t
  unit s (Instr.twinCopyArrive t port pkt).wf
    (if s1.fabricOpen port && pkt.twin ≠ 0 then s1.fabricArrive port pkt else s1)

/-- A packet has been held for ORDER_HOLD_TIMEOUT (R124). -/
def State.heldTooLong (s : State) (n : Nat) : Bool :=
  (s.stream n).held.any fun p => p.inTime + us (s.get .ORDER_HOLD_TIMEOUT) ≤ s.now

def execOrderHoldTimeout (t : Time) (stream : Nat) (s : State) : Res :=
  let s1 := s.at t
  unit s (Instr.orderHoldTimeout t stream).wf
    (if s1.heldTooLong stream then s1.expireStream stream else s1)

/-- ORDER_HOLD_TIMEOUT after a port change toward a node (R123). -/
def execPathChangeFlaggingEnd (t : Time) (node : Nat) (s : State) : Res :=
  let s1 := s.at t
  unit s (Instr.pathChangeFlaggingEnd t node).wf
    (if s1.flagUntil.getD 0 node ≤ s1.now then { s1 with flagUntil := s1.flagUntil.erase node } else s1)

/-- The timer of a twin window (R186). -/
def execTwinSkewTimeout (t : Time) (r : Nat) (s : State) : Res :=
  let s1 := s.at t
  let due := match (s1.rsv r).timer with
    | some x => decide (x ≤ s1.now)
    | none => false
  unit s (Instr.twinSkewTimeout t r).wf (if due then s1.twinExpire r else s1)

end Sys2Proof.Machine
end

