-- ==== Sys2Proof/Machine/Dispatch.lean ====
section
/-! DEFINITION. Each command's meaning. -/

namespace Sys2Proof.Machine

open Sys2Proof

def exec (i : Instr) (s : State) : Host.Outcome State Fault Refusal :=
  match i with
  | .pipEdge ptm => Sys2Proof.Machine.execPipEdge ptm s
  | .shadowSetClose t => Sys2Proof.Machine.execShadowSetClose t s
  | .engineBudgetExhausted t engine region wrong => Sys2Proof.Machine.execEngineBudgetExhausted t engine region wrong s
  | .ipfixMessageSend t c => Sys2Proof.Machine.execIpfixMessageSend t c s
  | .gateEntryStart t port => Sys2Proof.Machine.execGateEntryStart t port s
  | .trefPpsEdge t clk => Sys2Proof.Machine.execTrefPpsEdge t clk s
  | .trefLost t => Sys2Proof.Machine.execTrefLost t s
  | .ptpMessageReceive t domain offset => Sys2Proof.Machine.execPtpMessageReceive t domain offset s
  | .timeSourceQualified t source => Sys2Proof.Machine.execTimeSourceQualified t source s
  | .timeRootDisplace t => Sys2Proof.Machine.execTimeRootDisplace t s
  | .timeMarkerSend t port => Sys2Proof.Machine.execTimeMarkerSend t port s
  | .ptmRequest t port => Sys2Proof.Machine.execPtmRequest t port s
  | .timeStep t req offers step => Sys2Proof.Machine.execTimeStep t req offers step s
  | .pipPeriodWrite t req offers e => Sys2Proof.Machine.execPipPeriodWrite t req offers e s
  | .unitReady t request node region isolated prep => Sys2Proof.Machine.execUnitReady t request node region isolated prep s
  | .guardPoint t request => Sys2Proof.Machine.execGuardPoint t request s
  | .decisionResend t request acks => Sys2Proof.Machine.execDecisionResend t request acks s
  | .decisionQuery t request region answer => Sys2Proof.Machine.execDecisionQuery t request region answer s
  | .epochApply request => Sys2Proof.Machine.execEpochApply request s
  | .helloSend t port => Sys2Proof.Machine.execHelloSend t port s
  | .helloReceive t port h => Sys2Proof.Machine.execHelloReceive t port h s
  | .neighbourDown t port => Sys2Proof.Machine.execNeighbourDown t port s
  | .linkStateMessage t node port nbr nbrPort up withdrawn => Sys2Proof.Machine.execLinkStateMessage t node port nbr nbrPort up withdrawn s
  | .keeperTakeover t => Sys2Proof.Machine.execKeeperTakeover t s
  | .keeperHandover t node => Sys2Proof.Machine.execKeeperHandover t node s
  | .keeperColdElection t => Sys2Proof.Machine.execKeeperColdElection t s
  | .deviceEnumeration t port fns => Sys2Proof.Machine.execDeviceEnumeration t port fns s
  | .sriovNumvfsWrite t req gfid value => Sys2Proof.Machine.execSriovNumvfsWrite t req gfid value s
  | .partitionBindWrite t req p node port => Sys2Proof.Machine.execPartitionBindWrite t req p node port s
  | .partitionWaitTimeout t p => Sys2Proof.Machine.execPartitionWaitTimeout t p s
  | .partitionQuiesce t req p arg => Sys2Proof.Machine.execPartitionQuiesce t req p arg s
  | .hostConfigRequest t port c => Sys2Proof.Machine.execHostConfigRequest t port c s
  | .configFwCompletion t p => Sys2Proof.Machine.execConfigFwCompletion t p s
  | .hostConfigShadowWrite t p g reg value rid tag => Sys2Proof.Machine.execHostConfigShadowWrite t p g reg value rid tag s
  | .graftActionWrite t req g action => Sys2Proof.Machine.execGraftActionWrite t req g action s
  | .graftCommit t req offers => Sys2Proof.Machine.execGraftCommit t req offers s
  | .hostSlotPowerControl t p k powerOff linkDisable => Sys2Proof.Machine.execHostSlotPowerControl t p k powerOff linkDisable s
  | .ungraftTimeout t g => Sys2Proof.Machine.execUngraftTimeout t g s
  | .hostSecondaryBusReset t p k => Sys2Proof.Machine.execHostSecondaryBusReset t p k s
  | .hostFunctionLevelReset t p g => Sys2Proof.Machine.execHostFunctionLevelReset t p g s
  | .tlpIngressParse t port tlp => Sys2Proof.Machine.execTlpIngressParse t port tlp s
  | .mgmtFunctionMemoryAccess t p write offset bytes rid tag => Sys2Proof.Machine.execMgmtFunctionMemoryAccess t p write offset bytes rid tag s
  | .mfRegisterWrite t p offset value => Sys2Proof.Machine.execMfRegisterWrite t p offset value s
  | .hostBarWrite t p g gfid bar base rid tag => Sys2Proof.Machine.execHostBarWrite t p g gfid bar base rid tag s
  | .apertureActivate t p gfid bar => Sys2Proof.Machine.execApertureActivate t p gfid bar s
  | .vfBarEmulate t p g c => Sys2Proof.Machine.execVfBarEmulate t p g c s
  | .schedulerSelect t port => Sys2Proof.Machine.execSchedulerSelect t port s
  | .flowControlUpdate t port posted nonPosted cpl => Sys2Proof.Machine.execFlowControlUpdate t port posted nonPosted cpl s
  | .shaperConform t port cls key => Sys2Proof.Machine.execShaperConform t port cls key s
  | .creditWithholdEnd t meter => Sys2Proof.Machine.execCreditWithholdEnd t meter s
  | .tagDeadline t port tag => Sys2Proof.Machine.execTagDeadline t port tag s
  | .tagQuarantineEnd t port tag => Sys2Proof.Machine.execTagQuarantineEnd t port tag s
  | .cplTimeoutStorm t port => Sys2Proof.Machine.execCplTimeoutStorm t port s
  | .fabricPacketArrive t port pkt => Sys2Proof.Machine.execFabricPacketArrive t port pkt s
  | .orderHoldTimeout t stream => Sys2Proof.Machine.execOrderHoldTimeout t stream s
  | .pathChangeFlaggingEnd t node => Sys2Proof.Machine.execPathChangeFlaggingEnd t node s
  | .twinCopyArrive t port pkt => Sys2Proof.Machine.execTwinCopyArrive t port pkt s
  | .twinSkewTimeout t r => Sys2Proof.Machine.execTwinSkewTimeout t r s
  | .spillBlockClose t key sub => Sys2Proof.Machine.execSpillBlockClose t key sub s
  | .spillBlockWritten t key sub => Sys2Proof.Machine.execSpillBlockWritten t key sub s
  | .drainBlockRead t key sub => Sys2Proof.Machine.execDrainBlockRead t key sub s
  | .drainBlockLinked t key sub eccOk => Sys2Proof.Machine.execDrainBlockLinked t key sub eccOk s
  | .spillExit t key => Sys2Proof.Machine.execSpillExit t key s
  | .receiveFifoResume t port => Sys2Proof.Machine.execReceiveFifoResume t port s
  | .bramblePassEnd t => Sys2Proof.Machine.execBramblePassEnd t s
  | .rsvActionWrite t req r action => Sys2Proof.Machine.execRsvActionWrite t req r action s
  | .rsvCommit t req offers => Sys2Proof.Machine.execRsvCommit t req offers s
  | .rsvAdmissionDone t => Sys2Proof.Machine.execRsvAdmissionDone t s
  | .rsvReadmit t r => Sys2Proof.Machine.execRsvReadmit t r s
  | .glBankWrite t req bank entry length cycle value => Sys2Proof.Machine.execGlBankWrite t req bank entry length cycle value s
  | .gateSwitch t req offers => Sys2Proof.Machine.execGateSwitch t req offers s
  | .flitTransmit t port upset => Sys2Proof.Machine.execFlitTransmit t port upset s
  | .flitReceive t port flit => Sys2Proof.Machine.execFlitReceive t port flit s
  | .ackTimerExpiry t port => Sys2Proof.Machine.execAckTimerExpiry t port s
  | .nakRepeat t port => Sys2Proof.Machine.execNakRepeat t port s
  | .replayTimeout t port => Sys2Proof.Machine.execReplayTimeout t port s
  | .initFlitReceive t port init => Sys2Proof.Machine.execInitFlitReceive t port init s
  | .initTimeout t port => Sys2Proof.Machine.execInitTimeout t port s
  | .reinitTimeout t port => Sys2Proof.Machine.execReinitTimeout t port s
  | .blockLockLost t port => Sys2Proof.Machine.execBlockLockLost t port s
  | .linkDownTimeExpiry t port => Sys2Proof.Machine.execLinkDownTimeExpiry t port s
  | .salvageComplete t port => Sys2Proof.Machine.execSalvageComplete t port s
  | .creditPoolAudit t port held => Sys2Proof.Machine.execCreditPoolAudit t port held s
  | .withdraw t req port => Sys2Proof.Machine.execWithdraw t req port s
  | .withdrawReinitRequest t port => Sys2Proof.Machine.execWithdrawReinitRequest t port s
  | .poolUpdate t port mins => Sys2Proof.Machine.execPoolUpdate t port mins s
  | .request t port m => Sys2Proof.Machine.execRequest t port m s
  | .grant t port m => Sys2Proof.Machine.execGrant t port m s
  | .refuse t port m => Sys2Proof.Machine.execRefuse t port m s
  | .done t port m => Sys2Proof.Machine.execDone t port m s
  | .detectRetry t port first last => Sys2Proof.Machine.execDetectRetry t port first last s
  | .trainingBlockReceive t lane b => Sys2Proof.Machine.execTrainingBlockReceive t lane b s
  | .trainStageTimeout t port => Sys2Proof.Machine.execTrainStageTimeout t port s
  | .retrainIntervalExpiry t port => Sys2Proof.Machine.execRetrainIntervalExpiry t port s
  | .marginSample t lane height width corrected => Sys2Proof.Machine.execMarginSample t lane height width corrected s
  | .spareCommand t req spare lane => Sys2Proof.Machine.execSpareCommand t req spare lane s
  | .spareTrained t spare => Sys2Proof.Machine.execSpareTrained t spare s
  | .spareReadyTimeout t spare => Sys2Proof.Machine.execSpareReadyTimeout t spare s
  | .swapFlitReached t port => Sys2Proof.Machine.execSwapFlitReached t port s
  | .retrain t req port => Sys2Proof.Machine.execRetrain t req port s
  | .counterClear t req lane => Sys2Proof.Machine.execCounterClear t req lane s
  | .portCfgWrite t req port role width rate => Sys2Proof.Machine.execPortCfgWrite t req port role width rate s
  | .dataLinkUp t port width rate flitMode => Sys2Proof.Machine.execDataLinkUp t port width rate flitMode s
  | .trainTimeout t port => Sys2Proof.Machine.execTrainTimeout t port s
  | .surpriseDown t port => Sys2Proof.Machine.execSurpriseDown t port s
  | .hostLinkDown t node port => Sys2Proof.Machine.execHostLinkDown t node port s
  | .hotResetReceive t node port => Sys2Proof.Machine.execHotResetReceive t node port s
  | .hostPerstAssert t cluster => Sys2Proof.Machine.execHostPerstAssert t cluster s
  | .hostPerstDeassert t cluster => Sys2Proof.Machine.execHostPerstDeassert t cluster s
  | .aspmL1Entry t port => Sys2Proof.Machine.execAspmL1Entry t port s
  | .deviceL1Request t port => Sys2Proof.Machine.execDeviceL1Request t port s
  | .ideKmMessage t port stream setKeys => Sys2Proof.Machine.execIdeKmMessage t port stream setKeys s
  | .ideRekey t port => Sys2Proof.Machine.execIdeRekey t port s
  | .fundamentalReset t req port => Sys2Proof.Machine.execFundamentalReset t req port s
  | .perstPulseEnd t cluster => Sys2Proof.Machine.execPerstPulseEnd t cluster s
  | .mfFunctionLevelReset t p => Sys2Proof.Machine.execMfFunctionLevelReset t p s
  | .mfResetComplete t p => Sys2Proof.Machine.execMfResetComplete t p s
  | .ringBatchWrite t p ring => Sys2Proof.Machine.execRingBatchWrite t p ring s
  | .hostDpcSoftwareTrigger t p k => Sys2Proof.Machine.execHostDpcSoftwareTrigger t p k s
  | .hostDpcStatusClear t p k => Sys2Proof.Machine.execHostDpcStatusClear t p k s
  | .spEnableWrite t req c value => Sys2Proof.Machine.execSpEnableWrite t req c value s
  | .presenceChange t c long short => Sys2Proof.Machine.execPresenceChange t c long short s
  | .seatDebounceEnd t c => Sys2Proof.Machine.execSeatDebounceEnd t c s
  | .powerGood t c l => Sys2Proof.Machine.execPowerGood t c l s
  | .perstDelayEnd t c => Sys2Proof.Machine.execPerstDelayEnd t c s
  | .faultTimerExpiry t c l => Sys2Proof.Machine.execFaultTimerExpiry t c l s
  | .fastTrip t c iA iB => Sys2Proof.Machine.execFastTrip t c iA iB s
  | .inrushTimeout t c => Sys2Proof.Machine.execInrushTimeout t c s
  | .undervoltageTrip t c l => Sys2Proof.Machine.execUndervoltageTrip t c l s
  | .faultTimerClear t c l => Sys2Proof.Machine.execFaultTimerClear t c l s
  | .offTimeEnd t c => Sys2Proof.Machine.execOffTimeEnd t c s
  | .commandedGateOff t c => Sys2Proof.Machine.execCommandedGateOff t c s
  | .shareAdjust t c l => Sys2Proof.Machine.execShareAdjust t c l s
  | .shareOutOfRange t c => Sys2Proof.Machine.execShareOutOfRange t c s
  | .feedLost t c l => Sys2Proof.Machine.execFeedLost t c l s
  | .feedReturn t c l => Sys2Proof.Machine.execFeedReturn t c l s
  | .huskDrained t row => Sys2Proof.Machine.execHuskDrained t row s
  | .huskCommand t req row => Sys2Proof.Machine.execHuskCommand t req row s
  | .huskRelease t req row => Sys2Proof.Machine.execHuskRelease t req row s
  | .regionRestartHoldEnd t region => Sys2Proof.Machine.execRegionRestartHoldEnd t region s
  | .regionRestart t req region => Sys2Proof.Machine.execRegionRestart t req region s
  | .regionBistComplete t region failing => Sys2Proof.Machine.execRegionBistComplete t region failing s
  | .quadrantQueueSweepDone t region => Sys2Proof.Machine.execQuadrantQueueSweepDone t region s
  | .read t req addrs => Sys2Proof.Machine.execRead t req addrs s
  | .write t req offers entries => Sys2Proof.Machine.execWrite t req offers entries s
  | .blockRead t req start count mode => Sys2Proof.Machine.execBlockRead t req start count mode s
  | .rowRead t req addr subs => Sys2Proof.Machine.execRowRead t req addr subs s
  | .rowWrite t req addr entries => Sys2Proof.Machine.execRowWrite t req addr entries s
  | .subscribe t req subId period addrs => Sys2Proof.Machine.execSubscribe t req subId period addrs s
  | .abort t req target kind => Sys2Proof.Machine.execAbort t req target kind s
  | .dtlsHandshake t anchorHash chainLen optionsOk sigOk cookie peer => Sys2Proof.Machine.execDtlsHandshake t anchorHash chainLen optionsOk sigOk cookie peer s
  | .sessionIdleTimeout t session => Sys2Proof.Machine.execSessionIdleTimeout t session s
  | .sessionClose t req session => Sys2Proof.Machine.execSessionClose t req session s
  | .trustAnchorWrite t req anchor sub ty len value => Sys2Proof.Machine.execTrustAnchorWrite t req anchor sub ty len value s
  | .mgmtAddressWrite t req sub ty len value => Sys2Proof.Machine.execMgmtAddressWrite t req sub ty len value s
  | .profileSave t req n => Sys2Proof.Machine.execProfileSave t req n s
  | .profileErase t req n => Sys2Proof.Machine.execProfileErase t req n s
  | .profileSwitch t req offers n force nodes => Sys2Proof.Machine.execProfileSwitch t req offers n force nodes s
  | .windowCommit t req offers => Sys2Proof.Machine.execWindowCommit t req offers s
  | .windowDiscard t req => Sys2Proof.Machine.execWindowDiscard t req s
  | .pairStop t pair => Sys2Proof.Machine.execPairStop t pair s
  | .watchdogExpiry t pair => Sys2Proof.Machine.execWatchdogExpiry t pair s
  | .pairRestartComplete t pair => Sys2Proof.Machine.execPairRestartComplete t pair s
  | .pairRestart t req pair => Sys2Proof.Machine.execPairRestart t req pair s
  | .irqTake t pair => Sys2Proof.Machine.execIrqTake t pair s
  | .irqComplete t pair => Sys2Proof.Machine.execIrqComplete t pair s
  | .irqConfigWrite t source field value => Sys2Proof.Machine.execIrqConfigWrite t source field value s
  | .mbInWrite t row offset bytes => Sys2Proof.Machine.execMbInWrite t row offset bytes s
  | .mbInTake t row => Sys2Proof.Machine.execMbInTake t row s
  | .mbOutPlace t row bytes => Sys2Proof.Machine.execMbOutPlace t row bytes s
  | .mbTake t row value => Sys2Proof.Machine.execMbTake t row value s
  | .doorbellSet t row toFw bits => Sys2Proof.Machine.execDoorbellSet t row toFw bits s
  | .doorbellClear t row toFw bits setBits => Sys2Proof.Machine.execDoorbellClear t row toFw bits setBits s
  | .sidebandWindowTransaction t write offset bytes count => Sys2Proof.Machine.execSidebandWindowTransaction t write offset bytes count s
  | .smEventClear t bits => Sys2Proof.Machine.execSmEventClear t bits s
  | .mctpMessage t i3c endpoint msgType vendor size => Sys2Proof.Machine.execMctpMessage t i3c endpoint msgType vendor size s
  | .i3cDynamicAddress t sbPort addr => Sys2Proof.Machine.execI3cDynamicAddress t sbPort addr s
  | .protectionDescriptorWrite t unit n value => Sys2Proof.Machine.execProtectionDescriptorWrite t unit n value s
  | .acuFence t req => Sys2Proof.Machine.execAcuFence t req s
  | .accessDenial t master priv access addr wrong => Sys2Proof.Machine.execAccessDenial t master priv access addr wrong s
  | .debugHalt t pair => Sys2Proof.Machine.execDebugHalt t pair s
  | .debugResume t pair => Sys2Proof.Machine.execDebugResume t pair s
  | .jtagInstruction t code => Sys2Proof.Machine.execJtagInstruction t code s
  | .tokenChallenge t req => Sys2Proof.Machine.execTokenChallenge t req s
  | .tokenSubmit t req len => Sys2Proof.Machine.execTokenSubmit t req len s
  | .debugLock t req => Sys2Proof.Machine.execDebugLock t req s
  | .svnCommit t req target => Sys2Proof.Machine.execSvnCommit t req target s
  | .spdmRequest t requester code signed => Sys2Proof.Machine.execSpdmRequest t requester code signed s
  | .hssTreeBuilt t => Sys2Proof.Machine.execHssTreeBuilt t s
  | .coldReset t => Sys2Proof.Machine.execColdReset t s
  | .warmReset t => Sys2Proof.Machine.execWarmReset t s
  | .orchardReset t req nodes keepSlots => Sys2Proof.Machine.execOrchardReset t req nodes keepSlots s
  | .resetEnd t pinEn sel1 sel0 => Sys2Proof.Machine.execResetEnd t pinEn sel1 sel0 s
  | .portReset t req port => Sys2Proof.Machine.execPortReset t req port s
  | .partitionReset t req p => Sys2Proof.Machine.execPartitionReset t req p s
  | .partitionResetComplete t p => Sys2Proof.Machine.execPartitionResetComplete t p s
  | .fwErase t req bank => Sys2Proof.Machine.execFwErase t req bank s
  | .fwWrite t req bank offset bytes => Sys2Proof.Machine.execFwWrite t req bank offset bytes s
  | .fwVerify t req bank => Sys2Proof.Machine.execFwVerify t req bank s
  | .fwSwitch t req offers nodes => Sys2Proof.Machine.execFwSwitch t req offers nodes s
  | .fwPairReloadDone t pair => Sys2Proof.Machine.execFwPairReloadDone t pair s
  | .fwTrialEnd t => Sys2Proof.Machine.execFwTrialEnd t s
  | .ctrClear t req key => Sys2Proof.Machine.execCtrClear t req key s
  | .counterWrap t key => Sys2Proof.Machine.execCounterWrap t key s
  | .sampleClear t req => Sys2Proof.Machine.execSampleClear t req s
  | .peakClear t req region => Sys2Proof.Machine.execPeakClear t req region s
  | .regionLimitExceeded t limit severe a b va vb => Sys2Proof.Machine.execRegionLimitExceeded t limit severe a b va vb s
  | .limitThrottleEnd t region limit => Sys2Proof.Machine.execLimitThrottleEnd t region limit s
  | .throttleTempExceeded t region temp => Sys2Proof.Machine.execThrottleTempExceeded t region temp s
  | .throttleLevelStep t region cause up => Sys2Proof.Machine.execThrottleLevelStep t region cause up s
  | .overtemperatureIsolate t region => Sys2Proof.Machine.execOvertemperatureIsolate t region s
  | .coreReferenceLost t lost => Sys2Proof.Machine.execCoreReferenceLost t lost s
  | .corePllRelock t => Sys2Proof.Machine.execCorePllRelock t s
  | .coreReferenceHoldExpiry t => Sys2Proof.Machine.execCoreReferenceHoldExpiry t s
  | .powerCapCheck t average => Sys2Proof.Machine.execPowerCapCheck t average s
  | .hbmColdStartReady t stack => Sys2Proof.Machine.execHbmColdStartReady t stack s
  | .gpioChange t levels => Sys2Proof.Machine.execGpioChange t levels s
  | .bootImageAccepted t => Sys2Proof.Machine.execBootImageAccepted t s
  | .fwOperationComplete t => Sys2Proof.Machine.execFwOperationComplete t s
  | .profileStoreComplete t => Sys2Proof.Machine.execProfileStoreComplete t s
  | .faultTimerStart t c l => Sys2Proof.Machine.execFaultTimerStart t c l s
  | .perstOutDeassertDelayEnd t cluster => Sys2Proof.Machine.execPerstOutDeassertDelayEnd t cluster s
  | .verifyStageEnd t port errs => Sys2Proof.Machine.execVerifyStageEnd t port errs s
  | .prbsCheckerLock t lane bits => Sys2Proof.Machine.execPrbsCheckerLock t lane bits s
  | .prbsCheckerLockLost t lane bits => Sys2Proof.Machine.execPrbsCheckerLockLost t lane bits s
  | .receiverDetect t port => Sys2Proof.Machine.execReceiverDetect t port s
  | .hbmFailure t stack => Sys2Proof.Machine.execHbmFailure t stack s
  | .controlFatal t => Sys2Proof.Machine.execControlFatal t s

end Sys2Proof.Machine
end

