-- ==== Sys2Proof/Safety.lean ====
section
/-! DEFINITION. What counts as a safe run, in the terms the statements use. -/

namespace Sys2Proof

open Machine

/-- Every waiting command names units the part has. -/
@[reducible] def Machine.State.wfQueue (s : State) : Prop := ∀ c ∈ s.pending, c.wf = true

/-- The invariant of every step: no error is left uncaptured between commands (R301), the flash keeps its
canonical form, and every waiting command names units the part has. -/
@[reducible] def Machine.State.Inv (s : State) : Prop := s.errs = [] ∧ s.flash.wf = true ∧ s.wfQueue

/-- The objects that core clocks and the end of a command may change whatever the command: counters on clock
events (R164, R404), interrupt sources (R353) and measurement changes (R380). -/
def Machine.Obj.booked : Machine.Obj → Bool
  | .CTR_VALUE | .CTR_OVERFLOW | .SC_SHAPED_CLOCKS | .IRQ_COUNT | .IRQ_PENDING | .MEAS_CHANGES => true
  | _ => false

/-- Every row of every object but those listed, and the booked ones, reads as before. -/
def Machine.State.SameBut (s' s : State) (l : List (Obj × Nat)) : Prop :=
  ∀ o r, o.booked = false → (o, r) ∉ l → s'.get o r = s.get o r

/-- Every row that a test picks reads as before, the booked objects apart. -/
def Machine.State.SameWhere (s' s : State) (f : Obj → Nat → Bool) : Prop :=
  ∀ o r, o.booked = false → f o r = true → s'.get o r = s.get o r

/-- Every row of the objects that a test picks holds its default. -/
def Machine.State.DefaultWhere (s : State) (f : Obj → Bool) : Prop :=
  ∀ o r, f o = true → s.get o r = o.default r

/-- The cell buffer, the flow queues, the receive FIFOs, the tag table and the flash are as before. -/
def Machine.State.SameBuffers (s' s : State) : Prop :=
  s'.cells = s.cells ∧ s'.queues = s.queues ∧ s'.rx = s.rx ∧ s'.tags = s.tags ∧ ∀ a, s'.flash.read a = s.flash.read a

/-- A Hexsum request is answered afresh: Odtaku runs, its transport is open, its tag is not one it answered
lately, its size suits the path, and its version is 1 (R319, R322, R326, R349). -/
@[reducible] def Machine.State.hears (s : State) (req : Req) : Prop :=
  s.odtakuUp = true ∧ s.pathOpen req.path = true ∧ s.cached req = none ∧ req.size ≤ req.path.limit ∧
    req.version = 1

/-- Instant and request of a command that a Hexsum message is. -/
def Instr.message : Instr → Option (Time × Req)
  | .timeStep t req _ _ => some (t, req)
  | .pipPeriodWrite t req _ _ => some (t, req)
  | .sriovNumvfsWrite t req _ _ => some (t, req)
  | .partitionBindWrite t req _ _ _ => some (t, req)
  | .partitionQuiesce t req _ _ => some (t, req)
  | .graftActionWrite t req _ _ => some (t, req)
  | .graftCommit t req _ => some (t, req)
  | .rsvActionWrite t req _ _ => some (t, req)
  | .rsvCommit t req _ => some (t, req)
  | .glBankWrite t req _ _ _ _ _ => some (t, req)
  | .gateSwitch t req _ => some (t, req)
  | .withdraw t req _ => some (t, req)
  | .spareCommand t req _ _ => some (t, req)
  | .retrain t req _ => some (t, req)
  | .counterClear t req _ => some (t, req)
  | .portCfgWrite t req _ _ _ _ => some (t, req)
  | .fundamentalReset t req _ => some (t, req)
  | .spEnableWrite t req _ _ => some (t, req)
  | .huskCommand t req _ => some (t, req)
  | .huskRelease t req _ => some (t, req)
  | .regionRestart t req _ => some (t, req)
  | .read t req _ => some (t, req)
  | .write t req _ _ => some (t, req)
  | .blockRead t req _ _ _ => some (t, req)
  | .rowRead t req _ _ => some (t, req)
  | .rowWrite t req _ _ => some (t, req)
  | .subscribe t req _ _ _ => some (t, req)
  | .abort t req _ _ => some (t, req)
  | .sessionClose t req _ => some (t, req)
  | .trustAnchorWrite t req _ _ _ _ _ => some (t, req)
  | .mgmtAddressWrite t req _ _ _ _ => some (t, req)
  | .profileSave t req _ => some (t, req)
  | .profileErase t req _ => some (t, req)
  | .profileSwitch t req _ _ _ _ => some (t, req)
  | .windowCommit t req _ => some (t, req)
  | .windowDiscard t req => some (t, req)
  | .pairRestart t req _ => some (t, req)
  | .acuFence t req => some (t, req)
  | .tokenChallenge t req => some (t, req)
  | .tokenSubmit t req _ => some (t, req)
  | .debugLock t req => some (t, req)
  | .svnCommit t req _ => some (t, req)
  | .orchardReset t req _ _ => some (t, req)
  | .portReset t req _ => some (t, req)
  | .partitionReset t req _ => some (t, req)
  | .fwErase t req _ => some (t, req)
  | .fwWrite t req _ _ _ => some (t, req)
  | .fwVerify t req _ => some (t, req)
  | .fwSwitch t req _ _ => some (t, req)
  | .ctrClear t req _ => some (t, req)
  | .sampleClear t req => some (t, req)
  | .peakClear t req _ => some (t, req)
  | _ => none

/-- The object and row that a command invokes, of those whose message is an invocation (R312, R323). -/
def Instr.invocation : Instr → Option (Machine.Obj × Option Nat)
  | .partitionQuiesce _ _ p _ => some (.PARTITION_QUIESCE, some p)
  | .pairRestart _ _ _ => some (.PAIR_RESTART, none)
  | .acuFence _ _ => some (.ACU_FENCE, none)
  | .windowCommit _ _ _ => some (.WINDOW_COMMIT, none)
  | .windowDiscard _ _ => some (.WINDOW_DISCARD, none)
  | .withdraw _ _ port => some (.WITHDRAW, some port)
  | .ctrClear _ _ key => some (.CTR_CLEAR, some key)
  | .sampleClear _ _ => some (.SAMPLE_CLEAR, none)
  | .peakClear _ _ region => some (.PEAK_CLEAR, some region)
  | .orchardReset _ _ _ _ => some (.ORCHARD_RESET, none)
  | .portReset _ _ _ => some (.PORT_RESET, none)
  | .partitionReset _ _ _ => some (.PARTITION_RESET, none)
  | .graftCommit _ _ _ => some (.GRAFT_COMMIT, none)
  | .tokenChallenge _ _ => some (.TOKEN_CHALLENGE, none)
  | .tokenSubmit _ _ _ => some (.TOKEN_SUBMIT, none)
  | .debugLock _ _ => some (.DEBUG_LOCK, none)
  | .svnCommit _ _ _ => some (.SVN_COMMIT, none)
  | .fwErase _ _ _ => some (.FW_ERASE, none)
  | .fwWrite _ _ _ _ _ => some (.FW_WRITE, none)
  | .fwVerify _ _ _ => some (.FW_VERIFY, none)
  | .fwSwitch _ _ _ _ => some (.FW_SWITCH, none)
  | .sessionClose _ _ session => some (.SESSION_CLOSE, some session)
  | .timeStep _ _ _ _ => some (.TIME_STEP, none)
  | .fundamentalReset _ _ port => some (.FUNDAMENTAL_RESET, some port)
  | .spareCommand _ _ spare _ => some (.SPARE_COMMAND, some spare)
  | .retrain _ _ port => some (.RETRAIN, some port)
  | .counterClear _ _ lane => some (.COUNTER_CLEAR, some lane)
  | .huskCommand _ _ row => some (.HUSK_COMMAND, some row)
  | .huskRelease _ _ row => some (.HUSK_RELEASE, some row)
  | .regionRestart _ _ _ => some (.REGION_RESTART, none)
  | .gateSwitch _ _ _ => some (.GATE_SWITCH, none)
  | .profileSave _ _ _ => some (.PROFILE_SAVE, none)
  | .profileErase _ _ _ => some (.PROFILE_ERASE, none)
  | .profileSwitch _ _ _ _ _ _ => some (.PROFILE_SWITCH, none)
  | .rsvCommit _ _ _ => some (.RSV_COMMIT, none)
  | _ => none

/-- The row in which a session counts a request that arrives (R337). -/
def Req.traces (req : Req) : List (Machine.Obj × Nat) :=
  match req.path.session with
  | some n => [(.SESSION_REQUESTS, n)]
  | none => []

/-- The rows of 2100 that opening request n writes: its own, and those of the oldest request that is over where
64 are retained (R340). -/
def Machine.State.openedRows (s : State) (n : Nat) : List (Obj × Nat) :=
  (n :: (if s.reqs.length < 64 then [] else ((s.reqs.find? fun r => s.reqOver r.num).map (·.num)).toList)).flatMap
    fun k => [Obj.EPOCH_KIND, .EPOCH_OFFER_1, .EPOCH_OFFER_2, .EPOCH_OFFER_3, .EPOCH_OFFER_4, .EPOCH_STATE,
      .APPLIED_EPOCH, .NOT_READY, .EPOCH_RESULT].map (·, k)

/-- The rows that the actions of a partition reset write (R396). -/
def Machine.State.partRows (s : State) (p : Nat) : List (Obj × Nat) :=
  [Obj.INGRESS_REFUSALS, .EGRESS_REFUSALS, .HOST_RX_TLPS, .HOST_RX_BYTES, .HOST_TX_TLPS, .HOST_TX_BYTES, .RED_TLPS,
    .HOST_TIME_OFFSET, .HOST_PTM_VALID, .CPL_TIMEOUTS, .UNEXPECTED_CPLS, .ORDER_HOLDS, .UR_GENERATED, .MF_FLR_COUNT,
    .MF_FLR_DISCARDS, .MF_STATE, .MB_DB_TO_FW, .CFG_FW_PENDING, .PARTITION_STATE].map (·, p) ++
  ((s.rowsOf .AP_STATE).keys.filter fun a => s.get .AP_PARTITION a = p).map (.AP_STATE, ·)

/-- No packet of a partition, nor one for its host, waits in a queue (R396). -/
@[reducible] def Machine.State.partDrained (s : State) (p : Nat) : Prop :=
  ∀ x ∈ s.queues, ∀ q ∈ x.2.pkts, ¬((q.part = p ∧ q.internal = false) ∨ q.dest = hostGfid p)

/-- Nothing but the clock, the shadowed values and the engines is due at an edge: no traffic waits, no graft,
bridge, partition, record, subscription, ring, export or gate list is in hand, and this chip is not the
keeper. -/
@[reducible] def Machine.State.nothingDue (s : State) : Prop :=
  s.huskAgain = [] ∧ s.rx = [] ∧ s.queues = [] ∧ s.grafts = [] ∧ s.bridges = [] ∧ s.mfs = [] ∧ s.subs = [] ∧
    s.log = [] ∧ s.storeOp = none ∧ s.fw.pairBDue = false ∧ s.get .KEEPER_ROLE ≠ 1 ∧
    s.rowsOf .PARTITION_STATE = [] ∧ s.rowsOf .GL_ACTIVE_BANK = [] ∧ s.rowsOf .MF_PIP_IRQ = [] ∧
    s.rowsOf .MF_TELEMETRY_PERIOD = [] ∧ s.rowsOf .HOST_PTM_VALID = [] ∧
    ∀ c ∈ List.range 4, s.get .IPFIX_ANCHOR c = 0xFF

/-- The code and the position of the first entry of a write set that fails (R318). -/
def Machine.State.firstFailure (s : State) (req : Req) (l : List WEntry) : Option (Nat × Nat) :=
  match s.writeAll s (s.principal req.path) [] 0 l with
  | .error x => some x
  | .ok _ => none

/-- The state with every entry of a write set taken, where none fails (R318). -/
def Machine.State.allTaken (s : State) (req : Req) (l : List WEntry) : Option State :=
  match s.writeAll s (s.principal req.path) [] 0 l with
  | .error _ => none
  | .ok u => some u

/-- A response to a request of this code and body is among what the chip has sent. -/
@[reducible] def Machine.State.answered (s : State) (req : Req) (code : Nat) (body : List Nat) : Prop :=
  Out.reply req.path req.tag code body false ∈ s.out

end Sys2Proof
end

