-- ==== Sys2Proof/Certificates/Slice0/Obligations.lean ====
section
/-! DEFINITION. The statements for the provers. -/

open Sys2Proof Machine

/-- A step runs the command at the front of the queue; with none waiting the chip idles (log 3) (R26, R28). What is
the model's choice in it and not a rule of the spec: log 3. -/
def Obligations.StepRunsTheFrontCommand : Prop :=
  (∀ (c : Instr) (s : State), Machine.step { s with pending := c :: s.pending } = Machine.exec c s) ∧
  ∀ s : State, s.pending = [] → Machine.step s = .next s

/-- The state right after reset meets the invariant of every step, with nothing in flight (R342, R390, R393). What
is the model's choice in it and not a rule of the spec: log 9. -/
def Obligations.ResetStartsClean : Prop :=
  State.reset.Inv ∧ State.reset.boot = .reset ∧ State.reset.now = 0 ∧ State.reset.DefaultWhere (fun _ => true) ∧
  State.reset.rx = [] ∧ State.reset.queues = [] ∧ State.reset.tags = [] ∧ State.reset.log = [] ∧ State.reset.reqs = [] ∧
  State.reset.grafts = [] ∧ (∀ c, (State.reset.slot c).gates = false) ∧ ∀ c, (State.reset.perstH c).asserted = true

/-- From every state that meets the invariant a step answers a next state that meets it again (R301, R371, R398). -/
def Obligations.EveryStepKeepsTheInvariant : Prop :=
  ∀ s : State, s.Inv → ∃ s', Machine.step s = .next s' ∧ s'.Inv ∧ s'.pending = s.pending.tail

/-- A command completes where its operands name units of the part, and faults by name where they do not (R11, R12,
R223, R277). What is the model's choice in it and not a rule of the spec: log 7. -/
def Obligations.CommandsStopOnlyOutsideThePart : Prop :=
  ∀ (c : Instr) (s : State),
    (c.wf = true → ∃ s', Machine.exec c s = .next s' ∧ s'.errs = [] ∧ s'.pending = s.pending ∧
      (s'.flash = s.flash ∨ (∃ t, c = .fwOperationComplete t) ∨ ∃ t req bank offset bytes, c = .fwWrite t req bank offset bytes)) ∧
    (c.wf = false → Machine.exec c s = .fault .noSuchUnit)

/-- At each reset LIFECYCLE_STATE follows from LC_RETURNED, LC_SECURED and the debug token held (R383). -/
def Obligations.LifecycleStateIsDerivedAtEachReset : Prop :=
  (∀ (s : State) (kind : Nat) (keep : Bool),
    ((s.restart kind keep).get .LIFECYCLE_STATE = (if s.sec.returned then 3 else if !s.sec.secured then 0 else if kind ≠ 0 ∧ s.sec.token = true then 2 else 1))) ∧
  (∀ (s : State) (t : Time),
    ∃ s', Machine.exec (.coldReset t) s = .next s' ∧
      (s'.get .LIFECYCLE_STATE = (if s.sec.returned then 3 else if !s.sec.secured then 0 else 1)) ∧
      s'.sec.unlocked = false) ∧
  (∀ (s : State) (t : Time),
    ∃ s', Machine.exec (.warmReset t) s = .next s' ∧
      (s'.get .LIFECYCLE_STATE = (if s.sec.returned then 3 else if !s.sec.secured then 0 else if s.sec.token = true then 2 else 1)))

/-- A feed above SP_FAST_TRIP_PCT of the limit in force trips the channel with cause 3, and the gates are low
(R285). -/
def Obligations.FastTripsHaveCauseThree : Prop :=
  (∀ (s : State) (t : Time) (c iA iB : Nat),
    c < 64 →
    s.errs = [] →
    s.get .SP_STATE c = 3 →
    s.get .SP_INRUSH_LIMIT c * s.get .SP_FAST_TRIP_PCT c < 100 * max iA iB →
    ∃ s', Machine.exec (.fastTrip t c iA iB) s = .next s' ∧
      s'.get .SP_TRIP_CAUSE c = 3 ∧
      s'.get .SP_STATE c = 5 ∧
      (s'.slot c).gates = false ∧
      s'.get .SP_TRIPS c = (s.get .SP_TRIPS c + 1) % 2 ^ 32 ∧
      Out.pin 278 c false ∈ s'.out) ∧
  (∀ (s : State) (t : Time) (c iA iB : Nat),
    c < 64 →
    s.errs = [] →
    s.get .SP_STATE c = 4 →
    s.get .SP_LIMIT c * s.get .SP_FAST_TRIP_PCT c < 100 * max iA iB →
    ∃ s', Machine.exec (.fastTrip t c iA iB) s = .next s' ∧
      s'.get .SP_TRIP_CAUSE c = 3 ∧
      s'.get .SP_STATE c = 5 ∧
      (s'.slot c).gates = false ∧
      s'.get .SP_TRIPS c = (s.get .SP_TRIPS c + 1) % 2 ^ 32 ∧
      Out.pin 278 c false ∈ s'.out) ∧
  (∀ (s : State) (t : Time) (c iA iB : Nat),
    c < 64 →
    s.errs = [] →
    s.get .SP_STATE c = 4 →
    100 * max iA iB ≤ s.get .SP_LIMIT c * s.get .SP_FAST_TRIP_PCT c →
    ∃ s', Machine.exec (.fastTrip t c iA iB) s = .next s' ∧
      s'.get .SP_STATE c = 4 ∧
      (s'.slot c).gates = (s.slot c).gates ∧
      s'.SameBut s [] ∧
      s'.SameBuffers s)

/-- Each presence change restarts the seating debounce; a channel is powered at the later of its two ends (R281). -/
def Obligations.SeatingEndsAtTheLaterOfTwoInstants : Prop :=
  (∀ (s : State) (t : Time) (c : Nat) (long short : Bool),
    c < 64 →
    s.errs = [] →
    (s.get .SP_STATE c = 1 ∨ s.get .SP_STATE c = 2) →
    (long ≠ (s.slot c).long ∨ short ≠ (s.slot c).short) →
    ∃ s', Machine.exec (.presenceChange t c long short) s = .next s' ∧
      (s'.slot c).debFrom = max s.now t ∧
      (s'.slot c).long = long ∧
      (s'.slot c).short = short ∧
      (s'.slot c).offUntil = (s.slot c).offUntil) ∧
  (∀ (s : State) (t : Time) (c : Nat),
    c < 64 →
    s.errs = [] →
    s.get .SP_STATE c = 2 →
    (s.slot c).seated = true →
    ∃ s', Machine.exec (.seatDebounceEnd t c) s = .next s' ∧
      (s'.get .SP_STATE c = if max ((s.slot c).debFrom + ms (s.get .SP_SEAT_DEBOUNCE c)) (s.slot c).offUntil ≤ max s.now t then 3 else 2) ∧
      (s'.slot c).debFrom = (s.slot c).debFrom ∧
      (s'.slot c).offUntil = (s.slot c).offUntil) ∧
  (∀ (s : State) (t : Time) (c : Nat),
    c < 64 →
    s.errs = [] →
    s.get .SP_STATE c = 2 →
    (s.slot c).seated = true →
    ∃ s', Machine.exec (.offTimeEnd t c) s = .next s' ∧
      (s'.get .SP_STATE c = if max ((s.slot c).debFrom + ms (s.get .SP_SEAT_DEBOUNCE c)) (s.slot c).offUntil ≤ max s.now t then 3 else 2) ∧
      (s'.slot c).debFrom = (s.slot c).debFrom ∧
      (s'.slot c).offUntil = (s.slot c).offUntil)

/-- Each of the 228 commands completes wherever its operands name units of the part, with its own effect (R11, R12,
R223, R277). What is the model's choice in it and not a rule of the spec: log 3, 7. -/
def Obligations.EveryCommandCompletesWithItsEffect : Prop :=
  (∀ (ptm : List (Nat × Int)) (s : State),
    (Instr.pipEdge ptm).wf = true →
    exec (Instr.pipEdge ptm) s = .next (((s.at (s.edge (s.pip + 1))).nextEdge ptm).finish s)) ∧
  (∀ (t : Time) (s : State),
    (Instr.shadowSetClose t).wf = true →
    exec (Instr.shadowSetClose t) s = .next ((let s := s.at t; { s with closedPip := max s.closedPip (s.pipAt s.now + 1) }).finish s)) ∧
  (∀ (t : Time) (engine region wrong : Nat) (s : State),
    (Instr.engineBudgetExhausted t engine region wrong).wf = true →
    exec (Instr.engineBudgetExhausted t engine region wrong) s = .next (
      let s1 := s.at t
      (if engineRuns engine region && !s1.pausedIn engine region then
            ({ s1 with paused := s1.paused ++ [(engine, region)] }).scrubbed engine region wrong
          else s1).finish s)) ∧
  (∀ (t : Time) (c : Nat) (s : State),
    (Instr.ipfixMessageSend t c).wf = true →
    exec (Instr.ipfixMessageSend t c) s = .next (((s.at t).ipfixSend c).finish s)) ∧
  (∀ (t : Time) (port : Nat) (s : State),
    (Instr.gateEntryStart t port).wf = true →
    exec (Instr.gateEntryStart t port) s = .next (((s.at t).nextGate port).finish s)) ∧
  (∀ (t : Time) (clk : Bool) (s : State),
    (Instr.trefPpsEdge t clk).wf = true →
    exec (Instr.trefPpsEdge t clk) s = .next (((s.at t).ppsEdge clk).finish s)) ∧
  (∀ (t : Time) (s : State),
    (Instr.trefLost t).wf = true →
    exec (Instr.trefLost t) s = .next (((s.at t).trefLose).finish s)) ∧
  (∀ (t : Time) (domain : Nat) (offset : Int) (s : State),
    (Instr.ptpMessageReceive t domain offset).wf = true →
    exec (Instr.ptpMessageReceive t domain offset) s = .next (((s.at t).ptpIn domain offset).finish s)) ∧
  (∀ (t : Time) (source : Nat) (s : State),
    (Instr.timeSourceQualified t source).wf = true →
    exec (Instr.timeSourceQualified t source) s = .next (((s.at t).qualified source).finish s)) ∧
  (∀ (t : Time) (s : State),
    (Instr.timeRootDisplace t).wf = true →
    exec (Instr.timeRootDisplace t) s = .next (
      let s1 := s.at t
      (if s1.time.betterSince.isSome && !s1.holding && s1.outranks s1.time.rootClass (s1.get .TIME_ROOT)
          then s1.timeRoot else s1).finish s)) ∧
  (∀ (t : Time) (port : Nat) (s : State),
    (Instr.timeMarkerSend t port).wf = true →
    exec (Instr.timeMarkerSend t port) s = .next (
      let s1 := s.at t
      (if s1.isFabric port && s1.get .OL_STATE port = 2 then
          s1.updMarks port fun m => { m with mark := some m.next, next := (m.next + 1) % 64, txFrag := none }
         else s1).finish s)) ∧
  (∀ (t : Time) (port : Nat) (s : State),
    (Instr.ptmRequest t port).wf = true →
    exec (Instr.ptmRequest t port) s = .next (
      let s1 := s.at t
      (if s1.isDevice port && (s1.pport port).up then s1.emit (.link 40 [port, s1.now / 65536]) else s1).finish s)) ∧
  (∀ (t : Time) (req : Req) (offers : List Time) (step : Int) (s : State),
    (Instr.timeStep t req offers step).wf = true →
    exec (Instr.timeStep t req offers step) s = .next (((s.at t).invoke req .TIME_STEP none fun s => s.timeStep offers step).finish s)) ∧
  (∀ (t : Time) (req : Req) (offers : List Time) (e : WEntry) (s : State),
    (Instr.pipPeriodWrite t req offers e).wf = true →
    exec (Instr.pipPeriodWrite t req offers e) s = .next (((s.at t).hexsum req fun s =>
          if e.addr.idx = 0x2001 then s.writePeriod (s.principal req.path) offers e
          else s.writeSet req [e]).finish s)) ∧
  (∀ (t : Time) (request node region : Nat) (isolated : Bool) (prep : Option Machine.Prep) (s : State),
    (Instr.unitReady t request node region isolated prep).wf = true →
    exec (Instr.unitReady t request node region isolated prep) s = .next (
      let s0 := s.at t
      let s1 := match prep with
        | some p => s0.prepared request p
        | none => s0
      let s2 := if node = s1.node then s1.msg .ready [request, region] else s1
      (s2.unitReport request node region isolated).finish s)) ∧
  (∀ (t : Time) (request : Nat) (s : State),
    (Instr.guardPoint t request).wf = true →
    exec (Instr.guardPoint t request) s = .next (
      let s1 := s.at t
      (match s1.req request with
          | some r => s1.guard r
          | none => s1).finish s)) ∧
  (∀ (t : Time) (request : Nat) (acks : List Nat) (s : State),
    (Instr.decisionResend t request acks).wf = true →
    exec (Instr.decisionResend t request acks) s = .next (
      let s1 := s.at t
      (match s1.req request with
          | none => s1
          | some r =>
            if s1.reqOver request then s1
            else if r.prep then (if r.decided then s1.msg .ack [request] else s1.decisionIn r)
            else if !r.decided then s1
            else
              let s2 := s1.updReq request fun r => { r with acks := nub (r.acks ++ acks) }
              let all := (nub (r.units.map fun (u : Nat × Nat) => u.1)).all (nub (r.acks ++ acks)).contains
              if all then s2 else s2.msg .decision [request]).finish s)) ∧
  (∀ (t : Time) (request region : Nat) (answer : Bool) (s : State),
    (Instr.decisionQuery t request region answer).wf = true →
    exec (Instr.decisionQuery t request region answer) s = .next (
      let s1 := s.at t
      (match s1.req request with
          | none => s1
          | some r => if s1.mayQuery r region then s1.query r region answer else s1).finish s)) ∧
  (∀ (request : Nat) (s : State),
    (Instr.epochApply request).wf = true →
    exec (Instr.epochApply request) s = .next ((match s.req request with
          | some r => (s.at r.epoch).epochEdge r
          | none => s).finish s)) ∧
  (∀ (t : Time) (port : Nat) (s : State),
    (Instr.helloSend t port).wf = true →
    exec (Instr.helloSend t port) s = .next (
      let s1 := s.at t
      (if s1.isFabric port && s1.get .OL_STATE port = 2 then s1.helloOut port else s1).finish s)) ∧
  (∀ (t : Time) (port : Nat) (h : Hello) (s : State),
    (Instr.helloReceive t port h).wf = true →
    exec (Instr.helloReceive t port h) s = .next (
      let s1 := s.at t
      (if s1.isFabric port && s1.get .OL_STATE port = 2 then s1.helloIn port h else s1).finish s)) ∧
  (∀ (t : Time) (port : Nat) (s : State),
    (Instr.neighbourDown t port).wf = true →
    exec (Instr.neighbourDown t port) s = .next (
      let s1 := s.at t
      let due := s1.get .NEIGHBOUR_STATE port ≠ 0 && decide ((s1.hello port).last + us 300 ≤ s1.now)
      (if due then (s1.nbrDown port).pushIfWanted else s1).finish s)) ∧
  (∀ (t : Time) (node port nbr nbrPort : Nat) (up withdrawn : Bool) (s : State),
    (Instr.linkStateMessage t node port nbr nbrPort up withdrawn).wf = true →
    exec (Instr.linkStateMessage t node port nbr nbrPort up withdrawn) s = .next (((s.at t).linkMessage node port nbr nbrPort up withdrawn).finish s)) ∧
  (∀ (t : Time) (s : State),
    (Instr.keeperTakeover t).wf = true →
    exec (Instr.keeperTakeover t) s = .next (
      let s1 := s.at t
      (if s1.get .KEEPER_ROLE = 2 && s1.selfHealthy && s1.isEdge s1.now then ((s1.setKeeper s1.node).beacon).continueAll.pushIfWanted else s1).finish s)) ∧
  (∀ (t : Time) (node : Nat) (s : State),
    (Instr.keeperHandover t node).wf = true →
    exec (Instr.keeperHandover t node) s = .next (
      let s1 := s.at t
      (if s1.mayHandOver node then ((s1.msg .handover [node]).setKeeper node).pushIfWanted else s1).finish s)) ∧
  (∀ (t : Time) (s : State),
    (Instr.keeperColdElection t).wf = true →
    exec (Instr.keeperColdElection t) s = .next (
      let s1 := s.at t
      let l := s1.healthyHere
      let go := s1.get .KEEPER_CHANGES = 0 && s1.get .KEEPER_NODE = 0xFF && s1.majority l &&
        s1.get .KEEPER_ROLE ≠ 4
      (match l.head?, go with
          | some n, true =>
            let s2 := s1.setKeeper n
            if n = s2.node then (s2.beacon).openPush else s2
          | _, _ => s1).finish s)) ∧
  (∀ (t : Time) (port : Nat) (fns : List FnInfo) (s : State),
    (Instr.deviceEnumeration t port fns).wf = true →
    exec (Instr.deviceEnumeration t port fns) s = .next (((s.at t).enumeration port fns).finish s)) ∧
  (∀ (t : Time) (req : Req) (gfid value : Nat) (s : State),
    (Instr.sriovNumvfsWrite t req gfid value).wf = true →
    exec (Instr.sriovNumvfsWrite t req gfid value) s = .next (((s.at t).hexsum req fun s => s.writeSet req [entryOf .SRIOV_NUMVFS (some gfid) value]).finish s)) ∧
  (∀ (t : Time) (req : Req) (p : Nat) (node port : Option Nat) (s : State),
    (Instr.partitionBindWrite t req p node port).wf = true →
    exec (Instr.partitionBindWrite t req p node port) s = .next (((s.at t).hexsum req fun s =>
          s.writeSet req (entriesOf (some p) [(.HOST_NODE, node), (.HOST_PORT, port)])).finish s)) ∧
  (∀ (t : Time) (p : Nat) (s : State),
    (Instr.partitionWaitTimeout t p).wf = true →
    exec (Instr.partitionWaitTimeout t p) s = .next (
      let s1 := s.at t
      (if s1.waitedOut p then s1.activate p false else s1).finish s)) ∧
  (∀ (t : Time) (req : Req) (p arg : Nat) (s : State),
    (Instr.partitionQuiesce t req p arg).wf = true →
    exec (Instr.partitionQuiesce t req p arg) s = .next (((s.at t).invoke req .PARTITION_QUIESCE (some p) fun s =>
          let st := s.get .PARTITION_STATE p
          if 1 < arg then refuse 0x0301 s
          else if (arg = 1 ∧ st ≠ 2) ∨ (arg = 0 ∧ st ≠ 4) then refuse 0x0401 s
          else ok [] (if arg = 1 then s.quiesce p else s.resumePart p)).finish s)) ∧
  (∀ (t : Time) (port : Nat) (c : CfgReq) (s : State),
    (Instr.hostConfigRequest t port c).wf = true →
    exec (Instr.hostConfigRequest t port c) s = .next (((s.at t).configRequest port c).finish s)) ∧
  (∀ (t : Time) (p : Nat) (s : State),
    (Instr.configFwCompletion t p).wf = true →
    exec (Instr.configFwCompletion t p) s = .next (((s.at t).fwConfig p).finish s)) ∧
  (∀ (t : Time) (p g : Nat) (reg : ShadowReg) (value rid tag : Nat) (s : State),
    (Instr.hostConfigShadowWrite t p g reg value rid tag).wf = true →
    exec (Instr.hostConfigShadowWrite t p g reg value rid tag) s = .next (
      let s1 := s.at t
      (if s1.graftHere p g then s1.shadowWrite p g reg value rid tag else s1).finish s)) ∧
  (∀ (t : Time) (req : Req) (g action : Nat) (s : State),
    (Instr.graftActionWrite t req g action).wf = true →
    exec (Instr.graftActionWrite t req g action) s = .next (((s.at t).hexsum req fun s => s.writeSet req [entryOf .ACTION (some g) action]).finish s)) ∧
  (∀ (t : Time) (req : Req) (offers : List Time) (s : State),
    (Instr.graftCommit t req offers).wf = true →
    exec (Instr.graftCommit t req offers) s = .next (((s.at t).invoke req .GRAFT_COMMIT none fun s => s.graftCommit offers).finish s)) ∧
  (∀ (t : Time) (p k : Nat) (powerOff linkDisable : Bool) (s : State),
    (Instr.hostSlotPowerControl t p k powerOff linkDisable).wf = true →
    exec (Instr.hostSlotPowerControl t p k powerOff linkDisable) s = .next (
      let s1 := s.at t
      (if s1.presents p && decide (k < s1.get .VDSB_COUNT p) then s1.slotPower p k (some powerOff) linkDisable
          else s1).finish s)) ∧
  (∀ (t : Time) (g : Nat) (s : State),
    (Instr.ungraftTimeout t g).wf = true →
    exec (Instr.ungraftTimeout t g) s = .next (
      let s1 := s.at t
      let due := s1.get .GRAFT_STATE g = 4 && (match (s1.grafts.getD {} g).expiry with
        | some e => decide (e ≤ s1.now)
        | none => false)
      (if due then (s1.put .ACTION g 3).openUngraft [g] else s1).finish s)) ∧
  (∀ (t : Time) (p k : Nat) (s : State),
    (Instr.hostSecondaryBusReset t p k).wf = true →
    exec (Instr.hostSecondaryBusReset t p k) s = .next (
      let s1 := s.at t
      (if s1.presents p && decide (k < s1.get .VDSB_COUNT p) then s1.secondaryReset p k else s1).finish s)) ∧
  (∀ (t : Time) (p g : Nat) (s : State),
    (Instr.hostFunctionLevelReset t p g).wf = true →
    exec (Instr.hostFunctionLevelReset t p g) s = .next (
      let s1 := s.at t
      (if s1.graftHere p g then s1.fnReset p (s1.get .GFID g) else s1).finish s)) ∧
  (∀ (t : Time) (port : Nat) (tlp : Tlp) (s : State),
    (Instr.tlpIngressParse t port tlp).wf = true →
    exec (Instr.tlpIngressParse t port tlp) s = .next (
      let s1 := s.at t
      (if s1.pciUp port then s1.receive port tlp else s1).finish s)) ∧
  (∀ (t : Time) (p : Nat) (write : Bool) (offset : Nat) (bytes : List Nat) (rid tag : Nat) (s : State),
    (Instr.mgmtFunctionMemoryAccess t p write offset bytes rid tag).wf = true →
    exec (Instr.mgmtFunctionMemoryAccess t p write offset bytes rid tag) s = .next (
      let s1 := s.at t
      (if s1.get .MF_STATE p = 1 || s1.mfUncovered p (offset % 65536) then s1.mfRefused p write rid tag
          else if write then s1.barWrite p offset bytes
          else s1.event 269 (p :: offset ::
            (List.range (ceilDiv bytes.length 4)).map fun i => s1.mfRead p (offset / 4 * 4 + 4 * i))).finish s)) ∧
  (∀ (t : Time) (p offset value : Nat) (s : State),
    (Instr.mfRegisterWrite t p offset value).wf = true →
    exec (Instr.mfRegisterWrite t p offset value) s = .next (
      let s1 := s.at t
      (if s1.get .MF_STATE p = 1 then s1.mfRefused p true 0 0
          else s1.mfReg p offset value).finish s)) ∧
  (∀ (t : Time) (p g gfid bar base rid tag : Nat) (s : State),
    (Instr.hostBarWrite t p g gfid bar base rid tag).wf = true →
    exec (Instr.hostBarWrite t p g gfid bar base rid tag) s = .next (
      let s1 := s.at t
      (if s1.graftCovers p g gfid && s1.get .KIND g ≠ 2 then s1.barWritten p g gfid bar base rid tag else s1).finish s)) ∧
  (∀ (t : Time) (p gfid bar : Nat) (s : State),
    (Instr.apertureActivate t p gfid bar).wf = true →
    exec (Instr.apertureActivate t p gfid bar) s = .next (
      let s1 := s.at t
      (if s1.odtakuUp then s1.apertureOn p gfid bar else s1).finish s)) ∧
  (∀ (t : Time) (p g : Nat) (c : CfgReq) (s : State),
    (Instr.vfBarEmulate t p g c).wf = true →
    exec (Instr.vfBarEmulate t p g c) s = .next (
      let s1 := s.at t
      (if !(s1.graftCovers p g (s1.get .GFID g) && s1.get .KIND g = 2) then s1
          else if !s1.odtakuUp then
            match s1.ownHostPort p with
            | some port => s1.selfCpl port (cfgCpl c 2 0)
            | none => s1
          else s1.vfAccess p g c).finish s)) ∧
  (∀ (t : Time) (port : Nat) (s : State),
    (Instr.schedulerSelect t port).wf = true →
    exec (Instr.schedulerSelect t port) s = .next (((s.at t).select port).finish s)) ∧
  (∀ (t : Time) (port : Nat) (posted nonPosted cpl : Nat × Nat) (s : State),
    (Instr.flowControlUpdate t port posted nonPosted cpl).wf = true →
    exec (Instr.flowControlUpdate t port posted nonPosted cpl) s = .next (
      let s1 := s.at t
      (if !s1.isFabric port && (s1.pport port).up then s1.creditsIn port posted nonPosted cpl else s1).finish s)) ∧
  (∀ (t : Time) (port cls : Nat) (key : Option Nat) (s : State),
    (Instr.shaperConform t port cls key).wf = true →
    exec (Instr.shaperConform t port cls key) s = .next (
      let s1 := s.at t
      (match key with
          | some k => if s1.portNow k = port ∧ keyClass k = cls then s1.conform k else s1
          | none => s1).finish s)) ∧
  (∀ (t : Time) (meter : Nat) (s : State),
    (Instr.creditWithholdEnd t meter).wf = true →
    exec (Instr.creditWithholdEnd t meter) s = .next (
      let s1 := s.at t
      (if !(s1.meters.getD {} meter).holds.isEmpty && s1.recovered meter then s1.endWithhold meter else s1).finish s)) ∧
  (∀ (t : Time) (port tag : Nat) (s : State),
    (Instr.tagDeadline t port tag).wf = true →
    exec (Instr.tagDeadline t port tag) s = .next (((s.at t).deadlineAt port tag).finish s)) ∧
  (∀ (t : Time) (port tag : Nat) (s : State),
    (Instr.tagQuarantineEnd t port tag).wf = true →
    exec (Instr.tagQuarantineEnd t port tag) s = .next (((s.at t).quarantineEnd port tag).finish s)) ∧
  (∀ (t : Time) (port : Nat) (s : State),
    (Instr.cplTimeoutStorm t port).wf = true →
    exec (Instr.cplTimeoutStorm t port) s = .next (((s.at t).stormAt port).finish s)) ∧
  (∀ (t : Time) (port : Nat) (pkt : Pkt) (s : State),
    (Instr.fabricPacketArrive t port pkt).wf = true →
    exec (Instr.fabricPacketArrive t port pkt) s = .next (
      let s1 := s.at t
      (if s1.fabricOpen port && pkt.twin = 0 then s1.fabricArrive port pkt else s1).finish s)) ∧
  (∀ (t : Time) (stream : Nat) (s : State),
    (Instr.orderHoldTimeout t stream).wf = true →
    exec (Instr.orderHoldTimeout t stream) s = .next (
      let s1 := s.at t
      (if s1.heldTooLong stream then s1.expireStream stream else s1).finish s)) ∧
  (∀ (t : Time) (node : Nat) (s : State),
    (Instr.pathChangeFlaggingEnd t node).wf = true →
    exec (Instr.pathChangeFlaggingEnd t node) s = .next (
      let s1 := s.at t
      (if s1.flagUntil.getD 0 node ≤ s1.now then { s1 with flagUntil := s1.flagUntil.erase node } else s1).finish s)) ∧
  (∀ (t : Time) (port : Nat) (pkt : Pkt) (s : State),
    (Instr.twinCopyArrive t port pkt).wf = true →
    exec (Instr.twinCopyArrive t port pkt) s = .next (
      let s1 := s.at t
      (if s1.fabricOpen port && pkt.twin ≠ 0 then s1.fabricArrive port pkt else s1).finish s)) ∧
  (∀ (t : Time) (r : Nat) (s : State),
    (Instr.twinSkewTimeout t r).wf = true →
    exec (Instr.twinSkewTimeout t r) s = .next (
      let s1 := s.at t
      let due := match (s1.rsv r).timer with
        | some x => decide (x ≤ s1.now)
        | none => false
      (if due then s1.twinExpire r else s1).finish s)) ∧
  (∀ (t : Time) (key : Nat) (sub : Sub) (s : State),
    (Instr.spillBlockClose t key sub).wf = true →
    exec (Instr.spillBlockClose t key sub) s = .next (((s.at t).spillClose key sub).finish s)) ∧
  (∀ (t : Time) (key : Nat) (sub : Sub) (s : State),
    (Instr.spillBlockWritten t key sub).wf = true →
    exec (Instr.spillBlockWritten t key sub) s = .next (((s.at t).spillWritten key sub).finish s)) ∧
  (∀ (t : Time) (key : Nat) (sub : Sub) (s : State),
    (Instr.drainBlockRead t key sub).wf = true →
    exec (Instr.drainBlockRead t key sub) s = .next (((s.at t).drainRead key sub).finish s)) ∧
  (∀ (t : Time) (key : Nat) (sub : Sub) (eccOk : Bool) (s : State),
    (Instr.drainBlockLinked t key sub eccOk).wf = true →
    exec (Instr.drainBlockLinked t key sub eccOk) s = .next (((s.at t).drainLink key sub eccOk).finish s)) ∧
  (∀ (t : Time) (key : Nat) (s : State),
    (Instr.spillExit t key).wf = true →
    exec (Instr.spillExit t key) s = .next (
      let s1 := s.at t
      (s1.updQ key fun q => if q.canExit && !s1.spillWaits key then q.exit else q).finish s)) ∧
  (∀ (t : Time) (port : Nat) (s : State),
    (Instr.receiveFifoResume t port).wf = true →
    exec (Instr.receiveFifoResume t port) s = .next (((s.at t).resume port).finish s)) ∧
  (∀ (t : Time) (s : State),
    (Instr.bramblePassEnd t).wf = true →
    exec (Instr.bramblePassEnd t) s = .next ((if (s.at t).paused.any fun x => x.1 = 7 then s.at t else (s.at t).bramble).finish s)) ∧
  (∀ (t : Time) (req : Req) (r action : Nat) (s : State),
    (Instr.rsvActionWrite t req r action).wf = true →
    exec (Instr.rsvActionWrite t req r action) s = .next (((s.at t).hexsum req fun s => s.writeSet req [entryOf .RSV_ACTION (some r) action]).finish s)) ∧
  (∀ (t : Time) (req : Req) (offers : List Time) (s : State),
    (Instr.rsvCommit t req offers).wf = true →
    exec (Instr.rsvCommit t req offers) s = .next (((s.at t).hexsumK req fun s => s.rsvCommit req offers).finish s)) ∧
  (∀ (t : Time) (s : State),
    (Instr.rsvAdmissionDone t).wf = true →
    exec (Instr.rsvAdmissionDone t) s = .next (
      let s1 := s.at t
      (match s1.rsvJob with
          | some (req, offers, rows) =>
            if s1.get .PAIR_B_STATE ≠ 0 then s1
            else
              let (code, body, s2) := ({ s1 with rsvJob := none }).admissionDone offers rows
              s2.answer req code body
          | none => s1).finish s)) ∧
  (∀ (t : Time) (r : Nat) (s : State),
    (Instr.rsvReadmit t r).wf = true →
    exec (Instr.rsvReadmit t r) s = .next (
      let s1 := s.at t
      let st := s1.get .RSV_STATE r
      (if (st = 3 ∨ st = 4) ∧ s1.get .PAIR_B_STATE = 0 then s1.readmit r else s1).finish s)) ∧
  (∀ (t : Time) (req : Req) (bank : Nat) (entry length cycle : Option Nat) (value : Nat) (s : State),
    (Instr.glBankWrite t req bank entry length cycle value).wf = true →
    exec (Instr.glBankWrite t req bank entry length cycle value) s = .next (
      let one := match entry with
        | some i => [entryOf .GL_ENTRY (some (glKey (bank / 2) (bank % 2) i)) value]
        | none => []
      ((s.at t).hexsum req fun s =>
          s.writeSet req (one ++ entriesOf (some bank) [(.GL_LENGTH, length), (.GL_CYCLE_PIPS, cycle)])).finish s)) ∧
  (∀ (t : Time) (req : Req) (offers : List Time) (s : State),
    (Instr.gateSwitch t req offers).wf = true →
    exec (Instr.gateSwitch t req offers) s = .next (((s.at t).invoke req .GATE_SWITCH none fun s => s.gateSwitch offers).finish s)) ∧
  (∀ (t : Time) (port : Nat) (upset : List (Bool × Nat × Nat)) (s : State),
    (Instr.flitTransmit t port upset).wf = true →
    exec (Instr.flitTransmit t port upset) s = .next (
      let s1 := s.at t
      let s2 := if upset.isEmpty then s1 else s1.updLink port fun h => upset.foldl LinkH.upset h
      let s3 := if s2.get .OL_STATE port = 2 && !(s2.link port).parityOk then s2.unplanned port else s2
      (if s1.isFabric port then (s3.transmit port).swapCheck port else s1).finish s)) ∧
  (∀ (t : Time) (port : Nat) (flit : Flit) (s : State),
    (Instr.flitReceive t port flit).wf = true →
    exec (Instr.flitReceive t port flit) s = .next (
      let s1 := s.at t
      (if !s1.hearsFlits port then s1
          else
            let s2 := s1.corrected port flit
            match flitTaken flit with
            | none => s2.badFlit port
            | some f =>
              let ps := s2.expected port f
              if s2.strayPart port ps then s2.badFlit port
              else if s2.overflows port ps then (s2.badFlit port).unplanned port
              else s2.goodFlit port f).finish s)) ∧
  (∀ (t : Time) (port : Nat) (s : State),
    (Instr.ackTimerExpiry t port).wf = true →
    exec (Instr.ackTimerExpiry t port) s = .next (
      let s1 := s.at t
      let h := s1.link port
      let due := s1.get .OL_STATE port = 2 && h.owed ≠ 0 &&
        decide (h.ackFrom + ns (s1.get .ACK_TIMER port) ≤ s1.now)
      (if due then s1.updLink port fun h => { h with ackDue := true } else s1).finish s)) ∧
  (∀ (t : Time) (port : Nat) (s : State),
    (Instr.nakRepeat t port).wf = true →
    exec (Instr.nakRepeat t port) s = .next (
      let s1 := s.at t
      let h := s1.link port
      let due := s1.get .OL_STATE port = 2 && h.nakOpen && decide (h.nakAt + us 1 ≤ s1.now)
      (if due then s1.updLink port fun h => { h with nakDue := true, nakAt := s1.now } else s1).finish s)) ∧
  (∀ (t : Time) (port : Nat) (s : State),
    (Instr.replayTimeout t port).wf = true →
    exec (Instr.replayTimeout t port) s = .next (
      let s1 := s.at t
      let h := s1.link port
      let due := s1.get .OL_STATE port = 2 && s1.unacked port ≠ 0 && decide (h.advAt + ns h.timeout ≤ s1.now)
      (if due then s1.startReplay port h.oldest none else s1).finish s)) ∧
  (∀ (t : Time) (port : Nat) (init : Init) (s : State),
    (Instr.initFlitReceive t port init).wf = true →
    exec (Instr.initFlitReceive t port init) s = .next ((if (s.at t).isFabric port then (s.at t).initIn port init else s.at t).finish s)) ∧
  (∀ (t : Time) (port : Nat) (s : State),
    (Instr.initTimeout t port).wf = true →
    exec (Instr.initTimeout t port) s = .next (
      let s1 := s.at t
      let due := s1.get .OL_STATE port = 1 && decide ((s1.link port).since + ms 10 ≤ s1.now)
      (if due then
            (s1.restartAt port (s1.get .PORT_WIDTH port) (fabricRate (s1.get .MAX_RATE port))).put .OL_STATE
              port 0
          else s1).finish s)) ∧
  (∀ (t : Time) (port : Nat) (s : State),
    (Instr.reinitTimeout t port).wf = true →
    exec (Instr.reinitTimeout t port) s = .next (
      let s1 := s.at t
      let due := s1.get .OL_STATE port = 3 && decide ((s1.link port).since + us 100 ≤ s1.now)
      (if due then s1.linkDown port 2 else s1).finish s)) ∧
  (∀ (t : Time) (port : Nat) (s : State),
    (Instr.blockLockLost t port).wf = true →
    exec (Instr.blockLockLost t port) s = .next (
      let s1 := s.at t
      (if s1.isFabric port && (s1.link port).lock then s1.lockLost port else s1).finish s)) ∧
  (∀ (t : Time) (port : Nat) (s : State),
    (Instr.linkDownTimeExpiry t port).wf = true →
    exec (Instr.linkDownTimeExpiry t port) s = .next (
      let s1 := s.at t
      let due := match (s1.link port).lockLostAt with
        | some b => s1.get .OL_STATE port ≠ 0 && !(s1.link port).lock &&
            decide (b + ns (s1.get .LINK_DOWN_TIME port) ≤ s1.now)
        | none => false
      (if due then s1.linkDown port 1 else s1).finish s)) ∧
  (∀ (t : Time) (port : Nat) (s : State),
    (Instr.salvageComplete t port).wf = true →
    exec (Instr.salvageComplete t port) s = .next (
      let s1 := s.at t
      let s2 := s1.salvageInto port true (s1.link port).salvage
      let s3 := match (s2.link port).peer with
        | some i => if s2.get .OL_STATE port = 1 ∧ (s2.link port).salvage.isEmpty then s2.initIn port i else s2
        | none => s2
      (s3).finish s)) ∧
  (∀ (t : Time) (port : Nat) (held : List Nat) (s : State),
    (Instr.creditPoolAudit t port held).wf = true →
    exec (Instr.creditPoolAudit t port held) s = .next (
      let s1 := s.at t
      (if s1.get .OL_STATE port = 2 ∧ s1.pausedIn 5 (quadRegion port) = false then s1.audit port held else s1).finish s)) ∧
  (∀ (t : Time) (req : Req) (port : Nat) (s : State),
    (Instr.withdraw t req port).wf = true →
    exec (Instr.withdraw t req port) s = .next (((s.at t).invoke req .WITHDRAW (some port) fun s =>
          if s.get .WITHDRAWN port = 1 then refuse 0x0401 s
          else ok [] (s.withdrawPort port reinitMsg)).finish s)) ∧
  (∀ (t : Time) (port : Nat) (s : State),
    (Instr.withdrawReinitRequest t port).wf = true →
    exec (Instr.withdrawReinitRequest t port) s = .next (
      let s1 := s.at t
      let s2 := match (s1.link port).wanted with
        | some m =>
          if s1.get .WITHDRAWN port = 1 ∧ s1.get .OL_STATE port = 2 ∧ (s1.link port).pushed ∧
              s1.linkDrained port ∧ s1.noRequest port then
            (if m = parkMsg then s1.capPark port else s1.newReq port m)
          else s1
        | none => s1
      (s2).finish s)) ∧
  (∀ (t : Time) (port : Nat) (mins : List Nat) (s : State),
    (Instr.poolUpdate t port mins).wf = true →
    exec (Instr.poolUpdate t port mins) s = .next (
      let s1 := s.at t
      (if s1.get .OL_STATE port = 2 then s1.peerTold port mins else s1).finish s)) ∧
  (∀ (t : Time) (port : Nat) (m : Ctl) (s : State),
    (Instr.request t port m).wf = true →
    exec (Instr.request t port m) s = .next (
      let s1 := s.at t
      (if s1.get .OL_STATE port = 2 then s1.requestIn port m else s1).finish s)) ∧
  (∀ (t : Time) (port : Nat) (m : Ctl) (s : State),
    (Instr.grant t port m).wf = true →
    exec (Instr.grant t port m) s = .next (
      let s1 := s.at t
      (if s1.get .OL_STATE port = 2 then s1.grantIn port m else s1).finish s)) ∧
  (∀ (t : Time) (port : Nat) (m : Ctl) (s : State),
    (Instr.refuse t port m).wf = true →
    exec (Instr.refuse t port m) s = .next (
      let s1 := s.at t
      (if s1.get .OL_STATE port = 2 then s1.refuseIn port m else s1).finish s)) ∧
  (∀ (t : Time) (port : Nat) (m : Ctl) (s : State),
    (Instr.done t port m).wf = true →
    exec (Instr.done t port m) s = .next (
      let s1 := s.at t
      (if s1.get .OL_STATE port = 2 then s1.doneIn port m else s1).finish s)) ∧
  (∀ (t : Time) (port : Nat) (first last : Bool) (s : State),
    (Instr.detectRetry t port first last).wf = true →
    exec (Instr.detectRetry t port first last) s = .next (
      let s1 := s.at t
      (if s1.isFabric port && s1.get .TRAIN_STATE port = 1 && (first || last) then s1.toStage port 2
          else s1).finish s)) ∧
  (∀ (t : Time) (lane : Nat) (b : TBlock) (s : State),
    (Instr.trainingBlockReceive t lane b).wf = true →
    exec (Instr.trainingBlockReceive t lane b) s = .next (((s.at t).trainBlock lane b).finish s)) ∧
  (∀ (t : Time) (port : Nat) (s : State),
    (Instr.trainStageTimeout t port).wf = true →
    exec (Instr.trainStageTimeout t port) s = .next (
      let s1 := s.at t
      (if s1.isFabric port then s1.stageLate port else s1).finish s)) ∧
  (∀ (t : Time) (port : Nat) (s : State),
    (Instr.retrainIntervalExpiry t port).wf = true →
    exec (Instr.retrainIntervalExpiry t port) s = .next (
      let s1 := s.at t
      let due := match (s1.train port).failedAt with
        | some a => s1.isFabric port && s1.get .TRAIN_STATE port = 0 &&
            decide (a + us (s1.get .RETRAIN_INTERVAL port) ≤ s1.now)
        | none => false
      (if due then s1.startDetect port else s1).finish s)) ∧
  (∀ (t : Time) (lane height width : Nat) (corrected : Option Nat) (s : State),
    (Instr.marginSample t lane height width corrected).wf = true →
    exec (Instr.marginSample t lane height width corrected) s = .next (
      let s1 := s.at t
      let x : Xing := .tileCtl (laneTile lane) true
      (if s1.get .LANE_STATE lane = 2 ∧ s1.pausedIn 3 (laneTile lane) = false ∧ s1.xFull x = false then
          ((s1.xPut x 12).pcieErrors lane corrected).sampleLane lane height width
        else s1).finish s)) ∧
  (∀ (t : Time) (req : Req) (spare lane : Nat) (s : State),
    (Instr.spareCommand t req spare lane).wf = true →
    exec (Instr.spareCommand t req spare lane) s = .next (((s.at t).invoke req .SPARE_COMMAND (some spare) fun s => s.spareCmd spare lane).finish s)) ∧
  (∀ (t : Time) (spare : Nat) (s : State),
    (Instr.spareTrained t spare).wf = true →
    exec (Instr.spareTrained t spare) s = .next (
      let s1 := s.at t
      let port := s1.get .SPARE_PORT spare
      (if s1.get .SPARE_STATE spare = 1 && port < 512 && s1.get .TRAIN_STATE port = 7 &&
              (s1.spareH spare).ownDone && (s1.spareH spare).peerDone then
            let s2 := ((s1.updSpare spare fun _ => { readyAt := s1.now }).put .LANE_STATE (spareLane spare)
              2).put .SPARE_STATE spare 2
            s2.sendDone port
          else s1).finish s)) ∧
  (∀ (t : Time) (spare : Nat) (s : State),
    (Instr.spareReadyTimeout t spare).wf = true →
    exec (Instr.spareReadyTimeout t spare) s = .next (
      let s1 := s.at t
      let port := s1.get .SPARE_PORT spare
      (if s1.get .SPARE_STATE spare = 2 && decide ((s1.spareH spare).readyAt + ms 100 ≤ s1.now) &&
              !(s1.link port).swaps then s1.parkSpare port
          else s1).finish s)) ∧
  (∀ (t : Time) (port : Nat) (s : State),
    (Instr.swapFlitReached t port).wf = true →
    exec (Instr.swapFlitReached t port) s = .next (
      let s1 := s.at t
      let due := match (s1.link port).swapRx with
        | some f => s1.get .OL_STATE port = 2 && countPast (s1.link port).rxCount f
        | none => false
      (if due && !(s1.link port).rxOnSpare then
            ((s1.spareTakes port).updLink port fun h => { h with rxOnSpare := true }).swapCheck port
          else s1).finish s)) ∧
  (∀ (t : Time) (req : Req) (port : Nat) (s : State),
    (Instr.retrain t req port).wf = true →
    exec (Instr.retrain t req port) s = .next (((s.at t).invoke req .RETRAIN (some port) fun s => s.retrainPort port).finish s)) ∧
  (∀ (t : Time) (req : Req) (lane : Nat) (s : State),
    (Instr.counterClear t req lane).wf = true →
    exec (Instr.counterClear t req lane) s = .next (((s.at t).invoke req .COUNTER_CLEAR (some lane) fun s =>
          ok [] (((s.put .BIT_ERRORS lane 0).put .SYMBOL_ERRORS lane 0).put .MARGIN_TRIGGERS lane 0)).finish s)) ∧
  (∀ (t : Time) (req : Req) (port : Nat) (role width rate : Option Nat) (s : State),
    (Instr.portCfgWrite t req port role width rate).wf = true →
    exec (Instr.portCfgWrite t req port role width rate) s = .next (((s.at t).hexsum req fun s => s.writeSet req
          (entriesOf (some port) [(.MAX_RATE, rate), (.PORT_WIDTH, width), (.PORT_ROLE, role)])).finish s)) ∧
  (∀ (t : Time) (port width rate : Nat) (flitMode : Bool) (s : State),
    (Instr.dataLinkUp t port width rate flitMode).wf = true →
    exec (Instr.dataLinkUp t port width rate flitMode) s = .next (((s.at t).dlUp port width rate flitMode).finish s)) ∧
  (∀ (t : Time) (port : Nat) (s : State),
    (Instr.trainTimeout t port).wf = true →
    exec (Instr.trainTimeout t port) s = .next (
      let s1 := s.at t
      let due := s1.isDevice port && s1.get .DP_STATE port = 2 &&
        (s1.pport port).trainAt + ms (s1.get .TRAIN_TIMEOUT port) ≤ s1.now
      (if due then (s1.event 262 [port]).perstPulse port true else s1).finish s)) ∧
  (∀ (t : Time) (port : Nat) (s : State),
    (Instr.surpriseDown t port).wf = true →
    exec (Instr.surpriseDown t port) s = .next (((s.at t).surprise port).finish s)) ∧
  (∀ (t : Time) (node port : Nat) (s : State),
    (Instr.hostLinkDown t node port).wf = true →
    exec (Instr.hostLinkDown t node port) s = .next (
      let s1 := s.at t
      (if node ≠ s1.node then s1.remoteHost node port
         else if s1.isHost port && (s1.pport port).up then s1.hostDropped port else s1).finish s)) ∧
  (∀ (t : Time) (node port : Nat) (s : State),
    (Instr.hotResetReceive t node port).wf = true →
    exec (Instr.hotResetReceive t node port) s = .next (
      let s1 := s.at t
      (if node ≠ s1.node then s1.remoteHost node port
         else if s1.isHost port && (s1.pport port).up then (s1.event 396 [port]).hostDropped port else s1).finish s)) ∧
  (∀ (t : Time) (cluster : Nat) (s : State),
    (Instr.hostPerstAssert t cluster).wf = true →
    exec (Instr.hostPerstAssert t cluster) s = .next (
      let s1 := (s.at t).updPerst cluster fun h => { h with hostLow := true }
      ((s1.perstHosts cluster).foldl (fun s p => s.hostDown p) s1).finish s)) ∧
  (∀ (t : Time) (cluster : Nat) (s : State),
    (Instr.hostPerstDeassert t cluster).wf = true →
    exec (Instr.hostPerstDeassert t cluster) s = .next (
      let s1 := (s.at t).updPerst cluster fun h => { h with hostLow := false }
      ((s1.perstHosts cluster).foldl (fun s p =>
          if s.get .TRAIN_STATE p = 0 ∧ !s.quiesced p then s.startTraining p else s) s1).finish s)) ∧
  (∀ (t : Time) (port : Nat) (s : State),
    (Instr.aspmL1Entry t port).wf = true →
    exec (Instr.aspmL1Entry t port) s = .next (
      let s1 := s.at t
      let idle := !(s1.queues.any fun q => s1.portFor q.1 q.2 = port && !q.2.isEmpty) &&
        decide ((s1.pport port).busyAt + us (s1.get .L1_IDLE_TIME port) ≤ s1.now)
      let go := s1.isHost port && (s1.pport port).up && s1.hostL1 port && s1.get .ASPM_L1_ALLOW port = 1 &&
        idle && !s1.reserved port
      (if go then (s1.emit (.link 255 [port, 1])).updPport port fun h => { h with l1 := true } else s1).finish s)) ∧
  (∀ (t : Time) (port : Nat) (s : State),
    (Instr.deviceL1Request t port).wf = true →
    exec (Instr.deviceL1Request t port) s = .next (
      let s1 := s.at t
      let asked := s1.isDevice port && (s1.pport port).up
      let grant := s1.get .ASPM_L1_ALLOW port = 1 && !s1.reserved port
      (if !asked then s1
         else if grant then (s1.emit (.link 255 [port, 1])).updPport port fun h => { h with l1 := true }
         else s1.emit (.link 255 [port, 0])).finish s)) ∧
  (∀ (t : Time) (port stream : Nat) (setKeys : Bool) (s : State),
    (Instr.ideKmMessage t port stream setKeys).wf = true →
    exec (Instr.ideKmMessage t port stream setKeys) s = .next (((s.at t).ideKm port stream setKeys).finish s)) ∧
  (∀ (t : Time) (port : Nat) (s : State),
    (Instr.ideRekey t port).wf = true →
    exec (Instr.ideRekey t port) s = .next (
      let s1 := s.at t
      let every := s1.get .IDE_REKEY_INTERVAL port
      let due := s1.isDevice port && bit (s1.get .IDE_STREAMS_ACTIVE port) 0 && every ≠ 0 &&
        (s1.pport port).rekeyAt + ms (1000 * every) ≤ s1.now
      (if due then
          (((s1.updPport port fun h => { h with rekeyAt := s1.now, txK := h.txK ^^^ 1, rxNew := h.rxNew ||| 1 }).emit
            (.link 259 [port])).bump .IDE_KEY_REFRESHES port)
         else s1).finish s)) ∧
  (∀ (t : Time) (req : Req) (port : Nat) (s : State),
    (Instr.fundamentalReset t req port).wf = true →
    exec (Instr.fundamentalReset t req port) s = .next (((s.at t).invoke req .FUNDAMENTAL_RESET (some port) fun s =>
          if !s.isDevice port || !s.clusterFree (clusterOf port) then refuse 0x0401 s
          else ok [] (s.perstPulse port false)).finish s)) ∧
  (∀ (t : Time) (cluster : Nat) (s : State),
    (Instr.perstPulseEnd t cluster).wf = true →
    exec (Instr.perstPulseEnd t cluster) s = .next (
      let s1 := s.at t
      let due := match (s1.perstH cluster).pulse with
        | some (b, d) => decide (b + d ≤ s1.now)
        | none => false
      (if due then (s1.updPerst cluster fun h => { h with pulse := none }).perstJudge cluster else s1).finish s)) ∧
  (∀ (t : Time) (p : Nat) (s : State),
    (Instr.mfFunctionLevelReset t p).wf = true →
    exec (Instr.mfFunctionLevelReset t p) s = .next ((((s.at t).bump .MF_FLR_COUNT p).mfReset p true).finish s)) ∧
  (∀ (t : Time) (p : Nat) (s : State),
    (Instr.mfResetComplete t p).wf = true →
    exec (Instr.mfResetComplete t p) s = .next (
      let s1 := s.at t
      (if s1.get .MF_STATE p = 1 then (if s1.odtakuUp then s1.mbEmpty p else s1).put .MF_STATE p 0 else s1).finish s)) ∧
  (∀ (t : Time) (p ring : Nat) (s : State),
    (Instr.ringBatchWrite t p ring).wf = true →
    exec (Instr.ringBatchWrite t p ring) s = .next (((s.at t).ringBatch p ring).finish s)) ∧
  (∀ (t : Time) (p k : Nat) (s : State),
    (Instr.hostDpcSoftwareTrigger t p k).wf = true →
    exec (Instr.hostDpcSoftwareTrigger t p k) s = .next (
      let s1 := s.at t
      (if s1.presents p && decide (k < s1.get .VDSB_COUNT p) then s1.dpcTrigger p k 3 else s1).finish s)) ∧
  (∀ (t : Time) (p k : Nat) (s : State),
    (Instr.hostDpcStatusClear t p k).wf = true →
    exec (Instr.hostDpcStatusClear t p k) s = .next (((s.at t).dpcClear p k).finish s)) ∧
  (∀ (t : Time) (req : Req) (c value : Nat) (s : State),
    (Instr.spEnableWrite t req c value).wf = true →
    exec (Instr.spEnableWrite t req c value) s = .next (((s.at t).hexsum req fun s => s.writeSet req [entryOf .SP_ENABLE (some c) value]).finish s)) ∧
  (∀ (t : Time) (c : Nat) (long short : Bool) (s : State),
    (Instr.presenceChange t c long short).wf = true →
    exec (Instr.presenceChange t c long short) s = .next (((s.at t).presence c long short).finish s)) ∧
  (∀ (t : Time) (c : Nat) (s : State),
    (Instr.seatDebounceEnd t c).wf = true →
    exec (Instr.seatDebounceEnd t c) s = .next (((s.at t).slotApply c).finish s)) ∧
  (∀ (t : Time) (c : Nat) (l : List (Nat × Nat × Nat × Nat)) (s : State),
    (Instr.powerGood t c l).wf = true →
    exec (Instr.powerGood t c l) s = .next ((s.slotSamples t c l).finish s)) ∧
  (∀ (t : Time) (c : Nat) (s : State),
    (Instr.perstDelayEnd t c).wf = true →
    exec (Instr.perstDelayEnd t c) s = .next (
      let s1 := s.at t
      let gone := s1.get .SP_STATE c = 4 && (s1.slot c).offCmd.isNone &&
        (s1.slot c).stateAt + ms (s1.get .SP_PERST_DELAY c) ≤ s1.now
      (if gone then (s1.updPerst c fun h => { h with powerOk := true }).perstJudge c else s1).finish s)) ∧
  (∀ (t : Time) (c : Nat) (l : List (Nat × Nat × Nat × Nat)) (s : State),
    (Instr.faultTimerExpiry t c l).wf = true →
    exec (Instr.faultTimerExpiry t c l) s = .next ((s.slotSamples t c l).finish s)) ∧
  (∀ (t : Time) (c iA iB : Nat) (s : State),
    (Instr.fastTrip t c iA iB).wf = true →
    exec (Instr.fastTrip t c iA iB) s = .next (
      let s1 := s.at t
      let above := (s1.slotRan c).any fun st =>
        let level := s1.slotLimit c st * s1.get .SP_FAST_TRIP_PCT c
        level < 100 * iA || level < 100 * iB
      (if above then s1.slotTrip c 3 else s1).finish s)) ∧
  (∀ (t : Time) (c : Nat) (s : State),
    (Instr.inrushTimeout t c).wf = true →
    exec (Instr.inrushTimeout t c) s = .next (
      let s1 := s.at t
      (if s1.slotRan c = some 3 && s1.slotSince c + us (s1.get .SP_INRUSH_TIMEOUT c) ≤ s1.now then
            s1.slotTrip c 4 else s1).finish s)) ∧
  (∀ (t : Time) (c : Nat) (l : List (Nat × Nat × Nat × Nat)) (s : State),
    (Instr.undervoltageTrip t c l).wf = true →
    exec (Instr.undervoltageTrip t c l) s = .next ((s.slotSamples t c l).finish s)) ∧
  (∀ (t : Time) (c : Nat) (l : List (Nat × Nat × Nat × Nat)) (s : State),
    (Instr.faultTimerClear t c l).wf = true →
    exec (Instr.faultTimerClear t c l) s = .next ((s.slotSamples t c l).finish s)) ∧
  (∀ (t : Time) (c : Nat) (s : State),
    (Instr.offTimeEnd t c).wf = true →
    exec (Instr.offTimeEnd t c) s = .next (((s.at t).slotApply c).finish s)) ∧
  (∀ (t : Time) (c : Nat) (s : State),
    (Instr.commandedGateOff t c).wf = true →
    exec (Instr.commandedGateOff t c) s = .next (
      let s1 := s.at t
      let due := match (s1.slot c).offCmd with
        | some x => decide (x + us 100 ≤ s1.now)
        | none => false
      (if due then s1.slotOff c else s1).finish s)) ∧
  (∀ (t : Time) (c : Nat) (l : List (Nat × Nat × Nat × Nat)) (s : State),
    (Instr.shareAdjust t c l).wf = true →
    exec (Instr.shareAdjust t c l) s = .next (((s.slotSamples t c l).share c).finish s)) ∧
  (∀ (t : Time) (c : Nat) (s : State),
    (Instr.shareOutOfRange t c).wf = true →
    exec (Instr.shareOutOfRange t c) s = .next (
      let s1 := s.at t
      let due := s1.get .SP_SHARE_ENABLE c = 1 && s1.powered c && !s1.feedBit c 2 &&
        (s1.slot c).wideAt.any fun x => decide (x + ms 100 ≤ s1.now)
      (if due then (s1.event 293 [c]).put .SP_FEED_STATUS c (s1.get .SP_FEED_STATUS c ||| 4) else s1).finish s)) ∧
  (∀ (t : Time) (c : Nat) (l : List (Nat × Nat × Nat × Nat)) (s : State),
    (Instr.feedLost t c l).wf = true →
    exec (Instr.feedLost t c l) s = .next ((s.slotSamples t c l).finish s)) ∧
  (∀ (t : Time) (c : Nat) (l : List (Nat × Nat × Nat × Nat)) (s : State),
    (Instr.feedReturn t c l).wf = true →
    exec (Instr.feedReturn t c l) s = .next ((s.slotSamples t c l).finish s)) ∧
  (∀ (t : Time) (row : Nat) (s : State),
    (Instr.huskDrained t row).wf = true →
    exec (Instr.huskDrained t row) s = .next (
      let s1 := s.at t
      (if s1.husked row && s1.drained row then s1.put .HUSK_DRAINED row 1 else s1).finish s)) ∧
  (∀ (t : Time) (req : Req) (row : Nat) (s : State),
    (Instr.huskCommand t req row).wf = true →
    exec (Instr.huskCommand t req row) s = .next (((s.at t).invoke req .HUSK_COMMAND (some row) fun s =>
          if s.husked row then refuse 0x0401 s else ok [] (s.raise (huskErr row))).finish s)) ∧
  (∀ (t : Time) (req : Req) (row : Nat) (s : State),
    (Instr.huskRelease t req row).wf = true →
    exec (Instr.huskRelease t req row) s = .next (((s.at t).invoke req .HUSK_RELEASE (some row) fun s =>
          let (others, s) := if row < 512 then (true, s) else s.othersDrained
          if !s.releasable row || !others then refuse 0x0401 s
          else
            let s := { s with releases := s.releases.set row s.now }
            let h : Held := { obj := .HUSK_RELEASE, row := row, val := 0, pip := s.applyPip }
            ok [] ({ s with pendP := s.pendP ++ [h] }.put .HUSK_STATE row 2)).finish s)) ∧
  (∀ (t : Time) (region : Nat) (s : State),
    (Instr.regionRestartHoldEnd t region).wf = true →
    exec (Instr.regionRestartHoldEnd t region) s = .next (
      let s1 := s.at t
      let due := s1.get .REGION_STATE region = 3 &&
        decide ((s1.regions.getD {} region).heldAt + ms 10 ≤ s1.now) && (s1.regions.getD {} region).overLimit.isEmpty
      (if due then { s1 with regions := s1.regions.updD {} region fun h => { h with bist := true } } else s1).finish s)) ∧
  (∀ (t : Time) (req : Req) (region : Nat) (s : State),
    (Instr.regionRestart t req region).wf = true →
    exec (Instr.regionRestart t req region) s = .next (((s.at t).invoke req .REGION_RESTART none fun s =>
          if 13 < region then refuse 0x0301 s
          else if s.get .REGION_STATE region ≠ 2 then refuse 0x0401 s
          else
            let s := { s with regions := s.regions.updD {} region fun h => { h with heldAt := s.now, bist := false } }
            ok [] (s.put .REGION_STATE region 3)).finish s)) ∧
  (∀ (t : Time) (region : Nat) (failing : List (Nat × Nat)) (s : State),
    (Instr.regionBistComplete t region failing).wf = true →
    exec (Instr.regionBistComplete t region failing) s = .next (
      let s1 := s.at t
      (if s1.inBist region then s1.bistDone region failing else s1).finish s)) ∧
  (∀ (t : Time) (region : Nat) (s : State),
    (Instr.quadrantQueueSweepDone t region).wf = true →
    exec (Instr.quadrantQueueSweepDone t region) s = .next (
      let s1 := s.at t
      let due := decide (8 ≤ region) && decide (region < 12) &&
        (s1.get .REGION_STATE region = 2 || s1.get .REGION_STATE region = 3)
      (if due then s1.sweepQuadrant region else s1).finish s)) ∧
  (∀ (t : Time) (req : Req) (addrs : List ObjAddr) (s : State),
    (Instr.read t req addrs).wf = true →
    exec (Instr.read t req addrs) s = .next (((s.at t).hexsum req fun s =>
          if 32 < addrs.length then refuse 0x0302 s
          else
            let (l, s) := s.readAll req addrs
            ok (bodyOf l) s).finish s)) ∧
  (∀ (t : Time) (req : Req) (offers : List Time) (entries : List WEntry) (s : State),
    (Instr.write t req offers entries).wf = true →
    exec (Instr.write t req offers entries) s = .next (((s.at t).hexsum req fun s => s.writeMsg req offers entries).finish s)) ∧
  (∀ (t : Time) (req : Req) (start : ObjAddr) (count mode : Nat) (s : State),
    (Instr.blockRead t req start count mode).wf = true →
    exec (Instr.blockRead t req start count mode) s = .next (((s.at t).hexsum req fun s =>
          let pr := s.principal req.path
          let table := (Dict.rows start.idx).isSome
          if 2 < mode then refuse 0x0301 s
          else if (mode ≠ 0 ∧ !(table && start.row.isSome)) ∨ (Dict.atIndex start.idx).isEmpty then
            ok (0 :: bodyOf [s.readEntry pr req.active start]) s
          else
            let all := s.blockAddrs pr start count mode
            let fit := s.fitting pr (req.path.limit - 16) all
            let (l, s) := s.readAll req fit
            ok (b2n (decide (fit.length < all.length)) :: bodyOf l) s).finish s)) ∧
  (∀ (t : Time) (req : Req) (addr : ObjAddr) (subs : List Nat) (s : State),
    (Instr.rowRead t req addr subs).wf = true →
    exec (Instr.rowRead t req addr subs) s = .next (((s.at t).hexsum req fun s =>
          if 32 < subs.length ∨ addr.row.isNone then refuse 0x0302 s
          else
            let (l, s) := s.readAll req (subs.map fun n => { addr with sub := n })
            ok (bodyOf l) s).finish s)) ∧
  (∀ (t : Time) (req : Req) (addr : ObjAddr) (entries : List WEntry) (s : State),
    (Instr.rowWrite t req addr entries).wf = true →
    exec (Instr.rowWrite t req addr entries) s = .next (((s.at t).hexsum req fun s =>
          if addr.row.isNone || entries.any fun e => e.addr.idx ≠ addr.idx || e.addr.row ≠ addr.row then refuse 0x0302 s
          else s.writeSet req entries).finish s)) ∧
  (∀ (t : Time) (req : Req) (subId period : Nat) (addrs : List ObjAddr) (s : State),
    (Instr.subscribe t req subId period addrs).wf = true →
    exec (Instr.subscribe t req subId period addrs) s = .next (((s.at t).hexsum req fun s => s.subscribe req subId period addrs).finish s)) ∧
  (∀ (t : Time) (req : Req) (target kind : Nat) (s : State),
    (Instr.abort t req target kind).wf = true →
    exec (Instr.abort t req target kind) s = .next (((s.at t).hexsum req fun s => s.abort req target kind).finish s)) ∧
  (∀ (t : Time) (anchorHash chainLen : Nat) (optionsOk sigOk cookie : Bool) (peer : Nat) (s : State),
    (Instr.dtlsHandshake t anchorHash chainLen optionsOk sigOk cookie peer).wf = true →
    exec (Instr.dtlsHandshake t anchorHash chainLen optionsOk sigOk cookie peer) s = .next (((s.at t).handshake anchorHash chainLen optionsOk sigOk cookie peer).finish s)) ∧
  (∀ (t : Time) (session : Nat) (s : State),
    (Instr.sessionIdleTimeout t session).wf = true →
    exec (Instr.sessionIdleTimeout t session) s = .next (
      let s1 := s.at t
      let late := (s1.sessions.getD {} session).last + ms (1000 * s1.get .HEXSUM_IDLE_TIMEOUT) ≤ s1.now
      (if session < 16 ∧ s1.get .SESSION_STATE session ≠ 0 ∧ late then s1.closeSession session else s1).finish s)) ∧
  (∀ (t : Time) (req : Req) (session : Nat) (s : State),
    (Instr.sessionClose t req session).wf = true →
    exec (Instr.sessionClose t req session) s = .next (((s.at t).invoke req .SESSION_CLOSE (some session) fun s => ok [] (s.closeSession session)).finish s)) ∧
  (∀ (t : Time) (req : Req) (anchor sub ty len value : Nat) (s : State),
    (Instr.trustAnchorWrite t req anchor sub ty len value).wf = true →
    exec (Instr.trustAnchorWrite t req anchor sub ty len value) s = .next (((s.at t).hexsum req fun s =>
          s.writeSet req [{ addr := { idx := 0x1810, sub := sub, row := some anchor }, ty := ty, octets := beBytes value len }]).finish s)) ∧
  (∀ (t : Time) (req : Req) (sub ty len value : Nat) (s : State),
    (Instr.mgmtAddressWrite t req sub ty len value).wf = true →
    exec (Instr.mgmtAddressWrite t req sub ty len value) s = .next (((s.at t).hexsum req fun s =>
          s.writeSet req [{ addr := { idx := 0x1802, sub := sub }, ty := ty, octets := beBytes value len }]).finish s)) ∧
  (∀ (t : Time) (req : Req) (n : Nat) (s : State),
    (Instr.profileSave t req n).wf = true →
    exec (Instr.profileSave t req n) s = .next (((s.at t).invoke req .PROFILE_SAVE none fun s => s.profileSave n).finish s)) ∧
  (∀ (t : Time) (req : Req) (n : Nat) (s : State),
    (Instr.profileErase t req n).wf = true →
    exec (Instr.profileErase t req n) s = .next (((s.at t).invoke req .PROFILE_ERASE none fun s => s.profileErase n).finish s)) ∧
  (∀ (t : Time) (req : Req) (offers : List Time) (n force nodes : Nat) (s : State),
    (Instr.profileSwitch t req offers n force nodes).wf = true →
    exec (Instr.profileSwitch t req offers n force nodes) s = .next (((s.at t).invoke req .PROFILE_SWITCH none fun s => s.profileSwitch offers n force nodes).finish s)) ∧
  (∀ (t : Time) (req : Req) (offers : List Time) (s : State),
    (Instr.windowCommit t req offers).wf = true →
    exec (Instr.windowCommit t req offers) s = .next (((s.at t).invoke req .WINDOW_COMMIT none fun s => s.windowCommit offers).finish s)) ∧
  (∀ (t : Time) (req : Req) (s : State),
    (Instr.windowDiscard t req).wf = true →
    exec (Instr.windowDiscard t req) s = .next (((s.at t).invoke req .WINDOW_DISCARD none fun s =>
          if s.windowPending then refuse 0x0401 s
          else ok [] { s with staged := s.staged.filter fun h => !windowObjs.contains h.obj }).finish s)) ∧
  (∀ (t : Time) (pair : Nat) (s : State),
    (Instr.pairStop t pair).wf = true →
    exec (Instr.pairStop t pair) s = .next (((s.at t).stopPair pair).finish s)) ∧
  (∀ (t : Time) (pair : Nat) (s : State),
    (Instr.watchdogExpiry t pair).wf = true →
    exec (Instr.watchdogExpiry t pair) s = .next (((s.at t).stopPair pair).finish s)) ∧
  (∀ (t : Time) (pair : Nat) (s : State),
    (Instr.pairRestartComplete t pair).wf = true →
    exec (Instr.pairRestartComplete t pair) s = .next (
      let s1 := s.at t
      let h := s1.pairH pair
      (if s1.get (pairObj pair) = 1 ∧ !h.reloading ∧ h.stoppedAt + ms 1 ≤ s1.now then
            if !s1.bankPasses s1.activeFwBank (s1.get .KEYSET_REVOKED) then s1.pairUnverified pair
            else
              let s2 := if pair = 1 then s1.hssRestart else s1
              (s2.pairRuns pair).closePair pair
          else s1).finish s)) ∧
  (∀ (t : Time) (req : Req) (pair : Nat) (s : State),
    (Instr.pairRestart t req pair).wf = true →
    exec (Instr.pairRestart t req pair) s = .next (((s.at t).invoke req .PAIR_RESTART none fun s =>
          if 1 < pair then refuse 0x0301 s
          else if s.get (pairObj pair) ≠ 2 then refuse 0x0401 s
          else ok [] ((s.updPair pair fun h => { h with stoppedAt := s.now }).put (pairObj pair) 0 1)).finish s)) ∧
  (∀ (t : Time) (pair : Nat) (s : State),
    (Instr.irqTake t pair).wf = true →
    exec (Instr.irqTake t pair) s = .next (((s.at t).takeIrq pair).finish s)) ∧
  (∀ (t : Time) (pair : Nat) (s : State),
    (Instr.irqComplete t pair).wf = true →
    exec (Instr.irqComplete t pair) s = .next (((s.at t).irqDone pair).finish s)) ∧
  (∀ (t : Time) (source field value : Nat) (s : State),
    (Instr.irqConfigWrite t source field value).wf = true →
    exec (Instr.irqConfigWrite t source field value) s = .next (
      let s1 := s.at t
      (if s1.irqActive source ∧ field < 4 then
          s1.updIrq source fun h => { h with held := h.held ++ [(field, value)] }
         else s1.irqField source field value).finish s)) ∧
  (∀ (t : Time) (row offset : Nat) (bytes : List Nat) (s : State),
    (Instr.mbInWrite t row offset bytes).wf = true →
    exec (Instr.mbInWrite t row offset bytes) s = .next (((s.at t).mbIn row offset bytes).finish s)) ∧
  (∀ (t : Time) (row : Nat) (s : State),
    (Instr.mbInTake t row).wf = true →
    exec (Instr.mbInTake t row) s = .next (
      let s1 := s.at t
      (if s1.odtakuUp then s1.mbInTaken row else s1).finish s)) ∧
  (∀ (t : Time) (row : Nat) (bytes : List Nat) (s : State),
    (Instr.mbOutPlace t row bytes).wf = true →
    exec (Instr.mbOutPlace t row bytes) s = .next (
      let s1 := s.at t
      (if s1.odtakuUp then s1.mbOut row bytes else s1).finish s)) ∧
  (∀ (t : Time) (row value : Nat) (s : State),
    (Instr.mbTake t row value).wf = true →
    exec (Instr.mbTake t row value) s = .next (((s.at t).mbTaken row value).finish s)) ∧
  (∀ (t : Time) (row : Nat) (toFw : Bool) (bits : Nat) (s : State),
    (Instr.doorbellSet t row toFw bits).wf = true →
    exec (Instr.doorbellSet t row toFw bits) s = .next (((s.at t).dbSet row toFw bits).finish s)) ∧
  (∀ (t : Time) (row : Nat) (toFw : Bool) (bits setBits : Nat) (s : State),
    (Instr.doorbellClear t row toFw bits setBits).wf = true →
    exec (Instr.doorbellClear t row toFw bits setBits) s = .next (((s.at t).dbClear row toFw bits setBits).finish s)) ∧
  (∀ (t : Time) (write : Bool) (offset : Nat) (bytes : List Nat) (count : Nat) (s : State),
    (Instr.sidebandWindowTransaction t write offset bytes count).wf = true →
    exec (Instr.sidebandWindowTransaction t write offset bytes count) s = .next (((s.at t).sideband write offset bytes count).finish s)) ∧
  (∀ (t : Time) (bits : Nat) (s : State),
    (Instr.smEventClear t bits).wf = true →
    exec (Instr.smEventClear t bits) s = .next (((s.at t).smClear bits).finish s)) ∧
  (∀ (t : Time) (i3c : Bool) (endpoint msgType vendor size : Nat) (s : State),
    (Instr.mctpMessage t i3c endpoint msgType vendor size).wf = true →
    exec (Instr.mctpMessage t i3c endpoint msgType vendor size) s = .next (((s.at t).mctp i3c endpoint msgType vendor size).finish s)) ∧
  (∀ (t : Time) (sbPort addr : Nat) (s : State),
    (Instr.i3cDynamicAddress t sbPort addr).wf = true →
    exec (Instr.i3cDynamicAddress t sbPort addr) s = .next (
      let s1 := s.at t
      ({ s1 with i3c := s1.i3c.set sbPort addr }).finish s)) ∧
  (∀ (t : Time) (unit_ n value : Nat) (s : State),
    (Instr.protectionDescriptorWrite t unit_ n value).wf = true →
    exec (Instr.protectionDescriptorWrite t unit_ n value) s = .next (
      let s1 := s.at t
      let v := value % 2 ^ 64
      (if descriptorOk v then s1.put (descriptorObj unit_) n v else s1.event 363 [unit_, n, 0x0301]).finish s)) ∧
  (∀ (t : Time) (req : Req) (s : State),
    (Instr.acuFence t req).wf = true →
    exec (Instr.acuFence t req) s = .next (((s.at t).invoke req .ACU_FENCE none fun s => ok [] s).finish s)) ∧
  (∀ (t : Time) (master priv access addr wrong : Nat) (s : State),
    (Instr.accessDenial t master priv access addr wrong).wf = true →
    exec (Instr.accessDenial t master priv access addr wrong) s = .next (((s.at t).accessed master priv access addr wrong).finish s)) ∧
  (∀ (t : Time) (pair : Nat) (s : State),
    (Instr.debugHalt t pair).wf = true →
    exec (Instr.debugHalt t pair) s = .next (
      let s1 := s.at t
      (if s1.debugOpen ∧ s1.get (pairObj pair) = 0 then (s1.put (pairObj pair) 0 3).pairGone pair else s1).finish s)) ∧
  (∀ (t : Time) (pair : Nat) (s : State),
    (Instr.debugResume t pair).wf = true →
    exec (Instr.debugResume t pair) s = .next (
      let s1 := s.at t
      (if s1.get (pairObj pair) = 3 then s1.pairRuns pair else s1).finish s)) ∧
  (∀ (t : Time) (code : Nat) (s : State),
    (Instr.jtagInstruction t code).wf = true →
    exec (Instr.jtagInstruction t code) s = .next (
      let s1 := s.at t
      let eff := if code ≤ 2 ∨ (code ≤ 7 ∧ s1.boot = .reset) then code else 0
      let s2 := { s1 with jtag := eff }
      (if eff = 1 then s2.event 367 [idcode] else s2).finish s)) ∧
  (∀ (t : Time) (req : Req) (s : State),
    (Instr.tokenChallenge t req).wf = true →
    exec (Instr.tokenChallenge t req) s = .next (((s.at t).invoke req .TOKEN_CHALLENGE none fun s => s.newChallenge).finish s)) ∧
  (∀ (t : Time) (req : Req) (len : Nat) (s : State),
    (Instr.tokenSubmit t req len).wf = true →
    exec (Instr.tokenSubmit t req len) s = .next (
      let s1 := s.at t
      let s2 := s1.invoke req .TOKEN_SUBMIT none fun s => s.tokenSubmit len
      (if s2.sec.returned && !s1.sec.returned then s2.resetNow 4 else s2).finish s)) ∧
  (∀ (t : Time) (req : Req) (s : State),
    (Instr.debugLock t req).wf = true →
    exec (Instr.debugLock t req) s = .next (((s.at t).invoke req .DEBUG_LOCK none fun s => s.debugLock).finish s)) ∧
  (∀ (t : Time) (req : Req) (target : Nat) (s : State),
    (Instr.svnCommit t req target).wf = true →
    exec (Instr.svnCommit t req target) s = .next (((s.at t).invoke req .SVN_COMMIT none fun s => s.svnCommit target).finish s)) ∧
  (∀ (t : Time) (requester code : Nat) (signed : Bool) (s : State),
    (Instr.spdmRequest t requester code signed).wf = true →
    exec (Instr.spdmRequest t requester code signed) s = .next (
      let s1 := s.at t
      (if s1.boot = .odtaku then s1.spdm requester code signed else s1).finish s)) ∧
  (∀ (t : Time) (s : State),
    (Instr.hssTreeBuilt t).wf = true →
    exec (Instr.hssTreeBuilt t) s = .next (
      let s1 := s.at t
      (if s1.boot = .odtaku ∧ s1.get .PAIR_B_STATE = 0 ∧ s1.get .LIFECYCLE_STATE = 1 then
          (s1.put .HSS_NEXT_READY 0 1).treeChange
         else s1).finish s)) ∧
  (∀ (t : Time) (s : State),
    (Instr.coldReset t).wf = true →
    exec (Instr.coldReset t) s = .next (((s.at t).resetNow 0).finish s)) ∧
  (∀ (t : Time) (s : State),
    (Instr.warmReset t).wf = true →
    exec (Instr.warmReset t) s = .next (((s.at t).resetNow 1).finish s)) ∧
  (∀ (t : Time) (req : Req) (nodes keepSlots : Nat) (s : State),
    (Instr.orchardReset t req nodes keepSlots).wf = true →
    exec (Instr.orchardReset t req nodes keepSlots) s = .next (
      let s1 := s.at t
      let s2 := s1.invoke req .ORCHARD_RESET none fun s => s.orchardReset nodes keepSlots
      let told := (s2.out.drop s1.out.length).contains (.event 394 [maskOf (s1.named nodes), keepSlots])
      (if told && (s1.named nodes).contains s1.node then s2.restart 2 (keepSlots = 1) else s2).finish s)) ∧
  (∀ (t : Time) (pinEn sel1 sel0 : Bool) (s : State),
    (Instr.resetEnd t pinEn sel1 sel0).wf = true →
    exec (Instr.resetEnd t pinEn sel1 sel0) s = .next (((s.at t).endReset pinEn sel1 sel0).finish s)) ∧
  (∀ (t : Time) (req : Req) (port : Nat) (s : State),
    (Instr.portReset t req port).wf = true →
    exec (Instr.portReset t req port) s = .next (((s.at t).invoke req .PORT_RESET none fun s => s.portReset port).finish s)) ∧
  (∀ (t : Time) (req : Req) (p : Nat) (s : State),
    (Instr.partitionReset t req p).wf = true →
    exec (Instr.partitionReset t req p) s = .next (((s.at t).invoke req .PARTITION_RESET none fun s =>
          if 4095 < p then refuse 0x0301 s else ok [] (s.partReset p)).finish s)) ∧
  (∀ (t : Time) (p : Nat) (s : State),
    (Instr.partitionResetComplete t p).wf = true →
    exec (Instr.partitionResetComplete t p) s = .next (((s.at t).resetsDone p).finish s)) ∧
  (∀ (t : Time) (req : Req) (bank : Nat) (s : State),
    (Instr.fwErase t req bank).wf = true →
    exec (Instr.fwErase t req bank) s = .next (((s.at t).invoke req .FW_ERASE none fun s => s.fwErase bank).finish s)) ∧
  (∀ (t : Time) (req : Req) (bank offset : Nat) (bytes : List Nat) (s : State),
    (Instr.fwWrite t req bank offset bytes).wf = true →
    exec (Instr.fwWrite t req bank offset bytes) s = .next (((s.at t).invoke req .FW_WRITE none fun s => s.fwWrite bank offset bytes).finishFlash s)) ∧
  (∀ (t : Time) (req : Req) (bank : Nat) (s : State),
    (Instr.fwVerify t req bank).wf = true →
    exec (Instr.fwVerify t req bank) s = .next (((s.at t).invoke req .FW_VERIFY none fun s => s.fwVerify bank).finish s)) ∧
  (∀ (t : Time) (req : Req) (offers : List Time) (nodes : Nat) (s : State),
    (Instr.fwSwitch t req offers nodes).wf = true →
    exec (Instr.fwSwitch t req offers nodes) s = .next (((s.at t).invoke req .FW_SWITCH none fun s => s.fwSwitch offers nodes).finish s)) ∧
  (∀ (t : Time) (pair : Nat) (s : State),
    (Instr.fwPairReloadDone t pair).wf = true →
    exec (Instr.fwPairReloadDone t pair) s = .next (((s.at t).fwReloaded pair).finish s)) ∧
  (∀ (t : Time) (s : State),
    (Instr.fwTrialEnd t).wf = true →
    exec (Instr.fwTrialEnd t) s = .next (((s.at t).trialOver).finish s)) ∧
  (∀ (t : Time) (req : Req) (key : Nat) (s : State),
    (Instr.ctrClear t req key).wf = true →
    exec (Instr.ctrClear t req key) s = .next (((s.at t).invoke req .CTR_CLEAR (some key) fun s => ok [] (s.ctrClear key)).finish s)) ∧
  (∀ (t : Time) (key : Nat) (s : State),
    (Instr.counterWrap t key).wf = true →
    exec (Instr.counterWrap t key) s = .next (
      let s1 := s.at t
      (if s1.get .CTR_VALUE key = 2 ^ 48 - 1 then s1.ctrAdd key 1 else s1).finish s)) ∧
  (∀ (t : Time) (req : Req) (s : State),
    (Instr.sampleClear t req).wf = true →
    exec (Instr.sampleClear t req) s = .next (((s.at t).invoke req .SAMPLE_CLEAR none fun s => ok [] s.sampleClear).finish s)) ∧
  (∀ (t : Time) (req : Req) (region : Nat) (s : State),
    (Instr.peakClear t req region).wf = true →
    exec (Instr.peakClear t req region) s = .next (((s.at t).invoke req .PEAK_CLEAR (some region) fun s =>
          ok [] (s.put .TEMP_PEAK region (s.get .TEMP region))).finish s)) ∧
  (∀ (t : Time) (limit : Nat) (severe : Bool) (a b : Nat) (va vb : Int) (s : State),
    (Instr.regionLimitExceeded t limit severe a b va vb).wf = true →
    exec (Instr.regionLimitExceeded t limit severe a b va vb) s = .next (((s.at t).limitExceeded limit severe a b va vb).finish s)) ∧
  (∀ (t : Time) (region limit : Nat) (s : State),
    (Instr.limitThrottleEnd t region limit).wf = true →
    exec (Instr.limitThrottleEnd t region limit) s = .next (((s.at t).limitEnd region limit).finish s)) ∧
  (∀ (t : Time) (region : Nat) (temp : Int) (s : State),
    (Instr.throttleTempExceeded t region temp).wf = true →
    exec (Instr.throttleTempExceeded t region temp) s = .next (
      let s1 := (s.at t).setTemp region temp
      (if (s1.get .THROTTLE_TEMP * 8 : Nat) < temp then s1.throttle region 0 else s1).finish s)) ∧
  (∀ (t : Time) (region cause : Nat) (up : Bool) (s : State),
    (Instr.throttleLevelStep t region cause up).wf = true →
    exec (Instr.throttleLevelStep t region cause up) s = .next (((s.at t).levelStep region cause up).finish s)) ∧
  (∀ (t : Time) (region : Nat) (s : State),
    (Instr.overtemperatureIsolate t region).wf = true →
    exec (Instr.overtemperatureIsolate t region) s = .next (((s.at t).overTemp region).finish s)) ∧
  (∀ (t : Time) (lost : Bool) (s : State),
    (Instr.coreReferenceLost t lost).wf = true →
    exec (Instr.coreReferenceLost t lost) s = .next (
      let s1 := s.at t
      (s1.setRef (s1.get .CORE_REF_TILE) (if lost then 2 else 1)).finish s)) ∧
  (∀ (t : Time) (s : State),
    (Instr.corePllRelock t).wf = true →
    exec (Instr.corePllRelock t) s = .next (
      let s1 := s.at t
      (s1.event 422 [s1.get .CORE_REF_TILE]).finish s)) ∧
  (∀ (t : Time) (s : State),
    (Instr.coreReferenceHoldExpiry t).wf = true →
    exec (Instr.coreReferenceHoldExpiry t) s = .next (
      let s1 := s.at t
      let due := match s1.refLostAt with
        | some a => decide (a + ms 10 ≤ s1.now)
        | none => false
      (if due then s1.raise { code := 0x3006, kind := 1, idx := 14, region := 14 } else s1).finish s)) ∧
  (∀ (t : Time) (average : Nat) (s : State),
    (Instr.powerCapCheck t average).wf = true →
    exec (Instr.powerCapCheck t average) s = .next (((s.at t).capCheck average).finish s)) ∧
  (∀ (t : Time) (stack : Nat) (s : State),
    (Instr.hbmColdStartReady t stack).wf = true →
    exec (Instr.hbmColdStartReady t stack) s = .next ((let s1 := s.at t; { s1 with hbmCold := s1.hbmCold.filter (· ≠ stack) }).finish s)) ∧
  (∀ (t : Time) (levels : Nat) (s : State),
    (Instr.gpioChange t levels).wf = true →
    exec (Instr.gpioChange t levels) s = .next (((s.at t).gpioIn levels).finish s)) ∧
  (∀ (t : Time) (s : State),
    (Instr.bootImageAccepted t).wf = true →
    exec (Instr.bootImageAccepted t) s = .next (((s.at t).romStart).finish s)) ∧
  (∀ (t : Time) (s : State),
    (Instr.fwOperationComplete t).wf = true →
    exec (Instr.fwOperationComplete t) s = .next (((s.at t).fwComplete).finishFlash s)) ∧
  (∀ (t : Time) (s : State),
    (Instr.profileStoreComplete t).wf = true →
    exec (Instr.profileStoreComplete t) s = .next (
      let s1 := s.at t
      (match s1.storeOp with
          | some op =>
            match op.save, op.taken with
            | true, some p => s1.profileStored op.n p
            | true, none => s1
            | false, _ => s1.profileEmptied op.n
          | none => s1).finish s)) ∧
  (∀ (t : Time) (c : Nat) (l : List (Nat × Nat × Nat × Nat)) (s : State),
    (Instr.faultTimerStart t c l).wf = true →
    exec (Instr.faultTimerStart t c l) s = .next ((s.slotSamples t c l).finish s)) ∧
  (∀ (t : Time) (cluster : Nat) (s : State),
    (Instr.perstOutDeassertDelayEnd t cluster).wf = true →
    exec (Instr.perstOutDeassertDelayEnd t cluster) s = .next (((s.at t).perstJudge cluster).finish s)) ∧
  (∀ (t : Time) (port : Nat) (errs : List Nat) (s : State),
    (Instr.verifyStageEnd t port errs).wf = true →
    exec (Instr.verifyStageEnd t port errs) s = .next (
      let s1 := s.at t
      let ls := s1.trainLanes port
      let bad := ((List.range ls.length).filter fun i => s1.verifyLimit port < errs.getD i 0).filterMap fun i =>
        ls[i]?.map (·.1)
      let due := s1.isFabric port && s1.get .TRAIN_STATE port = 5 &&
        decide ((s1.train port).stageAt + stageLimit 5 ≤ s1.now)
      (if s1.isFabric port && s1.get .TRAIN_STATE port = 7 then s1.spareVerified port (errs.getD 0 0)
          else if !due then s1 else if bad.isEmpty then s1.toAlign port else s1.lanesFail port bad).finish s)) ∧
  (∀ (t : Time) (lane : Nat) (bits : List Bool) (s : State),
    (Instr.prbsCheckerLock t lane bits).wf = true →
    exec (Instr.prbsCheckerLock t lane bits) s = .next (
      let s1 := s.at t
      (if s1.get .PRBS_CHECK lane = 0 ∨ s1.get .PRBS_LOCK lane = 1 then s1 else s1.checkLane lane bits).finish s)) ∧
  (∀ (t : Time) (lane : Nat) (bits : List Bool) (s : State),
    (Instr.prbsCheckerLockLost t lane bits).wf = true →
    exec (Instr.prbsCheckerLockLost t lane bits) s = .next (
      let s1 := s.at t
      (if s1.get .PRBS_CHECK lane = 0 ∨ s1.get .PRBS_LOCK lane = 0 then s1 else s1.checkLane lane bits).finish s)) ∧
  (∀ (t : Time) (port : Nat) (s : State),
    (Instr.receiverDetect t port).wf = true →
    exec (Instr.receiverDetect t port) s = .next (
      let s1 := s.at t
      (if s1.isDevice port && s1.get .PRESENCE_SOURCE port = 1 then
            ((s1.updPport port fun h => { h with detected := true }).dpPresence port).perstJudge
              (clusterOf port)
          else s1).finish s)) ∧
  (∀ (t : Time) (stack : Nat) (s : State),
    (Instr.hbmFailure t stack).wf = true →
    exec (Instr.hbmFailure t stack) s = .next (((s.at t).raise { code := 0x3005, kind := 1, idx := 12 + stack, region := 12 + stack }).finish s)) ∧
  (∀ (t : Time) (s : State),
    (Instr.controlFatal t).wf = true →
    exec (Instr.controlFatal t) s = .next (((s.at t).raise { code := 0x3006, kind := 1, idx := 14, region := 14 }).finish s))

/-- A slot channel is seated, powered and good, and each trip takes it down with its own cause code (R280, R281,
R283, R289, R282, R284, R285, R286, R287). What is the model's choice in it and not a rule of the spec: log 5,
51, 82. -/
def Obligations.SlotsArePoweredAndTrip : Prop :=
  (∀ (s : State) (t : Time) (c : Nat),
    c < 64 →
    s.errs = [] →
    s.get .SP_STATE c = 1 →
    (s.slot c).seated = false →
    ∃ s', Machine.exec (.presenceChange t c true true) s = .next s' ∧
      s'.get .SP_STATE c = 2 ∧
      (s'.slot c).seated = true) ∧
  (∀ (s : State) (t : Time) (c : Nat),
    c < 64 →
    s.errs = [] →
    s.get .SP_STATE c = 2 →
    (s.slot c).seated = true →
    (s.slot c).debFrom + ms (s.get .SP_SEAT_DEBOUNCE c) ≤ max s.now t →
    (s.slot c).offUntil ≤ max s.now t →
    ∃ s', Machine.exec (.seatDebounceEnd t c) s = .next s' ∧
      s'.get .SP_STATE c = 3 ∧
      (s'.slot c).gates = true ∧
      Out.pin 278 c true ∈ s'.out) ∧
  (∀ (s : State) (t : Time) (c : Nat),
    c < 64 →
    s.errs = [] →
    s.get .SP_STATE c = 2 →
    (s.slot c).seated = true →
    (s.slot c).debFrom + ms (s.get .SP_SEAT_DEBOUNCE c) ≤ max s.now t →
    (s.slot c).offUntil ≤ max s.now t →
    ∃ s', Machine.exec (.offTimeEnd t c) s = .next s' ∧
      s'.get .SP_STATE c = 3 ∧
      (s'.slot c).gates = true ∧
      Out.pin 278 c true ∈ s'.out) ∧
  (∀ (s : State) (t : Time) (c n iA iB v : Nat),
    c < 64 →
    s.errs = [] →
    s.get .SP_STATE c = 3 →
    (s.slot c).timer = 0 →
    iA < 2 ^ 32 →
    iB < 2 ^ 32 →
    v < 2 ^ 32 →
    s.get .SP_UV_THRESHOLD c ≤ s.adcRail c v →
    (s.adcCurrent c iA) ≤ 16 * (s.adcCurrent c iB) →
    (s.adcCurrent c iB) ≤ 16 * (s.adcCurrent c iA) →
    (s.adcCurrent c iA) ≤ s.get .SP_INRUSH_LIMIT c →
    (s.adcCurrent c iB) ≤ s.get .SP_INRUSH_LIMIT c →
    s.get .SP_PG_THRESHOLD c ≤ s.adcRail c v →
    0 < n →
    (s.slot c).good + n = s.get .SP_PG_DEBOUNCE c →
    ∃ s', Machine.exec (.powerGood t c [(n, iA, iB, v)]) s = .next s' ∧
      s'.get .SP_STATE c = 4) ∧
  (∀ (s : State) (t : Time) (c : Nat),
    c < 64 →
    s.errs = [] →
    s.get .SP_STATE c = 4 →
    (s.slot c).offCmd = none →
    (s.slot c).stateAt + ms (s.get .SP_PERST_DELAY c) ≤ max s.now t →
    ∃ s', Machine.exec (.perstDelayEnd t c) s = .next s' ∧
      (s'.perstH c).powerOk = true) ∧
  (∀ (s : State) (t : Time) (c : Nat),
    c < 64 →
    s.errs = [] →
    (s.slot c).offCmd = some 0 →
    us 100 ≤ max s.now t →
    ∃ s', Machine.exec (.commandedGateOff t c) s = .next s' ∧
      s'.get .SP_STATE c = 0 ∧
      (s'.slot c).offCmd = none) ∧
  (∀ (s : State) (t : Time) (c n iA iB v : Nat),
    c < 64 →
    s.errs = [] →
    s.powered c = true →
    iA < 2 ^ 32 →
    iB < 2 ^ 32 →
    v < 2 ^ 32 →
    s.get .SP_UV_THRESHOLD c ≤ s.adcRail c v →
    (s.adcCurrent c iA) ≤ 16 * (s.adcCurrent c iB) →
    (s.adcCurrent c iB) ≤ 16 * (s.adcCurrent c iA) →
    s.slotLimit c (s.get .SP_STATE c) < max (s.adcCurrent c iA) (s.adcCurrent c iB) →
    0 < n →
    (s.slot c).timer + n = s.get .SP_FAULT_TIME c →
    ∃ s', Machine.exec (.faultTimerExpiry t c [(n, iA, iB, v)]) s = .next s' ∧
      s'.get .SP_STATE c = 5 ∧
      (s'.get .SP_TRIP_CAUSE c = if s.get .SP_STATE c = 3 then 2 else 1) ∧
      s'.get .SP_TRIPS c = (s.get .SP_TRIPS c + 1) % 2 ^ 32 ∧
      (s'.slot c).gates = false ∧
      Out.pin 278 c false ∈ s'.out) ∧
  (∀ (s : State) (t : Time) (c iA iB : Nat),
    c < 64 →
    s.powered c = true →
    s.slotLimit c (s.get .SP_STATE c) * s.get .SP_FAST_TRIP_PCT c < 100 * iA →
    Machine.exec (.fastTrip t c iA iB) s = .next (((s.at t).slotTrip c 3).finish s)) ∧
  (∀ (s : State) (t : Time) (c : Nat),
    c < 64 →
    s.get .SP_STATE c = 3 →
    (s.slot c).stateAt + us (s.get .SP_INRUSH_TIMEOUT c) ≤ max s.now t →
    Machine.exec (.inrushTimeout t c) s = .next (((s.at t).slotTrip c 4).finish s)) ∧
  (∀ (s : State) (t : Time) (c n iA iB v : Nat),
    c < 64 →
    s.errs = [] →
    s.get .SP_STATE c = 4 →
    iA < 2 ^ 32 →
    iB < 2 ^ 32 →
    s.adcRail c v < s.get .SP_UV_THRESHOLD c →
    v < 2 ^ 32 →
    (s.adcCurrent c iA) ≤ 16 * (s.adcCurrent c iB) →
    (s.adcCurrent c iB) ≤ 16 * (s.adcCurrent c iA) →
    max (s.adcCurrent c iA) (s.adcCurrent c iB) ≤ s.get .SP_LIMIT c →
    0 < n →
    (s.slot c).low + n = 50 →
    ∃ s', Machine.exec (.undervoltageTrip t c [(n, iA, iB, v)]) s = .next s' ∧
      s'.get .SP_STATE c = 5 ∧
      s'.get .SP_TRIP_CAUSE c = 5 ∧
      s'.get .SP_TRIPS c = (s.get .SP_TRIPS c + 1) % 2 ^ 32 ∧
      (s'.slot c).gates = false ∧
      Out.pin 278 c false ∈ s'.out) ∧
  (∀ (s : State) (c cause : Nat),
    (s.slotTrip c cause).get .SP_STATE c = 5 ∧
      (s.slotTrip c cause).get .SP_TRIP_CAUSE c = cause ∧
      (s.slotTrip c cause).get .SP_TRIPS c = (s.get .SP_TRIPS c + 1) % 2 ^ 32 ∧
      ((s.slotTrip c cause).slot c).gates = false)

/-- Current samples, the fault timer, the share loop and the feed bits of a slot channel, with their frames (R284,
R279, R283, R290, R293, R294). What is the model's choice in it and not a rule of the spec: log 82. -/
def Obligations.SlotSamplesTimersAndFeeds : Prop :=
  (∀ (s : State) (t : Time) (c : Nat) (l : List (Nat × Nat × Nat × Nat)),
    c < 64 →
    (l.all (fun x => x.2.1 < 2 ^ 32 && x.2.2.1 < 2 ^ 32 && x.2.2.2 < 2 ^ 32) = true) →
    Machine.exec (.powerGood t c l) s = .next ((s.slotSamples t c l).finish s)) ∧
  (∀ (s : State) (t : Time) (c : Nat) (l : List (Nat × Nat × Nat × Nat)),
    c < 64 →
    (l.all (fun x => x.2.1 < 2 ^ 32 && x.2.2.1 < 2 ^ 32 && x.2.2.2 < 2 ^ 32) = true) →
    Machine.exec (.faultTimerStart t c l) s = .next ((s.slotSamples t c l).finish s)) ∧
  (∀ (s : State) (t : Time) (c : Nat) (l : List (Nat × Nat × Nat × Nat)),
    c < 64 →
    (l.all (fun x => x.2.1 < 2 ^ 32 && x.2.2.1 < 2 ^ 32 && x.2.2.2 < 2 ^ 32) = true) →
    Machine.exec (.faultTimerExpiry t c l) s = .next ((s.slotSamples t c l).finish s)) ∧
  (∀ (s : State) (t : Time) (c : Nat) (l : List (Nat × Nat × Nat × Nat)),
    c < 64 →
    (l.all (fun x => x.2.1 < 2 ^ 32 && x.2.2.1 < 2 ^ 32 && x.2.2.2 < 2 ^ 32) = true) →
    Machine.exec (.faultTimerClear t c l) s = .next ((s.slotSamples t c l).finish s)) ∧
  (∀ (s : State) (t : Time) (c : Nat) (l : List (Nat × Nat × Nat × Nat)),
    c < 64 →
    (l.all (fun x => x.2.1 < 2 ^ 32 && x.2.2.1 < 2 ^ 32 && x.2.2.2 < 2 ^ 32) = true) →
    Machine.exec (.undervoltageTrip t c l) s = .next ((s.slotSamples t c l).finish s)) ∧
  (∀ (s : State) (t : Time) (c : Nat) (l : List (Nat × Nat × Nat × Nat)),
    c < 64 →
    (l.all (fun x => x.2.1 < 2 ^ 32 && x.2.2.1 < 2 ^ 32 && x.2.2.2 < 2 ^ 32) = true) →
    Machine.exec (.shareAdjust t c l) s = .next (((s.slotSamples t c l).share c).finish s)) ∧
  (∀ (s : State) (t : Time) (c : Nat) (l : List (Nat × Nat × Nat × Nat)),
    c < 64 →
    (l.all (fun x => x.2.1 < 2 ^ 32 && x.2.2.1 < 2 ^ 32 && x.2.2.2 < 2 ^ 32) = true) →
    Machine.exec (.feedLost t c l) s = .next ((s.slotSamples t c l).finish s)) ∧
  (∀ (s : State) (t : Time) (c : Nat) (l : List (Nat × Nat × Nat × Nat)),
    c < 64 →
    (l.all (fun x => x.2.1 < 2 ^ 32 && x.2.2.1 < 2 ^ 32 && x.2.2.2 < 2 ^ 32) = true) →
    Machine.exec (.feedReturn t c l) s = .next ((s.slotSamples t c l).finish s)) ∧
  (∀ (s : State) (t : Time) (c n iA iB v : Nat),
    c < 64 →
    s.errs = [] →
    s.get .SP_STATE c = 4 →
    iA < 2 ^ 32 →
    iB < 2 ^ 32 →
    v < 2 ^ 32 →
    s.get .SP_UV_THRESHOLD c ≤ s.adcRail c v →
    (s.adcCurrent c iA) ≤ 16 * (s.adcCurrent c iB) →
    (s.adcCurrent c iB) ≤ 16 * (s.adcCurrent c iA) →
    s.get .SP_LIMIT c < max (s.adcCurrent c iA) (s.adcCurrent c iB) →
    0 < n →
    (s.slot c).timer + n < s.get .SP_FAULT_TIME c →
    ∃ s', Machine.exec (.faultTimerStart t c [(n, iA, iB, v)]) s = .next s' ∧
      (s'.slot c).timer = (s.slot c).timer + n ∧
      (s'.slot c).calm = 0 ∧
      s'.get .SP_STATE c = 4 ∧
      s'.get .SP_V_RAIL c = s.adcRail c v ∧
      s'.SameBut s [(.SP_I_A, c), (.SP_I_B, c), (.SP_V_RAIL, c), (.SP_FEED_STATUS, c)] ∧
      s'.SameBuffers s) ∧
  (∀ (s : State) (t : Time) (c n iA iB v : Nat),
    c < 64 →
    s.errs = [] →
    s.get .SP_STATE c = 4 →
    iA < 2 ^ 32 →
    iB < 2 ^ 32 →
    v < 2 ^ 32 →
    s.get .SP_UV_THRESHOLD c ≤ s.adcRail c v →
    (s.adcCurrent c iA) ≤ 16 * (s.adcCurrent c iB) →
    (s.adcCurrent c iB) ≤ 16 * (s.adcCurrent c iA) →
    100 * max (s.adcCurrent c iA) (s.adcCurrent c iB) ≤ s.get .SP_LIMIT c * 95 →
    0 < n →
    (s.slot c).calm + n = 10 →
    0 < (s.slot c).timer →
    ∃ s', Machine.exec (.faultTimerClear t c [(n, iA, iB, v)]) s = .next s' ∧
      (s'.slot c).timer = 0 ∧
      (s'.slot c).calm = 0 ∧
      s'.get .SP_STATE c = 4 ∧
      s'.SameBut s [(.SP_I_A, c), (.SP_I_B, c), (.SP_V_RAIL, c), (.SP_FEED_STATUS, c)] ∧
      s'.SameBuffers s) ∧
  (∀ (s : State) (t : Time) (c iA iB : Nat),
    c < 64 →
    s.errs = [] →
    s.get .SP_SHARE_ENABLE c = 1 →
    s.powered c = true →
    s.get .SP_I_A c = iA →
    s.get .SP_I_B c = iB →
    s.get .SP_SHARE_MIN c < iA + iB →
    s.get .SP_FEED_STATUS c = 0 →
    5 * max iA iB < 100 * (max iA iB - min iA iB) →
    (s.slot c).adjAt + us 100 ≤ max s.now t →
    ∃ s', Machine.exec (.shareAdjust t c []) s = .next s' ∧
      (s'.get .SP_SHARE_DUTY c = if iA < iB then min 1024 (s.get .SP_SHARE_DUTY c + 4) else s.get .SP_SHARE_DUTY c - 4) ∧
      (s'.slot c).adjAt = max s.now t ∧
      s'.SameBut s [(.SP_SHARE_DUTY, c)] ∧
      s'.SameBuffers s) ∧
  (∀ (s : State) (t : Time) (c : Nat) (w : Time),
    c < 64 →
    s.errs = [] →
    s.get .SP_SHARE_ENABLE c = 1 →
    s.powered c = true →
    s.feedBit c 2 = false →
    (s.slot c).wideAt = some w →
    w + ms 100 ≤ max s.now t →
    ∃ s', Machine.exec (.shareOutOfRange t c) s = .next s' ∧
      s'.get .SP_FEED_STATUS c = s.get .SP_FEED_STATUS c ||| 4 ∧
      Out.event 293 [c] ∈ s'.out ∧
      s'.SameBut s [(.SP_FEED_STATUS, c)] ∧
      s'.SameBuffers s) ∧
  (∀ (s : State) (t : Time) (c n iA iB v feed : Nat),
    c < 64 →
    s.errs = [] →
    s.get .SP_STATE c = 4 →
    iA < 2 ^ 32 →
    iB < 2 ^ 32 →
    v < 2 ^ 32 →
    s.get .SP_UV_THRESHOLD c ≤ s.adcRail c v →
    max (s.adcCurrent c iA) (s.adcCurrent c iB) ≤ s.get .SP_LIMIT c →
    s.get .SP_SHARE_MIN c < (s.adcCurrent c iA) + (s.adcCurrent c iB) →
    ((feed = 0 ∧ 16 * (s.adcCurrent c iA) < (s.adcCurrent c iB)) ∨ (feed = 1 ∧ 16 * (s.adcCurrent c iB) < (s.adcCurrent c iA))) →
    s.feedBit c feed = false →
    0 < n →
    (s.slot c).starved.getD 0 feed + n = 1000 →
    ∃ s', Machine.exec (.feedLost t c [(n, iA, iB, v)]) s = .next s' ∧
      s'.feedBit c feed = true ∧
      s'.get .SP_STATE c = 4) ∧
  (∀ (s : State) (t : Time) (c n iA iB v feed : Nat),
    c < 64 →
    s.errs = [] →
    s.get .SP_STATE c = 4 →
    iA < 2 ^ 32 →
    iB < 2 ^ 32 →
    v < 2 ^ 32 →
    s.get .SP_UV_THRESHOLD c ≤ s.adcRail c v →
    (s.adcCurrent c iA) ≤ 16 * (s.adcCurrent c iB) →
    (s.adcCurrent c iB) ≤ 16 * (s.adcCurrent c iA) →
    max (s.adcCurrent c iA) (s.adcCurrent c iB) ≤ s.get .SP_LIMIT c →
    ((feed = 0 ∧ (s.adcCurrent c iB) < 4 * (s.adcCurrent c iA)) ∨ (feed = 1 ∧ (s.adcCurrent c iA) < 4 * (s.adcCurrent c iB))) →
    s.feedBit c feed = true →
    0 < n →
    (s.slot c).fed.getD 0 feed + n = 10000 →
    ∃ s', Machine.exec (.feedReturn t c [(n, iA, iB, v)]) s = .next s' ∧
      s'.feedBit c feed = false ∧
      s'.SameBut s [(.SP_I_A, c), (.SP_I_B, c), (.SP_V_RAIL, c), (.SP_FEED_STATUS, c)] ∧
      s'.SameBuffers s)

/-- A region's throttle begins at 7/8, falls and rises by 1/8 and ends, with the region's state and flags (R425,
R426, R427). What is the model's choice in it and not a rule of the spec: log 48, 84. -/
def Obligations.ThrottlesBeginStepAndEnd : Prop :=
  (∀ (s : State) (t : Time) (r : Nat) (temp : Int),
    r < 14 →
    s.errs = [] →
    s.runs r = true →
    (s.regions.getD {} r).throttles = [] →
    ((s.get .THROTTLE_TEMP * 8 : Nat) : Int) < temp →
    ∃ s', Machine.exec (.throttleTempExceeded t r temp) s = .next s' ∧
      s'.get .THROTTLE_LEVEL r = 7 ∧
      s'.get .REGION_STATE r = 1 ∧
      bit (s'.get .LIMIT_FLAGS r) 0 = true ∧
      s'.get .TEMP r = ofInt 16 temp ∧
      s'.SameBut s ((.TEMP, r) :: (.TEMP_PEAK, r) :: [(.LIMIT_FLAGS, r), (.THROTTLE_LEVEL, r), (.REGION_STATE, r)]) ∧
      s'.SameBuffers s) ∧
  (∀ (s : State) (t : Time) (r : Nat) (b : Nat) (va vb : Int) (sw : Bool),
    r < 14 →
    b < 15 →
    s.errs = [] →
    s.neighbours r b = true →
    s.runs r = true →
    (s.regions.getD {} r).throttles = [] →
    200 < va - vb →
    va - vb ≤ 240 →
    ∃ s', Machine.exec (.regionLimitExceeded t 1 false (if sw then b else r) (if sw then r else b) (if sw then vb else va) (if sw then va else vb)) s = .next s' ∧
      s'.get .THROTTLE_LEVEL r = 7 ∧
      s'.get .REGION_STATE r = 1 ∧
      bit (s'.get .LIMIT_FLAGS r) 1 = true ∧
      s'.get .TEMP r = ofInt 16 va ∧
      s'.get .TEMP b = ofInt 16 vb ∧
      s'.SameBut s ((.TEMP, r) :: (.TEMP_PEAK, r) :: (.TEMP, b) :: (.TEMP_PEAK, b) :: [(.LIMIT_FLAGS, r), (.THROTTLE_LEVEL, r), (.REGION_STATE, r)]) ∧
      s'.SameBuffers s) ∧
  (∀ (s : State) (t : Time) (r : Nat) (b : Nat) (va vb : Int) (sw severe : Bool),
    r < 14 →
    b < 15 →
    s.errs = [] →
    s.neighbours r b = true →
    s.runs r = true →
    (280 < va - vb ∨ (severe = true ∧ 240 < va - vb)) →
    ∃ s', Machine.exec (.regionLimitExceeded t 1 severe (if sw then b else r) (if sw then r else b) (if sw then vb else va) (if sw then va else vb)) s = .next s' ∧
      s'.runs r = false ∧
      1 ∈ (s'.regions.getD {} r).overLimit) ∧
  (∀ (s : State) (t : Time) (r : Nat) (b : Nat) (va vb : Int),
    r < 14 →
    b < 15 →
    s.errs = [] →
    s.neighbours r b = true →
    s.runs r = true →
    (s.regions.getD {} r).throttles = [] →
    3 * (s.get .VDD_SET_MV r * s.get .VDD_SET_MV b : Nat) < 100 * ((vb - s.get .VDD_SET_MV b) * s.get .VDD_SET_MV r - (va - s.get .VDD_SET_MV r) * s.get .VDD_SET_MV b) →
    ∃ s', Machine.exec (.regionLimitExceeded t 2 false r b va vb) s = .next s' ∧
      s'.get .THROTTLE_LEVEL r = 7 ∧
      s'.get .REGION_STATE r = 1 ∧
      bit (s'.get .LIMIT_FLAGS r) 2 = true ∧
      s'.get .VDD_MV r = va.toNat % 65536 ∧
      s'.SameBut s ((.VDD_MV, r) :: (.VDD_MV, b) :: [(.LIMIT_FLAGS, r), (.THROTTLE_LEVEL, r), (.REGION_STATE, r)]) ∧
      s'.SameBuffers s) ∧
  (∀ (s : State) (t : Time) (r : Nat) (va : Int),
    r < 14 →
    s.errs = [] →
    s.runs r = true →
    ∃ s', Machine.exec (.regionLimitExceeded t 2 true r r va va) s = .next s' ∧
      s'.runs r = false ∧
      2 ∈ (s'.regions.getD {} r).overLimit ∧
      s'.get .VDD_MV r = va.toNat % 65536) ∧
  (∀ (s : State) (t : Time) (r : Nat) (b : Nat) (va vb : Int),
    r < 8 →
    b < 15 →
    s.errs = [] →
    s.neighbours r b = true →
    300 < va.natAbs →
    ∃ s', Machine.exec (.regionLimitExceeded t 3 false r b va vb) s = .next s' ∧
      s'.get .REF_STATE r = 1 ∧
      s'.get .REF_OFFSET r = ofInt 16 va ∧
      bit (s'.get .LIMIT_FLAGS r) 3 = true ∧
      Out.event 425 [r] ∈ s'.out) ∧
  (∀ (s : State) (t : Time) (r : Nat) (b : Nat) (va vb : Int),
    r < 8 →
    b < 15 →
    s.errs = [] →
    s.neighbours r b = true →
    s.runs r = true →
    ∃ s', Machine.exec (.regionLimitExceeded t 3 true r b va vb) s = .next s' ∧
      s'.get .REF_STATE r = 2 ∧
      s'.runs r = false ∧
      3 ∈ (s'.regions.getD {} r).overLimit) ∧
  (∀ (s : State) (t : Time) (r : Nat) (cause : Nat) (h : Throttle),
    r < 15 →
    cause < 3 →
    s.errs = [] →
    (s.regions.getD {} r).throttles = [(cause, h)] →
    h.stepAt + ms 1 ≤ max s.now t →
    (cause ≠ 0 ∨ (s.get .THROTTLE_TEMP * 8 : Nat) < toInt 16 (s.get .TEMP r)) →
    ∃ s', Machine.exec (.throttleLevelStep t r cause false) s = .next s' ∧
      s'.get .THROTTLE_LEVEL r = min 8 (max 4 (h.level - 1)) ∧
      s'.SameBut s [(.LIMIT_FLAGS, r), (.THROTTLE_LEVEL, r), (.REGION_STATE, r)] ∧
      s'.SameBuffers s) ∧
  (∀ (s : State) (t : Time) (r : Nat) (cause : Nat) (h : Throttle),
    r < 15 →
    cause < 3 →
    s.errs = [] →
    (s.regions.getD {} r).throttles = [(cause, h)] →
    h.stepAt + ms 10 ≤ max s.now t →
    (cause ≠ 0 ∨ toInt 16 (s.get .TEMP r) + 24 ≤ (s.get .THROTTLE_TEMP * 8 : Nat)) →
    ∃ s', Machine.exec (.throttleLevelStep t r cause true) s = .next s' ∧
      s'.get .THROTTLE_LEVEL r = min 8 (h.level + 1) ∧
      s'.SameBut s [(.LIMIT_FLAGS, r), (.THROTTLE_LEVEL, r), (.REGION_STATE, r)] ∧
      s'.SameBuffers s) ∧
  (∀ (s : State) (t : Time) (r : Nat) (h : Throttle),
    r < 15 →
    s.errs = [] →
    s.get .REGION_STATE r = 1 →
    (s.regions.getD {} r).throttles = [(0, h)] →
    h.level = 7 →
    h.stepAt + ms 10 ≤ max s.now t →
    toInt 16 (s.get .TEMP r) + 24 ≤ (s.get .THROTTLE_TEMP * 8 : Nat) →
    ∃ s', Machine.exec (.throttleLevelStep t r 0 true) s = .next s' ∧
      s'.get .THROTTLE_LEVEL r = 8 ∧
      s'.get .REGION_STATE r = 0 ∧
      bit (s'.get .LIMIT_FLAGS r) 0 = false) ∧
  (∀ (s : State) (t : Time) (r : Nat) (limit : Nat) (h : Throttle),
    r < 15 →
    0 < limit →
    limit < 3 →
    s.errs = [] →
    s.get .REGION_STATE r = 1 →
    (s.regions.getD {} r).throttles = [(limit, h)] →
    (s.regions.getD {} r).beyond.getD limit 0 + ms 100 ≤ max s.now t →
    ∃ s', Machine.exec (.limitThrottleEnd t r limit) s = .next s' ∧
      s'.get .THROTTLE_LEVEL r = 8 ∧
      s'.get .REGION_STATE r = 0 ∧
      bit (s'.get .LIMIT_FLAGS r) limit = false ∧
      s'.SameBut s [(.LIMIT_FLAGS, r), (.THROTTLE_LEVEL, r), (.REGION_STATE, r)] ∧
      s'.SameBuffers s) ∧
  (∀ (s : State) (t : Time) (r : Nat),
    r < 8 →
    s.errs = [] →
    (s.regions.getD {} r).beyond.getD 3 0 + ms 100 ≤ max s.now t →
    ∃ s', Machine.exec (.limitThrottleEnd t r 3) s = .next s' ∧
      s'.get .REF_STATE r = 0 ∧
      bit (s'.get .LIMIT_FLAGS r) 3 = false ∧
      3 ∉ (s'.regions.getD {} r).overLimit ∧
      s'.SameBut s [(.REF_STATE, r), (.LIMIT_FLAGS, r), (.CORE_REF_TILE, 0)] ∧
      s'.SameBuffers s)

/-- The core reference moves on or resets the chip; heat, cold stacks, the power cap and GPIO act (R421, R422, R428,
R429, R443, R448). What is the model's choice in it and not a rule of the spec: log 48, 68, 84. -/
def Obligations.CoreReferenceHeatAndCapMoveOn : Prop :=
  (∀ (s : State) (t : Time) (lost : Bool) (u : Nat),
    s.errs = [] →
    u < 8 →
    u ≠ s.get .CORE_REF_TILE →
    s.get .REF_STATE u = 0 →
    (∀ v < u, v ≠ s.get .CORE_REF_TILE → s.get .REF_STATE v ≠ 0) →
    ∃ s', Machine.exec (.coreReferenceLost t lost) s = .next s' ∧
      s'.get .CORE_REF_TILE = u ∧
      (s'.get .REF_STATE (s.get .CORE_REF_TILE) = (if lost then 2 else 1)) ∧
      s'.refLostAt = none ∧
      s'.SameBut s [(.REF_STATE, s.get .CORE_REF_TILE), (.CORE_REF_TILE, 0)] ∧
      s'.SameBuffers s) ∧
  (∀ (s : State) (t : Time) (lost : Bool),
    s.errs = [] →
    (∀ v ∈ List.range 8, v ≠ s.get .CORE_REF_TILE → s.get .REF_STATE v ≠ 0) →
    ∃ s', Machine.exec (.coreReferenceLost t lost) s = .next s' ∧
      s'.refLostAt = some (s.refLostAt.getD (max s.now t)) ∧
      (s'.get .REF_STATE (s.get .CORE_REF_TILE) = (if lost then 2 else 1)) ∧
      s'.SameBut s [(.REF_STATE, s.get .CORE_REF_TILE)] ∧
      s'.SameBuffers s) ∧
  (∀ (s : State) (t : Time),
    s.errs = [] →
    ∃ s', Machine.exec (.corePllRelock t) s = .next s' ∧
      s'.out = s.out ++ [.event 422 [s.get .CORE_REF_TILE]] ∧
      s'.SameBut s [] ∧
      s'.SameBuffers s) ∧
  (∀ (s : State) (t a : Time),
    s.refLostAt = some a →
    a + ms 10 ≤ max s.now t →
    Machine.exec (.coreReferenceHoldExpiry t) s = .next (((s.at t).raise { code := 0x3006, kind := 1, idx := 14, region := 14 }).finish s)) ∧
  (∀ (s : State) (t : Time) (r : Nat),
    r < 14 →
    toInt 16 (s.get .TEMP r) < 920 →
    Machine.exec (.overtemperatureIsolate t r) s = .next ((((s.at t).setTemp r 920).raise { code := 0x3004, kind := 1, idx := r, region := r }).finish s)) ∧
  (∀ (s : State) (t : Time),
    toInt 16 (s.get .TEMP 14) < 920 →
    Machine.exec (.overtemperatureIsolate t 14) s = .next ((((s.at t).setTemp 14 920).raise { code := 0x3006, kind := 1, idx := 14, region := 14 }).finish s)) ∧
  (∀ (s : State) (t : Time) (k : Nat),
    k < 2 →
    s.errs = [] →
    k ∈ s.hbmCold →
    ∃ s', Machine.exec (.hbmColdStartReady t k) s = .next s' ∧
      s'.hbmCold = s.hbmCold.filter (· ≠ k) ∧
      s'.SameBut s [] ∧
      s'.SameBuffers s) ∧
  (∀ (s : State) (t : Time) (avg : Nat),
    s.errs = [] →
    s.get .POWER_CAP < avg →
    s.get .CAP_STEP < 10 →
    ∃ s', Machine.exec (.powerCapCheck t avg) s = .next s' ∧
      s'.get .CAP_STEP = s.get .CAP_STEP + 1 ∧
      s'.get .POWER_EST = avg % 2 ^ 32 ∧
      s'.get .CAP_STEPS_TAKEN = (s.get .CAP_STEPS_TAKEN + 1) % 2 ^ 32 ∧
      (s'.SameBut s ([(.POWER_EST, 0), (.CAP_STEP, 0), (.CAP_STEPS_TAKEN, 0)] ++
        [8, 9, 10, 11].flatMap fun r => [(.LIMIT_FLAGS, r), (.THROTTLE_LEVEL, r), (.REGION_STATE, r)])) ∧
      s'.SameBuffers s) ∧
  (∀ (s : State) (t : Time) (avg : Nat),
    s.errs = [] →
    s.get .POWER_CAP < avg →
    s.get .CAP_STEP = 10 →
    ∃ s', Machine.exec (.powerCapCheck t avg) s = .next s' ∧
      s'.get .CAP_STEP = 11 ∧
      s'.get .POWER_EST = avg % 2 ^ 32 ∧
      s'.get .CAP_STEPS_TAKEN = (s.get .CAP_STEPS_TAKEN + 1) % 2 ^ 32) ∧
  (∀ (s : State) (t : Time) (avg : Nat) (a : Time),
    s.errs = [] →
    avg + 10 < s.get .POWER_CAP →
    0 < s.get .CAP_STEP →
    s.capSince = some a →
    a + ms 100 ≤ max s.now t →
    ∃ s', Machine.exec (.powerCapCheck t avg) s = .next s' ∧
      s'.get .CAP_STEP = s.get .CAP_STEP - 1 ∧
      s'.get .POWER_EST = avg % 2 ^ 32 ∧
      s'.get .CAP_UNMET = 0 ∧
      s'.capSince = some (max s.now t)) ∧
  (∀ (s : State) (t : Time) (avg : Nat),
    s.errs = [] →
    s.get .POWER_CAP < avg →
    s.get .CAP_STEP = 11 →
    ∃ s', Machine.exec (.powerCapCheck t avg) s = .next s' ∧
      s'.get .CAP_UNMET = 1 ∧
      s'.out = s.out ++ [.event 429 [avg]] ∧
      s'.SameBut s [(.POWER_EST, 0), (.CAP_UNMET, 0)] ∧
      s'.SameBuffers s) ∧
  (∀ (s : State) (t : Time) (levels i : Nat),
    s.errs = [] →
    i < 16 →
    bit (s.get .GPIO_EVENT_MASK) i = true →
    bit (levels &&& s.gpioInputs) i ≠ bit (s.get .GPIO_IN) i →
    ∃ s', Machine.exec (.gpioChange t levels) s = .next s' ∧
      s'.get .GPIO_IN = levels &&& s.gpioInputs ∧
      Out.event 448 [i, b2n (bit levels i && bit s.gpioInputs i)] ∈ s'.out ∧
      s'.SameBut s [(.GPIO_IN, 0)] ∧
      s'.SameBuffers s)

/-- Links of host and device ports come up, time out, drop and train again, with their states (R253, R262, R264,
R265, R396, R454). What is the model's choice in it and not a rule of the spec: log 17. -/
def Obligations.HostAndDeviceLinksComeUpAndGo : Prop :=
  (∀ (s : State) (t : Time) (port : Nat) (w r : Nat) (f : Bool),
    port < 512 →
    s.errs = [] →
    (s.isDevice port = true ∨ s.isHost port = true) →
    s.get .TRAIN_STATE port = 8 →
    (s.pport port).up = false →
    0 < s.soundWidth port (s.get .PORT_WIDTH port) w →
    (f = true ∨ (s.get .NONFLIT_ALLOW port = 1 ∧ min r (s.get .MAX_RATE port) ≤ 5)) →
    ∃ s', Machine.exec (.dataLinkUp t port w r f) s = .next s' ∧
      s'.get .LINK_WIDTH port = s.soundWidth port (s.get .PORT_WIDTH port) w ∧
      s'.get .LINK_RATE port = min r (s.get .MAX_RATE port) ∧
      (s'.get .DP_STATE port = (if s.isDevice port = true ∧ s.get .DP_STATE port = 2 then 3 else s.get .DP_STATE port)) ∧
      (s'.pport port).up = true ∧
      (s'.pport port).flit = f ∧
      s'.SameBuffers s) ∧
  (∀ (s : State) (t : Time) (port : Nat) (w r : Nat),
    port < 512 →
    s.errs = [] →
    (s.isDevice port = true ∨ s.isHost port = true) →
    s.get .TRAIN_STATE port = 8 →
    (s.pport port).up = false →
    0 < s.soundWidth port (s.get .PORT_WIDTH port) w →
    (s.get .NONFLIT_ALLOW port ≠ 1 ∨ 5 < min r (s.get .MAX_RATE port)) →
    ∃ s', Machine.exec (.dataLinkUp t port w r false) s = .next s' ∧
      s'.get .TRAIN_STATE port = 0 ∧
      s'.out = s.out ++ [.event 253 [port]] ∧
      s'.SameBut s [(.TRAIN_STATE, port)] ∧
      s'.SameBuffers s) ∧
  (∀ (s : State) (t : Time) (port : Nat) (w r : Nat) (f : Bool),
    port < 512 →
    s.errs = [] →
    (s.isDevice port = true ∨ s.isHost port = true) →
    s.get .TRAIN_STATE port = 8 →
    (s.pport port).up = true →
    (s.pport port).flit = true →
    s.get .L0P_ENABLE port = 1 →
    0 < s.soundWidth port (s.get .PORT_WIDTH port) w →
    ∃ s', Machine.exec (.dataLinkUp t port w r f) s = .next s' ∧
      s'.get .LINK_WIDTH port = s.soundWidth port (s.get .PORT_WIDTH port) w ∧
      s'.SameBut s [(.LINK_WIDTH, port)] ∧
      s'.SameBuffers s) ∧
  (∀ (s : State) (t : Time) (port : Nat),
    port < 512 →
    s.errs = [] →
    s.isDevice port = true →
    s.get .DP_STATE port = 2 →
    (s.pport port).trainAt + ms (s.get .TRAIN_TIMEOUT port) ≤ max s.now t →
    ∃ s', Machine.exec (.trainTimeout t port) s = .next s' ∧
      (s'.perstH (clusterOf port)).asserted = true ∧
      (s'.perstH (clusterOf port)).pulse = some (max s.now t, us (s.get .PERST_PULSE port)) ∧
      Out.event 262 [port] ∈ s'.out) ∧
  (∀ (s : State) (t : Time) (port : Nat),
    port < 512 →
    s.isDevice port = true →
    (s.pport port).up = true →
    (s.get .DP_STATE port = 3 ∨ s.get .DP_STATE port = 4) →
    (s.perstH (clusterOf port)).asserted = false →
    Machine.exec (.surpriseDown t port) s = .next ((((((s.at t).linkLost port).bump .SURPRISE_DOWNS port).raise
      { code := 0x2003, kind := 2, idx := port }).startTraining port).finish s)) ∧
  (∀ (s : State) (t : Time) (port : Nat),
    port < 512 →
    s.isDevice port = true →
    (s.pport port).up = true →
    s.get .DP_STATE port = 5 →
    (s.perstH (clusterOf port)).asserted = false →
    Machine.exec (.surpriseDown t port) s = .next (((((s.at t).linkLost port).raise { code := 0x2003, kind := 2, idx := port }).startTraining port).finish s)) ∧
  (∀ (s : State) (t : Time) (port : Nat),
    port < 512 →
    s.isDevice port = true →
    (s.pport port).up = true →
    (s.get .DP_STATE port = 3 ∨ s.get .DP_STATE port = 4) →
    (s.perstH (clusterOf port)).asserted = true →
    Machine.exec (.surpriseDown t port) s = .next (((((s.at t).linkLost port).bump .SURPRISE_DOWNS port).raise { code := 0x2003, kind := 2, idx := port }).finish s)) ∧
  (∀ (s : State) (t : Time) (port : Nat),
    port < 512 →
    s.errs = [] →
    s.node < 32 →
    s.isHost port = true →
    (s.pport port).up = true →
    s.partOfPort port = none →
    ∃ s', Machine.exec (.hostLinkDown t s.node port) s = .next s' ∧
      (s'.pport port).up = false ∧
      s'.get .LINK_WIDTH port = 0 ∧
      s'.get .IDE_STREAMS_ACTIVE port = 0 ∧
      (s'.get .TRAIN_STATE port = (if s.hostHeld port then 0 else 8)) ∧
      s'.cells = s.cells ∧
      s'.queues = s.queues ∧
      s'.tags = s.tags) ∧
  (∀ (s : State) (t : Time) (port : Nat) (p : Nat),
    port < 512 →
    s.errs = [] →
    s.node < 32 →
    s.isHost port = true →
    (s.pport port).up = true →
    s.partOfPort port = some p →
    s.get .PARTITION_STATE p = 2 →
    ∃ s', Machine.exec (.hostLinkDown t s.node port) s = .next s' ∧
      (s'.pport port).up = false ∧
      s'.get .LINK_WIDTH port = 0 ∧
      s'.get .IDE_STREAMS_ACTIVE port = 0 ∧
      s'.get .PARTITION_STATE p = 1 ∧
      (s'.get .TRAIN_STATE port = (if s.hostHeld port || (s.parts.getD {} p).heldDown then 0 else 8)) ∧
      (∀ x ∈ s'.queues, ∀ k ∈ x.2.pkts, (k.part ≠ p ∨ k.internal = true) ∧ k.dest ≠ hostGfid p)) ∧
  (∀ (s : State) (t : Time) (port : Nat) (node p : Nat),
    port < 512 →
    node < 32 →
    node ≠ s.node →
    (((s.rowsOf .HOST_PORT).keys.find? fun p => s.get .HOST_PORT p = port && s.get .HOST_NODE p = node) = some p) →
    Machine.exec (.hostLinkDown t node port) s = .next (((s.at t).partRemote p).finish s)) ∧
  (∀ (s : State) (t : Time) (port : Nat),
    port < 512 →
    s.errs = [] →
    s.node < 32 →
    s.isHost port = true →
    (s.pport port).up = true →
    s.partOfPort port = none →
    ∃ s', Machine.exec (.hotResetReceive t s.node port) s = .next s' ∧
      (s'.pport port).up = false ∧
      (s'.get .TRAIN_STATE port = (if s.hostHeld port then 0 else 8)) ∧
      s'.out = s.out ++ [.event 396 [port]] ∧
      s'.cells = s.cells ∧
      s'.queues = s.queues ∧
      s'.tags = s.tags) ∧
  (∀ (s : State) (t : Time) (port : Nat) (p : Nat),
    port < 512 →
    s.errs = [] →
    s.node < 32 →
    s.isHost port = true →
    (s.pport port).up = true →
    s.partOfPort port = some p →
    s.get .PARTITION_STATE p = 2 →
    ∃ s', Machine.exec (.hotResetReceive t s.node port) s = .next s' ∧
      (s'.pport port).up = false ∧
      s'.get .PARTITION_STATE p = 1 ∧
      (s'.get .TRAIN_STATE port = (if s.hostHeld port || (s.parts.getD {} p).heldDown then 0 else 8)) ∧
      Out.event 396 [port] ∈ s'.out ∧
      (∀ x ∈ s'.queues, ∀ k ∈ x.2.pkts, (k.part ≠ p ∨ k.internal = true) ∧ k.dest ≠ hostGfid p)) ∧
  (∀ (s : State) (t : Time) (port : Nat) (node p : Nat),
    port < 512 →
    node < 32 →
    node ≠ s.node →
    (((s.rowsOf .HOST_PORT).keys.find? fun p => s.get .HOST_PORT p = port && s.get .HOST_NODE p = node) = some p) →
    Machine.exec (.hotResetReceive t node port) s = .next (((s.at t).partRemote p).finish s)) ∧
  (∀ (s : State) (t : Time) (c port : Nat),
    c < 64 →
    s.errs = [] →
    s.perstHosts c = [port] →
    s.partOfPort port = none →
    ∃ s', Machine.exec (.hostPerstAssert t c) s = .next s' ∧
      (s'.perstH c).hostLow = true ∧
      (s'.pport port).up = false ∧
      s'.get .TRAIN_STATE port = 0 ∧
      s'.queues = s.queues) ∧
  (∀ (s : State) (t : Time) (c port : Nat),
    c < 64 →
    s.errs = [] →
    s.perstHosts c = [port] →
    s.get .TRAIN_STATE port = 0 →
    s.quiesced port = false →
    ∃ s', Machine.exec (.hostPerstDeassert t c) s = .next s' ∧
      (s'.perstH c).hostLow = false ∧
      (s'.pport port).free = true ∧
      (s'.pport port).trainAt = max s.now t ∧
      s'.get .TRAIN_STATE port = 8 ∧
      s'.SameBuffers s)

/-- L1 entries and refusals, and the IDE streams of host and device ports, with their frames (R255, R259, R260).
What is the model's choice in it and not a rule of the spec: log 11, 17. -/
def Obligations.LinkPowerStatesAndIdeKeys : Prop :=
  (∀ (s : State) (t : Time) (port : Nat),
    port < 512 →
    s.errs = [] →
    s.isHost port = true →
    (s.pport port).up = true →
    s.hostL1 port = true →
    s.get .ASPM_L1_ALLOW port = 1 →
    (∀ q ∈ s.queues, s.portFor q.1 q.2 = port → q.2.isEmpty = true) →
    (s.pport port).busyAt + us (s.get .L1_IDLE_TIME port) ≤ max s.now t →
    s.reserved port = false →
    ∃ s', Machine.exec (.aspmL1Entry t port) s = .next s' ∧
      (s'.pport port).l1 = true ∧
      s'.out = s.out ++ [.link 255 [port, 1]] ∧
      s'.SameBut s [] ∧
      s'.SameBuffers s) ∧
  (∀ (s : State) (t : Time) (port : Nat),
    port < 512 →
    s.errs = [] →
    s.isDevice port = true →
    (s.pport port).up = true →
    s.get .ASPM_L1_ALLOW port = 1 →
    s.reserved port = false →
    ∃ s', Machine.exec (.deviceL1Request t port) s = .next s' ∧
      (s'.pport port).l1 = true ∧
      s'.out = s.out ++ [.link 255 [port, 1]] ∧
      s'.SameBut s [] ∧
      s'.SameBuffers s) ∧
  (∀ (s : State) (t : Time) (port : Nat),
    port < 512 →
    s.errs = [] →
    s.isDevice port = true →
    (s.pport port).up = true →
    s.get .ASPM_L1_ALLOW port = 0 →
    ∃ s', Machine.exec (.deviceL1Request t port) s = .next s' ∧
      (s'.pport port).l1 = (s.pport port).l1 ∧
      s'.out = s.out ++ [.link 255 [port, 0]] ∧
      s'.SameBut s [] ∧
      s'.SameBuffers s) ∧
  (∀ (s : State) (t : Time) (port : Nat) (k : Nat),
    port < 512 →
    s.errs = [] →
    (s.isHost port = true ∨ (s.isDevice port = true ∧ k = 0)) →
    k < 5 →
    s.get .IDE_MODE port ≠ 0 →
    bit (s.get .IDE_STREAMS_ACTIVE port) k = false →
    ∃ s', Machine.exec (.ideKmMessage t port k true) s = .next s' ∧
      s'.get .IDE_STREAMS_ACTIVE port = s.get .IDE_STREAMS_ACTIVE port ||| 2 ^ k ∧
      (s'.pport port).rekeyAt = max s.now t ∧
      s'.SameBut s [(.IDE_STREAMS_ACTIVE, port)] ∧
      s'.SameBuffers s) ∧
  (∀ (s : State) (t : Time) (port : Nat) (k : Nat),
    port < 512 →
    s.errs = [] →
    (s.isHost port = true ∨ (s.isDevice port = true ∧ k = 0)) →
    k < 5 →
    s.get .IDE_MODE port ≠ 0 →
    bit (s.get .IDE_STREAMS_ACTIVE port) k = true →
    ∃ s', Machine.exec (.ideKmMessage t port k true) s = .next s' ∧
      bit (s'.get .IDE_STREAMS_ACTIVE port) k = true ∧
      s'.get .IDE_KEY_REFRESHES port = (s.get .IDE_KEY_REFRESHES port + 1) % 2 ^ 32 ∧
      (s'.pport port).rekeyAt = max s.now t ∧
      s'.SameBut s [(.IDE_STREAMS_ACTIVE, port), (.IDE_KEY_REFRESHES, port)] ∧
      s'.SameBuffers s) ∧
  (∀ (s : State) (t : Time) (port : Nat) (k : Nat),
    port < 512 →
    s.errs = [] →
    (s.isHost port = true ∨ (s.isDevice port = true ∧ k = 0)) →
    k < 5 →
    s.get .IDE_MODE port ≠ 0 →
    ∃ s', Machine.exec (.ideKmMessage t port k false) s = .next s' ∧
      bit (s'.get .IDE_STREAMS_ACTIVE port) k = false ∧
      s'.SameBut s [(.IDE_STREAMS_ACTIVE, port)] ∧
      s'.SameBuffers s) ∧
  (∀ (s : State) (t : Time) (port : Nat),
    port < 512 →
    s.errs = [] →
    s.isDevice port = true →
    bit (s.get .IDE_STREAMS_ACTIVE port) 0 = true →
    s.get .IDE_REKEY_INTERVAL port ≠ 0 →
    (s.pport port).rekeyAt + ms (1000 * s.get .IDE_REKEY_INTERVAL port) ≤ max s.now t →
    ∃ s', Machine.exec (.ideRekey t port) s = .next s' ∧
      s'.get .IDE_KEY_REFRESHES port = (s.get .IDE_KEY_REFRESHES port + 1) % 2 ^ 32 ∧
      (s'.pport port).rekeyAt = max s.now t ∧
      s'.out = s.out ++ [.link 259 [port]] ∧
      s'.SameBut s [(.IDE_KEY_REFRESHES, port)] ∧
      s'.SameBuffers s)

/-- PERST_OUT_N is pulsed, released after its delays, and receiver detection makes presence (R261, R266, R267). -/
def Obligations.PerstPulsesDelaysAndDetection : Prop :=
  (∀ (s : State) (t : Time) (req : Req) (port : Nat),
    s.errs = [] →
    s.hears req →
    s.mayInvoke req .FUNDAMENTAL_RESET (some port) = 0 →
    s.isDevice port = true →
    s.clusterFree (clusterOf port) = true →
    ∃ s', Machine.exec (.fundamentalReset t req port) s = .next s' ∧
      s'.answered req 0 [] ∧
      (s'.perstH (clusterOf port)).asserted = true ∧
      (s'.perstH (clusterOf port)).pulse = some (max s.now t, us (s.get .PERST_PULSE port))) ∧
  (∀ (s : State) (t : Time) (req : Req) (port : Nat),
    s.errs = [] →
    s.hears req →
    s.mayInvoke req .FUNDAMENTAL_RESET (some port) = 0 →
    (s.isDevice port = false ∨ s.clusterFree (clusterOf port) = false) →
    ∃ s', Machine.exec (.fundamentalReset t req port) s = .next s' ∧
      s'.answered req 0x0401 [] ∧
      s'.perst = s.perst ∧
      s'.SameBut s (req.traces ++ [(.REQUESTS_REFUSED, 0)]) ∧
      s'.SameBuffers s) ∧
  (∀ (s : State) (t : Time) (c b d : Nat),
    c < 64 →
    s.errs = [] →
    (s.perstH c).pulse = some (b, d) →
    b + d ≤ max s.now t →
    (s.perstH c).asserted = true →
    ∃ s', Machine.exec (.perstPulseEnd t c) s = .next s' ∧
      (s'.perstH c).pulse = none ∧
      s'.cells = s.cells ∧
      s'.queues = s.queues ∧
      s'.tags = s.tags) ∧
  (∀ (s : State) (t : Time) (c a port : Nat),
    c < 64 →
    s.errs = [] →
    s.perstCond c = false →
    s.slotSource c = false →
    (s.perstH c).clearAt = some a →
    a + ms 100 ≤ max s.now t →
    (s.perstH c).asserted = true →
    port ∈ s.slotPorts c →
    s.get .DP_STATE port = 1 →
    ∃ s', Machine.exec (.perstOutDeassertDelayEnd t c) s = .next s' ∧
      (s'.perstH c).asserted = false ∧
      Out.pin 266 c true ∈ s'.out ∧
      s'.get .DP_STATE port = 2 ∧
      s'.get .TRAIN_STATE port = 8 ∧
      (s'.pport port).trainAt = max s.now t ∧
      s'.SameBuffers s) ∧
  (∀ (s : State) (t : Time) (port : Nat),
    port < 512 →
    s.errs = [] →
    s.isDevice port = true →
    s.get .PRESENCE_SOURCE port = 1 →
    s.get .DP_STATE port = 0 →
    s.perstCond (clusterOf port) = true →
    (s.perstH (clusterOf port)).asserted = true →
    ∃ s', Machine.exec (.receiverDetect t port) s = .next s' ∧
      (s'.pport port).detected = true ∧
      s'.get .DP_STATE port = 1 ∧
      s'.SameBut s [(.DP_STATE, port)] ∧
      s'.SameBuffers s)

/-- The management function resets, its BAR0 is read and written, and DPC triggers and clears (R269, R272, R274,
R275, R358, R360). What is the model's choice in it and not a rule of the spec: log 11. -/
def Obligations.ManagementFunctionAndDpc : Prop :=
  (∀ (s : State) (t : Time) (p : Nat),
    p < 4096 →
    s.errs = [] →
    ∃ s', Machine.exec (.mfFunctionLevelReset t p) s = .next s' ∧
      s'.get .MF_STATE p = 1 ∧
      s'.get .MF_FLR_COUNT p = (s.get .MF_FLR_COUNT p + 1) % 2 ^ 32 ∧
      s'.mf p = {}) ∧
  (∀ (s : State) (t : Time) (p : Nat),
    p < 4096 →
    s.errs = [] →
    s.get .MF_STATE p = 1 →
    s.odtakuUp = true →
    ∃ s', Machine.exec (.mfResetComplete t p) s = .next s' ∧
      s'.get .MF_STATE p = 0 ∧
      s'.get .MB_IN_STATE p = 0 ∧
      s'.get .MB_OUT_STATE p = 0 ∧
      (s'.mbox p).inB = [] ∧
      (s'.mbox p).outB = [] ∧
      s'.SameBut s [(.MF_STATE, p), (.MB_IN_STATE, p), (.MB_OUT_STATE, p)] ∧
      s'.SameBuffers s) ∧
  (∀ (s : State) (t : Time) (p : Nat),
    p < 4096 →
    s.errs = [] →
    s.get .MF_STATE p = 1 →
    s.odtakuUp = false →
    ∃ s', Machine.exec (.mfResetComplete t p) s = .next s' ∧
      s'.get .MF_STATE p = 0 ∧
      s'.SameBut s [(.MF_STATE, p)] ∧
      s'.SameBuffers s) ∧
  (∀ (s : State) (t : Time) (p : Nat) (off rid tag : Nat) (bytes : List Nat),
    p < 4096 →
    s.errs = [] →
    s.get .MF_STATE p ≠ 1 →
    s.mfUncovered p (off % 65536) = false →
    s.get .MB_IN_STATE p ≠ 2 →
    off ≤ 255 →
    255 < off + bytes.length →
    ∃ s', Machine.exec (.mgmtFunctionMemoryAccess t p true off bytes rid tag) s = .next s' ∧
      s'.get .MB_IN_STATE p = 2 ∧
      (s'.mbox p).inFull = true ∧
      s'.SameBut s [(.MB_IN_STATE, p)] ∧
      s'.SameBuffers s) ∧
  (∀ (s : State) (t : Time) (p : Nat) (write : Bool) (off rid tag : Nat) (bytes : List Nat),
    p < 4096 →
    (s.get .MF_STATE p = 1 ∨ (s.at t).mfUncovered p (off % 65536) = true) →
    Machine.exec (.mgmtFunctionMemoryAccess t p write off bytes rid tag) s = .next (((s.at t).mfRefused p write rid tag).finish s)) ∧
  (∀ (s : State) (t : Time) (p : Nat) (off rid tag : Nat) (bytes : List Nat),
    p < 4096 →
    s.errs = [] →
    s.get .MF_STATE p ≠ 1 →
    s.mfUncovered p (off % 65536) = false →
    ∃ s', Machine.exec (.mgmtFunctionMemoryAccess t p false off bytes rid tag) s = .next s' ∧
      (s'.out = s.out ++ [.event 269 (p :: off :: (List.range (ceilDiv bytes.length 4)).map fun i => (s.at t).mfRead p (off / 4 * 4 + 4 * i))]) ∧
      s'.SameBut s [] ∧
      s'.SameBuffers s) ∧
  (∀ (s : State) (t : Time) (p : Nat) (v : Nat),
    p < 4096 →
    s.errs = [] →
    s.get .MF_STATE p ≠ 1 →
    ∃ s', Machine.exec (.mfRegisterWrite t p 0x210 v) s = .next s' ∧
      (s'.mbox p).dbMask = v % 2 ^ 32 ∧
      (s'.mbox p).dbFrom = (s.mbox p).dbFrom ∧
      s'.SameBut s [] ∧
      s'.SameBuffers s) ∧
  (∀ (s : State) (t : Time) (p : Nat) (k : Nat),
    p < 4096 →
    k < 256 →
    s.errs = [] →
    s.presents p = true →
    k < s.get .VDSB_COUNT p →
    s.graftsAt p k = [] →
    ∃ s', Machine.exec (.hostDpcSoftwareTrigger t p k) s = .next s' ∧
      (s'.bridge p k).dpcTrig = true ∧
      (s'.bridge p k).dpcReason = 3 ∧
      (s'.bridge p k).dllla = false) ∧
  (∀ (s : State) (t : Time) (p : Nat) (off v : Nat),
    p < 4096 →
    s.get .MF_STATE p = 1 →
    Machine.exec (.mfRegisterWrite t p off v) s = .next (((s.at t).mfRefused p true 0 0).finish s)) ∧
  (∀ (s : State) (t : Time) (p : Nat) (k : Nat),
    p < 4096 →
    k < 256 →
    s.errs = [] →
    (s.bridge p k).dpcTrig = true →
    ∃ s', Machine.exec (.hostDpcStatusClear t p k) s = .next s' ∧
      (s'.bridge p k).dpcTrig = false ∧
      (s'.bridge p k).dpcReason = 0 ∧
      s'.SameBut s [] ∧
      s'.SameBuffers s)

/-- A fabric port's training goes from stage to stage, fails with its cause and begins again (R227, R228, R229,
R251). What is the model's choice in it and not a rule of the spec: log 22. -/
def Obligations.TrainingStagesOfFabricPorts : Prop :=
  (∀ (s : State) (t : Time) (port : Nat) (a b : Bool),
    port < 512 →
    s.errs = [] →
    s.isFabric port = true →
    s.get .TRAIN_STATE port = 1 →
    (a || b) = true →
    ∃ s', Machine.exec (.detectRetry t port a b) s = .next s' ∧
      s'.get .TRAIN_STATE port = 2 ∧
      (s'.train port).stageAt = max s.now t ∧
      s'.SameBut s [(.TRAIN_STATE, port)] ∧
      s'.SameBuffers s) ∧
  (∀ (s : State) (t : Time) (lane port : Nat) (b : TBlock),
    lane < 512 →
    blockFits b = true →
    s.errs = [] →
    s.portOfLane lane = some port →
    s.isFabric port = true →
    s.get .TRAIN_STATE port = 2 →
    s.laneFailed port (s.logLane port lane) = false →
    b.sync = 0x2A3C5E69 →
    ∃ s', Machine.exec (.trainingBlockReceive t lane b) s = .next s' ∧
      s'.get .POLARITY_INVERTED lane = 1 ∧
      (s'.laneH lane).syncRun = 0 ∧
      s'.SameBuffers s) ∧
  (∀ (s : State) (t : Time) (lane port : Nat) (b : TBlock),
    lane < 512 →
    blockFits b = true →
    s.errs = [] →
    s.portOfLane lane = some port →
    s.isFabric port = true →
    s.get .TRAIN_STATE port = 2 →
    s.laneFailed port (s.logLane port lane) = false →
    blockOk b = true →
    0 < b.stage →
    b.stage ≤ 5 →
    b.sync = 0xD5C3A196 →
    ∃ s', Machine.exec (.trainingBlockReceive t lane b) s = .next s' ∧
      (s'.laneH lane).syncRun = min 64 ((s.laneH lane).syncRun + 1) ∧
      (s'.laneH lane).index = b.laneIndex ∧
      (s'.laneH lane).peerWidth = 2 ^ b.width ∧
      (s'.get .TRAIN_STATE port = 2 ∨ s'.get .TRAIN_STATE port = 3) ∧
      s'.SameBut s [(.TRAIN_STATE, port)] ∧
      s'.SameBuffers s) ∧
  (∀ (s : State) (t : Time) (port : Nat) (errs : List Nat),
    port < 512 →
    s.errs = [] →
    s.isFabric port = true →
    s.get .TRAIN_STATE port = 5 →
    s.spareOf port = none →
    (s.train port).stageAt + ms 1 ≤ max s.now t →
    (∀ e ∈ errs, e ≤ 100) →
    ∃ s', Machine.exec (.verifyStageEnd t port errs) s = .next s' ∧
      s'.get .TRAIN_STATE port = 6 ∧
      (s'.train port).stageAt = max s.now t ∧
      s'.SameBut s [(.TRAIN_STATE, port)] ∧
      s'.SameBuffers s) ∧
  (∀ (s : State) (t : Time) (port : Nat) (errs : List Nat) (i : Nat),
    port < 512 →
    s.errs = [] →
    s.isFabric port = true →
    s.get .TRAIN_STATE port = 5 →
    s.spareOf port = none →
    (s.train port).stageAt + ms 1 ≤ max s.now t →
    i < (s.trainLanes port).length →
    100 < errs.getD i 0 →
    ∃ s', Machine.exec (.verifyStageEnd t port errs) s = .next s' ∧
      s'.get .TRAIN_STATE port = 0 ∧
      s'.get .TRAIN_FAIL_CAUSE port = 5 ∧
      s'.get .LINK_WIDTH port = 0 ∧
      (s'.train port).failedAt = some (max s.now t) ∧
      s'.SameBuffers s) ∧
  (∀ (s : State) (t : Time) (port : Nat) (st : Nat),
    port < 512 →
    s.errs = [] →
    s.isFabric port = true →
    s.get .TRAIN_STATE port = st →
    (st = 2 ∨ st = 3 ∨ st = 6) →
    s.spareOf port = none →
    (s.train port).stageAt + stageLimit st ≤ max s.now t →
    ∃ s', Machine.exec (.trainStageTimeout t port) s = .next s' ∧
      s'.get .TRAIN_STATE port = 0 ∧
      s'.get .TRAIN_FAIL_CAUSE port = st ∧
      s'.get .LINK_WIDTH port = 0 ∧
      (s'.train port).failedAt = some (max s.now t) ∧
      s'.SameBuffers s) ∧
  (∀ (s : State) (t : Time) (port : Nat) (a : Time),
    port < 512 →
    s.errs = [] →
    s.isFabric port = true →
    s.get .TRAIN_STATE port = 0 →
    (s.train port).failedAt = some a →
    a + us (s.get .RETRAIN_INTERVAL port) ≤ max s.now t →
    ∃ s', Machine.exec (.retrainIntervalExpiry t port) s = .next s' ∧
      s'.get .TRAIN_STATE port = 1 ∧
      s'.get .LINK_WIDTH port = 0 ∧
      s'.get .LINK_RATE port = 0 ∧
      (s'.train port).failedAt = none ∧
      s'.SameBuffers s)

/-- Margin samples, PRBS checkers and lane counters; spares serve, and ports retrain (R237, R238, R240, R236, R244,
R246, R247, R251). What is the model's choice in it and not a rule of the spec: log 22, 39. -/
def Obligations.LanesAreMeasuredAndSpared : Prop :=
  (∀ (s : State) (t : Time) (lane : Nat) (h w : Nat),
    lane < 544 →
    s.errs = [] →
    s.get .LANE_STATE lane = 2 →
    s.pausedIn 3 (laneTile lane) = false →
    s.get .MARGIN_THRESHOLD lane ≤ h →
    (s.at t).xFull (.tileCtl (laneTile lane) true) = false →
    max s.now t < (s.laneH lane).winAt + ms 1 →
    (s.laneH lane).rateRun < 2 →
    ∃ s', Machine.exec (.marginSample t lane h w none) s = .next s' ∧
      s'.get .EYE_HEIGHT lane = h % 256 ∧
      s'.get .EYE_WIDTH lane = w % 256 ∧
      (s'.laneH lane).lowRun = 0 ∧
      s'.SameBut s [(.EYE_HEIGHT, lane), (.EYE_WIDTH, lane)] ∧
      s'.SameBuffers s) ∧
  (∀ (s : State) (t : Time) (lane : Nat) (h w : Nat),
    lane < 544 →
    s.errs = [] →
    s.get .LANE_STATE lane = 2 →
    s.pausedIn 3 (laneTile lane) = false →
    s.get .MARGIN_THRESHOLD lane ≤ h →
    (s.at t).xFull (.tileCtl (laneTile lane) true) = false →
    (s.laneH lane).winAt + ms 1 ≤ max s.now t →
    (s.laneH lane).rateRun = 0 →
    ∃ s', Machine.exec (.marginSample t lane h w none) s = .next s' ∧
      s'.get .CORRECTED_RATE lane = (s.laneH lane).winCount % 2 ^ 32 ∧
      (s'.laneH lane).winCount = 0 ∧
      (s'.laneH lane).winAt = max s.now t ∧
      ((s'.laneH lane).rateRun = (if s.get .ERROR_RATE_THRESHOLD lane ≠ 0 ∧ s.get .ERROR_RATE_THRESHOLD lane < (s.laneH lane).winCount then 1 else 0)) ∧
      s'.SameBut s [(.EYE_HEIGHT, lane), (.EYE_WIDTH, lane), (.CORRECTED_RATE, lane)] ∧
      s'.SameBuffers s) ∧
  (∀ (s : State) (t : Time) (lane : Nat) (h w n port : Nat),
    lane < 512 →
    s.errs = [] →
    s.get .LANE_STATE lane = 2 →
    s.pausedIn 3 (laneTile lane) = false →
    s.get .MARGIN_THRESHOLD lane ≤ h →
    (s.at t).xFull (.tileCtl (laneTile lane) true) = false →
    max s.now t < (s.laneH lane).winAt + ms 1 →
    (s.laneH lane).rateRun < 2 →
    s.portAtLane lane = some port →
    s.isFabric port = false →
    ∃ s', Machine.exec (.marginSample t lane h w (some n)) s = .next s' ∧
      s'.get .SYMBOL_ERRORS lane = min (s.get .SYMBOL_ERRORS lane + n) (2 ^ 48 - 1) ∧
      (s'.laneH lane).winCount = (s.laneH lane).winCount + n ∧
      s'.SameBut s [(.EYE_HEIGHT, lane), (.EYE_WIDTH, lane), (.BIT_ERRORS, lane), (.SYMBOL_ERRORS, lane)] ∧
      s'.SameBuffers s) ∧
  (∀ (s : State) (t : Time) (lane : Nat) (h w : Nat),
    lane < 544 →
    s.get .LANE_STATE lane = 2 →
    s.pausedIn 3 (laneTile lane) = false →
    h < s.get .MARGIN_THRESHOLD lane →
    (s.at t).xFull (.tileCtl (laneTile lane) true) = false →
    (s.laneH lane).lowRun = 2 →
    max s.now t < (s.laneH lane).winAt + ms 1 →
    s.portAtLane lane = none →
    Machine.exec (.marginSample t lane h w none) s = .next ((((((((s.at t).xPut (.tileCtl (laneTile lane) true) 12).put .EYE_HEIGHT lane (h % 256)).put .EYE_WIDTH lane (w % 256)).updLane lane
      fun x => { x with lowRun := 0, rateRun := 0 }).bump .MARGIN_TRIGGERS lane).raise
      { code := 0x1006, kind := 3, idx := lane }).finish s)) ∧
  (∀ (s : State) (t : Time) (lane : Nat) (bits : List Bool),
    lane < 544 →
    s.errs = [] →
    s.get .PRBS_CHECK lane ≠ 0 →
    s.get .PRBS_LOCK lane = 0 →
    (checkBits (prbsTaps (s.get .PRBS_CHECK lane)).1 (prbsTaps (s.get .PRBS_CHECK lane)).2 false (s.laneH lane) bits).1.all (! ·) = true →
    ∃ s', Machine.exec (.prbsCheckerLock t lane bits) s = .next s' ∧
      s'.get .PRBS_LOCK lane = b2n (checkBits (prbsTaps (s.get .PRBS_CHECK lane)).1 (prbsTaps (s.get .PRBS_CHECK lane)).2 false (s.laneH lane) bits).2.1 ∧
      s'.laneH lane = (checkBits (prbsTaps (s.get .PRBS_CHECK lane)).1 (prbsTaps (s.get .PRBS_CHECK lane)).2 false (s.laneH lane) bits).2.2 ∧
      s'.SameBut s [(.PRBS_LOCK, lane), (.BIT_ERRORS, lane), (.SYMBOL_ERRORS, lane)] ∧
      s'.get .BIT_ERRORS lane = min (s.get .BIT_ERRORS lane) (2 ^ 48 - 1) ∧
      s'.SameBuffers s) ∧
  (∀ (code reg : Nat) (h : LaneH),
    1 ≤ code →
    code ≤ 5 →
    h.seeded = 0 →
    (checkBits (prbsTaps code).1 (prbsTaps code).2 false h (prbsRun (prbsTaps code).1 (prbsTaps code).2 reg ((prbsTaps code).1 + 64))).2.1 = true) ∧
  (∀ (s : State) (t : Time) (lane : Nat) (bits : List Bool),
    lane < 544 →
    s.errs = [] →
    s.get .PRBS_CHECK lane ≠ 0 →
    s.get .PRBS_LOCK lane = 1 →
    ∃ s', Machine.exec (.prbsCheckerLockLost t lane bits) s = .next s' ∧
      s'.get .PRBS_LOCK lane = b2n (checkBits (prbsTaps (s.get .PRBS_CHECK lane)).1 (prbsTaps (s.get .PRBS_CHECK lane)).2 true (s.laneH lane) bits).2.1 ∧
      s'.get .BIT_ERRORS lane = min (s.get .BIT_ERRORS lane + ((checkBits (prbsTaps (s.get .PRBS_CHECK lane)).1 (prbsTaps (s.get .PRBS_CHECK lane)).2 true (s.laneH lane) bits).1.filter id).length) (2 ^ 48 - 1) ∧
      s'.SameBut s [(.PRBS_LOCK, lane), (.BIT_ERRORS, lane), (.SYMBOL_ERRORS, lane)] ∧
      s'.SameBuffers s) ∧
  (∀ (s : State) (t : Time) (req : Req) (lane : Nat),
    s.errs = [] →
    s.hears req →
    s.mayInvoke req .COUNTER_CLEAR (some lane) = 0 →
    ∃ s', Machine.exec (.counterClear t req lane) s = .next s' ∧
      s'.answered req 0 [] ∧
      s'.get .BIT_ERRORS lane = 0 ∧
      s'.get .SYMBOL_ERRORS lane = 0 ∧
      s'.get .MARGIN_TRIGGERS lane = 0 ∧
      s'.SameBut s (req.traces ++ [(.BIT_ERRORS, lane), (.SYMBOL_ERRORS, lane), (.MARGIN_TRIGGERS, lane)]) ∧
      s'.SameBuffers s) ∧
  (∀ (s : State) (t : Time) (req : Req) (k port j : Nat),
    s.errs = [] →
    s.hears req →
    s.mayInvoke req .SPARE_COMMAND (some k) = 0 →
    s.get .SPARE_PORT k = port →
    port < 512 →
    s.get .SPARE_STATE k = 0 →
    (s.logLanes port).contains j = true →
    s.get .OL_STATE port = 2 →
    s.noRequest port = true →
    ∃ s', Machine.exec (.spareCommand t req k j) s = .next s' ∧
      s'.answered req 0 [] ∧
      (s'.link port).own = some { op := 1, kind := 3, phase := 1, lane := j, reqId := ((s.link port).reqNum + 1) % 256 } ∧
      s'.SameBut s (req.traces ++ [(.TX_NEXT_SEQ, port), (.NAKS_SENT, port)]) ∧
      s'.SameBuffers s) ∧
  (∀ (s : State) (t : Time) (req : Req) (k j : Nat),
    s.errs = [] →
    s.hears req →
    s.mayInvoke req .SPARE_COMMAND (some k) = 0 →
    s.get .SPARE_STATE k ≠ 0 →
    ∃ s', Machine.exec (.spareCommand t req k j) s = .next s' ∧
      s'.answered req 0x0401 [] ∧
      s'.links = s.links ∧
      s'.SameBut s (req.traces ++ [(.REQUESTS_REFUSED, 0)]) ∧
      s'.SameBuffers s) ∧
  (∀ (s : State) (t : Time) (k port : Nat),
    k < 32 →
    s.errs = [] →
    s.get .SPARE_STATE k = 1 →
    s.get .SPARE_PORT k = port →
    port < 512 →
    s.get .TRAIN_STATE port = 7 →
    (s.spareH k).ownDone = true →
    (s.spareH k).peerDone = true →
    ∃ s', Machine.exec (.spareTrained t k) s = .next s' ∧
      s'.get .SPARE_STATE k = 2 ∧
      s'.get .LANE_STATE (512 + k) = 2 ∧
      (s'.spareH k).readyAt = max s.now t ∧
      (s'.link port).toDone = none ∧
      s'.SameBut s [(.SPARE_STATE, k), (.LANE_STATE, 512 + k), (.TX_NEXT_SEQ, port), (.NAKS_SENT, port)] ∧
      s'.SameBuffers s) ∧
  (∀ (s : State) (t : Time) (k port : Nat),
    k < 32 →
    s.errs = [] →
    s.get .SPARE_STATE k = 2 →
    s.get .SPARE_PORT k = port →
    s.spareOf port = some k →
    (s.spareH k).readyAt + ms 100 ≤ max s.now t →
    (s.link port).swaps = false →
    ∃ s', Machine.exec (.spareReadyTimeout t k) s = .next s' ∧
      s'.get .SPARE_STATE k = 0 ∧
      s'.get .SPARE_LANE k = 0xFF ∧
      s'.SameBut s [(.SPARE_STATE, k), (.SPARE_LANE, k), (.LANE_STATE, 512 + k)] ∧
      s'.SameBuffers s) ∧
  (∀ (s : State) (t : Time) (port : Nat) (f k : Nat),
    port < 512 →
    s.errs = [] →
    (s.link port).swapRx = some f →
    s.get .OL_STATE port = 2 →
    countPast (s.link port).rxCount f = true →
    (s.link port).rxOnSpare = false →
    (s.link port).toDone = none →
    s.spareOf port = some k →
    ∃ s', Machine.exec (.swapFlitReached t port) s = .next s' ∧
      (s'.link port).rxOnSpare = true ∧
      s'.get .SPARE_STATE k = 3 ∧
      (s'.marks.getD {} port).skip = true ∧
      s'.SameBut s [(.SPARE_STATE, k)] ∧
      s'.SameBuffers s) ∧
  (∀ (s : State) (t : Time) (req : Req) (port : Nat),
    s.errs = [] →
    s.hears req →
    s.mayInvoke req .RETRAIN (some port) = 0 →
    s.isFabric port = true →
    s.get .OL_STATE port = 0 →
    ∃ s', Machine.exec (.retrain t req port) s = .next s' ∧
      s'.answered req 0 [] ∧
      s'.get .TRAIN_STATE port = 2 ∧
      s'.get .FAILED_LANES port = 0 ∧
      s'.SameBuffers s) ∧
  (∀ (s : State) (t : Time) (req : Req) (port : Nat),
    s.errs = [] →
    s.hears req →
    s.mayInvoke req .RETRAIN (some port) = 0 →
    (s.isHost port = true ∨ s.isDevice port = true) →
    ∃ s', Machine.exec (.retrain t req port) s = .next s' ∧
      s'.answered req 0 [] ∧
      Out.link 251 [port] ∈ s'.out ∧
      s'.get .FAILED_LANES port = 0 ∧
      s'.SameBut s (req.traces ++ [(.FAILED_LANES, port)]) ∧
      s'.SameBuffers s) ∧
  (∀ (s : State) (t : Time) (req : Req) (port : Nat),
    s.errs = [] →
    s.hears req →
    s.mayInvoke req .RETRAIN (some port) = 0 →
    s.isFabric port = true →
    s.get .OL_STATE port = 1 →
    ∃ s', Machine.exec (.retrain t req port) s = .next s' ∧
      s'.answered req 0 [] ∧
      s'.get .OL_STATE port = 0 ∧
      s'.get .TRAIN_STATE port = 2 ∧
      s'.get .FAILED_LANES port = 0 ∧
      s'.SameBuffers s) ∧
  (∀ (s : State) (t : Time) (req : Req) (port : Nat),
    s.errs = [] →
    s.hears req →
    s.mayInvoke req .RETRAIN (some port) = 0 →
    s.isFabric port = true →
    2 ≤ s.get .OL_STATE port →
    ∃ s', Machine.exec (.retrain t req port) s = .next s' ∧
      s'.answered req 0 [] ∧
      s'.get .WITHDRAWN port = 1 ∧
      (s'.link port).wanted = some { op := 1, kind := 5, width := widthCode (s.get .PORT_WIDTH port), rate := rateCode (fabricRate (s.get .MAX_RATE port)) } ∧
      s'.SameBuffers s)

/-- Flits are sent and accepted in sequence, acknowledged, NAKed and replayed (R192, R194, R203, R204, R205, R207,
R214). What is the model's choice in it and not a rule of the spec: log 15, 79. -/
def Obligations.FlitsKeepTheirSequence : Prop :=
  (∀ (s : State) (t : Time) (port : Nat) (m : Ctl) (ms : List Ctl),
    port < 512 →
    s.errs = [] →
    s.isFabric port = true →
    s.get .OL_STATE port = 2 →
    (s.link port).trailing = 0 →
    (s.link port).replay = none →
    (s.link port).parityOk = true →
    (s.link port).ctlq = m :: ms →
    s.roomForFlit port = true →
    (s.link port).toDone = none →
    ∃ s', Machine.exec (.flitTransmit t port []) s = .next s' ∧
      s'.get .TX_NEXT_SEQ port = seqNext (s.get .TX_NEXT_SEQ port) ∧
      (s'.link port).ctlq = ms ∧
      ((s'.link port).mem = (s.link port).mem ++ [{ seq := s.get .TX_NEXT_SEQ port, payload := .control m, granules := if m.op = 5 then 5 else 4 }]) ∧
      s'.SameBut s [(.TX_NEXT_SEQ, port), (.NAKS_SENT, port)] ∧
      s'.SameBuffers s) ∧
  (∀ (s : State) (t : Time) (port : Nat),
    port < 512 →
    s.errs = [] →
    s.isFabric port = true →
    s.get .OL_STATE port = 2 →
    (s.link port).trailing = 0 →
    (s.link port).replay = none →
    (s.link port).parityOk = true →
    (s.link port).ctlq = [] →
    (s.link port).txq = [] →
    (s.link port).toDone = none →
    ∃ s', Machine.exec (.flitTransmit t port []) s = .next s' ∧
      (s'.link port).txCount = ((s.link port).txCount + 1) % 2 ^ 32 ∧
      (s'.link port).mem = (s.link port).mem ∧
      (s'.link port).ackDue = false ∧
      s'.SameBut s [(.NAKS_SENT, port)] ∧
      s'.SameBuffers s) ∧
  (∀ (s : State) (t : Time) (port : Nat) (b : Nat) (v : Nat),
    port < 512 →
    s.errs = [] →
    s.isFabric port = true →
    s.get .OL_STATE port = 2 →
    v < 8 →
    b < 22 →
    (s.link port).parityOk = true →
    ∃ s', Machine.exec (.flitTransmit t port [(true, v, b)]) s = .next s' ∧
      s'.get .OL_STATE port = 3 ∧
      s'.get .REINITS_UNPLANNED port = (s.get .REINITS_UNPLANNED port + 1) % 2 ^ 32) ∧
  (∀ (s : State) (t : Time) (port : Nat) (f : Flit),
    port < 512 →
    (Instr.flitReceive t port f).wf = true →
    s.errs = [] →
    s.hearsFlits port = true →
    s.get .OL_STATE port = 2 →
    flitTaken f = none →
    (s.link port).bad < 7 →
    (s.link port).nakOpen = false →
    ∃ s', Machine.exec (.flitReceive t port f) s = .next s' ∧
      s'.get .BAD_FLITS port = (s.get .BAD_FLITS port + 1) % 2 ^ 32 ∧
      (s'.link port).nakDue = true ∧
      (s'.link port).nakOpen = true ∧
      s'.get .RX_EXPECTED port = s.get .RX_EXPECTED port ∧
      s'.SameBuffers s) ∧
  (∀ (s : State) (t : Time) (port : Nat) (f g : Flit),
    port < 512 →
    (Instr.flitReceive t port f).wf = true →
    s.errs = [] →
    s.hearsFlits port = true →
    s.get .OL_STATE port = 2 →
    flitTaken f = some g →
    (lhType g.header = 1 ∨ lhType g.header = 2) →
    lhAckKind g.header = 0 →
    g.timing = 0 →
    (s.link port).lock = true →
    s.get .NEIGHBOUR_NODE port = lhNode g.header →
    lhSeq g.header = s.get .RX_EXPECTED port →
    s.strayPart port (s.expected port g) = false →
    s.overflows port (s.expected port g) = false →
    ∃ s', Machine.exec (.flitReceive t port f) s = .next s' ∧
      s'.get .RX_EXPECTED port = seqNext (s.get .RX_EXPECTED port) ∧
      (s'.link port).owed = (s.link port).owed + 1 ∧
      (s'.link port).nakOpen = false ∧
      s'.tags = s.tags) ∧
  (∀ (s : State) (t : Time) (port : Nat) (f g : Flit),
    port < 512 →
    (Instr.flitReceive t port f).wf = true →
    s.errs = [] →
    s.hearsFlits port = true →
    s.get .OL_STATE port = 2 →
    flitTaken f = some g →
    (lhType g.header = 1 ∨ lhType g.header = 2) →
    lhAckKind g.header = 0 →
    g.timing = 0 →
    (s.link port).lock = true →
    s.get .NEIGHBOUR_NODE port = lhNode g.header →
    seqDist (lhSeq g.header) (s.get .RX_EXPECTED port) ≠ 32768 →
    seqAfter (lhSeq g.header) (s.get .RX_EXPECTED port) = true →
    (s.link port).nakOpen = false →
    s.unitsHeld port ≤ s.poolUnits port →
    ∃ s', Machine.exec (.flitReceive t port f) s = .next s' ∧
      (s'.link port).nakDue = true ∧
      (s'.link port).nakOpen = true ∧
      s'.get .RX_EXPECTED port = s.get .RX_EXPECTED port ∧
      (s'.link port).owed = (s.link port).owed) ∧
  (∀ (s : State) (t : Time) (port : Nat) (f g : Flit),
    port < 512 →
    (Instr.flitReceive t port f).wf = true →
    s.errs = [] →
    s.hearsFlits port = true →
    s.get .OL_STATE port = 2 →
    flitTaken f = some g →
    (lhType g.header = 1 ∨ lhType g.header = 2) →
    lhAckKind g.header = 0 →
    g.timing = 0 →
    (s.link port).lock = true →
    s.get .NEIGHBOUR_NODE port = lhNode g.header →
    seqDist (lhSeq g.header) (s.get .RX_EXPECTED port) ≠ 32768 →
    seqBefore (lhSeq g.header) (s.get .RX_EXPECTED port) = true →
    s.unitsHeld port ≤ s.poolUnits port →
    ∃ s', Machine.exec (.flitReceive t port f) s = .next s' ∧
      (s'.link port).ackDue = true ∧
      s'.get .RX_EXPECTED port = s.get .RX_EXPECTED port ∧
      (s'.link port).owed = (s.link port).owed) ∧
  (∀ (s : State) (t : Time) (port : Nat),
    port < 512 →
    s.errs = [] →
    s.get .OL_STATE port = 2 →
    (s.link port).owed ≠ 0 →
    (s.link port).ackFrom + ns (s.get .ACK_TIMER port) ≤ max s.now t →
    ∃ s', Machine.exec (.ackTimerExpiry t port) s = .next s' ∧
      (s'.link port).ackDue = true ∧
      s'.SameBut s [] ∧
      s'.SameBuffers s) ∧
  (∀ (s : State) (t : Time) (port : Nat),
    port < 512 →
    s.errs = [] →
    s.get .OL_STATE port = 2 →
    (s.link port).nakOpen = true →
    (s.link port).nakAt + us 1 ≤ max s.now t →
    ∃ s', Machine.exec (.nakRepeat t port) s = .next s' ∧
      (s'.link port).nakDue = true ∧
      (s'.link port).nakAt = max s.now t ∧
      s'.SameBut s [] ∧
      s'.SameBuffers s) ∧
  (∀ (s : State) (t : Time) (port : Nat),
    port < 512 →
    s.errs = [] →
    s.get .OL_STATE port = 2 →
    s.unacked port ≠ 0 →
    (s.link port).advAt + ns (s.link port).timeout ≤ max s.now t →
    seqAfter (s.link port).oldest (seqPrev (s.get .TX_NEXT_SEQ port)) = false →
    (s.link port).replayRow.2 + 1 < s.get .REPLAY_LIMIT port →
    1 < s.get .REPLAY_LIMIT port →
    ∃ s', Machine.exec (.replayTimeout t port) s = .next s' ∧
      (s'.link port).replay = some ((s.link port).oldest, seqPrev (s.get .TX_NEXT_SEQ port)) ∧
      (s'.link port).replayNak = none ∧
      s'.SameBut s [] ∧
      s'.SameBuffers s)

/-- A link becomes ACTIVE by INIT flits, reinitialises on a new INIT_GEN, and goes down by its timers (R199, R200,
R217, R218, R233). What is the model's choice in it and not a rule of the spec: log 16, 27, 80. -/
def Obligations.LinksInitialiseAndGoDown : Prop :=
  (∀ (s : State) (t : Time) (port : Nat) (i : Init),
    port < 512 →
    s.errs = [] →
    s.isFabric port = true →
    s.get .OL_STATE port = 1 →
    i.peerSeen = true →
    (s.link port).salvage = [] →
    (s.link port).seqKept = false →
    ∃ s', Machine.exec (.initFlitReceive t port i) s = .next s' ∧
      s'.get .OL_STATE port = 2 ∧
      s'.get .NEIGHBOUR_NODE port = i.node ∧
      s'.get .NEIGHBOUR_PORT port = i.port ∧
      s'.get .NEIGHBOUR_SERIAL port = i.serial ∧
      (s'.link port).trailing = 16 ∧
      (s'.link port).peerMins = i.mins ∧
      s'.get .CREDIT_DEFICIT port = 0 ∧
      s'.get .WITHDRAWN port ≠ 1 ∧
      s'.SameBuffers s) ∧
  (∀ (s : State) (t : Time) (port : Nat) (i : Init),
    port < 512 →
    s.errs = [] →
    s.isFabric port = true →
    s.get .OL_STATE port = 2 →
    i.gen ≠ (s.link port).peerGen →
    ∃ s', Machine.exec (.initFlitReceive t port i) s = .next s' ∧
      s'.get .OL_STATE port = 3 ∧
      s'.get .REINITS_UNPLANNED port = (s.get .REINITS_UNPLANNED port + 1) % 2 ^ 32 ∧
      (s'.link port).peer = some i ∧
      (s'.link port).seqKept = true ∧
      s'.SameBuffers s) ∧
  (∀ (s : State) (t : Time) (port : Nat),
    port < 512 →
    s.errs = [] →
    s.get .OL_STATE port = 1 →
    (s.link port).since + ms 10 ≤ max s.now t →
    ∃ s', Machine.exec (.initTimeout t port) s = .next s' ∧
      s'.get .OL_STATE port = 0 ∧
      s'.get .TRAIN_STATE port = 2 ∧
      s'.get .LINK_WIDTH port = 0 ∧
      s'.get .FAILED_LANES port = 0 ∧
      s'.SameBuffers s) ∧
  (∀ (s : State) (t : Time) (port : Nat),
    port < 512 →
    s.errs = [] →
    s.get .OL_STATE port = 3 →
    (s.link port).since + us 100 ≤ max s.now t →
    (s.link port).mem = [] →
    (s.link port).txq = [] →
    (s.link port).salvage = [] →
    ∃ s', Machine.exec (.reinitTimeout t port) s = .next s' ∧
      s'.get .OL_STATE port = 0 ∧
      s'.get .LAST_DOWN_CAUSE port = 2 ∧
      s'.get .LINK_DOWNS port = (s.get .LINK_DOWNS port + 1) % 2 ^ 32 ∧
      s'.get .TX_NEXT_SEQ port = 0 ∧
      s'.get .NEIGHBOUR_NODE port = 0xFF ∧
      s'.get .TRAIN_STATE port = 1) ∧
  (∀ (s : State) (t : Time) (port : Nat) (b : Time),
    port < 512 →
    s.errs = [] →
    s.get .OL_STATE port ≠ 0 →
    (s.link port).lock = false →
    (s.link port).lockLostAt = some b →
    b + ns (s.get .LINK_DOWN_TIME port) ≤ max s.now t →
    (s.link port).mem = [] →
    (s.link port).txq = [] →
    (s.link port).salvage = [] →
    ∃ s', Machine.exec (.linkDownTimeExpiry t port) s = .next s' ∧
      s'.get .OL_STATE port = 0 ∧
      s'.get .LAST_DOWN_CAUSE port = 1 ∧
      s'.get .LINK_DOWNS port = (s.get .LINK_DOWNS port + 1) % 2 ^ 32 ∧
      s'.get .RX_EXPECTED port = 0 ∧
      s'.get .TRAIN_STATE port = 1) ∧
  (∀ (s : State) (t : Time) (port : Nat),
    port < 512 →
    s.errs = [] →
    s.isFabric port = true →
    (s.link port).lock = true →
    s.spareOf port = none →
    ∃ s', Machine.exec (.blockLockLost t port) s = .next s' ∧
      (s'.link port).lock = false ∧
      (s'.link port).good = 0 ∧
      (s'.link port).lockLostAt = some (max s.now t) ∧
      s'.SameBut s [] ∧
      s'.SameBuffers s) ∧
  (∀ (s : State) (t : Time) (port : Nat),
    port < 512 →
    (s.link port).peer = none →
    Machine.exec (.salvageComplete t port) s = .next (((s.at t).salvageInto port true (s.link port).salvage).finish s))

/-- Credit audits, pools and withdrawals of a link, and the requests between neighbours (R211, R212, R213, R216,
R246, R247). What is the model's choice in it and not a rule of the spec: log 39, 74. -/
def Obligations.CreditsAreAuditedAndNeighboursAsk : Prop :=
  (∀ (s : State) (t : Time) (port : Nat),
    port < 512 →
    s.errs = [] →
    s.get .OL_STATE port = 2 →
    s.pausedIn 5 (quadRegion port) = false →
    (∀ v ∈ List.range 8, ((s.link port).arrived.getD 0 v + 2 ^ 21 - s.get .VC_RETURNED (port * 8 + v)) % 2 ^ 21 < 2 ^ 20) →
    0 < s.get .LEAK_THRESHOLD port →
    0 < s.poolUnits port →
    ∃ s', Machine.exec (.creditPoolAudit t port ((List.range 8).map fun v => ((s.link port).arrived.getD 0 v + 2 ^ 21 - s.get .VC_RETURNED (port * 8 + v)) % 2 ^ 21)) s = .next s' ∧
      s'.get .CREDIT_DEFICIT port = 0 ∧
      (∀ v ∈ List.range 8, s'.get .VC_DEFICIT (port * 8 + v) = 0) ∧
      (∀ v ∈ List.range 8, s'.get .VC_HELD (port * 8 + v) = ((s.link port).arrived.getD 0 v + 2 ^ 21 - s.get .VC_RETURNED (port * 8 + v)) % 2 ^ 21) ∧
      s'.get .WITHDRAWN port = s.get .WITHDRAWN port ∧
      s'.SameBuffers s) ∧
  (∀ (s : State) (t : Time) (req : Req) (port : Nat),
    s.errs = [] →
    s.hears req →
    s.mayInvoke req .WITHDRAW (some port) = 0 →
    s.get .WITHDRAWN port = 0 →
    ∃ s', Machine.exec (.withdraw t req port) s = .next s' ∧
      s'.answered req 0 [] ∧
      s'.get .WITHDRAWN port = 1 ∧
      (s'.link port).wanted = some { op := 1, kind := 1 } ∧
      (s'.link port).pushed = false ∧
      s'.SameBut s (req.traces ++ [(.WITHDRAWN, port)]) ∧
      s'.SameBuffers s) ∧
  (∀ (s : State) (t : Time) (req : Req) (port : Nat),
    s.errs = [] →
    s.hears req →
    s.mayInvoke req .WITHDRAW (some port) = 0 →
    s.get .WITHDRAWN port = 1 →
    ∃ s', Machine.exec (.withdraw t req port) s = .next s' ∧
      s'.answered req 0x0401 [] ∧
      s'.links = s.links ∧
      s'.SameBut s (req.traces ++ [(.REQUESTS_REFUSED, 0)]) ∧
      s'.SameBuffers s) ∧
  (∀ (s : State) (t : Time) (port : Nat) (m : Ctl),
    port < 512 →
    s.errs = [] →
    s.get .OL_STATE port = 2 →
    (s.link port).wanted = some m →
    m ≠ parkMsg →
    s.get .WITHDRAWN port = 1 →
    (s.link port).pushed = true →
    s.linkDrained port = true →
    s.noRequest port = true →
    ∃ s', Machine.exec (.withdrawReinitRequest t port) s = .next s' ∧
      (s'.link port).own = some { m with op := 1, reqId := ((s.link port).reqNum + 1) % 256 } ∧
      (s'.link port).granted = false ∧
      s'.SameBut s [(.TX_NEXT_SEQ, port), (.NAKS_SENT, port)] ∧
      s'.SameBuffers s) ∧
  (∀ (s : State) (t : Time) (port : Nat) (mins : List Nat),
    port < 512 →
    s.errs = [] →
    s.get .OL_STATE port = 2 →
    ∃ s', Machine.exec (.poolUpdate t port mins) s = .next s' ∧
      (s'.link port).peerMins = mins ∧
      (s'.link port).peerPool = (s.link port).peerPool ∧
      s'.SameBut s [] ∧
      s'.cells = s.cells ∧
      s'.rx = s.rx ∧
      s'.tags = s.tags) ∧
  (∀ (s : State) (t : Time) (port : Nat) (m x : Ctl),
    port < 512 →
    s.errs = [] →
    s.get .OL_STATE port = 2 →
    (s.link port).own = none →
    (s.link port).theirs = some x →
    ∃ s', Machine.exec (.request t port m) s = .next s' ∧
      Out.control port { m with op := 3, reason := 2 } ∈ s'.out ∧
      (s'.link port).theirs = some x ∧
      (s'.link port).own = none ∧
      s'.SameBut s [(.TX_NEXT_SEQ, port), (.NAKS_SENT, port)] ∧
      s'.SameBuffers s) ∧
  (∀ (s : State) (t : Time) (port : Nat) (m : Ctl),
    port < 512 →
    s.errs = [] →
    s.get .OL_STATE port = 2 →
    (s.link port).own = none →
    (s.link port).theirs = none →
    m.kind = 3 →
    m.phase = 2 →
    s.spareIn port 2 = true →
    swapRule ((s.link port).rxCount - 1) m.swapFlit = true →
    ∃ s', Machine.exec (.request t port m) s = .next s' ∧
      (s'.link port).theirs = some m ∧
      (s'.link port).toDone = some m ∧
      (s'.link port).swapRx = some m.swapFlit ∧
      (s'.link port).swapTx = some (((s.link port).txCount + 2048) % 2 ^ 32) ∧
      s'.SameBut s [(.TX_NEXT_SEQ, port), (.NAKS_SENT, port)] ∧
      s'.SameBuffers s) ∧
  (∀ (s : State) (t : Time) (port : Nat) (m o : Ctl),
    port < 512 →
    s.errs = [] →
    s.get .OL_STATE port = 2 →
    (s.link port).own = some o →
    (s.link port).answers m = true →
    (s.link port).granted = false →
    o.kind = 3 →
    o.phase = 2 →
    ∃ s', Machine.exec (.grant t port m) s = .next s' ∧
      (s'.link port).granted = true ∧
      (s'.link port).swapTx = some o.swapFlit ∧
      (s'.link port).swapRx = some m.swapFlit ∧
      s'.SameBut s [] ∧
      s'.SameBuffers s) ∧
  (∀ (s : State) (t : Time) (port : Nat) (m o : Ctl),
    port < 512 →
    s.errs = [] →
    s.get .OL_STATE port = 2 →
    (s.link port).own = some o →
    (s.link port).answers m = true →
    ∃ s', Machine.exec (.refuse t port m) s = .next s' ∧
      (s'.link port).own = none ∧
      (s'.link port).granted = false ∧
      s'.out = s.out ++ [.event 216 [port, m.kind, m.reason]] ∧
      s'.SameBut s [] ∧
      s'.SameBuffers s) ∧
  (∀ (s : State) (t : Time) (port : Nat) (m o : Ctl),
    port < 512 →
    s.errs = [] →
    s.get .OL_STATE port = 2 →
    (s.link port).own = some o →
    (s.link port).answers m = true →
    o.kind = 1 →
    (s.link port).deferred = none →
    ∃ s', Machine.exec (.done t port m) s = .next s' ∧
      (s'.link port).own = none ∧
      (s'.link port).granted = false ∧
      s'.SameBut s [] ∧
      s'.SameBuffers s) ∧
  (∀ (s : State) (t : Time) (port : Nat) (m : Ctl),
    port < 512 →
    s.errs = [] →
    s.get .OL_STATE port = 2 →
    (s.link port).own = none →
    (s.link port).theirs = none →
    m.kind = 1 →
    ∃ s', Machine.exec (.request t port m) s = .next s' ∧
      Out.control port { m with op := 2 } ∈ s'.out ∧
      s'.get .OL_STATE port = 3 ∧
      (s'.link port).theirs = some m ∧
      s'.get .REINITS_PLANNED port = (s.get .REINITS_PLANNED port + 1) % 2 ^ 32 ∧
      s'.SameBuffers s) ∧
  (∀ (s : State) (t : Time) (port : Nat) (m o : Ctl),
    port < 512 →
    s.errs = [] →
    s.get .OL_STATE port = 2 →
    (s.link port).own = some o →
    (s.link port).granted = false →
    s.node < s.get .NEIGHBOUR_NODE port →
    ∃ s', Machine.exec (.request t port m) s = .next s' ∧
      Out.control port { m with op := 3, reason := 1 } ∈ s'.out ∧
      s'.get .COLLISIONS port = (s.get .COLLISIONS port + 1) % 2 ^ 32 ∧
      (s'.link port).own = some o ∧
      s'.SameBut s [(.TX_NEXT_SEQ, port), (.NAKS_SENT, port), (.COLLISIONS, port)] ∧
      s'.SameBuffers s) ∧
  (∀ (s : State) (t : Time) (port : Nat) (m o : Ctl) (k : Nat),
    port < 512 →
    s.errs = [] →
    s.get .OL_STATE port = 2 →
    (s.link port).own = some o →
    (s.link port).answers m = true →
    (s.link port).granted = false →
    o.kind = 3 →
    o.phase = 1 →
    s.spareOf port = some k →
    ∃ s', Machine.exec (.grant t port m) s = .next s' ∧
      (s'.link port).granted = true ∧
      s'.get .SPARE_STATE k = 1 ∧
      s'.get .SPARE_LANE k = o.lane ∧
      s'.SameBut s [(.SPARE_STATE, k), (.SPARE_LANE, k), (.LANE_STATE, spareLane k)] ∧
      s'.SameBuffers s) ∧
  (∀ (s : State) (t : Time) (port : Nat) (m o : Ctl),
    port < 512 →
    s.errs = [] →
    s.get .OL_STATE port = 2 →
    (s.link port).own = some o →
    (s.link port).answers m = true →
    o.kind = 3 →
    o.phase = 1 →
    (s.link port).deferred = none →
    ∃ s', Machine.exec (.done t port m) s = .next s' ∧
      (s'.link port).own = some { op := 1, kind := 3, phase := 2, lane := o.lane, swapFlit := ((s.link port).txCount + 2048) % 2 ^ 32, reqId := ((s.link port).reqNum + 1) % 256 } ∧
      (s'.link port).granted = false ∧
      s'.SameBut s [(.TX_NEXT_SEQ, port), (.NAKS_SENT, port)] ∧
      s'.SameBuffers s)

/-- TREF, PTP, the time root, markers and PTM; TIME_STEP and PIP_PERIOD open requests or are refused (R29, R30, R33,
R38, R39, R40, R36, R43, R45). What is the model's choice in it and not a rule of the spec: log 5, 23, 25. -/
def Obligations.TimeIsRootedMarkedAndStepped : Prop :=
  (∀ (s : State) (t : Time),
    s.errs = [] →
    s.time.lastPps = 0 →
    s.get .ACTIVE_SOURCE ≠ 0 →
    ∃ s', Machine.exec (.trefPpsEdge t true) s = .next s' ∧
      s'.time.ppsRun = 1 ∧
      s'.time.clkPresent = true ∧
      s'.time.lastPps = max s.now t ∧
      s'.time.label = some ((s.at t).ppsLabel) ∧
      s'.SameBut s [] ∧
      s'.SameBuffers s) ∧
  (∀ (s : State) (t : Time),
    s.errs = [] →
    s.time.lastPps ≠ 0 →
    ppsOnTime s.time.lastPps (max s.now t) = true →
    s.get .ACTIVE_SOURCE ≠ 0 →
    ∃ s', Machine.exec (.trefPpsEdge t true) s = .next s' ∧
      s'.time.ppsRun = min 8 (s.time.ppsRun + 1) ∧
      s'.time.clkPresent = true ∧
      s'.time.lastPps = max s.now t ∧
      s'.time.label = some ((s.at t).ppsLabel) ∧
      s'.SameBut s [] ∧
      s'.SameBuffers s) ∧
  (∀ (s : State) (t : Time),
    s.errs = [] →
    s.get .TIME_CLASS ≠ 1 →
    s.get .ACTIVE_SOURCE ≠ 0 →
    ∃ s', Machine.exec (.trefPpsEdge t false) s = .next s' ∧
      s'.time.ppsRun = 1 ∧
      s'.time.clkPresent = false ∧
      s'.time.lastPps = max s.now t ∧
      s'.SameBut s [] ∧
      s'.SameBuffers s) ∧
  (∀ (s : State) (t : Time),
    s.errs = [] →
    s.time.lastPps ≠ 0 →
    ppsOnTime s.time.lastPps (max s.now t) = true →
    s.get .ACTIVE_SOURCE = 0 →
    1000000 ≤ (((s.at t).ppsLabel : Int) * 1000000000 - (max s.now t : Nat) / 65536).natAbs →
    ∃ s', Machine.exec (.trefPpsEdge t true) s = .next s' ∧
      Out.event 35 [0] ∈ s'.out ∧
      s'.time.ppsRun = min 8 (s.time.ppsRun + 1) ∧
      s'.time.corr = limitPpb (Config.servo s.time.corr ((((s.at t).ppsLabel : Int) * 1000000000 - (max s.now t : Nat) / 65536) * 1000)) ∧
      s'.SameBut s [] ∧
      s'.SameBuffers s) ∧
  (∀ (s : State) (t : Time),
    s.errs = [] →
    s.get .TIME_CLASS ≠ 1 →
    ∃ s', Machine.exec (.trefLost t) s = .next s' ∧
      s'.time.ppsRun = 0 ∧
      s'.time.clkPresent = false ∧
      s'.SameBut s [] ∧
      s'.SameBuffers s) ∧
  (∀ (s : State) (t : Time),
    s.errs = [] →
    s.get .TIME_CLASS = 1 →
    ∃ s', Machine.exec (.trefLost t) s = .next s' ∧
      s'.time.ppsRun = 0 ∧
      s'.time.clkPresent = false ∧
      (s'.get .TIME_CLASS = (if s.get .PAIR_B_STATE = 0 ∧ bit (s.get .SOURCE_ENABLE) 1 = true ∧ s.time.ptpLocked = true then 2 else 3)) ∧
      s'.SameBut s [(.TIME_CLASS, 0), (.TIME_ROOT, 0), (.PARENT_PORT, 0), (.ACTIVE_SOURCE, 0)] ∧
      s'.SameBuffers s) ∧
  (∀ (s : State) (t : Time) (off : Int) (a : Time),
    s.errs = [] →
    -1000 < off →
    off < 1000 →
    s.time.ptpGoodSince = some a →
    a + ms 16000 ≤ max s.now t →
    s.get .ACTIVE_SOURCE ≠ 1 →
    ∃ s', Machine.exec (.ptpMessageReceive t (s.get .PTP_DOMAIN) off) s = .next s' ∧
      s'.time.ptpLocked = true ∧
      s'.time.ptpOffset = off ∧
      s'.SameBut s [] ∧
      s'.SameBuffers s) ∧
  (∀ (s : State) (t : Time) (off : Int),
    s.errs = [] →
    (1000 ≤ off ∨ off ≤ -1000) →
    s.get .TIME_CLASS ≠ 2 →
    s.get .ACTIVE_SOURCE ≠ 1 →
    ∃ s', Machine.exec (.ptpMessageReceive t (s.get .PTP_DOMAIN) off) s = .next s' ∧
      s'.time.ptpLocked = false ∧
      s'.time.ptpGoodSince = none ∧
      s'.time.ptpOffset = off ∧
      s'.SameBut s [] ∧
      s'.SameBuffers s) ∧
  (∀ (s : State) (t : Time) (d : Nat) (off : Int),
    s.errs = [] →
    d ≠ s.get .PTP_DOMAIN →
    ∃ s', Machine.exec (.ptpMessageReceive t d off) s = .next s' ∧
      s'.time = s.time ∧
      s'.SameBut s [] ∧
      s'.SameBuffers s) ∧
  (∀ (s : State) (t : Time) (a : Time),
    s.errs = [] →
    s.time.ptpGoodSince = some a →
    a + ms 16000 ≤ max s.now t →
    bit (s.get .SOURCE_ENABLE) 1 = false →
    ∃ s', Machine.exec (.timeSourceQualified t 1) s = .next s' ∧
      s'.time.ptpLocked = true ∧
      s'.SameBuffers s) ∧
  (∀ (s : State) (t : Time),
    s.errs = [] →
    s.time.clkPresent = true →
    8 ≤ s.time.ppsRun →
    bit (s.get .SOURCE_ENABLE) 0 = true →
    s.get .PAIR_B_STATE = 0 →
    ∃ s', Machine.exec (.timeSourceQualified t 0) s = .next s' ∧
      s'.get .TIME_CLASS = 1 ∧
      s'.SameBut s [(.TIME_CLASS, 0), (.TIME_ROOT, 0), (.PARENT_PORT, 0), (.ACTIVE_SOURCE, 0)] ∧
      s'.SameBuffers s) ∧
  (∀ (s : State) (t : Time) (b : Time),
    s.errs = [] →
    s.time.betterSince = some b →
    b + ms 10000 ≤ max s.now t →
    s.outranks s.time.rootClass (s.get .TIME_ROOT) = true →
    ∃ s', Machine.exec (.timeRootDisplace t) s = .next s' ∧
      s'.get .TIME_ROOT = s.node ∧
      s'.get .PARENT_PORT = 0xFFFF ∧
      s'.time.rootHops = 0 ∧
      s'.time.rootClass = s.get .TIME_CLASS ∧
      s'.SameBut s [(.TIME_ROOT, 0), (.PARENT_PORT, 0), (.ACTIVE_SOURCE, 0)] ∧
      s'.SameBuffers s) ∧
  (∀ (s : State) (t : Time) (port : Nat),
    port < 512 →
    s.errs = [] →
    s.isFabric port = true →
    s.get .OL_STATE port = 2 →
    ∃ s', Machine.exec (.timeMarkerSend t port) s = .next s' ∧
      (s'.marksOf port).mark = some (s.marksOf port).next ∧
      (s'.marksOf port).txFrag = none ∧
      (s'.marksOf port).depLast = (s.marksOf port).depLast ∧
      (s'.marksOf port).next = ((s.marksOf port).next + 1) % 64 ∧
      s'.SameBut s [] ∧
      s'.SameBuffers s) ∧
  (∀ (s : State) (t : Time) (port : Nat),
    port < 512 →
    s.errs = [] →
    s.isDevice port = true →
    (s.pport port).up = true →
    ∃ s', Machine.exec (.ptmRequest t port) s = .next s' ∧
      s'.out = s.out ++ [.link 40 [port, max s.now t / 65536]] ∧
      s'.SameBut s [] ∧
      s'.SameBuffers s) ∧
  (∀ (s : State) (t : Time) (req : Req) (offers : List Time) (step : Int),
    s.errs = [] →
    s.hears req →
    s.mayInvoke req .TIME_STEP none = 0 →
    step ≠ 0 →
    step % 1000000 = 0 →
    (∀ e ∈ offers, 0 ≤ (e : Int) + step * 65536) →
    s.anyGranted = false →
    s.epochsRefused = false →
    (s.at t).checkOffers offers = 0 →
    s.unitsBusy s.allUnits = false →
    ∃ s', Machine.exec (.timeStep t req offers step) s = .next s' ∧
      (∃ r ∈ s'.reqs, r.kind = 6 ∧ r.offers = offers ∧ r.work = .step step ∧ s'.get .EPOCH_STATE r.num = 0 ∧ s'.get .EPOCH_KIND r.num = 6 ∧ s'.answered req 0 [r.num] ∧
        s'.SameBut s (req.traces ++ s.openedRows r.num)) ∧
      s'.SameBuffers s) ∧
  (∀ (s : State) (t : Time) (req : Req) (offers : List Time) (step : Int),
    s.errs = [] →
    s.hears req →
    s.mayInvoke req .TIME_STEP none = 0 →
    step % 1000000 ≠ 0 →
    ∃ s', Machine.exec (.timeStep t req offers step) s = .next s' ∧
      s'.answered req 0x0301 [] ∧
      s'.reqs = s.reqs ∧
      s'.SameBut s (req.traces ++ [(.REQUESTS_REFUSED, 0)]) ∧
      s'.SameBuffers s) ∧
  (∀ (s : State) (t : Time) (req : Req) (offers : List Time) (v : Nat),
    s.errs = [] →
    s.hears req →
    s.resolve (s.principal req.path) 2 (entryOf .PIP_PERIOD none v).addr = .obj .PIP_PERIOD 0 →
    v ≤ 4 →
    s.epochsRefused = false →
    ((s.at t).checkOffers offers (fun e => codeIf (e % ms 1 ≠ 0) 0x0301) = 0) →
    s.anyGranted = false →
    s.gatesTooLong v = false →
    s.switching = false →
    s.unitsBusy s.allUnits = false →
    ∃ s', Machine.exec (.pipPeriodWrite t req offers (entryOf .PIP_PERIOD none v)) s = .next s' ∧
      (∃ r ∈ s'.reqs, r.kind = 5 ∧ r.offers = offers ∧ r.work = .period v ∧ s'.get .EPOCH_KIND r.num = 5 ∧ s'.answered req 0 [0xFFFFFFFF, r.num] ∧
        s'.SameBut s (req.traces ++ s.openedRows r.num)) ∧
      s'.SameBuffers s)

/-- Units report, the keeper decides at the guard point, and an epoch applies what was decided (R46, R47, R48, R36,
R43). What is the model's choice in it and not a rule of the spec: log 35, 41, 75. -/
def Obligations.EpochRequestsAreDecided : Prop :=
  (∀ (s : State) (t : Time) (k node region : Nat) (r : EpochReq),
    node < 32 →
    region < 15 →
    s.errs = [] →
    s.req k = some r →
    r.decided = false →
    s.reqOver k = false →
    max s.now t < s.guardOf r →
    (node, region) ∈ r.units →
    s.reports node = true →
    ∃ s', Machine.exec (.unitReady t k node region false none) s = .next s' ∧
      (∃ x ∈ s'.reqs, x.num = k ∧ (node, region) ∈ x.ready ∧ (node, region) ∉ x.isolated) ∧
      s'.SameBut s [] ∧
      s'.SameBuffers s) ∧
  (∀ (s : State) (t : Time) (k node region : Nat) (r : EpochReq),
    node < 32 →
    region < 15 →
    s.errs = [] →
    s.req k = some r →
    r.decided = false →
    s.reqOver k = false →
    max s.now t < s.guardOf r →
    (node, region) ∈ r.units →
    s.reports node = true →
    ∃ s', Machine.exec (.unitReady t k node region true none) s = .next s' ∧
      (∃ x ∈ s'.reqs, x.num = k ∧ (node, region) ∈ x.isolated ∧ (node, region) ∉ x.ready) ∧
      s'.SameBut s [] ∧
      s'.SameBuffers s) ∧
  (∀ (s : State) (t : Time) (k node region : Nat) (p : Machine.Prep),
    node < 32 →
    region < 15 →
    s.errs = [] →
    s.get .KEEPER_ROLE ≠ 1 →
    s.req k = none →
    s.reqs.length < 64 →
    ∃ s', Machine.exec (.unitReady t k node region false (some p)) s = .next s' ∧
      (∃ x ∈ s'.reqs, x.num = k ∧ x.kind = p.kind ∧ x.offers = p.offers ∧ x.units = p.units ∧ x.prep = true) ∧
      s'.get .EPOCH_KIND k = p.kind ∧
      s'.get .EPOCH_STATE k = 0 ∧
      s'.SameBut s (s.openedRows k) ∧
      s'.SameBuffers s) ∧
  (∀ (s : State) (t : Time) (k : Nat) (r : EpochReq),
    s.errs = [] →
    s.req k = some r →
    s.pairStopped = false →
    r.prep = false →
    r.decided = false →
    s.reqOver r.num = false →
    s.guardOf r ≤ max s.now t →
    s.firstLate r = none →
    ∃ s', Machine.exec (.guardPoint t k) s = .next s' ∧
      s'.get .EPOCH_STATE k = 1 ∧
      (∃ x ∈ s'.reqs, x.num = k ∧ x.decided = true) ∧
      Out.msg .decision [k] ∈ s'.out ∧
      s'.SameBut s [(.EPOCH_STATE, k)] ∧
      s'.SameBuffers s) ∧
  (∀ (s : State) (t : Time) (k : Nat) (r : EpochReq) (u : Nat × Nat),
    s.req k = some r →
    s.pairStopped = false →
    r.prep = false →
    r.decided = false →
    s.reqOver r.num = false →
    s.guardOf r ≤ max s.now t →
    s.firstLate r = some u →
    r.cur + 1 < r.offers.length →
    Machine.exec (.guardPoint t k) s = .next ((((((((s.at t).irqEdge 705).raise
      { code := 0x100B, kind := 1, idx := u.2, region := u.2, node := some u.1 }).put .NOT_READY r.num
      (u.1 * 2048 + u.2)).updReq r.num fun x => { x with cur := x.cur + 1, ready := [], isolated := [] }).put
      .EPOCH_STATE r.num 3)).finish s)) ∧
  (∀ (s : State) (t : Time) (k : Nat) (r : EpochReq) (acks : List Nat) (n : Nat),
    s.errs = [] →
    s.req k = some r →
    r.prep = false →
    r.decided = true →
    s.reqOver k = false →
    n ∈ r.units.map (·.1) →
    n ∉ r.acks →
    n ∉ acks →
    ∃ s', Machine.exec (.decisionResend t k acks) s = .next s' ∧
      Out.msg .decision [k] ∈ s'.out ∧
      (∀ a ∈ acks, ∃ x ∈ s'.reqs, x.num = k ∧ a ∈ x.acks) ∧
      s'.SameBut s [] ∧
      s'.SameBuffers s) ∧
  (∀ (s : State) (t : Time) (k : Nat) (r : EpochReq) (acks : List Nat),
    s.errs = [] →
    s.req k = some r →
    r.prep = true →
    r.decided = false →
    s.reqOver k = false →
    ∃ s', Machine.exec (.decisionResend t k acks) s = .next s' ∧
      s'.get .EPOCH_STATE k = 1 ∧
      (∃ x ∈ s'.reqs, x.num = k ∧ x.decided = true) ∧
      Out.msg .ack [k] ∈ s'.out ∧
      s'.SameBut s [(.EPOCH_STATE, k)] ∧
      s'.SameBuffers s) ∧
  (∀ (s : State) (t : Time) (k : Nat) (r : EpochReq) (region : Nat),
    region < 15 →
    s.errs = [] →
    s.req k = some r →
    (s.at t).mayQuery r region = true →
    ∃ s', Machine.exec (.decisionQuery t k region false) s = .next s' ∧
      (∃ x ∈ s'.reqs, x.num = k ∧ region ∈ x.lacking) ∧
      Out.msg .query [k, region] ∈ s'.out ∧
      s'.SameBut s [] ∧
      s'.SameBuffers s) ∧
  (∀ (s : State) (t : Time) (k : Nat) (r : EpochReq) (region : Nat),
    region < 15 →
    s.errs = [] →
    s.req k = some r →
    (s.at t).mayQuery r region = true →
    ∃ s', Machine.exec (.decisionQuery t k region true) s = .next s' ∧
      s'.get .EPOCH_STATE k = 1 ∧
      (∃ x ∈ s'.reqs, x.num = k ∧ x.decided = true ∧ region ∉ x.lacking) ∧
      Out.msg .query [k, region] ∈ s'.out ∧
      s'.SameBut s [(.EPOCH_STATE, k)] ∧
      s'.SameBuffers s) ∧
  (∀ (s : State) (k v : Nat) (r : EpochReq),
    s.errs = [] →
    s.req k = some r →
    s.reqOver k = false →
    r.decided = true →
    r.lacking = [] →
    r.work = .period v →
    ∃ s', Machine.exec (.epochApply k) s = .next s' ∧
      s'.get .PIP_PERIOD = v ∧
      s'.get .PIP_ANCHOR_TIME = max s.now r.epoch ∧
      s'.get .PIP_ANCHOR_NUMBER = s.pipAt (max s.now r.epoch) ∧
      s'.get .EPOCH_STATE k = 2 ∧
      s'.get .APPLIED_EPOCH k = r.epoch ∧
      s'.SameBuffers s) ∧
  (∀ (s : State) (k region : Nat) (r : EpochReq),
    s.req k = some r →
    s.reqOver k = false →
    r.decided = false →
    r.lacking = [region] →
    Machine.exec (.epochApply k) s = .next (((s.at r.epoch).raise { code := 0x3003, kind := 1, idx := region, region := region }).finish s))

/-- Hellos make neighbours, silence ends them, and the keeper is elected, taken over and handed over (R56, R57, R58,
R59, R60, R61, R390). What is the model's choice in it and not a rule of the spec: log 35, 80. -/
def Obligations.HellosAndTheKeeper : Prop :=
  (∀ (s : State) (t : Time) (port : Nat),
    port < 512 →
    s.errs = [] →
    s.isFabric port = true →
    s.get .OL_STATE port = 2 →
    ∃ s', Machine.exec (.helloSend t port) s = .next s' ∧
      s'.out = s.out ++ [.msg .hello [port, s.node, s.get .CHIP_SERIAL, s.get .PLANE, s.get .ORCHARD_ID, b2n (s.at t).selfHealthy,
        s.time.rootClass, s.get .TIME_ROOT, s.time.rootHops, s.get .KEEPER_NODE]] ∧
      s'.SameBut s [] ∧
      s'.SameBuffers s) ∧
  (∀ (s : State) (t : Time) (port : Nat) (h : Hello),
    port < 512 →
    s.errs = [] →
    s.isFabric port = true →
    s.get .OL_STATE port = 2 →
    s.nbrCheck h.orchard h.node h.plane = 0 →
    s.dupPorts.filter (· ≠ port) = [] →
    (s.hello port).count = 0 →
    s.get .NEIGHBOUR_STATE port = 0 →
    ∃ s', Machine.exec (.helloReceive t port h) s = .next s' ∧
      s'.get .NEIGHBOUR_STATE port = 1 ∧
      s'.get .NEIGHBOUR_NODE port = h.node ∧
      s'.get .NEIGHBOUR_PORT port = h.port ∧
      s'.get .NEIGHBOUR_SERIAL port = h.serial ∧
      (s'.hello port).last = max s.now t ∧
      s'.SameBuffers s) ∧
  (∀ (s : State) (t : Time) (port : Nat) (h : Hello),
    port < 512 →
    s.errs = [] →
    s.isFabric port = true →
    s.get .OL_STATE port = 2 →
    s.nbrCheck h.orchard h.node h.plane = 0 →
    s.dupPorts.filter (· ≠ port) = [] →
    (s.hello port).count = 1 →
    s.get .NEIGHBOUR_STATE port = 1 →
    max s.now t ≤ (s.hello port).last + us 300 →
    ∃ s', Machine.exec (.helloReceive t port h) s = .next s' ∧
      s'.get .NEIGHBOUR_STATE port = 2 ∧
      ({ node := s.node, port := port, nbr := h.node, nbrPort := h.port } : LinkRec) ∈ s'.topo ∧
      s'.SameBuffers s) ∧
  (∀ (s : State) (t : Time) (port : Nat),
    port < 512 →
    s.errs = [] →
    s.get .NEIGHBOUR_STATE port ≠ 0 →
    (s.hello port).last + us 300 ≤ max s.now t →
    ∃ s', Machine.exec (.neighbourDown t port) s = .next s' ∧
      s'.get .NEIGHBOUR_STATE port = 0 ∧
      s'.get .NEIGHBOUR_NODE port = 0xFF ∧
      s'.get .NEIGHBOUR_PORT port = 0xFFFF ∧
      (∀ k ∈ s'.topo, ¬(k.node = s.node ∧ k.port = port)) ∧
      s'.SameBuffers s) ∧
  (∀ (s : State) (t : Time) (n p m q : Nat) (wd : Bool),
    n < 32 →
    p < 512 →
    m < 32 →
    q < 512 →
    s.errs = [] →
    ∃ s', Machine.exec (.linkStateMessage t n p m q true wd) s = .next s' ∧
      ({ node := n, port := p, nbr := m, nbrPort := q, withdrawn := wd } : LinkRec) ∈ s'.topo ∧
      (∃ k ∈ s'.topo, k.node = m ∧ k.port = q ∧ k.nbr = n ∧ k.nbrPort = p) ∧
      s'.SameBuffers s) ∧
  (∀ (s : State) (t : Time) (n p m q : Nat) (wd : Bool),
    n < 32 →
    p < 512 →
    m < 32 →
    q < 512 →
    s.errs = [] →
    ∃ s', Machine.exec (.linkStateMessage t n p m q false wd) s = .next s' ∧
      (∀ k ∈ s'.topo, ¬(k.node = n ∧ k.port = p) ∧ ¬(k.node = m ∧ k.port = q)) ∧
      s'.SameBuffers s) ∧
  (∀ (s : State) (t : Time),
    s.errs = [] →
    s.get .KEEPER_ROLE = 2 →
    s.selfHealthy = true →
    s.isEdge (max s.now t) = true →
    s.reqs = [] →
    ∃ s', Machine.exec (.keeperTakeover t) s = .next s' ∧
      s'.get .KEEPER_NODE = s.node ∧
      Out.msg .beacon [s.node, s.pip] ∈ s'.out ∧
      s'.SameBuffers s) ∧
  (∀ (s : State) (t : Time) (n : Nat),
    n < 32 →
    s.errs = [] →
    (s.at t).mayHandOver n = true →
    ∃ s', Machine.exec (.keeperHandover t n) s = .next s' ∧
      s'.get .KEEPER_NODE = n ∧
      s'.get .KEEPER_CHANGES = (s.get .KEEPER_CHANGES + 1) % 2 ^ 32 ∧
      Out.msg .handover [n] ∈ s'.out ∧
      s'.SameBuffers s) ∧
  (∀ (s : State) (t : Time) (n : Nat),
    s.errs = [] →
    (s.at t).healthyHere.head? = some n →
    s.majority (s.at t).healthyHere = true →
    s.get .KEEPER_CHANGES = 0 →
    s.get .KEEPER_NODE = 0xFF →
    s.get .KEEPER_ROLE ≠ 4 →
    ∃ s', Machine.exec (.keeperColdElection t) s = .next s' ∧
      s'.get .KEEPER_NODE = n ∧
      s'.get .KEEPER_CHANGES = 1 ∧
      s'.SameBuffers s)

/-- A pip edge advances the pip and applies shadowed values due; engines pause; IPFIX messages leave (R41, R44, R50,
R414). What is the model's choice in it and not a rule of the spec: log 39, 40, 63. -/
def Obligations.EdgesShadowsAndEngines : Prop :=
  (∀ (s : State),
    s.errs = [] →
    s.nothingDue →
    s.pendP = [] →
    ∃ s', Machine.exec (.pipEdge []) s = .next s' ∧
      s'.pip = s.pip + 1 ∧
      s'.now = max s.now (s.edge (s.pip + 1)) ∧
      s'.paused = [] ∧
      s'.seenPip = [] ∧
      Out.pin 38 0 true ∈ s'.out) ∧
  (∀ (s : State) (c v n : Nat),
    s.errs = [] →
    s.nothingDue →
    s.pendP = [{ obj := .SP_LIMIT, row := c, val := v, pip := n }] →
    ∃ s', Machine.exec (.pipEdge []) s = .next s' ∧
      (s'.get .SP_LIMIT c = (if n ≤ s.pip + 1 then v else s.get .SP_LIMIT c)) ∧
      ((s'.pendP = [] ↔ n ≤ s.pip + 1))) ∧
  (∀ (s : State) (t : Time),
    s.errs = [] →
    ∃ s', Machine.exec (.shadowSetClose t) s = .next s' ∧
      s'.closedPip = max s.closedPip (s.pipAt (max s.now t) + 1) ∧
      s'.SameBut s [] ∧
      s'.SameBuffers s) ∧
  (∀ (s : State) (t : Time) (e r : Nat),
    0 < e →
    e < 8 →
    r < 15 →
    s.errs = [] →
    engineRuns e r = true →
    s.pausedIn e r = false →
    ∃ s', Machine.exec (.engineBudgetExhausted t e r 0) s = .next s' ∧
      s'.paused = s.paused ++ [(e, r)] ∧
      s'.pausedIn e r = true ∧
      s'.SameBut s [] ∧
      s'.SameBuffers s) ∧
  (∀ (s : State) (t : Time) (c n : Nat) (x : Bool × Nat × List (List Nat)) (l : List (Bool × Nat × List (List Nat))),
    c < 4 →
    s.errs = [] →
    (s.ipfix.getD {} c).session = some n →
    (s.ipfix.getD {} c).queue = x :: l →
    s.odtakuUp = true →
    s.pathOpen (.udp n) = true →
    s.pausedIn 6 14 = false →
    ∃ s', Machine.exec (.ipfixMessageSend t c) s = .next s' ∧
      (s'.ipfix.getD {} c).queue = l ∧
      s'.get .IPFIX_SENT c = (s.get .IPFIX_SENT c + 1) % 2 ^ 32 ∧
      (s'.ipfix.getD {} c).seq = ((s.ipfix.getD {} c).seq + x.2.2.length) % 2 ^ 32 ∧
      s'.SameBut s [(.IPFIX_SENT, c), (.IPFIX_MESSAGE, c)] ∧
      s'.SameBuffers s) ∧
  (∀ (s : State) (t : Time) (p n : Nat) (e : Nat),
    p < 4096 →
    ((s.mf p).ring n).staged = [e] →
    ((s.mf p).ring n).head < (s.mf p).ringSize n →
    s.get .MF_STATE p = 0 →
    s.get .PARTITION_STATE p = 2 →
    bit ((s.mf p).ringCtrl n) 0 = true →
    bit ((s.mf p).ringCtrl n) 2 = false →
    s.pausedIn 6 (quadRegion (s.get .HOST_PORT p)) = false →
    Machine.exec (.ringBatchWrite t p n) s = .next (((((s.at t).issue p { kind := .memWrite, addr := (s.mf p).ring64 n 0 + 64 * ((s.mf p).ring n).head, data := 64, value := e }).updMf p
      fun m => { m with rings := m.rings.updD {} n fun r =>
        { r with staged := [], head := (((s.mf p).ring n).head + 1) % (s.mf p).ringSize n } }).msix p (34 + n)).finish s))

/-- A received TLP is discarded by a husk, dropped, refused, contained or admitted with its source (R14, R83, R94,
R102, R103, R254, R258, R304). What is the model's choice in it and not a rule of the spec: log 28, 49, 50, 75,
81, 83. -/
def Obligations.TlpsAreParsedAtTheirIngress : Prop :=
  (∀ (s : State) (t : Time) (port : Nat) (tlp : Tlp),
    port < 512 →
    s.errs = [] →
    s.pciUp port = true →
    s.husked port = true →
    s.holdsCredit port tlp.sub = false →
    ∃ s', Machine.exec (.tlpIngressParse t port tlp) s = .next s' ∧
      s'.get .HUSK_DISCARDS port = (s.get .HUSK_DISCARDS port + 1) % 2 ^ 32 ∧
      s'.out = s.out ++ [.credit port tlp.sub 1] ∧
      s'.SameBut s [(.HUSK_DISCARDS, port)] ∧
      s'.SameBuffers s) ∧
  (∀ (s : State) (t : Time) (port : Nat) (tlp : Tlp),
    port < 512 →
    s.errs = [] →
    s.pciUp port = true →
    s.husked port = false →
    s.rx.getD [] (clusterOf port) = [] →
    s.holdsCredit port tlp.sub = false →
    tlp.fault = none →
    parseErrors tlp = [] →
    tlp.kind ≠ .cpl →
    s.sourceOf port tlp.rid = none →
    ∃ s', Machine.exec (.tlpIngressParse t port tlp) s = .next s' ∧
      s'.out = s.out ++ [.event 83 [port, tlp.rid], .credit port tlp.sub 1] ∧
      s'.SameBut s [] ∧
      s'.SameBuffers s) ∧
  (∀ (s : State) (t : Time) (port : Nat) (tlp : Tlp),
    port < 512 →
    s.pciUp port = true →
    s.husked port = false →
    s.rx.getD [] (clusterOf port) = [] →
    (tlp.fault.isSome = true ∨ parseErrors tlp ≠ []) →
    Machine.exec (.tlpIngressParse t port tlp) s = .next (((((s.at t).updPport port fun h => { h with l1 := false }).parseFails port { tlp := tlp, inPort := port, inTime := max s.now t, orchAddr := tlp.addr, internal := true }).finish s))) ∧
  (∀ (s : State) (t : Time) (port part src : Nat) (tlp : Tlp),
    port < 512 →
    s.pciUp port = true →
    s.husked port = false →
    s.rx.getD [] (clusterOf port) = [] →
    tlp.fault = none →
    parseErrors tlp = [] →
    tlp.poisoned = false →
    tlp.kind ≠ .cpl →
    tlp.kind ≠ .msgRoot →
    s.sourceOf port tlp.rid = some (part, src) →
    s.husked (partRow part) = false →
    ((if isHostGfid src then s.decodeHost part { tlp with ecrc := none } else s.decodeAcs part src { tlp with ecrc := none }) = none) →
    Machine.exec (.tlpIngressParse t port tlp) s = .next ((((((s.at t).updPport port fun h => { h with l1 := false }).countRx port
      { tlp := { tlp with ecrc := none }, inPort := port, inTime := max s.now t, orchAddr := tlp.addr, part := part, src := src }).refuseTlp false
      { tlp := { tlp with ecrc := none }, inPort := port, inTime := max s.now t, orchAddr := tlp.addr, part := part, src := src }).creditBack port
      { tlp := { tlp with ecrc := none }, inPort := port, inTime := max s.now t, orchAddr := tlp.addr, part := part, src := src }).finish s)) ∧
  (∀ (s : State) (t : Time) (port part src : Nat) (tlp : Tlp) (dests : List (Nat × Nat × Bool)),
    port < 512 →
    s.pciUp port = true →
    s.husked port = false →
    s.rx.getD [] (clusterOf port) = [] →
    tlp.fault = none →
    parseErrors tlp = [] →
    tlp.poisoned = false →
    tlp.kind ≠ .cpl →
    tlp.kind ≠ .msgRoot →
    s.ideRefuses port tlp = false →
    s.sourceOf port tlp.rid = some (part, src) →
    s.husked (partRow part) = false →
    ((if isHostGfid src then s.decodeHost part { tlp with ecrc := none } else s.decodeAcs part src { tlp with ecrc := none }) = some dests) →
    dests ≠ [] →
    (∀ x ∈ dests, s.reqCut part src x.1 = false ∧ x.1 ≠ chipGfid s.node ∧ (s.targetOf x.1).isSome) →
    Machine.exec (.tlpIngressParse t port tlp) s = .next (((((s.at t).updPport port fun h => { h with l1 := false }).countRx port
      { tlp := { tlp with ecrc := none }, inPort := port, inTime := max s.now t, orchAddr := tlp.addr, part := part, src := src }).admitRequest port
      { tlp := { tlp with ecrc := none }, inPort := port, inTime := max s.now t, orchAddr := tlp.addr, part := part, src := src } dests).finish s)) ∧
  (∀ (s : State) (t : Time) (port : Nat) (tlp : Tlp),
    port < 512 →
    s.pciUp port = true →
    s.husked port = false →
    s.rx.getD [] (clusterOf port) = [] →
    tlp.fault = none →
    parseErrors tlp = [] →
    tlp.kind = .cpl →
    s.ideRefuses port tlp = false →
    Machine.exec (.tlpIngressParse t port tlp) s = .next ((((s.at t).updPport port fun h => { h with l1 := false }).completionIn port { tlp with ecrc := none }).finish s)) ∧
  (∀ (s : State) (t : Time) (port part src : Nat) (tlp : Tlp),
    port < 512 →
    s.pciUp port = true →
    s.husked port = false →
    s.rx.getD [] (clusterOf port) = [] →
    tlp.fault = none →
    parseErrors tlp = [] →
    tlp.kind = .cpl →
    s.ideRefuses port tlp = true →
    s.sourceOf port tlp.cplId = some (part, src) →
    Machine.exec (.tlpIngressParse t port tlp) s = .next (((((s.at t).updPport port fun h => { h with l1 := false }).refuseTlp false {  tlp := tlp, inPort := port, inTime := max s.now t, orchAddr := tlp.addr , part := part, src := src }).creditBack port { tlp := tlp, inPort := port, inTime := max s.now t, orchAddr := tlp.addr }).finish s)) ∧
  (∀ (s : State) (t : Time) (port part src : Nat) (tlp : Tlp),
    port < 512 →
    s.pciUp port = true →
    s.husked port = false →
    s.rx.getD [] (clusterOf port) = [] →
    tlp.fault = none →
    parseErrors tlp = [] →
    tlp.poisoned = false →
    tlp.kind ≠ .cpl →
    tlp.kind ≠ .msgRoot →
    s.sourceOf port tlp.rid = some (part, src) →
    s.husked (partRow part) = true →
    Machine.exec (.tlpIngressParse t port tlp) s = .next ((((((s.at t).updPport port fun h => { h with l1 := false }).countRx port { tlp := { tlp with ecrc := none }, inPort := port, inTime := max s.now t, orchAddr := tlp.addr, part := part, src := src }).huskDiscard (partRow part) { tlp := { tlp with ecrc := none }, inPort := port, inTime := max s.now t, orchAddr := tlp.addr, part := part, src := src } false).creditBack port { tlp := { tlp with ecrc := none }, inPort := port, inTime := max s.now t, orchAddr := tlp.addr, part := part, src := src }).finish s)) ∧
  (∀ (s : State) (t : Time) (port part src : Nat) (tlp : Tlp),
    port < 512 →
    s.pciUp port = true →
    s.husked port = false →
    s.rx.getD [] (clusterOf port) = [] →
    tlp.fault = none →
    parseErrors tlp = [] →
    (tlp.poisoned = true ∨ tlp.kind = .msgRoot) →
    tlp.kind ≠ .cpl →
    s.sourceOf port tlp.rid = some (part, src) →
    s.husked (partRow part) = false →
    Machine.exec (.tlpIngressParse t port tlp) s = .next (((((if tlp.poisoned then (((s.at t).updPport port fun h => { h with l1 := false }).countRx port { tlp := { tlp with ecrc := none }, inPort := port, inTime := max s.now t, orchAddr := tlp.addr, part := part, src := src }).raise (pktErr 0x200C 2 port { tlp := { tlp with ecrc := none }, inPort := port, inTime := max s.now t, orchAddr := tlp.addr, part := part, src := src }) else ((s.at t).updPport port fun h => { h with l1 := false }).countRx port { tlp := { tlp with ecrc := none }, inPort := port, inTime := max s.now t, orchAddr := tlp.addr, part := part, src := src }).errMessage port { tlp := { tlp with ecrc := none }, inPort := port, inTime := max s.now t, orchAddr := tlp.addr, part := part, src := src }).tlpRequestIn port { tlp := { tlp with ecrc := none }, inPort := port, inTime := max s.now t, orchAddr := tlp.addr, part := part, src := src }).finish s))) ∧
  (∀ (s : State) (t : Time) (port : Nat) (tlp : Tlp),
    port < 512 →
    s.pciUp port = true →
    s.husked port = false →
    ((s.rx.getD [] (clusterOf port)).any (fun i => i.port = port && i.why = .parse) = true) →
    Machine.exec (.tlpIngressParse t port tlp) s = .next ((((s.at t).updPport port fun h => { h with l1 := false }).rxPut { port := port, pkt := { tlp := tlp, inPort := port, inTime := max s.now t }, why := .parse }).finish s)) ∧
  (∀ (s : State) (t : Time) (port : Nat) (tlp : Tlp),
    port < 512 →
    s.pciUp port = false →
    Machine.exec (.tlpIngressParse t port tlp) s = .next ((s.at t).finish s))

/-- A host's BAR write is recorded and forwarded, its completion activates the aperture; VF BARs are emulated (R95,
R96, R97, R98, R349). What is the model's choice in it and not a rule of the spec: log 5, 19, 50, 56, 76. -/
def Obligations.BarsAndAperturesFollowTheHost : Prop :=
  (∀ (s : State) (t : Time) (p g gfid bar base rid tag port : Nat),
    p < 4096 →
    g < 65536 →
    gfid < 65536 →
    s.graftCovers p g gfid = true →
    s.get .KIND g ≠ 2 →
    s.ownHostPort p = some port →
    Machine.exec (.hostBarWrite t p g gfid bar base rid tag) s = .next (((({ ((s.at t).recordBar g gfid bar base).dropApertures (fun a => s.apertureOf p gfid bar = some a) with
        apPend := s.apPend.filter (fun (x : ApPend) => !(x.gfid = gfid && x.bar = bar)) ++
          [{ graft := g, gfid := gfid, bar := bar, base := base, rid := rid, tag := tag }] } : State).receive port
      { kind := .cfgWrite, rid := rid, tag := tag, value := base, addr := 0x10 + 4 * bar, byteCount := 4, data := 4,
        target := (s.hostSees p gfid).getD 0 }).finish s))) ∧
  (∀ (s : State) (t : Time) (p g gfid bar base rid tag : Nat),
    p < 4096 →
    g < 65536 →
    gfid < 65536 →
    s.errs = [] →
    s.graftCovers p g gfid = true →
    s.get .KIND g ≠ 2 →
    s.ownHostPort p = none →
    ∃ s', Machine.exec (.hostBarWrite t p g gfid bar base rid tag) s = .next s' ∧
      (s'.grafts.getD {} g).bars.lookup (barKey gfid bar) = some base ∧
      s'.apPend.contains { graft := g, gfid := gfid, bar := bar, base := base, rid := rid, tag := tag } = true ∧
      s'.out = s.out ∧
      s'.SameBuffers s) ∧
  (∀ (s : State) (t : Time) (p g gfid bar base rid tag : Nat),
    p < 4096 →
    g < 65536 →
    gfid < 65536 →
    s.errs = [] →
    (s.graftCovers p g gfid = false ∨ s.get .KIND g = 2) →
    ∃ s', Machine.exec (.hostBarWrite t p g gfid bar base rid tag) s = .next s' ∧
      s'.grafts = s.grafts ∧
      s'.apPend = s.apPend ∧
      s'.out = s.out ∧
      s'.SameBut s [] ∧
      s'.SameBuffers s) ∧
  (∀ (s : State) (t : Time) (p gfid bar : Nat) (x : ApPend) (q : Pkt),
    p < 4096 →
    gfid < 65536 →
    s.odtakuUp = true →
    s.apPend.find? (s.barReady p gfid bar) = some x →
    x.cpl = some q →
    Machine.exec (.apertureActivate t p gfid bar) s = .next ((((({ s.at t with apPend := s.apPend.filter (fun (y : ApPend) => y ≠ x) } : State).setAperture p gfid bar x.base
      (barSize (s.fnInfo gfid).bars bar) x.base 0).event 96 [p, gfid, bar]).inject q).finish s)) ∧
  (∀ (s : State) (t : Time) (p gfid bar : Nat),
    p < 4096 →
    gfid < 65536 →
    s.errs = [] →
    (s.odtakuUp = false ∨ s.apPend.find? (s.barReady p gfid bar) = none) →
    ∃ s', Machine.exec (.apertureActivate t p gfid bar) s = .next s' ∧
      s'.apPend = s.apPend ∧
      s'.out = s.out ∧
      s'.SameBut s [] ∧
      s'.SameBuffers s) ∧
  (∀ (s : State) (t : Time) (p g port : Nat) (c : CfgReq),
    p < 4096 →
    g < 65536 →
    s.graftCovers p g (s.get .GFID g) = true →
    s.get .KIND g = 2 →
    s.odtakuUp = true →
    s.ownHostPort p = some port →
    c.write = true →
    vfEmulated (c.reg / 4 * 4) = true →
    Machine.exec (.vfBarEmulate t p g c) s = .next ((((s.at t).vfWrite p g (c.reg / 4 * 4) c.value).selfCpl port (cfgCpl c 0 0)).finish s)) ∧
  (∀ (s : State) (t : Time) (p g port : Nat) (c : CfgReq),
    p < 4096 →
    g < 65536 →
    s.errs = [] →
    s.graftCovers p g (s.get .GFID g) = true →
    s.get .KIND g = 2 →
    s.odtakuUp = true →
    s.ownHostPort p = some port →
    c.write = false →
    ∃ s', Machine.exec (.vfBarEmulate t p g c) s = .next s' ∧
      s'.out = s.out ++ [.tlp port (s.protect port (cfgCpl c 0 (s.vfWord g (c.reg / 4 * 4))))] ∧
      s'.grafts = s.grafts ∧
      s'.SameBut s [] ∧
      s'.SameBuffers s) ∧
  (∀ (s : State) (t : Time) (p g port : Nat) (c : CfgReq),
    p < 4096 →
    g < 65536 →
    s.errs = [] →
    s.graftCovers p g (s.get .GFID g) = true →
    s.get .KIND g = 2 →
    s.odtakuUp = true →
    s.ownHostPort p = some port →
    c.write = true →
    vfEmulated (c.reg / 4 * 4) = false →
    ∃ s', Machine.exec (.vfBarEmulate t p g c) s = .next s' ∧
      s'.out = s.out ++ [.tlp port (s.protect port (cfgCpl c 0 0))] ∧
      s'.grafts = s.grafts ∧
      s'.SameBut s [] ∧
      s'.SameBuffers s) ∧
  (∀ (s : State) (t : Time) (p g port : Nat) (c : CfgReq),
    p < 4096 →
    g < 65536 →
    s.errs = [] →
    s.graftCovers p g (s.get .GFID g) = true →
    s.get .KIND g = 2 →
    s.odtakuUp = false →
    s.ownHostPort p = some port →
    ∃ s', Machine.exec (.vfBarEmulate t p g c) s = .next s' ∧
      s'.out = s.out ++ [.tlp port (s.protect port (cfgCpl c 2 0))] ∧
      s'.grafts = s.grafts ∧
      s'.SameBut s [] ∧
      s'.SameBuffers s)

/-- WINDOW_COMMIT opens one kind-3 request, WINDOW_DISCARD empties the shadow bank, withheld credits go back (R14,
R100, R101, R106, R161). What is the model's choice in it and not a rule of the spec: log 5, 25. -/
def Obligations.WindowsCommitAndCreditsReturn : Prop :=
  (∀ (s : State) (t : Time) (req : Req) (offers : List Time),
    s.errs = [] →
    s.hears req →
    s.mayInvoke req .WINDOW_COMMIT none = 0 →
    s.stagedWindows ≠ [] →
    (∀ x ∈ s.stagedWindows, (x.1 = 0x5200 → s.windowCheck x.2 = 0) ∧ (x.1 = 0x5410 → s.memberCheck x.2 = 0) ∧ (x.1 = 0x5400 → s.groupCheck x.2 = 0)) →
    s.epochsRefused = false →
    (s.at t).checkOffers offers = 0 →
    s.switching = false →
    s.tooManyPairs = false →
    s.unitsBusy (unitsOf s.windowNodes) = false →
    ∃ s', Machine.exec (.windowCommit t req offers) s = .next s' ∧
      (∃ r ∈ s'.reqs, r.kind = 3 ∧ r.offers = offers ∧ r.units = unitsOf s.windowNodes ∧
        r.work = .windows (s.staged.filter fun h => windowObjs.contains h.obj) ∧ s'.get .EPOCH_KIND r.num = 3 ∧
        s'.get .EPOCH_STATE r.num = 0 ∧ s'.answered req 0 [r.num] ∧
        s'.SameBut s (req.traces ++ s.openedRows r.num)) ∧
      s'.staged = s.staged ∧
      s'.SameBuffers s) ∧
  (∀ (s : State) (t : Time) (req : Req) (offers : List Time),
    s.errs = [] →
    s.hears req →
    s.mayInvoke req .WINDOW_COMMIT none = 0 →
    s.stagedWindows = [] →
    ∃ s', Machine.exec (.windowCommit t req offers) s = .next s' ∧
      s'.answered req 0x0102 [] ∧
      s'.reqs = s.reqs ∧
      s'.SameBut s (req.traces ++ [(.REQUESTS_REFUSED, 0)]) ∧
      s'.SameBuffers s) ∧
  (∀ (s : State) (t : Time) (req : Req),
    s.errs = [] →
    s.hears req →
    s.mayInvoke req .WINDOW_DISCARD none = 0 →
    s.windowPending = false →
    ∃ s', Machine.exec (.windowDiscard t req) s = .next s' ∧
      s'.answered req 0 [] ∧
      (s'.staged = s.staged.filter fun h => !windowObjs.contains h.obj) ∧
      s'.SameBut s (req.traces ++ []) ∧
      s'.SameBuffers s) ∧
  (∀ (s : State) (t : Time) (req : Req),
    s.errs = [] →
    s.hears req →
    s.mayInvoke req .WINDOW_DISCARD none = 0 →
    s.windowPending = true →
    ∃ s', Machine.exec (.windowDiscard t req) s = .next s' ∧
      s'.answered req 0x0401 [] ∧
      s'.staged = s.staged ∧
      s'.SameBut s (req.traces ++ [(.REQUESTS_REFUSED, 0)]) ∧
      s'.SameBuffers s) ∧
  (∀ (s : State) (t : Time) (m port n : Nat) (u : Sub),
    m < 262144 →
    port < 512 →
    s.errs = [] →
    s.meters.keys.Nodup →
    (s.meters.getD {} m).holds = [(port, u)] →
    (s.at t).recovered m = true →
    (∀ x ∈ s.meters, x.1 ≠ m → x.2.holds.contains (port, u) = false) →
    s.withheld.getD 0 (port * 4 + u.code) = n →
    n ≠ 0 →
    ∃ s', Machine.exec (.creditWithholdEnd t m) s = .next s' ∧
      (s'.meters.getD {} m).holds = [] ∧
      s'.withheld.getD 0 (port * 4 + u.code) = 0 ∧
      s'.out = s.out ++ [.credit port u n] ∧
      s'.SameBut s [] ∧
      s'.SameBuffers s) ∧
  (∀ (s : State) (t : Time) (port : Nat) (i : RxItem),
    port < 512 →
    s.rx.getD [] (clusterOf port) = [i] →
    i.port = port →
    Machine.exec (.receiveFifoResume t port) s = .next (({ s.at t with rx := s.rx.updD [] (clusterOf port) fun l => l.filter (·.port ≠ port) }.redo i).finish s)) ∧
  (∀ (s : State) (t : Time) (port : Nat),
    port < 512 →
    s.errs = [] →
    ((s.rx.getD [] (clusterOf port)).all (fun i => i.port ≠ port) = true) →
    ∃ s', Machine.exec (.receiveFifoResume t port) s = .next s' ∧
      s'.out = s.out ∧
      s'.SameBut s [] ∧
      s'.SameBuffers s) ∧
  (∀ (s : State) (t : Time) (port : Nat) (i j : RxItem),
    port < 512 →
    s.rx.getD [] (clusterOf port) = [i, j] →
    i.port = port →
    j.port = port →
    Machine.exec (.receiveFifoResume t port) s = .next ((if ({ s.at t with rx := s.rx.updD [] (clusterOf port) fun l => l.filter (·.port ≠ port) }.redo i).behind port j.pkt.cls then
      ({ s.at t with rx := s.rx.updD [] (clusterOf port) fun l => l.filter (·.port ≠ port) }.redo i).rxPut j
      else ({ s.at t with rx := s.rx.updD [] (clusterOf port) fun l => l.filter (·.port ≠ port) }.redo i).redo j).finish s))

/-- A write of ACTION stages a graft or starts an ungraft, and GRAFT_COMMIT submits every staged row (R75, R76, R78,
R453, R318, R323). What is the model's choice in it and not a rule of the spec: log 5, 25, 26, 75. -/
def Obligations.GraftRowsAreStagedAndCommitted : Prop :=
  (∀ (s : State) (t : Time) (req : Req) (g v : Nat),
    s.errs = [] →
    s.hears req →
    s.resolve (s.principal req.path) 2 (entryOf .ACTION (some g) v).addr = .obj .ACTION g →
    s.switching = false →
    (s.get .GRAFT_STATE g = 0 ∨ s.get .GRAFT_STATE g = 1) →
    (v = 1 ∨ v = 3) →
    ∃ s', Machine.exec (.graftActionWrite t req g v) s = .next s' ∧
      s'.get .GRAFT_STATE g = 1 ∧
      s'.newest .ACTION g = v ∧
      s'.answered req 0 [0xFFFFFFFF, 0xFFFFFFFF] ∧
      s'.SameBut s (req.traces ++ [(.GRAFT_STATE, g)]) ∧
      s'.SameBuffers s) ∧
  (∀ (s : State) (t : Time) (req : Req) (g : Nat),
    s.errs = [] →
    s.hears req →
    s.resolve (s.principal req.path) 2 (entryOf .ACTION (some g) 0).addr = .obj .ACTION g →
    s.switching = false →
    (s.get .GRAFT_STATE g = 0 ∨ s.get .GRAFT_STATE g = 1) →
    ∃ s', Machine.exec (.graftActionWrite t req g 0) s = .next s' ∧
      s'.get .GRAFT_STATE g = 0 ∧
      (s.get .GRAFT_STATE g = 1 → s'.newest .ACTION g = s.get .ACTION g) ∧
      s'.answered req 0 [0xFFFFFFFF, 0xFFFFFFFF] ∧
      s'.SameBut s (req.traces ++ [(.GRAFT_STATE, g), (.ACTION, g)]) ∧
      s'.SameBuffers s) ∧
  (∀ (s : State) (t : Time) (req : Req) (g : Nat),
    s.errs = [] →
    s.hears req →
    s.resolve (s.principal req.path) 2 (entryOf .ACTION (some g) 2).addr = .obj .ACTION g →
    s.switching = false →
    s.get .GRAFT_STATE g = 3 →
    ∃ s', Machine.exec (.graftActionWrite t req g 2) s = .next s' ∧
      s'.get .GRAFT_STATE g = 3 ∧
      s'.get .ACTION g = 2 ∧
      (s'.grafts.getD {} g).abpPip = some (s.pipAfter (max s.now t) (us 5)) ∧
      (s'.grafts.getD {} g).expiry = some (s.edge (s.pipAfter (max s.now t) (us 5)) + ms (s.get .UNGRAFT_TIMEOUT (s.get .PARTITION g))) ∧
      s'.answered req 0 [0xFFFFFFFF, 0xFFFFFFFF] ∧
      s'.SameBut s (req.traces ++ [(.ACTION, g)]) ∧
      s'.SameBuffers s) ∧
  (∀ (s : State) (t : Time) (req : Req) (g : Nat),
    s.errs = [] →
    s.hears req →
    s.resolve (s.principal req.path) 2 (entryOf .ACTION (some g) 3).addr = .obj .ACTION g →
    s.switching = false →
    s.get .GRAFT_STATE g = 3 →
    ∃ s', Machine.exec (.graftActionWrite t req g 3) s = .next s' ∧
      s'.get .GRAFT_STATE g = 3 ∧
      s'.newest .ACTION g = 3 ∧
      s'.grafts = s.grafts ∧
      s'.answered req 0 [0xFFFFFFFF, 0xFFFFFFFF] ∧
      s'.SameBut s (req.traces ++ []) ∧
      s'.SameBuffers s) ∧
  (∀ (s : State) (t : Time) (req : Req) (g : Nat),
    s.errs = [] →
    s.hears req →
    s.resolve (s.principal req.path) 2 (entryOf .ACTION (some g) 0).addr = .obj .ACTION g →
    s.switching = false →
    s.get .GRAFT_STATE g = 3 →
    ∃ s', Machine.exec (.graftActionWrite t req g 0) s = .next s' ∧
      s'.get .GRAFT_STATE g = 3 ∧
      s'.get .ACTION g = 0 ∧
      s'.grafts = s.grafts ∧
      s'.answered req 0 [0xFFFFFFFF, 0xFFFFFFFF] ∧
      s'.SameBut s (req.traces ++ [(.ACTION, g)]) ∧
      s'.SameBuffers s) ∧
  (∀ (s : State) (t : Time) (req : Req) (g v : Nat),
    s.errs = [] →
    s.hears req →
    s.resolve (s.principal req.path) 2 (entryOf .ACTION (some g) v).addr = .obj .ACTION g →
    v ≤ 3 →
    (s.get .GRAFT_STATE g = 2 ∨ s.get .GRAFT_STATE g = 4 ∨ (s.get .GRAFT_STATE g = 3 ∧ v = 1) ∨ (s.get .GRAFT_STATE g ≤ 1 ∧ v = 2)) →
    ∃ s', Machine.exec (.graftActionWrite t req g v) s = .next s' ∧
      s'.answered req 0x0401 [0] ∧
      s'.staged = s.staged ∧
      s'.grafts = s.grafts ∧
      s'.SameBut s (req.traces ++ [(.REQUESTS_REFUSED, 0)]) ∧
      s'.SameBuffers s) ∧
  (∀ (s : State) (t : Time) (req : Req) (offers : List Time),
    s.errs = [] →
    s.hears req →
    s.mayInvoke req .GRAFT_COMMIT none = 0 →
    s.stagedGrafts ≠ [] →
    s.epochsRefused = false →
    (s.at t).checkOffers offers = 0 →
    s.switching = false →
    s.graftChecks s.stagedGrafts = none →
    (s.busyGraft s.stagedGrafts).isNone = true →
    ∃ s', Machine.exec (.graftCommit t req offers) s = .next s' ∧
      (∃ r ∈ s'.reqs, r.kind = 3 ∧ r.offers = offers ∧ r.units = s.graftUnits s.stagedGrafts ∧ r.work = .grafts s.stagedGrafts ∧
        s'.get .EPOCH_KIND r.num = 3 ∧ s'.get .EPOCH_STATE r.num = 0 ∧ s'.answered req 0 [r.num] ∧
        (∀ g ∈ s.stagedGrafts, s'.get .GRAFT_STATE g = 2 ∧ s'.get .GRAFT_REQUEST g = r.num) ∧
        s'.SameBut s (req.traces ++ s.openedRows r.num ++ s.stagedGrafts.flatMap fun g => [(.GRAFT_STATE, g), (.GRAFT_REQUEST, g)])) ∧
      s'.SameBuffers s) ∧
  (∀ (s : State) (t : Time) (req : Req) (offers : List Time) (g c : Nat),
    s.errs = [] →
    s.hears req →
    s.mayInvoke req .GRAFT_COMMIT none = 0 →
    s.stagedGrafts ≠ [] →
    s.epochsRefused = false →
    (s.at t).checkOffers offers = 0 →
    s.switching = false →
    s.graftChecks s.stagedGrafts = some (g, c) →
    ∃ s', Machine.exec (.graftCommit t req offers) s = .next s' ∧
      s'.get .GRAFT_RESULT g = c ∧
      s'.answered req c [] ∧
      s'.reqs = s.reqs ∧
      s'.SameBut s (req.traces ++ [(.GRAFT_RESULT, g), (.REQUESTS_REFUSED, 0)]) ∧
      s'.SameBuffers s) ∧
  (∀ (s : State) (t : Time) (req : Req) (offers : List Time) (g : Nat),
    s.errs = [] →
    s.hears req →
    s.mayInvoke req .GRAFT_COMMIT none = 0 →
    s.stagedGrafts ≠ [] →
    s.epochsRefused = false →
    (s.at t).checkOffers offers = 0 →
    s.switching = false →
    s.graftChecks s.stagedGrafts = none →
    s.busyGraft s.stagedGrafts = some (g, 0x0602) →
    ∃ s', Machine.exec (.graftCommit t req offers) s = .next s' ∧
      s'.get .GRAFT_RESULT g = 0x0602 ∧
      s'.answered req 0x0602 [] ∧
      s'.reqs = s.reqs ∧
      s'.SameBut s (req.traces ++ [(.GRAFT_RESULT, g), (.REQUESTS_REFUSED, 0)]) ∧
      s'.SameBuffers s) ∧
  (∀ (s : State) (t : Time) (req : Req) (offers : List Time) (c : Nat),
    s.errs = [] →
    s.hears req →
    s.mayInvoke req .GRAFT_COMMIT none = 0 →
    firstCode [codeIf s.stagedGrafts.isEmpty 0x0102, codeIf s.epochsRefused 0x0404, (s.at t).checkOffers offers, codeIf s.switching 0x0501] = c →
    c ≠ 0 →
    ∃ s', Machine.exec (.graftCommit t req offers) s = .next s' ∧
      s'.answered req c [] ∧
      s'.reqs = s.reqs ∧
      s'.SameBut s (req.traces ++ [(.REQUESTS_REFUSED, 0)]) ∧
      s'.SameBuffers s) ∧
  (∀ (s : State) (t : Time) (g : Nat) (e : Time),
    g < 65536 →
    s.errs = [] →
    s.get .GRAFT_STATE g = 4 →
    (s.grafts.getD {} g).expiry = some e →
    e ≤ max s.now t →
    s.unitsBusy (s.graftUnits [g]) = false →
    ∃ s', Machine.exec (.ungraftTimeout t g) s = .next s' ∧
      (∃ r ∈ s'.reqs, r.kind = 3 ∧ r.work = .grafts [g] ∧ s'.get .GRAFT_REQUEST g = r.num ∧
        s'.SameBut s ((.ACTION, g) :: (.GRAFT_STATE, g) :: (.GRAFT_REQUEST, g) :: s.openedRows r.num)) ∧
      s'.get .ACTION g = 3 ∧
      s'.get .GRAFT_STATE g = 2 ∧
      s'.SameBuffers s) ∧
  (∀ (s : State) (t : Time) (g : Nat) (e : Time),
    g < 65536 →
    s.errs = [] →
    s.get .GRAFT_STATE g = 4 →
    (s.grafts.getD {} g).expiry = some e →
    e ≤ max s.now t →
    s.unitsBusy (s.graftUnits [g]) = true →
    ∃ s', Machine.exec (.ungraftTimeout t g) s = .next s' ∧
      s'.reqs = s.reqs ∧
      s'.get .ACTION g = 3 ∧
      s'.get .GRAFT_STATE g = 4 ∧
      (s'.grafts.getD {} g).waits = true ∧
      s'.SameBut s [(.ACTION, g)] ∧
      s'.SameBuffers s) ∧
  (∀ (s : State) (t : Time) (g : Nat),
    g < 65536 →
    s.errs = [] →
    (s.get .GRAFT_STATE g ≠ 4 ∨ (s.grafts.getD {} g).expiry = none) →
    ∃ s', Machine.exec (.ungraftTimeout t g) s = .next s' ∧
      s'.reqs = s.reqs ∧
      s'.grafts = s.grafts ∧
      s'.SameBut s [] ∧
      s'.SameBuffers s)

/-- A host's link disable cuts a bridge, its power-off starts an ungraft, and its resets reach the function (R74,
R78, R79, R81, R116). What is the model's choice in it and not a rule of the spec: log 11, 26, 51, 56. -/
def Obligations.HostsPowerResetAndConfigureSlots : Prop :=
  (∀ (s : State) (t : Time) (p k : Nat),
    p < 4096 →
    k < 256 →
    s.errs = [] →
    s.presents p = true →
    k < s.get .VDSB_COUNT p →
    (s.bridge p k).powerOff = false →
    (s.bridge p k).linkDis = false →
    ∃ s', Machine.exec (.hostSlotPowerControl t p k false true) s = .next s' ∧
      (s'.bridge p k).linkDis = true ∧
      (s'.bridge p k).dllla = false ∧
      (s'.bridge p k).powerOff = false ∧
      (∀ x ∈ s'.queues, ∀ q ∈ x.2.pkts, ¬(q.part = p ∧ ((q.src = hostGfid p ∧ q.dest ∈ (s.graftsAt p k).flatMap s.graftFns) ∨
        (q.dest = hostGfid p ∧ q.src ∈ (s.graftsAt p k).flatMap s.graftFns)))) ∧
      s'.tags = s.tags ∧
      s'.rx = s.rx ∧
      s'.grafts = s.grafts ∧
      s'.SameBut s []) ∧
  (∀ (s : State) (t : Time) (p k g : Nat),
    p < 4096 →
    k < 256 →
    s.errs = [] →
    s.presents p = true →
    k < s.get .VDSB_COUNT p →
    (s.bridge p k).powerOff = false →
    (s.bridge p k).linkDis = false →
    s.graftsAt p k = [g] →
    s.get .GRAFT_STATE g = 4 →
    s.unitsBusy (s.graftUnits [g]) = false →
    ∃ s', Machine.exec (.hostSlotPowerControl t p k true false) s = .next s' ∧
      (∃ r ∈ s'.reqs, r.kind = 3 ∧ r.work = .grafts [g] ∧ s'.get .GRAFT_REQUEST g = r.num ∧
        s'.SameBut s ((.GRAFT_STATE, g) :: (.GRAFT_REQUEST, g) :: s.openedRows r.num)) ∧
      s'.get .GRAFT_STATE g = 2 ∧
      (s'.bridge p k).powerOff = false ∧
      s'.SameBuffers s) ∧
  (∀ (s : State) (t : Time) (p k g : Nat),
    p < 4096 →
    k < 256 →
    s.errs = [] →
    s.presents p = true →
    k < s.get .VDSB_COUNT p →
    (s.bridge p k).powerOff = false →
    (s.bridge p k).linkDis = true →
    s.graftsAt p k = [g] →
    s.get .KIND g = 0 →
    ∃ s', Machine.exec (.hostSlotPowerControl t p k false false) s = .next s' ∧
      (s'.bridge p k).linkDis = false ∧
      (s'.bridge p k).resetting.isSome = true ∧
      s'.out = s.out ++ [.link 81 [s.get .FN_NODE (s.get .GFID g), s.get .FN_PORT (s.get .GFID g), 1]] ∧
      s'.SameBut s [] ∧
      s'.SameBuffers s) ∧
  (∀ (s : State) (t : Time) (p k : Nat) (off dis : Bool),
    p < 4096 →
    k < 256 →
    s.presents p = true →
    k < s.get .VDSB_COUNT p →
    Machine.exec (.hostSlotPowerControl t p k off dis) s = .next (((s.at t).slotPower p k off dis).finish s)) ∧
  (∀ (s : State) (t : Time) (p k : Nat) (off dis : Bool),
    p < 4096 →
    k < 256 →
    s.errs = [] →
    (s.presents p = false ∨ s.get .VDSB_COUNT p ≤ k) →
    ∃ s', Machine.exec (.hostSlotPowerControl t p k off dis) s = .next s' ∧
      s'.bridges = s.bridges ∧
      s'.out = s.out ∧
      s'.SameBut s [] ∧
      s'.SameBuffers s) ∧
  (∀ (s : State) (t : Time) (p k : Nat),
    p < 4096 →
    k < 256 →
    s.errs = [] →
    (s.presents p = false ∨ s.get .VDSB_COUNT p ≤ k ∨ s.graftsAt p k = []) →
    ∃ s', Machine.exec (.hostSecondaryBusReset t p k) s = .next s' ∧
      s'.tags = s.tags ∧
      s'.out = s.out ∧
      s'.SameBut s [] ∧
      s'.SameBuffers s) ∧
  (∀ (s : State) (t : Time) (p k : Nat),
    p < 4096 →
    k < 256 →
    s.presents p = true →
    k < s.get .VDSB_COUNT p →
    Machine.exec (.hostSecondaryBusReset t p k) s = .next (((s.graftsAt p k).foldl (fun s g => s.resetGraft p g) (s.at t)).finish s)) ∧
  (∀ (s : State) (t : Time) (p k g : Nat),
    p < 4096 →
    k < 256 →
    s.errs = [] →
    s.presents p = true →
    k < s.get .VDSB_COUNT p →
    s.graftsAt p k = [g] →
    s.get .KIND g = 0 →
    ∃ s', Machine.exec (.hostSecondaryBusReset t p k) s = .next s' ∧
      s'.out = s.out ++ [.link 81 [s.get .FN_NODE (s.get .GFID g), s.get .FN_PORT (s.get .GFID g), 1]] ∧
      s'.SameBut s [] ∧
      s'.SameBuffers s) ∧
  (∀ (s : State) (t : Time) (p k g : Nat),
    p < 4096 →
    k < 256 →
    s.errs = [] →
    s.presents p = true →
    k < s.get .VDSB_COUNT p →
    s.graftsAt p k = [g] →
    s.get .KIND g ≠ 0 →
    (∀ v ∈ (s.rowsOf .PARENT_PF).keys, s.get .PARENT_PF v = s.get .GFID g → ¬(s.get .HELD_BY v < 4096 ∧ s.get .HELD_BY v ≠ p)) →
    ∃ s', Machine.exec (.hostSecondaryBusReset t p k) s = .next s' ∧
      s'.out = s.out ++ [.link 81 [s.get .GFID g]] ∧
      (s'.tags = s.tags.map fun (x : Nat × TagEntry) => if !x.2.quarantined && decide (x.2.reqG = s.get .GFID g) then
          (x.1, { x.2 with quarantined := true, deadline := (s.at t).now40, qend := ((s.at t).now40 + 2 * ((x.2.deadline + 2 ^ 40 - x.2.issued) % 2 ^ 40)) % 2 ^ 40 }) else x) ∧
      s'.cells = s.cells ∧
      s'.queues = s.queues ∧
      s'.rx = s.rx ∧
      s'.SameBut s []) ∧
  (∀ (s : State) (t : Time) (p g : Nat),
    p < 4096 →
    g < 65536 →
    s.errs = [] →
    s.graftHere p g = true →
    (∀ v ∈ (s.rowsOf .PARENT_PF).keys, s.get .PARENT_PF v = s.get .GFID g → ¬(s.get .HELD_BY v < 4096 ∧ s.get .HELD_BY v ≠ p)) →
    ∃ s', Machine.exec (.hostFunctionLevelReset t p g) s = .next s' ∧
      s'.out = s.out ++ [.link 81 [s.get .GFID g]] ∧
      (s'.tags = s.tags.map fun (x : Nat × TagEntry) => if !x.2.quarantined && decide (x.2.reqG = s.get .GFID g) then
          (x.1, { x.2 with quarantined := true, deadline := (s.at t).now40, qend := ((s.at t).now40 + 2 * ((x.2.deadline + 2 ^ 40 - x.2.issued) % 2 ^ 40)) % 2 ^ 40 }) else x) ∧
      s'.cells = s.cells ∧
      s'.queues = s.queues ∧
      s'.rx = s.rx ∧
      s'.SameBut s []) ∧
  (∀ (s : State) (t : Time) (p g v : Nat),
    p < 4096 →
    g < 65536 →
    s.errs = [] →
    s.graftHere p g = true →
    v ∈ (s.rowsOf .PARENT_PF).keys →
    s.get .PARENT_PF v = s.get .GFID g →
    s.get .HELD_BY v < 4096 →
    s.get .HELD_BY v ≠ p →
    ∃ s', Machine.exec (.hostFunctionLevelReset t p g) s = .next s' ∧
      s'.out = s.out ++ [.event 74 [p, s.get .GFID g]] ∧
      s'.SameBut s [] ∧
      s'.SameBuffers s) ∧
  (∀ (s : State) (t : Time) (p g : Nat),
    p < 4096 →
    g < 65536 →
    s.errs = [] →
    s.graftHere p g = false →
    ∃ s', Machine.exec (.hostFunctionLevelReset t p g) s = .next s' ∧
      s'.tags = s.tags ∧
      s'.out = s.out ∧
      s'.SameBut s [] ∧
      s'.SameBuffers s) ∧
  (∀ (s : State) (t : Time) (p g v rid tag port : Nat),
    p < 4096 →
    g < 65536 →
    s.errs = [] →
    s.graftHere p g = true →
    s.ownHostPort p = some port →
    ∃ s', Machine.exec (.hostConfigShadowWrite t p g .maxPayload v rid tag) s = .next s' ∧
      (s'.grafts.getD {} g).mps = v % 8 ∧
      s'.out = s.out ++ [.tlp port (s.protect port { kind := .cpl, rid := rid, tag := tag, cplId := (s.hostSees p (s.get .GFID g)).getD 0, byteCount := 4 })] ∧
      s'.SameBut s [] ∧
      s'.SameBuffers s) ∧
  (∀ (s : State) (t : Time) (p g v rid tag port : Nat) (r : ShadowReg),
    p < 4096 →
    g < 65536 →
    s.errs = [] →
    s.graftHere p g = true →
    s.ownHostPort p = some port →
    (r = .linkControl ∨ r = .sriovControl) →
    ∃ s', Machine.exec (.hostConfigShadowWrite t p g r v rid tag) s = .next s' ∧
      s'.grafts = s.grafts ∧
      s'.out = s.out ++ [.tlp port (s.protect port { kind := .cpl, rid := rid, tag := tag, cplId := (s.hostSees p (s.get .GFID g)).getD 0, byteCount := 4 })] ∧
      s'.SameBut s [] ∧
      s'.SameBuffers s) ∧
  (∀ (s : State) (t : Time) (p g v rid tag port : Nat) (r : ShadowReg),
    p < 4096 →
    g < 65536 →
    s.errs = [] →
    s.graftHere p g = true →
    s.ownHostPort p = some port →
    s.sharedDevice p (s.get .GFID g) = true →
    (r = .aerMask ∨ r = .aerSeverity ∨ r = .aerCorMask) →
    ∃ s', Machine.exec (.hostConfigShadowWrite t p g r v rid tag) s = .next s' ∧
      (r = .aerMask → (s'.grafts.getD {} g).aerMask = v) ∧
      (r = .aerSeverity → (s'.grafts.getD {} g).aerSev = v) ∧
      (r = .aerCorMask → (s'.grafts.getD {} g).aerCorMask = v) ∧
      s'.out = s.out ++ [.tlp port (s.protect port { kind := .cpl, rid := rid, tag := tag, cplId := (s.hostSees p (s.get .GFID g)).getD 0, byteCount := 4 })] ∧
      s'.SameBut s [] ∧
      s'.SameBuffers s) ∧
  (∀ (s : State) (t : Time) (p g v rid tag port : Nat),
    p < 4096 →
    g < 65536 →
    s.graftHere p g = true →
    s.ownHostPort p = some port →
    s.sharedDevice p (s.get .GFID g) = false →
    Machine.exec (.hostConfigShadowWrite t p g .aerMask v rid tag) s = .next (((((s.at t).updGraft g fun h => { h with aerMask := v }).receive port
      { kind := .cfgWrite, rid := rid, tag := tag, addr := (s.fnInfo (s.get .GFID g)).aerCap + 8,
        target := (s.hostSees p (s.get .GFID g)).getD 0, value := v, byteCount := 4, data := 4 }).finish s))) ∧
  (∀ (s : State) (t : Time) (p g v rid tag port : Nat),
    p < 4096 →
    g < 65536 →
    s.graftHere p g = true →
    s.ownHostPort p = some port →
    s.sharedDevice p (s.get .GFID g) = false →
    Machine.exec (.hostConfigShadowWrite t p g .aerSeverity v rid tag) s = .next (((((s.at t).updGraft g fun h => { h with aerSev := v }).receive port
      { kind := .cfgWrite, rid := rid, tag := tag, addr := (s.fnInfo (s.get .GFID g)).aerCap + 12,
        target := (s.hostSees p (s.get .GFID g)).getD 0, value := v, byteCount := 4, data := 4 }).finish s))) ∧
  (∀ (s : State) (t : Time) (p g v rid tag port : Nat),
    p < 4096 →
    g < 65536 →
    s.graftHere p g = true →
    s.ownHostPort p = some port →
    s.sharedDevice p (s.get .GFID g) = false →
    Machine.exec (.hostConfigShadowWrite t p g .aerCorMask v rid tag) s = .next (((((s.at t).updGraft g fun h => { h with aerCorMask := v }).receive port
      { kind := .cfgWrite, rid := rid, tag := tag, addr := (s.fnInfo (s.get .GFID g)).aerCap + 20,
        target := (s.hostSees p (s.get .GFID g)).getD 0, value := v, byteCount := 4, data := 4 }).finish s))) ∧
  (∀ (s : State) (t : Time) (p g v rid tag port : Nat),
    p < 4096 →
    g < 65536 →
    s.graftHere p g = true →
    s.ownHostPort p = some port →
    Machine.exec (.hostConfigShadowWrite t p g .initiateFlr v rid tag) s = .next (((if bit v 0 then (s.at t).fnReset p (s.get .GFID g) else s.at t).selfCpl port { kind := .cpl, rid := rid, tag := tag, cplId := (s.hostSees p (s.get .GFID g)).getD 0, byteCount := 4 }).finish s)) ∧
  (∀ (s : State) (t : Time) (p g v rid tag : Nat) (r : ShadowReg),
    p < 4096 →
    g < 65536 →
    s.errs = [] →
    s.graftHere p g = false →
    ∃ s', Machine.exec (.hostConfigShadowWrite t p g r v rid tag) s = .next s' ∧
      s'.grafts = s.grafts ∧
      s'.out = s.out ∧
      s'.SameBut s [] ∧
      s'.SameBuffers s)

/-- A host's configuration request is completed by hardware, left to firmware, retried or unsupported (R67, R70,
R71, R72, R304). What is the model's choice in it and not a rule of the spec: log 11, 50, 57. -/
def Obligations.HostConfigurationRequestsAreCompleted : Prop :=
  (∀ (s : State) (t : Time) (port : Nat) (c : CfgReq),
    port < 512 →
    s.errs = [] →
    s.isHost port = true →
    (s.pport port).up = true →
    s.husked port = false →
    s.partOfPort port = none →
    ∃ s', Machine.exec (.hostConfigRequest t port c) s = .next s' ∧
      s'.out = s.out ++ [.tlp port (s.protect port (cfgCpl c 2 0))] ∧
      s'.SameBut s [] ∧
      s'.SameBuffers s) ∧
  (∀ (s : State) (t : Time) (port p : Nat) (c : CfgReq),
    port < 512 →
    s.errs = [] →
    s.isHost port = true →
    (s.pport port).up = true →
    s.husked port = false →
    s.partOfPort port = some p →
    s.presents p = false →
    ∃ s', Machine.exec (.hostConfigRequest t port c) s = .next s' ∧
      s'.out = s.out ++ [.tlp port (s.protect port (cfgCpl c 2 0))] ∧
      s'.SameBut s [] ∧
      s'.SameBuffers s) ∧
  (∀ (s : State) (t : Time) (port p : Nat) (c : CfgReq),
    port < 512 →
    s.errs = [] →
    s.isHost port = true →
    (s.pport port).up = true →
    s.husked port = false →
    s.partOfPort port = some p →
    s.presents p = true →
    s.cfgBelow p c = false →
    s.cfgElem p c = none →
    s.keyOf { dest := hostGfid p, src := chipGfid s.node, part := p, ur := true, tlp := { cfgCpl c 1 0 with target := cfgId c, hdr := 16 } } = none →
    ∃ s', Machine.exec (.hostConfigRequest t port c) s = .next s' ∧
      s'.out = s.out ++ [.tlp port (s.protect port { cfgCpl c 1 0 with target := 0, hdr := 16, cplId := s.urCompleter { tlp := { addr := 0, target := cfgId c }, part := p } })] ∧
      s'.SameBut s [] ∧
      s'.SameBuffers s) ∧
  (∀ (s : State) (t : Time) (port p e : Nat) (c : CfgReq),
    port < 512 →
    s.errs = [] →
    s.isHost port = true →
    (s.pport port).up = true →
    s.husked port = false →
    s.partOfPort port = some p →
    s.presents p = true →
    s.cfgBelow p c = false →
    s.cfgElem p c = some e →
    c.write = false →
    c.reg < 256 →
    ¬(e = 1 ∧ s.get .MF_STATE p = 1) →
    ∃ s', Machine.exec (.hostConfigRequest t port c) s = .next s' ∧
      s'.out = s.out ++ [.tlp port (s.protect port (cfgCpl c 0 (s.cfgRead p e c.reg)))] ∧
      s'.SameBut s [] ∧
      s'.SameBuffers s) ∧
  (∀ (s : State) (t : Time) (port p e : Nat) (c : CfgReq),
    port < 512 →
    s.errs = [] →
    s.isHost port = true →
    (s.pport port).up = true →
    s.husked port = false →
    s.partOfPort port = some p →
    s.presents p = true →
    s.cfgBelow p c = false →
    s.cfgElem p c = some e →
    256 ≤ c.reg →
    s.odtakuUp = true →
    ∃ s', Machine.exec (.hostConfigRequest t port c) s = .next s' ∧
      s'.cfgWait.getD [] p = s.cfgWait.getD [] p ++ [c] ∧
      s'.get .CFG_FW_PENDING p = ((s.cfgWait.getD [] p).length + 1) % 256 ∧
      s'.out = s.out ∧
      s'.SameBut s [(.CFG_FW_PENDING, p)] ∧
      s'.SameBuffers s) ∧
  (∀ (s : State) (t : Time) (port p e : Nat) (c : CfgReq),
    port < 512 →
    s.errs = [] →
    s.isHost port = true →
    (s.pport port).up = true →
    s.husked port = false →
    s.partOfPort port = some p →
    s.presents p = true →
    s.cfgBelow p c = false →
    s.cfgElem p c = some e →
    256 ≤ c.reg →
    s.odtakuUp = false →
    ∃ s', Machine.exec (.hostConfigRequest t port c) s = .next s' ∧
      s'.out = s.out ++ [.tlp port (s.protect port (cfgCpl c 2 0))] ∧
      s'.SameBut s [] ∧
      s'.SameBuffers s) ∧
  (∀ (s : State) (t : Time) (port p : Nat) (c : CfgReq),
    port < 512 →
    s.errs = [] →
    s.isHost port = true →
    (s.pport port).up = true →
    s.husked port = false →
    s.partOfPort port = some p →
    s.presents p = true →
    s.cfgBelow p c = false →
    s.cfgElem p c = some 1 →
    c.reg < 256 →
    s.get .MF_STATE p = 1 →
    ∃ s', Machine.exec (.hostConfigRequest t port c) s = .next s' ∧
      s'.out = s.out ++ [.tlp port (s.protect port (cfgCpl c 2 0))] ∧
      s'.SameBut s [] ∧
      s'.SameBuffers s) ∧
  (∀ (s : State) (t : Time) (port p e : Nat) (c : CfgReq),
    port < 512 →
    s.isHost port = true →
    (s.pport port).up = true →
    s.husked port = false →
    s.partOfPort port = some p →
    s.presents p = true →
    s.cfgBelow p c = false →
    s.cfgElem p c = some e →
    c.write = true →
    c.reg < 256 →
    ¬(e = 1 ∧ s.get .MF_STATE p = 1) →
    Machine.exec (.hostConfigRequest t port c) s = .next ((((s.at t).cfgWrite p e c.reg c.value).selfCpl port (cfgCpl c 0 0)).finish s)) ∧
  (∀ (s : State) (t : Time) (port p : Nat) (c : CfgReq),
    port < 512 →
    s.isHost port = true →
    (s.pport port).up = true →
    s.husked port = false →
    s.partOfPort port = some p →
    s.presents p = true →
    s.cfgBelow p c = false →
    s.cfgElem p c = none →
    Machine.exec (.hostConfigRequest t port c) s = .next (((s.at t).cfgUr port p c).finish s)) ∧
  (∀ (s : State) (t : Time) (port p : Nat) (c : CfgReq),
    port < 512 →
    s.isHost port = true →
    (s.pport port).up = true →
    s.husked port = false →
    s.partOfPort port = some p →
    s.presents p = true →
    s.cfgBelow p c = true →
    s.husked (partRow p) = true →
    Machine.exec (.hostConfigRequest t port c) s = .next (((s.at t).cfgUr port p c).finish s)) ∧
  (∀ (s : State) (t : Time) (port p k : Nat) (c : CfgReq),
    port < 512 →
    s.isHost port = true →
    (s.pport port).up = true →
    s.husked port = false →
    s.partOfPort port = some p →
    s.presents p = true →
    s.cfgBelow p c = true →
    s.bridgeOfBus p c.bus = some (k, true) →
    s.graftsAt p k = [] →
    Machine.exec (.hostConfigRequest t port c) s = .next (((s.at t).cfgUr port p c).finish s)) ∧
  (∀ (s : State) (t : Time) (port p k : Nat) (c : CfgReq),
    port < 512 →
    s.isHost port = true →
    (s.pport port).up = true →
    s.husked port = false →
    s.partOfPort port = some p →
    s.presents p = true →
    s.cfgBelow p c = true →
    s.husked (partRow p) = false →
    (s.bridgeOfBus p c.bus = some (k, false) ∨ (s.bridgeOfBus p c.bus = some (k, true) ∧ (s.graftsAt p k).any (fun g => s.get .VFUNC g = 0) = true)) →
    s.cfgGraft p (cfgId c) = none →
    Machine.exec (.hostConfigRequest t port c) s = .next (((s.at t).receive port (cfgTlp c)).finish s)) ∧
  (∀ (s : State) (t : Time) (port p g f k : Nat) (c : CfgReq),
    port < 512 →
    s.isHost port = true →
    (s.pport port).up = true →
    s.husked port = false →
    s.partOfPort port = some p →
    s.presents p = true →
    s.cfgBelow p c = true →
    s.husked (partRow p) = false →
    s.bridgeOfBus p c.bus = some (k, true) →
    ((s.graftsAt p k).any (fun g => s.get .VFUNC g = 0) = true) →
    s.cfgGraft p (cfgId c) = some (g, f) →
    s.get .KIND g ≠ 2 →
    c.write = false →
    Machine.exec (.hostConfigRequest t port c) s = .next (((s.at t).receive port (cfgTlp c)).finish s)) ∧
  (∀ (s : State) (t : Time) (port p g f k : Nat) (c : CfgReq),
    port < 512 →
    s.isHost port = true →
    (s.pport port).up = true →
    s.husked port = false →
    s.partOfPort port = some p →
    s.presents p = true →
    s.cfgBelow p c = true →
    s.husked (partRow p) = false →
    s.bridgeOfBus p c.bus = some (k, true) →
    ((s.graftsAt p k).any (fun g => s.get .VFUNC g = 0) = true) →
    s.cfgGraft p (cfgId c) = some (g, f) →
    Machine.exec (.hostConfigRequest t port c) s = .next (((s.at t).cfgFn port p g f c).finish s)) ∧
  (∀ (s : State) (t : Time) (port : Nat) (c : CfgReq),
    port < 512 →
    s.errs = [] →
    (s.isHost port = false ∨ (s.pport port).up = false) →
    ∃ s', Machine.exec (.hostConfigRequest t port c) s = .next s' ∧
      s'.out = s.out ∧
      s'.SameBut s [] ∧
      s'.SameBuffers s) ∧
  (∀ (s : State) (t : Time) (port : Nat) (c : CfgReq),
    port < 512 →
    s.errs = [] →
    s.isHost port = true →
    (s.pport port).up = true →
    s.husked port = true →
    ∃ s', Machine.exec (.hostConfigRequest t port c) s = .next s' ∧
      s'.get .HUSK_DISCARDS port = (s.get .HUSK_DISCARDS port + 1) % 2 ^ 32 ∧
      s'.out = s.out ∧
      s'.SameBut s [(.HUSK_DISCARDS, port)] ∧
      s'.SameBuffers s) ∧
  (∀ (s : State) (t : Time) (p e : Nat) (c : CfgReq) (cs : List CfgReq),
    p < 4096 →
    s.errs = [] →
    s.cfgWait.getD [] p = c :: cs →
    s.odtakuUp = true →
    s.cfgBelow p c = false →
    s.cfgElem p c = some e →
    c.write = false →
    ¬(e = 1 ∧ s.get .MF_STATE p = 1) →
    ∃ s', Machine.exec (.configFwCompletion t p) s = .next s' ∧
      s'.cfgWait.getD [] p = cs ∧
      s'.get .CFG_FW_PENDING p = cs.length % 256 ∧
      s'.out = s.out ++ [.tlp (s.get .HOST_PORT p) (s.protect (s.get .HOST_PORT p) (cfgCpl c 0 (s.cfgRead p e c.reg)))] ∧
      s'.SameBut s [(.CFG_FW_PENDING, p)] ∧
      s'.SameBuffers s) ∧
  (∀ (s : State) (t : Time) (p : Nat) (c : CfgReq) (cs : List CfgReq),
    p < 4096 →
    s.errs = [] →
    s.cfgWait.getD [] p = c :: cs →
    s.odtakuUp = true →
    s.cfgBelow p c = false →
    s.cfgElem p c = some 1 →
    s.get .MF_STATE p = 1 →
    ∃ s', Machine.exec (.configFwCompletion t p) s = .next s' ∧
      s'.cfgWait.getD [] p = cs ∧
      s'.get .CFG_FW_PENDING p = cs.length % 256 ∧
      s'.out = s.out ++ [.tlp (s.get .HOST_PORT p) (s.protect (s.get .HOST_PORT p) (cfgCpl c 2 0))] ∧
      s'.SameBut s [(.CFG_FW_PENDING, p)] ∧
      s'.SameBuffers s) ∧
  (∀ (s : State) (t : Time) (p e : Nat) (c : CfgReq) (cs : List CfgReq),
    p < 4096 →
    s.cfgWait.getD [] p = c :: cs →
    s.odtakuUp = true →
    s.cfgBelow p c = false →
    s.cfgElem p c = some e →
    c.write = true →
    ¬(e = 1 ∧ s.get .MF_STATE p = 1) →
    Machine.exec (.configFwCompletion t p) s = .next (((((s.at t).setCfgWait p cs).cfgWrite p e c.reg c.value).selfCpl (s.get .HOST_PORT p) (cfgCpl c 0 0)).finish s)) ∧
  (∀ (s : State) (t : Time) (p : Nat) (c : CfgReq) (cs : List CfgReq),
    p < 4096 →
    s.cfgWait.getD [] p = c :: cs →
    s.odtakuUp = true →
    ((s.cfgBelow p c = false ∧ s.cfgElem p c = none) ∨ (s.cfgBelow p c = true ∧ s.cfgGraft p (cfgId c) = none)) →
    Machine.exec (.configFwCompletion t p) s = .next ((((s.at t).setCfgWait p cs).cfgUr (s.get .HOST_PORT p) p c).finish s)) ∧
  (∀ (s : State) (t : Time) (p g f : Nat) (c : CfgReq) (cs : List CfgReq),
    p < 4096 →
    s.cfgWait.getD [] p = c :: cs →
    s.odtakuUp = true →
    s.cfgBelow p c = true →
    s.cfgGraft p (cfgId c) = some (g, f) →
    Machine.exec (.configFwCompletion t p) s = .next ((((s.at t).setCfgWait p cs).vfAccess p g c).finish s)) ∧
  (∀ (s : State) (t : Time) (p : Nat),
    p < 4096 →
    s.errs = [] →
    (s.cfgWait.getD [] p = [] ∨ s.odtakuUp = false) →
    ∃ s', Machine.exec (.configFwCompletion t p) s = .next s' ∧
      s'.cfgWait = s.cfgWait ∧
      s'.out = s.out ∧
      s'.SameBut s [] ∧
      s'.SameBuffers s)

/-- Enumeration of a device's functions, and the virtual functions that a write of SRIOV_NUMVFS makes (R65, R66,
R260, R262). What is the model's choice in it and not a rule of the spec: log 5, 19. -/
def Obligations.DevicesAreEnumerated : Prop :=
  (∀ (s : State) (t : Time) (port g : Nat) (f : FnInfo),
    port < 512 →
    s.errs = [] →
    s.isDevice port = true →
    s.get .DP_STATE port = 3 →
    (s.pport port).up = true →
    s.get .KEEPER_NODE < 32 →
    s.odtakuUp = true →
    s.get .IDE_MODE port ≠ 2 →
    f.ide = false →
    f.kind ≠ 2 →
    s.fnAt s.node port f.pos = some g →
    s.get .FN_IDS g = f.ids →
    s.get .SRIOV_NUMVFS g = 0 →
    (∀ x ∈ s.vfsOf g, x ∈ s.fnsOfPort port) →
    s.pendingReqs = [] →
    s.get .KEEPER_ROLE ≠ 1 →
    ∃ s', Machine.exec (.deviceEnumeration t port [f]) s = .next s' ∧
      s'.get .DP_STATE port = 4 ∧
      s'.get .PRESENT g = 1 ∧
      (∀ x ∈ s.fnsOfPort port, x ≠ g → s'.get .PRESENT x = 0) ∧
      Out.event 65 [port] ∈ s'.out ∧
      s'.SameBut s ((.DP_STATE, port) :: (s.fnsOfPort port).map (.PRESENT, ·)) ∧
      s'.SameBuffers s) ∧
  (∀ (s : State) (t : Time) (port : Nat) (f : FnInfo),
    port < 512 →
    s.errs = [] →
    s.isDevice port = true →
    s.get .DP_STATE port = 3 →
    (s.pport port).up = true →
    s.get .KEEPER_NODE < 32 →
    s.odtakuUp = true →
    s.get .IDE_MODE port ≠ 2 →
    f.ide = false →
    f.kind ≠ 2 →
    s.fnAt s.node port f.pos = none →
    s.rowsOf .SRIOV_NUMVFS = [] →
    s.node < 32 →
    s.get .KEEPER_ROLE ≠ 1 →
    ∃ s', Machine.exec (.deviceEnumeration t port [f]) s = .next s' ∧
      s'.get .DP_STATE port = 4 ∧
      (∃ g ∈ (s'.rowsOf .FN_PORT).keys, s'.get .FN_NODE g = s.node ∧ s'.get .FN_PORT g = port ∧ s'.get .FN_POSITION g = f.pos ∧
        s'.get .FN_KIND g = f.kind ∧ s'.get .FN_IDS g = f.ids ∧ s'.get .PRESENT g = 1) ∧
      Out.event 65 [port] ∈ s'.out ∧
      s'.SameBuffers s) ∧
  (∀ (s : State) (t : Time) (port : Nat) (fns : List FnInfo),
    port < 512 →
    s.errs = [] →
    s.isDevice port = true →
    s.get .DP_STATE port = 3 →
    (s.pport port).up = true →
    s.get .KEEPER_NODE < 32 →
    s.odtakuUp = true →
    s.get .IDE_MODE port = 2 →
    (∀ f ∈ fns, f.ide = false) →
    ∃ s', Machine.exec (.deviceEnumeration t port fns) s = .next s' ∧
      s'.out = s.out ++ [.event 260 [port]] ∧
      s'.SameBut s [] ∧
      s'.SameBuffers s) ∧
  (∀ (s : State) (t : Time) (port : Nat) (fns : List FnInfo),
    port < 512 →
    s.isDevice port = true →
    s.get .DP_STATE port = 3 →
    (s.pport port).up = true →
    s.get .KEEPER_NODE < 32 →
    s.odtakuUp = true →
    (s.get .IDE_MODE port ≠ 2 ∨ fns.any (·.ide) = true) →
    Machine.exec (.deviceEnumeration t port fns) s = .next (((({ (((((((s.at t).deviceIde port fns).enumerated port fns).emit (.link 73 [port,
      (((s.at t).deviceIde port fns).enumerated port fns).devMps ((((s.at t).deviceIde port fns).enumerated port fns).graftsOfPort
        (((s.at t).deviceIde port fns).enumerated port fns).node port)])).emit (.link 255 [port, 2, (((s.at t).deviceIde port fns).enumerated port fns).get .ASPM_L1_ALLOW port])).emit
        (.link 263 [port, portLinkCap, 0])).put .DP_STATE port 4) with
      pushWanted := true } : State).event 65 [port]).pushIfWanted.finish s))) ∧
  (∀ (s : State) (t : Time) (port : Nat) (fns : List FnInfo),
    port < 512 →
    s.errs = [] →
    (s.isDevice port = false ∨ s.get .DP_STATE port ≠ 3 ∨ (s.pport port).up = false ∨ 32 ≤ s.get .KEEPER_NODE ∨ s.odtakuUp = false) →
    ∃ s', Machine.exec (.deviceEnumeration t port fns) s = .next s' ∧
      s'.out = s.out ∧
      s'.SameBut s [] ∧
      s'.SameBuffers s) ∧
  (∀ (s : State) (t : Time) (req : Req) (gfid v : Nat),
    s.errs = [] →
    s.hears req →
    s.resolve (s.principal req.path) 2 (entryOf .SRIOV_NUMVFS (some gfid) v).addr = .obj .SRIOV_NUMVFS gfid →
    v < 2 ^ 16 →
    v ≤ (s.fnInfo gfid).totalVfs →
    (∀ g ∈ s.activeGrafts, ∀ f ∈ s.graftFns g, ¬(s.get .PARENT_PF f = gfid ∧ s.get .FN_KIND f = 2)) →
    s.switching = false →
    ∃ s', Machine.exec (.sriovNumvfsWrite t req gfid v) s = .next s' ∧
      s'.get .SRIOV_NUMVFS gfid = v ∧
      Out.event 66 [gfid, v] ∈ s'.out ∧
      s'.answered req 0 [0xFFFFFFFF, 0xFFFFFFFF]) ∧
  (∀ (s : State) (t : Time) (req : Req) (gfid v g f : Nat),
    s.errs = [] →
    s.hears req →
    s.resolve (s.principal req.path) 2 (entryOf .SRIOV_NUMVFS (some gfid) v).addr = .obj .SRIOV_NUMVFS gfid →
    v < 2 ^ 16 →
    v ≤ (s.fnInfo gfid).totalVfs →
    g ∈ s.activeGrafts →
    f ∈ s.graftFns g →
    s.get .PARENT_PF f = gfid →
    s.get .FN_KIND f = 2 →
    ∃ s', Machine.exec (.sriovNumvfsWrite t req gfid v) s = .next s' ∧
      s'.answered req 0x0401 [0] ∧
      s'.get .SRIOV_NUMVFS gfid = s.get .SRIOV_NUMVFS gfid ∧
      s'.SameBut s (req.traces ++ [(.REQUESTS_REFUSED, 0)]) ∧
      s'.SameBuffers s) ∧
  (∀ (s : State) (t : Time) (req : Req) (gfid : Nat),
    s.errs = [] →
    s.hears req →
    s.resolve (s.principal req.path) 2 (entryOf .SRIOV_NUMVFS (some gfid) 0).addr = .obj .SRIOV_NUMVFS gfid →
    s.pendingReqs = [] →
    (∀ g ∈ s.activeGrafts, ∀ f ∈ s.graftFns g, ¬(s.get .PARENT_PF f = gfid ∧ s.get .FN_KIND f = 2)) →
    ∃ s', Machine.exec (.sriovNumvfsWrite t req gfid 0) s = .next s' ∧
      s'.get .SRIOV_NUMVFS gfid = 0 ∧
      (∀ x ∈ s.vfsOf gfid, s'.get .PRESENT x = 0) ∧
      Out.event 66 [gfid, 0] ∈ s'.out ∧
      s'.answered req 0 [0xFFFFFFFF, 0xFFFFFFFF] ∧
      s'.SameBut s (req.traces ++ (.SRIOV_NUMVFS, gfid) :: (s.vfsOf gfid).map (.PRESENT, ·)) ∧
      s'.SameBuffers s) ∧
  (∀ (s : State) (t : Time) (req : Req) (gfid v : Nat),
    s.errs = [] →
    s.hears req →
    s.resolve (s.principal req.path) 2 (entryOf .SRIOV_NUMVFS (some gfid) v).addr = .obj .SRIOV_NUMVFS gfid →
    v < 2 ^ 16 →
    (s.fnInfo gfid).totalVfs < v →
    ∃ s', Machine.exec (.sriovNumvfsWrite t req gfid v) s = .next s' ∧
      s'.answered req 0x0301 [0] ∧
      s'.SameBut s (req.traces ++ [(.REQUESTS_REFUSED, 0)]) ∧
      s'.SameBuffers s)

/-- A partition is bound, waits, becomes active, is quiesced and resumed (R67, R72, R396). What is the model's
choice in it and not a rule of the spec: log 62, 75. -/
def Obligations.PartitionsBindWaitAndQuiesce : Prop :=
  (∀ (s : State) (t : Time) (req : Req) (p n q : Nat),
    s.errs = [] →
    s.hears req →
    s.resolve (s.principal req.path) 2 (entryOf .HOST_NODE (some p) n).addr = .obj .HOST_NODE p →
    s.resolve (s.principal req.path) 2 (entryOf .HOST_PORT (some p) q).addr = .obj .HOST_PORT p →
    n < 32 →
    q < 512 →
    s.get .PARTITION_STATE p = 0 →
    s.switching = false →
    s.badBinding p n (s.newest .HOST_PORT p) = false →
    s.badBinding p n q = false →
    (s.put .HOST_NODE p n).breaksCapture s = false →
    ((s.put .HOST_NODE p n).put .HOST_PORT p q).breaksCapture s = false →
    ∃ s', Machine.exec (.partitionBindWrite t req p (some n) (some q)) s = .next s' ∧
      s'.get .HOST_NODE p = n ∧
      s'.get .HOST_PORT p = q ∧
      s'.get .PARTITION_STATE p = 1 ∧
      (s'.parts.getD {} p).from0 = true ∧
      (s'.parts.getD {} p).boundAt = max s.now t ∧
      s'.answered req 0 [0xFFFFFFFF, 0xFFFFFFFF] ∧
      s'.SameBut s (req.traces ++ [(.HOST_NODE, p), (.HOST_PORT, p), (.PARTITION_STATE, p)]) ∧
      s'.SameBuffers s) ∧
  (∀ (s : State) (t : Time) (req : Req) (p n q : Nat),
    s.errs = [] →
    s.hears req →
    s.resolve (s.principal req.path) 2 (entryOf .HOST_NODE (some p) n).addr = .obj .HOST_NODE p →
    s.resolve (s.principal req.path) 2 (entryOf .HOST_PORT (some p) q).addr = .obj .HOST_PORT p →
    n < 32 →
    q < 512 →
    s.get .PARTITION_STATE p = 2 →
    s.badBinding p n (s.newest .HOST_PORT p) = false →
    (s.put .HOST_NODE p n).breaksCapture s = false →
    ∃ s', Machine.exec (.partitionBindWrite t req p (some n) (some q)) s = .next s' ∧
      s'.answered req 0x0401 [0] ∧
      s'.SameBut s (req.traces ++ [(.REQUESTS_REFUSED, 0)]) ∧
      s'.SameBuffers s) ∧
  (∀ (s : State) (t : Time) (req : Req) (p : Nat),
    s.errs = [] →
    s.hears req →
    s.resolve (s.principal req.path) 2 (entryOf .HOST_NODE (some p) 0xFF).addr = .obj .HOST_NODE p →
    s.get .PARTITION_STATE p = 4 →
    s.switching = false →
    (s.put .HOST_NODE p 0xFF).breaksCapture s = false →
    ∃ s', Machine.exec (.partitionBindWrite t req p (some 0xFF) none) s = .next s' ∧
      s'.get .HOST_NODE p = 0xFF ∧
      s'.get .PARTITION_STATE p = 0 ∧
      (s'.parts.getD {} p).heldDown = false ∧
      s'.answered req 0 [0xFFFFFFFF, 0xFFFFFFFF] ∧
      s'.SameBuffers s) ∧
  (∀ (s : State) (t : Time) (req : Req) (p n : Nat),
    s.errs = [] →
    s.hears req →
    s.resolve (s.principal req.path) 2 (entryOf .HOST_NODE (some p) n).addr = .obj .HOST_NODE p →
    n < 32 →
    s.get .PARTITION_STATE p = 0 →
    s.switching = false →
    s.badBinding p n (s.newest .HOST_PORT p) = false →
    (s.put .HOST_NODE p n).breaksCapture s = false →
    ∃ s', Machine.exec (.partitionBindWrite t req p (some n) none) s = .next s' ∧
      s'.get .HOST_NODE p = n ∧
      (s'.get .PARTITION_STATE p = (if s.get .HOST_PORT p < 512 then 1 else 0)) ∧
      s'.answered req 0 [0xFFFFFFFF, 0xFFFFFFFF] ∧
      s'.SameBut s (req.traces ++ [(.HOST_NODE, p), (.PARTITION_STATE, p)]) ∧
      s'.SameBuffers s) ∧
  (∀ (s : State) (t : Time) (req : Req) (p q : Nat),
    s.errs = [] →
    s.hears req →
    s.resolve (s.principal req.path) 2 (entryOf .HOST_PORT (some p) q).addr = .obj .HOST_PORT p →
    q < 512 →
    s.get .PARTITION_STATE p = 0 →
    s.switching = false →
    s.badBinding p (s.newest .HOST_NODE p) q = false →
    (s.put .HOST_PORT p q).breaksCapture s = false →
    ∃ s', Machine.exec (.partitionBindWrite t req p none (some q)) s = .next s' ∧
      s'.get .HOST_PORT p = q ∧
      (s'.get .PARTITION_STATE p = (if s.get .HOST_NODE p < 32 then 1 else 0)) ∧
      s'.answered req 0 [0xFFFFFFFF, 0xFFFFFFFF] ∧
      s'.SameBut s (req.traces ++ [(.HOST_PORT, p), (.PARTITION_STATE, p)]) ∧
      s'.SameBuffers s) ∧
  (∀ (s : State) (t : Time) (req : Req) (p n : Nat),
    s.errs = [] →
    s.hears req →
    s.resolve (s.principal req.path) 2 (entryOf .HOST_NODE (some p) n).addr = .obj .HOST_NODE p →
    n < 32 →
    s.badBinding p n (s.newest .HOST_PORT p) = true →
    ∃ s', Machine.exec (.partitionBindWrite t req p (some n) none) s = .next s' ∧
      s'.answered req 0x0301 [0] ∧
      s'.SameBut s (req.traces ++ [(.REQUESTS_REFUSED, 0)]) ∧
      s'.SameBuffers s) ∧
  (∀ (s : State) (t : Time) (req : Req) (p q : Nat),
    s.errs = [] →
    s.hears req →
    s.resolve (s.principal req.path) 2 (entryOf .HOST_PORT (some p) q).addr = .obj .HOST_PORT p →
    q < 512 →
    s.badBinding p (s.newest .HOST_NODE p) q = true →
    ∃ s', Machine.exec (.partitionBindWrite t req p none (some q)) s = .next s' ∧
      s'.answered req 0x0301 [0] ∧
      s'.SameBut s (req.traces ++ [(.REQUESTS_REFUSED, 0)]) ∧
      s'.SameBuffers s) ∧
  (∀ (s : State) (t : Time) (p : Nat),
    p < 4096 →
    s.errs = [] →
    (s.get .PARTITION_STATE p ≠ 1 ∨ (s.parts.getD {} p).from0 = false ∨ max s.now t < max s.resetEnd (s.parts.getD {} p).boundAt + ms 900) →
    ∃ s', Machine.exec (.partitionWaitTimeout t p) s = .next s' ∧
      s'.SameBut s [] ∧
      s'.grafts = s.grafts ∧
      s'.SameBuffers s) ∧
  (∀ (s : State) (t : Time) (p : Nat),
    p < 4096 →
    s.errs = [] →
    s.get .PARTITION_STATE p = 1 →
    (s.parts.getD {} p).from0 = true →
    max s.resetEnd (s.parts.getD {} p).boundAt + ms 900 ≤ max s.now t →
    ∃ s', Machine.exec (.partitionWaitTimeout t p) s = .next s' ∧
      s'.get .PARTITION_STATE p = 2 ∧
      (∀ g ∈ s.graftsOf p, s.fnPresent (s.get .GFID g) = true → (s.grafts.getD {} g).lost = false → (s'.grafts.getD {} g).shown = true) ∧
      s'.SameBut s [(.PARTITION_STATE, p)] ∧
      s'.SameBuffers s) ∧
  (∀ (s : State) (t : Time) (req : Req) (p : Nat),
    s.errs = [] →
    s.hears req →
    s.mayInvoke req .PARTITION_QUIESCE (some p) = 0 →
    s.get .PARTITION_STATE p = 2 →
    s.ownHostPort p = none →
    ∃ s', Machine.exec (.partitionQuiesce t req p 1) s = .next s' ∧
      s'.get .PARTITION_STATE p = 4 ∧
      (s'.parts.getD {} p).heldDown = true ∧
      s'.partDrained p ∧
      (∀ a ∈ (s'.rowsOf .AP_STATE).keys, s'.get .AP_PARTITION a = p → s'.get .AP_STATE a = 0) ∧
      s'.answered req 0 [] ∧
      s'.SameBut s (req.traces ++ s.partRows p)) ∧
  (∀ (s : State) (t : Time) (req : Req) (p port : Nat),
    s.errs = [] →
    s.hears req →
    s.mayInvoke req .PARTITION_QUIESCE (some p) = 0 →
    s.get .PARTITION_STATE p = 2 →
    s.ownHostPort p = some port →
    ∃ s', Machine.exec (.partitionQuiesce t req p 1) s = .next s' ∧
      s'.get .PARTITION_STATE p = 4 ∧
      (s'.parts.getD {} p).heldDown = true ∧
      s'.partDrained p ∧
      (s'.pport port).up = false ∧
      s'.get .TRAIN_STATE port = 0 ∧
      s'.answered req 0 []) ∧
  (∀ (s : State) (t : Time) (req : Req) (p port : Nat),
    s.errs = [] →
    s.hears req →
    s.mayInvoke req .PARTITION_QUIESCE (some p) = 0 →
    s.get .PARTITION_STATE p = 4 →
    s.ownHostPort p = some port →
    s.hostHeld port = false →
    ∃ s', Machine.exec (.partitionQuiesce t req p 0) s = .next s' ∧
      s'.get .PARTITION_STATE p = 1 ∧
      (s'.parts.getD {} p).heldDown = false ∧
      (s'.pport port).free = true ∧
      s'.get .TRAIN_STATE port = 8 ∧
      s'.answered req 0 [] ∧
      s'.SameBuffers s) ∧
  (∀ (s : State) (t : Time) (req : Req) (p arg : Nat),
    s.errs = [] →
    s.hears req →
    s.mayInvoke req .PARTITION_QUIESCE (some p) = 0 →
    arg ≤ 1 →
    (s.get .PARTITION_STATE p ≠ (if arg = 1 then 2 else 4)) →
    ∃ s', Machine.exec (.partitionQuiesce t req p arg) s = .next s' ∧
      s'.answered req 0x0401 [] ∧
      s'.SameBut s (req.traces ++ [(.REQUESTS_REFUSED, 0)]) ∧
      s'.SameBuffers s) ∧
  (∀ (s : State) (t : Time) (req : Req) (p arg : Nat),
    s.errs = [] →
    s.hears req →
    s.mayInvoke req .PARTITION_QUIESCE (some p) = 0 →
    1 < arg →
    ∃ s', Machine.exec (.partitionQuiesce t req p arg) s = .next s' ∧
      s'.answered req 0x0301 [] ∧
      s'.SameBut s (req.traces ++ [(.REQUESTS_REFUSED, 0)]) ∧
      s'.SameBuffers s) ∧
  (∀ (s : State) (t : Time) (req : Req) (p : Nat),
    s.errs = [] →
    s.hears req →
    s.mayInvoke req .PARTITION_QUIESCE (some p) = 0 →
    s.get .PARTITION_STATE p = 4 →
    s.ownHostPort p = none →
    ∃ s', Machine.exec (.partitionQuiesce t req p 0) s = .next s' ∧
      s'.get .PARTITION_STATE p = 1 ∧
      (s'.parts.getD {} p).heldDown = false ∧
      s'.answered req 0 [] ∧
      s'.SameBut s (req.traces ++ [(.PARTITION_STATE, p)]) ∧
      s'.SameBuffers s) ∧
  (∀ (s : State) (t : Time) (req : Req) (p port : Nat),
    s.errs = [] →
    s.hears req →
    s.mayInvoke req .PARTITION_QUIESCE (some p) = 0 →
    s.get .PARTITION_STATE p = 4 →
    s.ownHostPort p = some port →
    s.hostHeld port = true →
    ∃ s', Machine.exec (.partitionQuiesce t req p 0) s = .next s' ∧
      s'.get .PARTITION_STATE p = 1 ∧
      (s'.parts.getD {} p).heldDown = false ∧
      s'.pport port = s.pport port ∧
      s'.answered req 0 [] ∧
      s'.SameBut s (req.traces ++ [(.PARTITION_STATE, p)]) ∧
      s'.SameBuffers s)

/-- A selection at a port sends the TLP of the first candidate, discards it, or parks the queue (R102, R136, R148,
R151, R153, R154, R156). What is the model's choice in it and not a rule of the spec: log 78. -/
def Obligations.PortsSelectTheTlpToSend : Prop :=
  (∀ (s : State) (t : Time) (port : Nat),
    port < 512 →
    s.errs = [] →
    ((s.at t).reshape port).xFull (.tileQuad (clusterOf port) false) = false →
    ((s.at t).reshape port).candidates port = [] →
    ∃ s', Machine.exec (.schedulerSelect t port) s = .next s' ∧
      s'.out = s.out ∧
      s'.SameBut s [] ∧
      s'.queues = ((s.at t).reshape port).queues ∧
      s'.cells = s.cells ∧
      s'.rx = s.rx ∧
      s'.tags = s.tags) ∧
  (∀ (s : State) (t : Time) (port k : Nat) (q : Queue),
    port < 512 →
    s.errs = [] →
    ((s.at t).reshape port).xFull (.tileQuad (clusterOf port) false) = false →
    ((s.at t).reshape port).candidates port = [(k, q)] →
    ((s.at t).reshape port).queues.find k = some q →
    dequeueLoop q (((s.at t).reshape port).sendable port k) q.heads [] = none →
    ∃ s', Machine.exec (.schedulerSelect t port) s = .next s' ∧
      s'.queues.find k = some { q with parked := true } ∧
      (∀ j ∈ s.queues.keys, j ≠ k → s'.queues.find j = ((s.at t).reshape port).queues.find j) ∧
      s'.out = s.out ∧
      s'.SameBut s [] ∧
      s'.cells = s.cells ∧
      s'.rx = s.rx ∧
      s'.tags = s.tags) ∧
  (∀ (s : State) (t : Time) (port k : Nat) (q : Queue) (rest : List (Nat × Queue)) (u : Sub) (p : Pkt),
    port < 512 →
    ((s.at t).reshape port).xFull (.tileQuad (clusterOf port) false) = false →
    ((s.at t).reshape port).candidates port = (k, q) :: rest →
    ((s.at t).reshape port).queues.find k = some q →
    dequeueLoop q (((s.at t).reshape port).sendable port k) q.heads [] = some (u, p) →
    s.isFabric port = false →
    s.doomed port k p = false →
    s.reqCut p.part p.src p.dest = false →
    (p.tlp.kind = .cpl ∨ (p.tlp.sub = .posted ∧ (p.internal = true ∨ s.egressOk p.part p.dest = true))) →
    Machine.exec (.schedulerSelect t port) s = .next (((((((s.at t).reshape port).account port k (s.lengthAt port (keyClass k) p) u).updPport port fun h => { h with busyAt := max s.now t }).sendTlp port p p.tlp.tag).noteSent port k (s.lengthAt port (keyClass k) p) q.num (q.headSpilled u) p).finish s)) ∧
  (∀ (s : State) (t : Time) (port k : Nat) (q : Queue) (rest : List (Nat × Queue)) (u : Sub) (p : Pkt),
    port < 512 →
    ((s.at t).reshape port).xFull (.tileQuad (clusterOf port) false) = false →
    ((s.at t).reshape port).candidates port = (k, q) :: rest →
    ((s.at t).reshape port).queues.find k = some q →
    dequeueLoop q (((s.at t).reshape port).sendable port k) q.heads [] = some (u, p) →
    s.isFabric port = false →
    s.doomed port k p = false →
    s.reqCut p.part p.src p.dest = false →
    p.tlp.kind ≠ .cpl →
    p.tlp.sub = .nonPosted →
    (p.internal = true ∨ s.egressOk p.part p.dest = true) →
    Machine.exec (.schedulerSelect t port) s = .next ((match ((((s.at t).reshape port).account port k (s.lengthAt port (keyClass k) p) u).updPport port fun h => { h with busyAt := max s.now t }).takeTag port p with
      | some x => (x.2.sendTlp port p x.1).noteSent port k (s.lengthAt port (keyClass k) p) q.num (q.headSpilled u) p
      | none => ((((s.at t).reshape port).account port k (s.lengthAt port (keyClass k) p) u).updPport port fun h => { h with busyAt := max s.now t })).finish s)) ∧
  (∀ (s : State) (t : Time) (port k : Nat) (q : Queue) (rest : List (Nat × Queue)) (u : Sub) (p : Pkt),
    port < 512 →
    ((s.at t).reshape port).xFull (.tileQuad (clusterOf port) false) = false →
    ((s.at t).reshape port).candidates port = (k, q) :: rest →
    ((s.at t).reshape port).queues.find k = some q →
    dequeueLoop q (((s.at t).reshape port).sendable port k) q.heads [] = some (u, p) →
    s.isFabric port = false →
    s.doomed port k p = false →
    s.reqCut p.part p.src p.dest = false →
    p.tlp.kind ≠ .cpl →
    p.internal = false →
    s.egressOk p.part p.dest = false →
    Machine.exec (.schedulerSelect t port) s = .next (((((((s.at t).reshape port).account port k (s.lengthAt port (keyClass k) p) u).updPport port fun h => { h with busyAt := max s.now t }).dequeueDiscard port k p).refuseTlp true p).finish s)) ∧
  (∀ (s : State) (t : Time) (port k : Nat) (q : Queue) (rest : List (Nat × Queue)) (u : Sub) (p : Pkt),
    port < 512 →
    ((s.at t).reshape port).xFull (.tileQuad (clusterOf port) false) = false →
    ((s.at t).reshape port).candidates port = (k, q) :: rest →
    ((s.at t).reshape port).queues.find k = some q →
    dequeueLoop q (((s.at t).reshape port).sendable port k) q.heads [] = some (u, p) →
    s.isFabric port = false →
    s.doomed port k p = false →
    s.reqCut p.part p.src p.dest = true →
    Machine.exec (.schedulerSelect t port) s = .next ((((((s.at t).reshape port).account port k (s.lengthAt port (keyClass k) p) u).updPport port fun h => { h with busyAt := max s.now t }).dequeueDiscard port k p).finish s)) ∧
  (∀ (s : State) (t : Time) (port k : Nat) (q : Queue) (rest : List (Nat × Queue)) (u : Sub) (p : Pkt),
    port < 512 →
    ((s.at t).reshape port).xFull (.tileQuad (clusterOf port) false) = false →
    ((s.at t).reshape port).candidates port = (k, q) :: rest →
    ((s.at t).reshape port).queues.find k = some q →
    dequeueLoop q (((s.at t).reshape port).sendable port k) q.heads [] = some (u, p) →
    s.doomed port k p = true →
    Machine.exec (.schedulerSelect t port) s = .next ((((((s.at t).reshape port).account port k (s.lengthAt port (keyClass k) p) u).updPport port fun h => { h with busyAt := max s.now t }).discardDoomed port k p).finish s)) ∧
  (∀ (s : State) (t : Time) (port k : Nat) (q : Queue) (rest : List (Nat × Queue)) (u : Sub) (p : Pkt),
    port < 512 →
    ((s.at t).reshape port).xFull (.tileQuad (clusterOf port) false) = false →
    ((s.at t).reshape port).candidates port = (k, q) :: rest →
    ((s.at t).reshape port).queues.find k = some q →
    dequeueLoop q (((s.at t).reshape port).sendable port k) q.heads [] = some (u, p) →
    s.isFabric port = true →
    s.doomed port k p = false →
    Machine.exec (.schedulerSelect t port) s = .next ((match ((((s.at t).reshape port).account port k (s.lengthAt port (keyClass k) p) u).updPport port fun h => { h with busyAt := max s.now t }).onward port k p with
      | (some p, s1) => (s1.updLink port fun h => { h with txq := h.txq ++ [p] }).noteSent port k (s.lengthAt port (keyClass k) p) q.num (q.headSpilled u) p
      | (none, s1) => s1).finish s)) ∧
  (∀ (s : State) (t : Time) (port : Nat),
    port < 512 →
    ((s.at t).reshape port).xFull (.tileQuad (clusterOf port) false) = false →
    Machine.exec (.schedulerSelect t port) s = .next ((match ((s.at t).reshape port).examine port (((s.at t).reshape port).candidates port) with
      | (some x, s1) => s1.dispatchTlp port x.1 x.2.1 x.2.2
      | (none, s1) => s1).finish s)) ∧
  (∀ (s : State) (t : Time) (port : Nat),
    port < 512 →
    s.errs = [] →
    ((s.at t).reshape port).xFull (.tileQuad (clusterOf port) false) = true →
    ∃ s', Machine.exec (.schedulerSelect t port) s = .next s' ∧
      s'.queues = ((s.at t).reshape port).queues ∧
      s'.out = s.out ∧
      s'.SameBut s [] ∧
      s'.cells = s.cells ∧
      s'.rx = s.rx ∧
      s'.tags = s.tags) ∧
  (∀ (s : State) (port k L : Nat) (u : Sub) (q : Queue),
    s.queues.find k = some q →
    (s.account port k L u).get .SC_VIRTUAL_TIME (port * 8 + keyClass k) = q.tag ∧
      ((s.account port k L u).queues.getD { num := 0 } k).tag = (q.tag + tagIncrement L (s.weightOf port (keyClass k) q) (keyClass k)) % 2 ^ 48 ∧
      (((s.account port k L u).queues.getD { num := 0 } k).sub u).head = (q.sub u).head.drop (headTlp (q.sub u).head).length ∧
      (∀ c ∈ headTlp (q.sub u).head, (s.account port k L u).cells.find c.idx = none) ∧
      (∀ j ∈ s.queues.keys, j ≠ k → (s.account port k L u).queues.find j = s.queues.find j) ∧
      (s.account port k L u).SameBut s [(.SC_VIRTUAL_TIME, port * 8 + keyClass k)])

/-- Returned credits unpark a port's queues, a conforming queue catches up with virtual time, gate entries follow
(R151, R152, R156, R181). What is the model's choice in it and not a rule of the spec: log 9, 78. -/
def Obligations.CreditsTokensAndGatesMoveOn : Prop :=
  (∀ (s : State) (t : Time) (port : Nat) (a b c : Nat × Nat),
    port < 512 →
    s.errs = [] →
    s.isFabric port = false →
    (s.pport port).up = true →
    ∃ s', Machine.exec (.flowControlUpdate t port a b c) s = .next s' ∧
      (s'.pport port).fc.getD 0 0 = (s.pport port).fc.getD 0 0 + a.1 ∧
      (s'.pport port).fc.getD 0 3 = (s.pport port).fc.getD 0 3 + a.2 ∧
      (s'.pport port).fc.getD 0 1 = (s.pport port).fc.getD 0 1 + b.1 ∧
      (s'.pport port).fc.getD 0 4 = (s.pport port).fc.getD 0 4 + b.2 ∧
      (s'.pport port).fc.getD 0 2 = (s.pport port).fc.getD 0 2 + c.1 ∧
      (s'.pport port).fc.getD 0 5 = (s.pport port).fc.getD 0 5 + c.2 ∧
      (∀ k ∈ s.queues.keys, s.portNow k = port → (s'.queues.getD { num := 0 } k).parked = false) ∧
      (∀ k ∈ s.queues.keys, s.portNow k ≠ port → s'.queues.find k = s.queues.find k) ∧
      s'.SameBut s [] ∧
      s'.cells = s.cells ∧
      s'.rx = s.rx ∧
      s'.tags = s.tags) ∧
  (∀ (s : State) (t : Time) (port : Nat) (a b c : Nat × Nat),
    port < 512 →
    s.errs = [] →
    (s.isFabric port = true ∨ (s.pport port).up = false) →
    ∃ s', Machine.exec (.flowControlUpdate t port a b c) s = .next s' ∧
      s'.pports = s.pports ∧
      s'.out = s.out ∧
      s'.SameBut s [] ∧
      s'.SameBuffers s) ∧
  (∀ (s : State) (t : Time) (port cls k : Nat) (q : Queue),
    port < 512 →
    cls < 8 →
    s.errs = [] →
    s.portNow k = port →
    keyClass k = cls →
    s.queues.find k = some q →
    (s.at t).queueConforms k q = true →
    ∃ s', Machine.exec (.shaperConform t port cls (some k)) s = .next s' ∧
      (s'.queues.getD { num := 0 } k).tag = tagMax q.tag (s.vtime port cls) ∧
      (s'.queues.getD { num := 0 } k).tokens = (s.at t).queueTokens k q ∧
      (s'.queues.getD { num := 0 } k).tokensAt = s.age + (t - s.now) ∧
      (∀ j ∈ s.queues.keys, j ≠ k → s'.queues.find j = s.queues.find j) ∧
      s'.SameBut s [] ∧
      s'.cells = s.cells ∧
      s'.rx = s.rx ∧
      s'.tags = s.tags) ∧
  (∀ (s : State) (t : Time) (port cls k : Nat) (q : Queue),
    port < 512 →
    cls < 8 →
    s.errs = [] →
    s.queues.find k = some q →
    (s.at t).queueConforms k q = false →
    ∃ s', Machine.exec (.shaperConform t port cls (some k)) s = .next s' ∧
      s'.queues.find k = some q ∧
      s'.SameBut s [] ∧
      s'.cells = s.cells ∧
      s'.rx = s.rx ∧
      s'.tags = s.tags) ∧
  (∀ (s : State) (t : Time) (port cls k : Nat),
    port < 512 →
    cls < 8 →
    s.errs = [] →
    (s.portNow k ≠ port ∨ keyClass k ≠ cls) →
    ∃ s', Machine.exec (.shaperConform t port cls (some k)) s = .next s' ∧
      s'.queues = s.queues ∧
      s'.SameBut s [] ∧
      s'.SameBuffers s) ∧
  (∀ (s : State) (t : Time) (port cls : Nat),
    port < 512 →
    cls < 8 →
    s.errs = [] →
    ∃ s', Machine.exec (.shaperConform t port cls none) s = .next s' ∧
      s'.queues = s.queues ∧
      s'.SameBut s [] ∧
      s'.SameBuffers s) ∧
  (∀ (s : State) (t : Time) (port : Nat),
    port < 512 →
    s.errs = [] →
    s.activeBank port = none →
    ∃ s', Machine.exec (.gateEntryStart t port) s = .next s' ∧
      s'.gates = s.gates ∧
      s'.SameBut s [] ∧
      s'.SameBuffers s) ∧
  (∀ (s : State) (t : Time) (port b d m : Nat),
    port < 512 →
    s.errs = [] →
    s.activeBank port = some b →
    (s.timeline port b)[(s.gates.getD {} port).entry]? = some (d, m) →
    max s.now t < (s.gates.getD {} port).start + ns d →
    ∃ s', Machine.exec (.gateEntryStart t port) s = .next s' ∧
      s'.gates = s.gates ∧
      s'.SameBut s [] ∧
      s'.SameBuffers s) ∧
  (∀ (s : State) (t : Time) (port b : Nat),
    port < 512 →
    s.errs = [] →
    s.activeBank port = some b →
    (s.timeline port b).length ≤ (s.gates.getD {} port).entry →
    ∃ s', Machine.exec (.gateEntryStart t port) s = .next s' ∧
      s'.gates = s.gates ∧
      s'.SameBut s [] ∧
      s'.SameBuffers s) ∧
  (∀ (s : State) (t : Time) (port b d m : Nat),
    port < 512 →
    s.errs = [] →
    s.activeBank port = some b →
    (s.timeline port b)[(s.gates.getD {} port).entry]? = some (d, m) →
    (s.gates.getD {} port).start + ns d ≤ max s.now t →
    ∃ s', Machine.exec (.gateEntryStart t port) s = .next s' ∧
      (s'.gates.getD {} port).start = (s.gates.getD {} port).start + ns d ∧
      ((s'.gates.getD {} port).entry = (if (s.gates.getD {} port).entry + 1 < (s.timeline port b).length then (s.gates.getD {} port).entry + 1 else 0)) ∧
      ((s.timeline port b)[(s'.gates.getD {} port).entry]?).map (·.2) = some (s'.gates.getD {} port).mask ∧
      s'.SameBut s [] ∧
      s'.SameBuffers s)

/-- A tag entry goes to quarantine at its deadline and is free at the end of quarantine; a storm raises its error
(R113, R116, R117). What is the model's choice in it and not a rule of the spec: log 75. -/
def Obligations.TagsTimeOutAndAreFreed : Prop :=
  (∀ (s : State) (t : Time) (port tag n : Nat) (e : TagEntry),
    port < 512 →
    tag < 16384 →
    s.errs = [] →
    s.tagLookup port tag = some (n, e) →
    s.tags.find n = some e →
    e.quarantined = false →
    before40 (s.at t).now40 e.deadline = false →
    s.storm.getD 0 port + 1 ≠ s.get .TO_STORM_LIMIT →
    ∃ s', Machine.exec (.tagDeadline t port tag) s = .next s' ∧
      s'.tags.find n = some { e with quarantined := true } ∧
      (∀ m ∈ s.tags.keys, m ≠ n → s'.tags.find m = s.tags.find m) ∧
      s'.get .CPL_TIMEOUTS e.part = (s.get .CPL_TIMEOUTS e.part + 1) % 2 ^ 32 ∧
      s'.storm.getD 0 port = s.storm.getD 0 port + 1 ∧
      s'.SameBut s [(.CPL_TIMEOUTS, e.part)] ∧
      s'.cells = s.cells ∧
      s'.queues = s.queues ∧
      s'.rx = s.rx) ∧
  (∀ (s : State) (t : Time) (port tag n : Nat) (e : TagEntry),
    port < 512 →
    tag < 16384 →
    s.errs = [] →
    s.tagLookup port tag = some (n, e) →
    (e.quarantined = true ∨ before40 (s.at t).now40 e.deadline = true) →
    ∃ s', Machine.exec (.tagDeadline t port tag) s = .next s' ∧
      s'.SameBut s [] ∧
      s'.SameBuffers s) ∧
  (∀ (s : State) (t : Time) (port tag n : Nat) (e : TagEntry),
    port < 512 →
    tag < 16384 →
    s.errs = [] →
    s.tagLookup port tag = some (n, e) →
    s.tags.find n = some e →
    e.quarantined = true →
    before40 (s.at t).now40 e.qend = false →
    ∃ s', Machine.exec (.tagQuarantineEnd t port tag) s = .next s' ∧
      s'.tags.find n = none ∧
      (∀ m ∈ s.tags.keys, m ≠ n → s'.tags.find m = s.tags.find m) ∧
      s'.tagFree.find (port * 16384 + tag) = some (max s.now t) ∧
      (∀ k ∈ s.queues.keys, s.portNow k = port → (s'.queues.getD { num := 0 } k).parked = false) ∧
      s'.SameBut s [] ∧
      s'.cells = s.cells ∧
      s'.rx = s.rx) ∧
  (∀ (s : State) (t : Time) (port tag n : Nat) (e : TagEntry),
    port < 512 →
    tag < 16384 →
    s.errs = [] →
    s.tagLookup port tag = some (n, e) →
    (e.quarantined = false ∨ before40 (s.at t).now40 e.qend = true) →
    ∃ s', Machine.exec (.tagQuarantineEnd t port tag) s = .next s' ∧
      s'.tags = s.tags ∧
      s'.SameBut s [] ∧
      s'.SameBuffers s) ∧
  (∀ (s : State) (t : Time) (port tag : Nat),
    port < 512 →
    tag < 16384 →
    s.errs = [] →
    s.tagLookup port tag = none →
    ∃ s', Machine.exec (.tagQuarantineEnd t port tag) s = .next s' ∧
      s'.tags = s.tags ∧
      s'.SameBut s [] ∧
      s'.SameBuffers s) ∧
  (∀ (s : State) (t : Time) (port tag : Nat),
    port < 512 →
    tag < 16384 →
    s.errs = [] →
    s.tagLookup port tag = none →
    ∃ s', Machine.exec (.tagDeadline t port tag) s = .next s' ∧
      s'.tags = s.tags ∧
      s'.SameBut s [] ∧
      s'.SameBuffers s) ∧
  (∀ (s : State) (t : Time) (port tag n : Nat) (e : TagEntry),
    port < 512 →
    tag < 16384 →
    s.tagLookup port tag = some (n, e) →
    e.quarantined = false →
    before40 (s.at t).now40 e.deadline = false →
    s.storm.getD 0 e.port + 1 = s.get .TO_STORM_LIMIT →
    Machine.exec (.tagDeadline t port tag) s = .next (((({ (((s.at t).bump .CPL_TIMEOUTS e.part).countPort port 0x41 1
      { part := e.part, src := e.reqG, dest := e.cplG, tlp := { kind := .memRead, tc := e.tc } }).quarantine n with
      storm := s.storm.putD 0 e.port (s.storm.getD 0 e.port + 1) } : State).stormAt e.port).finish s))) ∧
  (∀ (s : State) (t : Time) (port : Nat),
    port < 512 →
    s.get .TO_STORM_LIMIT ≠ 0 →
    s.get .TO_STORM_LIMIT ≤ s.storm.getD 0 port →
    Machine.exec (.cplTimeoutStorm t port) s = .next (((s.at t).raise { code := 0x2005, kind := 2, idx := port, detail := s.storm.getD 0 port }).finish s)) ∧
  (∀ (s : State) (t : Time) (port : Nat),
    port < 512 →
    s.errs = [] →
    (s.get .TO_STORM_LIMIT = 0 ∨ s.storm.getD 0 port < s.get .TO_STORM_LIMIT) →
    ∃ s', Machine.exec (.cplTimeoutStorm t port) s = .next s' ∧
      s'.SameBut s [] ∧
      s'.SameBuffers s ∧
      s'.out = s.out)

/-- Packets from the fabric are counted, discarded by a husk, put in order at the delivering chip, or go onward
(R88, R123, R124, R186, R220). What is the model's choice in it and not a rule of the spec: log 29, 75, 77. -/
def Obligations.FabricPacketsKeepTheirOrder : Prop :=
  (∀ (s : State) (t : Time) (port : Nat) (p : Pkt),
    port < 512 →
    s.fabricOpen port = true →
    s.husked port = false →
    s.nbrRefused port = false →
    p.tlp.fault = none →
    (p.internal = true ∨ p.ur = true ∨ s.husked (partRow p.part) = false) →
    p.twin = 0 →
    s.locNode p.dest = s.node →
    Machine.exec (.fabricPacketArrive t port p) s = .next (((((((s.at t).noteArrived port { p with inPort := port, inTime := max s.now t, colour := min 2 p.colour }).countPort port 0x10 1 { p with inPort := port, inTime := max s.now t, colour := min 2 p.colour }).countPort port 0x11 p.tlp.bytes
      { p with inPort := port, inTime := max s.now t, colour := min 2 p.colour }).countPort port (0x12 + p.tlp.sub.code) 1 { p with inPort := port, inTime := max s.now t, colour := min 2 p.colour }).streamIn
      { p with inPort := port, inTime := max s.now t, colour := min 2 p.colour }).finish s)) ∧
  (∀ (s : State) (t : Time) (port : Nat) (p : Pkt),
    port < 512 →
    s.fabricOpen port = true →
    s.husked port = false →
    s.nbrRefused port = false →
    p.tlp.fault = none →
    (p.internal = true ∨ p.ur = true ∨ s.husked (partRow p.part) = false) →
    p.twin = 0 →
    s.locNode p.dest ≠ s.node →
    Machine.exec (.fabricPacketArrive t port p) s = .next (((((((s.at t).noteArrived port { p with inPort := port, inTime := max s.now t, colour := min 2 p.colour }).countPort port 0x10 1 { p with inPort := port, inTime := max s.now t, colour := min 2 p.colour }).countPort port 0x11 p.tlp.bytes
      { p with inPort := port, inTime := max s.now t, colour := min 2 p.colour }).countPort port (0x12 + p.tlp.sub.code) 1 { p with inPort := port, inTime := max s.now t, colour := min 2 p.colour }).release
      { p with inPort := port, inTime := max s.now t, colour := min 2 p.colour }).finish s)) ∧
  (∀ (s : State) (t : Time) (port : Nat) (p : Pkt),
    port < 512 →
    s.fabricOpen port = true →
    s.husked port = false →
    s.nbrRefused port = true →
    p.twin = 0 →
    Machine.exec (.fabricPacketArrive t port p) s = .next (((((((s.at t).noteArrived port { p with inPort := port, inTime := max s.now t, colour := min 2 p.colour }).countPort port 0x10 1 { p with inPort := port, inTime := max s.now t, colour := min 2 p.colour }).countPort port 0x11 p.tlp.bytes
      { p with inPort := port, inTime := max s.now t, colour := min 2 p.colour }).countPort port (0x12 + p.tlp.sub.code) 1 { p with inPort := port, inTime := max s.now t, colour := min 2 p.colour }).creditBack port
      { p with inPort := port, inTime := max s.now t, colour := min 2 p.colour }).finish s)) ∧
  (∀ (s : State) (t : Time) (port : Nat) (p : Pkt),
    port < 512 →
    s.fabricOpen port = true →
    s.husked port = false →
    s.nbrRefused port = false →
    p.tlp.fault.isSome = true →
    p.twin = 0 →
    Machine.exec (.fabricPacketArrive t port p) s = .next ((((((((s.at t).noteArrived port { p with inPort := port, inTime := max s.now t, colour := min 2 p.colour }).countPort port 0x10 1 { p with inPort := port, inTime := max s.now t, colour := min 2 p.colour }).countPort port 0x11 p.tlp.bytes
      { p with inPort := port, inTime := max s.now t, colour := min 2 p.colour }).countPort port (0x12 + p.tlp.sub.code) 1 { p with inPort := port, inTime := max s.now t, colour := min 2 p.colour }).innerFault port p.tlp.fault).creditBack port
      { p with inPort := port, inTime := max s.now t, colour := min 2 p.colour }).finish s)) ∧
  (∀ (s : State) (t : Time) (port : Nat) (p : Pkt),
    port < 512 →
    s.fabricOpen port = true →
    s.husked port = false →
    s.nbrRefused port = false →
    p.tlp.fault = none →
    p.internal = false →
    p.ur = false →
    s.husked (partRow p.part) = true →
    p.twin = 0 →
    Machine.exec (.fabricPacketArrive t port p) s = .next ((((((((s.at t).noteArrived port { p with inPort := port, inTime := max s.now t, colour := min 2 p.colour }).countPort port 0x10 1 { p with inPort := port, inTime := max s.now t, colour := min 2 p.colour }).countPort port 0x11 p.tlp.bytes
      { p with inPort := port, inTime := max s.now t, colour := min 2 p.colour }).countPort port (0x12 + p.tlp.sub.code) 1 { p with inPort := port, inTime := max s.now t, colour := min 2 p.colour }).huskDiscard (partRow p.part) { p with inPort := port, inTime := max s.now t, colour := min 2 p.colour } true).creditBack port
      { p with inPort := port, inTime := max s.now t, colour := min 2 p.colour }).finish s)) ∧
  (∀ (s : State) (t : Time) (port : Nat) (p : Pkt),
    port < 512 →
    s.fabricOpen port = true →
    s.husked port = true →
    p.twin = 0 →
    Machine.exec (.fabricPacketArrive t port p) s = .next ((((((((s.at t).noteArrived port { p with inPort := port, inTime := max s.now t, colour := min 2 p.colour }).countPort port 0x10 1 { p with inPort := port, inTime := max s.now t, colour := min 2 p.colour }).countPort port 0x11 p.tlp.bytes
      { p with inPort := port, inTime := max s.now t, colour := min 2 p.colour }).countPort port (0x12 + p.tlp.sub.code) 1 { p with inPort := port, inTime := max s.now t, colour := min 2 p.colour }).bump .HUSK_DISCARDS port).creditBack port
      { p with inPort := port, inTime := max s.now t, colour := min 2 p.colour }).finish s)) ∧
  (∀ (s : State) (t : Time) (port : Nat) (p : Pkt),
    port < 512 →
    s.errs = [] →
    (s.fabricOpen port = false ∨ p.twin ≠ 0) →
    ∃ s', Machine.exec (.fabricPacketArrive t port p) s = .next s' ∧
      s'.SameBut s [] ∧
      s'.SameBuffers s ∧
      s'.out = s.out) ∧
  (∀ (s : State) (t : Time) (port : Nat) (p : Pkt),
    port < 512 →
    s.errs = [] →
    (s.fabricOpen port = false ∨ p.twin = 0) →
    ∃ s', Machine.exec (.twinCopyArrive t port p) s = .next s' ∧
      s'.SameBut s [] ∧
      s'.SameBuffers s ∧
      s'.out = s.out) ∧
  (∀ (s : State) (t : Time) (port : Nat) (p : Pkt),
    port < 512 →
    s.fabricOpen port = true →
    s.husked port = false →
    s.nbrRefused port = true →
    p.twin ≠ 0 →
    Machine.exec (.twinCopyArrive t port p) s = .next (((((((s.at t).noteArrived port { p with inPort := port, inTime := max s.now t, colour := min 2 p.colour }).countPort port 0x10 1 { p with inPort := port, inTime := max s.now t, colour := min 2 p.colour }).countPort port 0x11 p.tlp.bytes
      { p with inPort := port, inTime := max s.now t, colour := min 2 p.colour }).countPort port (0x12 + p.tlp.sub.code) 1 { p with inPort := port, inTime := max s.now t, colour := min 2 p.colour }).creditBack port
      { p with inPort := port, inTime := max s.now t, colour := min 2 p.colour }).finish s)) ∧
  (∀ (s : State) (t : Time) (port : Nat) (p : Pkt),
    port < 512 →
    s.fabricOpen port = true →
    s.husked port = false →
    s.nbrRefused port = false →
    p.tlp.fault.isSome = true →
    p.twin ≠ 0 →
    Machine.exec (.twinCopyArrive t port p) s = .next ((((((((s.at t).noteArrived port { p with inPort := port, inTime := max s.now t, colour := min 2 p.colour }).countPort port 0x10 1 { p with inPort := port, inTime := max s.now t, colour := min 2 p.colour }).countPort port 0x11 p.tlp.bytes
      { p with inPort := port, inTime := max s.now t, colour := min 2 p.colour }).countPort port (0x12 + p.tlp.sub.code) 1 { p with inPort := port, inTime := max s.now t, colour := min 2 p.colour }).innerFault port p.tlp.fault).creditBack port
      { p with inPort := port, inTime := max s.now t, colour := min 2 p.colour }).finish s)) ∧
  (∀ (s : State) (t : Time) (port : Nat) (p : Pkt),
    port < 512 →
    s.fabricOpen port = true →
    s.husked port = false →
    s.nbrRefused port = false →
    p.tlp.fault = none →
    p.internal = false →
    p.ur = false →
    s.husked (partRow p.part) = true →
    p.twin ≠ 0 →
    Machine.exec (.twinCopyArrive t port p) s = .next ((((((((s.at t).noteArrived port { p with inPort := port, inTime := max s.now t, colour := min 2 p.colour }).countPort port 0x10 1 { p with inPort := port, inTime := max s.now t, colour := min 2 p.colour }).countPort port 0x11 p.tlp.bytes
      { p with inPort := port, inTime := max s.now t, colour := min 2 p.colour }).countPort port (0x12 + p.tlp.sub.code) 1 { p with inPort := port, inTime := max s.now t, colour := min 2 p.colour }).huskDiscard (partRow p.part) { p with inPort := port, inTime := max s.now t, colour := min 2 p.colour } true).creditBack port
      { p with inPort := port, inTime := max s.now t, colour := min 2 p.colour }).finish s)) ∧
  (∀ (s : State) (t : Time) (port : Nat) (p : Pkt),
    port < 512 →
    s.fabricOpen port = true →
    s.husked port = true →
    p.twin ≠ 0 →
    Machine.exec (.twinCopyArrive t port p) s = .next ((((((((s.at t).noteArrived port { p with inPort := port, inTime := max s.now t, colour := min 2 p.colour }).countPort port 0x10 1 { p with inPort := port, inTime := max s.now t, colour := min 2 p.colour }).countPort port 0x11 p.tlp.bytes
      { p with inPort := port, inTime := max s.now t, colour := min 2 p.colour }).countPort port (0x12 + p.tlp.sub.code) 1 { p with inPort := port, inTime := max s.now t, colour := min 2 p.colour }).bump .HUSK_DISCARDS port).creditBack port
      { p with inPort := port, inTime := max s.now t, colour := min 2 p.colour }).finish s)) ∧
  (∀ (s : State) (t : Time) (port : Nat) (p : Pkt),
    port < 512 →
    s.fabricOpen port = true →
    s.husked port = false →
    s.nbrRefused port = false →
    p.tlp.fault = none →
    (p.internal = true ∨ p.ur = true ∨ s.husked (partRow p.part) = false) →
    p.twin ≠ 0 →
    s.locNode p.dest ≠ s.node →
    s.get .PLANE ≠ 2 →
    Machine.exec (.twinCopyArrive t port p) s = .next (((((((s.at t).noteArrived port { p with inPort := port, inTime := max s.now t, colour := min 2 p.colour }).countPort port 0x10 1 { p with inPort := port, inTime := max s.now t, colour := min 2 p.colour }).countPort port 0x11 p.tlp.bytes
      { p with inPort := port, inTime := max s.now t, colour := min 2 p.colour }).countPort port (0x12 + p.tlp.sub.code) 1 { p with inPort := port, inTime := max s.now t, colour := min 2 p.colour }).release
      { p with inPort := port, inTime := max s.now t, colour := min 2 p.colour }).finish s)) ∧
  (∀ (s : State) (t : Time) (port : Nat) (p : Pkt),
    port < 512 →
    s.fabricOpen port = true →
    s.husked port = false →
    s.nbrRefused port = false →
    p.tlp.fault = none →
    (p.internal = true ∨ p.ur = true ∨ s.husked (partRow p.part) = false) →
    p.twin ≠ 0 →
    s.locNode p.dest ≠ s.node →
    s.get .PLANE = 2 →
    s.get .ACTIVE_PORT (s.locNode p.dest) ≠ s.get .PRIMARY_PORT (s.locNode p.dest) →
    Machine.exec (.twinCopyArrive t port p) s = .next ((((((((s.at t).noteArrived port { p with inPort := port, inTime := max s.now t, colour := min 2 p.colour }).countPort port 0x10 1 { p with inPort := port, inTime := max s.now t, colour := min 2 p.colour }).countPort port 0x11 p.tlp.bytes
      { p with inPort := port, inTime := max s.now t, colour := min 2 p.colour }).countPort port (0x12 + p.tlp.sub.code) 1 { p with inPort := port, inTime := max s.now t, colour := min 2 p.colour }).bump .TWIN_PLANE_BREACH).creditBack port
      { p with inPort := port, inTime := max s.now t, colour := min 2 p.colour }).finish s)) ∧
  (∀ (s : State) (t : Time) (port : Nat) (p : Pkt),
    port < 512 →
    s.fabricOpen port = true →
    s.husked port = false →
    s.nbrRefused port = false →
    p.tlp.fault = none →
    (p.internal = true ∨ p.ur = true ∨ s.husked (partRow p.part) = false) →
    p.twin ≠ 0 →
    s.locNode p.dest ≠ s.node →
    s.get .PLANE = 2 →
    s.get .ACTIVE_PORT (s.locNode p.dest) = s.get .PRIMARY_PORT (s.locNode p.dest) →
    Machine.exec (.twinCopyArrive t port p) s = .next ((((((((s.at t).noteArrived port { p with inPort := port, inTime := max s.now t, colour := min 2 p.colour }).countPort port 0x10 1 { p with inPort := port, inTime := max s.now t, colour := min 2 p.colour }).countPort port 0x11 p.tlp.bytes
      { p with inPort := port, inTime := max s.now t, colour := min 2 p.colour }).countPort port (0x12 + p.tlp.sub.code) 1 { p with inPort := port, inTime := max s.now t, colour := min 2 p.colour }).bump .TWIN_PLANE_BREACH).release
      { p with inPort := port, inTime := max s.now t, colour := min 2 p.colour }).finish s)) ∧
  (∀ (s : State) (t : Time) (port : Nat) (p : Pkt),
    port < 512 →
    s.fabricOpen port = true →
    s.husked port = false →
    s.nbrRefused port = false →
    p.tlp.fault = none →
    (p.internal = true ∨ p.ur = true ∨ s.husked (partRow p.part) = false) →
    p.twin ≠ 0 →
    s.locNode p.dest = s.node →
    s.behind port p.cls = true →
    Machine.exec (.twinCopyArrive t port p) s = .next (((((((s.at t).noteArrived port { p with inPort := port, inTime := max s.now t, colour := min 2 p.colour }).countPort port 0x10 1 { p with inPort := port, inTime := max s.now t, colour := min 2 p.colour }).countPort port 0x11 p.tlp.bytes
      { p with inPort := port, inTime := max s.now t, colour := min 2 p.colour }).countPort port (0x12 + p.tlp.sub.code) 1 { p with inPort := port, inTime := max s.now t, colour := min 2 p.colour }).rxPut { port := port, pkt := { p with inPort := port, inTime := max s.now t, colour := min 2 p.colour }, why := .behind }).finish s)) ∧
  (∀ (s : State) (t : Time) (port : Nat) (p : Pkt),
    port < 512 →
    s.fabricOpen port = true →
    s.husked port = false →
    s.nbrRefused port = false →
    p.tlp.fault = none →
    (p.internal = true ∨ p.ur = true ∨ s.husked (partRow p.part) = false) →
    p.twin ≠ 0 →
    s.locNode p.dest = s.node →
    s.rx.getD [] (clusterOf port) = [] →
    Machine.exec (.twinCopyArrive t port p) s = .next (((((((s.at t).noteArrived port { p with inPort := port, inTime := max s.now t, colour := min 2 p.colour }).countPort port 0x10 1 { p with inPort := port, inTime := max s.now t, colour := min 2 p.colour }).countPort port 0x11 p.tlp.bytes
      { p with inPort := port, inTime := max s.now t, colour := min 2 p.colour }).countPort port (0x12 + p.tlp.sub.code) 1 { p with inPort := port, inTime := max s.now t, colour := min 2 p.colour }).twinIn
      { p with inPort := port, inTime := max s.now t, colour := min 2 p.colour }).finish s)) ∧
  (∀ (s : State) (n : Nat) (p : Pkt),
    s.streamOf p = n →
    (s.stream n).held = [] →
    (s.stream n).count = p.seq →
    p.seq < 2 ^ 24 →
    (s.streamIn p = (s.updStream n fun h => { h with count := (p.seq + 1) % 2 ^ 24 }).release p)) ∧
  (∀ (s : State) (n : Nat) (p : Pkt),
    s.streamOf p = n →
    behind24 (s.stream n).count p.seq = true →
    s.streamIn p = (s.bump .DEDUP_DISCARDS).creditBack p.inPort p) ∧
  (∀ (s : State) (n : Nat) (p : Pkt),
    s.streamOf p = n →
    (s.stream n).held = [] →
    dist24 (s.stream n).count p.seq ≠ 0 →
    dist24 (s.stream n).count p.seq < 2 ^ 23 →
    (p.pseqValid = true ∨ p.salvage = true) →
    p.seq < 2 ^ 24 →
    (s.stream n).count < 2 ^ 24 →
    p.internal = false →
    ((s.streamIn p).stream n).held = [p] ∧
      ((s.streamIn p).stream n).count = (s.stream n).count ∧
      (s.streamIn p).get .ORDER_HOLDS p.part = (s.get .ORDER_HOLDS p.part + 1) % 2 ^ 32 ∧
      (s.streamIn p).SameBut s [(.ORDER_HOLDS, p.part)] ∧
      (s.streamIn p).SameBuffers s) ∧
  (∀ (s : State) (n : Nat) (p : Pkt),
    s.streamOf p = n →
    (s.stream n).held = [] →
    dist24 (s.stream n).count p.seq ≠ 0 →
    dist24 (s.stream n).count p.seq < 2 ^ 23 →
    p.pseqValid = false →
    p.salvage = false →
    (s.streamIn p = (((s.bump .ORDER_GAPS).raise (streamErr 0x200F p)).updStream n fun h => { h with count := (p.seq + 1) % 2 ^ 24 }).release p)) ∧
  (∀ (s : State) (n : Nat) (p : Pkt),
    s.streamOf p = n →
    (s.stream n).held ≠ [] →
    behind24 (s.stream n).count p.seq = false →
    (s.streamIn p = ((if p.internal then s else s.bump .ORDER_HOLDS p.part).updStream n fun h => { h with held := h.held ++ [p] }).releaseHeld n ((s.stream n).held.length + 1))) ∧
  (∀ (s : State) (t : Time) (n : Nat),
    s.errs = [] →
    (s.at t).heldTooLong n = false →
    ∃ s', Machine.exec (.orderHoldTimeout t n) s = .next s' ∧
      s'.SameBut s [] ∧
      s'.SameBuffers s ∧
      s'.streams = s.streams) ∧
  (∀ (s : State) (t : Time) (n : Nat) (p : Pkt),
    (s.at t).heldTooLong n = true →
    (s.stream n).held.head? = some p →
    Machine.exec (.orderHoldTimeout t n) s = .next (((((s.stream n).held.mergeSort fun a b => dist24 (s.stream n).count a.seq ≤ dist24 (s.stream n).count b.seq).foldl (State.expireOne n)
      ((((s.at t).bump .ORDER_HOLD_EXPIRIES).raise (streamErr 0x200E p)).updStream n fun h => { h with held := [] })).finish s))) ∧
  (∀ (s : State) (t : Time) (n : Nat) (p : Pkt),
    (s.stream n).held = [p] →
    p.inTime + us (s.get .ORDER_HOLD_TIMEOUT) ≤ max s.now t →
    behind24 (s.stream n).count p.seq = false →
    Machine.exec (.orderHoldTimeout t n) s = .next (((((((s.at t).bump .ORDER_HOLD_EXPIRIES).raise (streamErr 0x200E p)).updStream n fun h => { h with held := [] }).updStream n fun h =>
      { h with count := (p.seq + 1) % 2 ^ 24 }).release p).finish s)) ∧
  (∀ (s : State) (t : Time) (node : Nat),
    node < 32 →
    s.errs = [] →
    s.flagUntil.getD 0 node ≤ max s.now t →
    ∃ s', Machine.exec (.pathChangeFlaggingEnd t node) s = .next s' ∧
      s'.flagUntil.find node = none ∧
      (∀ m ∈ s.flagUntil.keys, m ≠ node → s'.flagUntil.find m = s.flagUntil.find m) ∧
      s'.SameBut s [] ∧
      s'.SameBuffers s) ∧
  (∀ (s : State) (t : Time) (node : Nat),
    node < 32 →
    s.errs = [] →
    max s.now t < s.flagUntil.getD 0 node →
    ∃ s', Machine.exec (.pathChangeFlaggingEnd t node) s = .next s' ∧
      s'.flagUntil = s.flagUntil ∧
      s'.SameBut s [] ∧
      s'.SameBuffers s) ∧
  (∀ (s : State) (p : Pkt),
    s.rsvOf p = none →
    s.twinIn p = s.creditBack p.inPort p) ∧
  (∀ (s : State) (r : Nat) (p : Pkt),
    s.rsvOf p = some r →
    dist24 (s.rsv r).x p.seq < 4096 →
    ((s.rsv r).slots.any (fun (x : Nat × Pkt × List Nat) => x.1 = p.seq) = true) →
    s.twinIn p = (s.bump .TWIN_DUPLICATES r).creditBack p.inPort p) ∧
  (∀ (s : State) (t : Time) (r : Nat),
    r < 16384 →
    s.errs = [] →
    ((s.rsv r).timer.all (fun x => max s.now t < x) = true) →
    ∃ s', Machine.exec (.twinSkewTimeout t r) s = .next s' ∧
      s'.rsvs = s.rsvs ∧
      s'.SameBut s [] ∧
      s'.SameBuffers s) ∧
  (∀ (s : State) (t : Time) (r : Nat) (x : Time),
    r < 16384 →
    s.errs = [] →
    (s.rsv r).timer = some x →
    x ≤ max s.now t →
    (s.rsv r).slots = [] →
    ∃ s', Machine.exec (.twinSkewTimeout t r) s = .next s' ∧
      (s'.rsv r).timer = none ∧
      (s'.rsv r).x = (s.rsv r).x ∧
      s'.SameBut s [] ∧
      s'.SameBuffers s) ∧
  (∀ (s : State) (r : Nat) (p : Pkt),
    s.rsvOf p = some r →
    2 ^ 23 ≤ dist24 (s.rsv r).x p.seq →
    s.twinIn p = (s.bump .TWIN_DUPLICATES r).creditBack p.inPort p) ∧
  (∀ (s : State) (r : Nat) (p : Pkt),
    s.rsvOf p = some r →
    4096 ≤ dist24 (s.rsv r).x p.seq →
    dist24 (s.rsv r).x p.seq < 2 ^ 23 →
    s.twinIn p = ((s.bump .TWIN_WINDOW_DISCARDS r).raise (pktErr 0x2011 6 r p)).creditBack p.inPort p) ∧
  (∀ (s : State) (t : Time) (r n : Nat) (x : Time),
    r < 16384 →
    (s.rsv r).timer = some x →
    x ≤ max s.now t →
    (((s.rsv r).slots.map fun (x : Nat × Pkt × List Nat) => dist24 (s.rsv r).x x.1).min? = some n) →
    Machine.exec (.twinSkewTimeout t r) s = .next (((((s.at t).updRsv r fun h => { h with x := (h.x + n) % 2 ^ 24, timer := none }).bump .TWIN_LOST r n).raise
      { code := 0x2011, kind := 6, idx := r, detail := n } |>.twinDrain r 4096).finish s))

/-- Blocks go to HBM and come back; Bramble passes find leaked cells and return them (R22, R140, R141, R142, R143,
R307, R145, R146). What is the model's choice in it and not a rule of the spec: log 39, 55, 75, 77, 84. -/
def Obligations.BlocksSpillAndLeaksAreFound : Prop :=
  (∀ (s : State) (t : Time) (k : Nat) (u : Sub) (q : Queue) (b : Block),
    s.errs = [] →
    s.queues.find k = some q →
    (q.sub u).stage = [] →
    (q.sub u).seg = [b] →
    b.state = .filling →
    (b.cells.length = 16 ∨ (b.cells ≠ [] ∧ (q.sub u).lastStage + us 1 ≤ max s.now t)) →
    ∃ s', Machine.exec (.spillBlockClose t k u) s = .next s' ∧
      (s'.subOf k u).seg = [{ b with state := .writing }] ∧
      (s'.subOf k u).head = (q.sub u).head ∧
      (∀ j ∈ s.queues.keys, j ≠ k → s'.queues.find j = s.queues.find j) ∧
      s'.SameBut s [] ∧
      s'.cells = s.cells ∧
      s'.rx = s.rx ∧
      s'.tags = s.tags) ∧
  (∀ (s : State) (t : Time) (k : Nat) (u : Sub),
    ((s.at t).fillStage k u |>.subOf k u).openCells.length ≠ 16 →
    (((s.at t).fillStage k u |>.subOf k u).openCells = [] ∨ max s.now t < ((s.at t).fillStage k u |>.subOf k u).lastStage + us 1) →
    Machine.exec (.spillBlockClose t k u) s = .next (((s.at t).fillStage k u).finish s)) ∧
  (∀ (s : State) (t : Time) (k : Nat) (u : Sub),
    (((s.at t).fillStage k u |>.subOf k u).openCells.length = 16 ∨ (((s.at t).fillStage k u |>.subOf k u).openCells ≠ [] ∧ ((s.at t).fillStage k u |>.subOf k u).lastStage + us 1 ≤ max s.now t)) →
    Machine.exec (.spillBlockClose t k u) s = .next (((((s.at t).fillStage k u).updSub k u SubQ.close).fillStage k u).finish s)) ∧
  (∀ (s : State) (t : Time) (k : Nat) (u : Sub) (q : Queue) (b : Block),
    s.errs = [] →
    s.queues.find k = some q →
    ((q.sub u).seg.find? (fun x => x.state = .writing) = some b) →
    s.stackOk b.stack = true →
    ∃ s', Machine.exec (.spillBlockWritten t k u) s = .next s' ∧
      ((s'.subOf k u).seg = updBlock .writing (fun b => { b with state := .stored }) (q.sub u).seg) ∧
      (∀ c ∈ b.cells, s'.cells.find c.idx = none) ∧
      s'.get .SPILL_BYTES_WRITTEN = (s.get .SPILL_BYTES_WRITTEN + 256 * b.cells.length) % 2 ^ 64 ∧
      (∀ j ∈ s.queues.keys, j ≠ k → s'.queues.find j = s.queues.find j) ∧
      s'.SameBut s [(.SPILL_BYTES_WRITTEN, 0)] ∧
      s'.rx = s.rx ∧
      s'.tags = s.tags) ∧
  (∀ (s : State) (t : Time) (k : Nat) (u : Sub) (q : Queue),
    s.errs = [] →
    s.queues.find k = some q →
    ((q.sub u).seg.all (fun b => b.state ≠ .writing || !s.stackOk b.stack) = true) →
    ∃ s', Machine.exec (.spillBlockWritten t k u) s = .next s' ∧
      s'.queues.find k = some q ∧
      (∀ j ∈ s.queues.keys, j ≠ k → s'.queues.find j = s.queues.find j) ∧
      s'.SameBut s [] ∧
      s'.cells = s.cells ∧
      s'.rx = s.rx ∧
      s'.tags = s.tags) ∧
  (∀ (s : State) (t : Time) (k : Nat) (u : Sub) (q : Queue) (b : Block) (rest : List Block),
    s.errs = [] →
    s.queues.find k = some q →
    (q.sub u).seg = b :: rest →
    b.state = .stored →
    (q.sub u).head.length < s.get .DRAIN_WINDOW →
    s.spillDue.2 ≤ max s.now t →
    ∃ s', Machine.exec (.drainBlockRead t k u) s = .next s' ∧
      (s'.subOf k u).seg = { b with state := .reading } :: rest ∧
      s'.spillDue = (s.spillDue.1, max s.now t + spillTime (s.get .CAP_STEP) b.cells.length) ∧
      (s'.subOf k u).head = (q.sub u).head ∧
      (∀ j ∈ s.queues.keys, j ≠ k → s'.queues.find j = s.queues.find j) ∧
      s'.SameBut s [] ∧
      s'.cells = s.cells ∧
      s'.rx = s.rx ∧
      s'.tags = s.tags) ∧
  (∀ (s : State) (t : Time) (k : Nat) (u : Sub) (q : Queue),
    s.errs = [] →
    s.queues.find k = some q →
    ((q.sub u).seg.head?.all (fun b => b.state ≠ .stored) = true ∨ s.get .DRAIN_WINDOW ≤ (q.sub u).head.length ∨ max s.now t < s.spillDue.2) →
    ∃ s', Machine.exec (.drainBlockRead t k u) s = .next s' ∧
      s'.queues.find k = some q ∧
      (∀ j ∈ s.queues.keys, j ≠ k → s'.queues.find j = s.queues.find j) ∧
      s'.SameBut s [] ∧
      s'.cells = s.cells ∧
      s'.rx = s.rx ∧
      s'.tags = s.tags) ∧
  (∀ (s : State) (t : Time) (k : Nat) (u : Sub) (q : Queue) (b : Block) (rest : List Block) (cs : List Nat),
    s.errs = [] →
    s.queues.find k = some q →
    (q.sub u).seg = b :: rest →
    b.state = .reading →
    b.cells.length ≤ s.reserveFree →
    s.stackOk b.stack = true →
    b.lost = false →
    (q.sub u).reached b.cells = [] →
    (s.at t).xFull (.quadHbm (s.portNow k % 512 / 128) b.stack false) = false →
    ((s.at t).allocCells (clusterOf (s.portNow k % 512)) (chargeWord 3 (s.portNow k % 512) (keyClass k)) b.cells.length).map (·.1) = some cs →
    ∃ s', Machine.exec (.drainBlockLinked t k u true) s = .next s' ∧
      (s'.subOf k u).seg = rest ∧
      (s'.subOf k u).head = (q.sub u).head ++ recell b.cells cs ∧
      (s'.queues.getD { num := 0 } k).parked = false ∧
      (∀ c ∈ cs, s'.cells.find c = some (chargeWord 3 (s.portNow k % 512) (keyClass k))) ∧
      (∀ j ∈ s.queues.keys, j ≠ k → s'.queues.find j = s.queues.find j) ∧
      s'.SameBut s [] ∧
      s'.rx = s.rx ∧
      s'.tags = s.tags) ∧
  (∀ (s : State) (t : Time) (k : Nat) (u : Sub) (q : Queue) (b : Block) (rest : List Block) (ok : Bool),
    s.errs = [] →
    s.queues.find k = some q →
    (q.sub u).seg = b :: rest →
    (b.state ≠ .reading ∨ (ok = true ∧ s.stackOk b.stack = true ∧ b.lost = false ∧ (q.sub u).reached b.cells = [] ∧ (s.reserveFree < b.cells.length ∨ ((s.at t).allocCells (clusterOf (s.portNow k % 512)) (chargeWord 3 (s.portNow k % 512) (keyClass k)) b.cells.length).isNone = true)) ∨ (s.at t).xFull (.quadHbm (s.portNow k % 512 / 128) b.stack false) = true) →
    ∃ s', Machine.exec (.drainBlockLinked t k u ok) s = .next s' ∧
      s'.queues.find k = some q ∧
      s'.SameBut s [] ∧
      (∀ j ∈ s.queues.keys, j ≠ k → s'.queues.find j = s.queues.find j) ∧
      s'.cells = s.cells ∧
      s'.rx = s.rx ∧
      s'.tags = s.tags) ∧
  (∀ (s : State) (t : Time) (k : Nat) (u : Sub) (q : Queue) (ok : Bool),
    s.errs = [] →
    s.queues.find k = some q →
    (q.sub u).seg = [] →
    ∃ s', Machine.exec (.drainBlockLinked t k u ok) s = .next s' ∧
      s'.queues.find k = some q ∧
      s'.SameBut s [] ∧
      (∀ j ∈ s.queues.keys, j ≠ k → s'.queues.find j = s.queues.find j) ∧
      s'.cells = s.cells ∧
      s'.rx = s.rx ∧
      s'.tags = s.tags) ∧
  (∀ (s : State) (t : Time) (k : Nat) (u : Sub) (ok : Bool),
    Machine.exec (.drainBlockLinked t k u ok) s = .next (((s.at t).drainLink k u ok).finish s)) ∧
  (∀ (s : State) (k : Nat) (u : Sub) (q : Queue) (b : Block) (rest : List Block) (ok : Bool) (c : Cel) (p : Pkt),
    s.queues.find k = some q →
    (q.sub u).seg = b :: rest →
    b.state = .reading →
    (ok = false ∨ b.lost = true ∨ s.stackOk b.stack = false) →
    c ∈ b.cells →
    c.pkt = some p →
    p.lost ≤ 2 →
    b.cells.length ≤ s.reserveFree →
    ((List.range (b.cells.length + 1)).all (fun n => (s.allocCells (clusterOf (s.portNow k % 512)) (chargeWord 3 (s.portNow k % 512) (keyClass k)) n).isSome) = true) →
    s.xFull (.quadHbm (s.portNow k % 512 / 128) b.stack false) = false →
    (∀ d ∈ ((s.drainLink k u ok).subOf k u).whole, d.stamp ≠ c.stamp) ∧
      ((s.drainLink k u ok).subOf k u).seg.length = rest.length ∧
      (∃ e ∈ (s.drainLink k u ok).errs, e.code = 0x2010 ∧ e.detail = p.cells)) ∧
  (∀ (s : State) (t : Time) (k : Nat) (q : Queue),
    s.errs = [] →
    s.queues.find k = some q →
    q.canExit = true →
    s.spillWaits k = false →
    ∃ s', Machine.exec (.spillExit t k) s = .next s' ∧
      s'.queues.find k = some q.exit ∧
      (∀ j ∈ s.queues.keys, j ≠ k → s'.queues.find j = s.queues.find j) ∧
      s'.SameBut s [] ∧
      s'.cells = s.cells ∧
      s'.rx = s.rx ∧
      s'.tags = s.tags) ∧
  (∀ (s : State) (t : Time) (k : Nat),
    s.errs = [] →
    s.queues.find k = none →
    ∃ s', Machine.exec (.spillExit t k) s = .next s' ∧
      s'.queues = s.queues ∧
      s'.SameBut s [] ∧
      s'.cells = s.cells) ∧
  (∀ (s : State) (t : Time) (k : Nat) (q : Queue),
    s.errs = [] →
    s.queues.find k = some q →
    (q.canExit = false ∨ s.spillWaits k = true) →
    ∃ s', Machine.exec (.spillExit t k) s = .next s' ∧
      s'.queues.find k = some q ∧
      s'.SameBut s [] ∧
      s'.cells = s.cells) ∧
  (∀ (s : State) (t : Time),
    s.errs = [] →
    (∀ x ∈ s.paused, x.1 ≠ 7) →
    s.strayCells = [] →
    ∃ s', Machine.exec (.bramblePassEnd t) s = .next s' ∧
      s'.leaks = [] ∧
      s'.get .BRAMBLE_PASSES = (s.get .BRAMBLE_PASSES + 1) % 2 ^ 32 ∧
      s'.SameBut s [(.BRAMBLE_PASSES, 0)] ∧
      s'.SameBuffers s) ∧
  (∀ (s : State) (t : Time) (c : Nat),
    s.errs = [] →
    (∀ x ∈ s.paused, x.1 ≠ 7) →
    s.strayCells = [c] →
    s.leaks.getD 0 c < 2 →
    ∃ s', Machine.exec (.bramblePassEnd t) s = .next s' ∧
      s'.leaks = [(c, s.leaks.getD 0 c + 1)] ∧
      s'.get .BRAMBLE_PASSES = (s.get .BRAMBLE_PASSES + 1) % 2 ^ 32 ∧
      s'.SameBut s [(.BRAMBLE_PASSES, 0)] ∧
      s'.SameBuffers s) ∧
  (∀ (s : State) (t : Time) (c : Nat),
    (∀ x ∈ s.paused, x.1 ≠ 7) →
    s.strayCells = [c] →
    s.leaks.getD 0 c = 2 →
    s.get .BRAMBLE_POLICY = 1 →
    Machine.exec (.bramblePassEnd t) s = .next ((((((({ s.at t with leaks := [(c, 3)], touched := [] }.bump .BRAMBLE_PASSES).bump .LEAKS_FOUND).put .LAST_LEAK_CELL 0 c).raise
      { code := 0x1005, kind := 0, idx := 0 }).freeCells [c]).bump .LEAKS_RECLAIMED).finish s)) ∧
  (∀ (s : State) (t : Time) (c : Nat),
    (∀ x ∈ s.paused, x.1 ≠ 7) →
    s.strayCells = [c] →
    s.leaks.getD 0 c = 2 →
    s.get .BRAMBLE_POLICY ≠ 1 →
    Machine.exec (.bramblePassEnd t) s = .next ((((({ s.at t with leaks := [(c, 3)], touched := [] }.bump .BRAMBLE_PASSES).bump .LEAKS_FOUND).put .LAST_LEAK_CELL 0 c).raise
      { code := 0x1005, kind := 0, idx := 0 }).finish s)) ∧
  (∀ (s : State) (t : Time),
    (∀ x ∈ s.paused, x.1 ≠ 7) →
    Machine.exec (.bramblePassEnd t) s = .next ((((s.strayCells.map fun c => (c, min 3 (s.leaks.getD 0 c + 1))).filter (fun x => x.2 = 3 && s.leaks.getD 0 x.1 ≠ 3)).map (·.1) |>.foldl State.leak
      ({ s.at t with leaks := s.strayCells.map (fun c => (c, min 3 (s.leaks.getD 0 c + 1))), touched := [] }.bump .BRAMBLE_PASSES)).finish s)) ∧
  (∀ (s : State) (t : Time) (x : Nat × Nat),
    s.errs = [] →
    x ∈ s.paused →
    x.1 = 7 →
    ∃ s', Machine.exec (.bramblePassEnd t) s = .next s' ∧
      s'.leaks = s.leaks ∧
      s'.SameBut s [] ∧
      s'.SameBuffers s)

/-- RSV_ACTION stages a reservation, RSV_COMMIT hands the rows to pair B, admission answers, and paths are judged
again (R174, R175, R176, R177, R179). What is the model's choice in it and not a rule of the spec: log 25, 30,
52. -/
def Obligations.ReservationsAreStagedAdmittedAndKept : Prop :=
  (∀ (s : State) (t : Time) (req : Req) (r : Nat),
    s.errs = [] →
    s.hears req →
    s.resolve (s.principal req.path) 2 (entryOf .RSV_ACTION (some r) 1).addr = .obj .RSV_ACTION r →
    s.switching = false →
    ∃ s', Machine.exec (.rsvActionWrite t req r 1) s = .next s' ∧
      s'.get .RSV_STATE r = 1 ∧
      s'.newest .RSV_ACTION r = 1 ∧
      s'.answered req 0 [0xFFFFFFFF, 0xFFFFFFFF] ∧
      s'.SameBut s (req.traces ++ [(.RSV_STATE, r)]) ∧
      s'.SameBuffers s) ∧
  (∀ (s : State) (t : Time) (req : Req) (r : Nat),
    s.errs = [] →
    s.hears req →
    s.resolve (s.principal req.path) 2 (entryOf .RSV_ACTION (some r) 2).addr = .obj .RSV_ACTION r →
    s.rsvGranted r = false →
    ∃ s', Machine.exec (.rsvActionWrite t req r 2) s = .next s' ∧
      s'.answered req 0x0301 [0] ∧
      s'.staged = s.staged ∧
      s'.SameBut s (req.traces ++ [(.REQUESTS_REFUSED, 0)]) ∧
      s'.SameBuffers s) ∧
  (∀ (s : State) (t : Time) (req : Req) (r : Nat),
    s.errs = [] →
    s.hears req →
    s.resolve (s.principal req.path) 2 (entryOf .RSV_ACTION (some r) 2).addr = .obj .RSV_ACTION r →
    s.rsvGranted r = true →
    s.switching = false →
    ∃ s', Machine.exec (.rsvActionWrite t req r 2) s = .next s' ∧
      s'.get .RSV_STATE r = s.get .RSV_STATE r ∧
      s'.newest .RSV_ACTION r = 2 ∧
      s'.answered req 0 [0xFFFFFFFF, 0xFFFFFFFF] ∧
      s'.SameBut s (req.traces ++ []) ∧
      s'.SameBuffers s) ∧
  (∀ (s : State) (t : Time) (req : Req) (r : Nat),
    s.errs = [] →
    s.hears req →
    s.resolve (s.principal req.path) 2 (entryOf .RSV_ACTION (some r) 0).addr = .obj .RSV_ACTION r →
    s.switching = false →
    ∃ s', Machine.exec (.rsvActionWrite t req r 0) s = .next s' ∧
      (s'.get .RSV_STATE r = (if s.get .RSV_STATE r = 1 then 0 else s.get .RSV_STATE r)) ∧
      s'.answered req 0 [0xFFFFFFFF, 0xFFFFFFFF] ∧
      s'.SameBut s (req.traces ++ [(.RSV_STATE, r)]) ∧
      s'.SameBuffers s) ∧
  (∀ (s : State) (t : Time) (req : Req) (r v : Nat),
    s.errs = [] →
    s.hears req →
    s.resolve (s.principal req.path) 2 (entryOf .RSV_ACTION (some r) v).addr = .obj .RSV_ACTION r →
    2 < v →
    v < 256 →
    ∃ s', Machine.exec (.rsvActionWrite t req r v) s = .next s' ∧
      s'.answered req 0x0301 [0] ∧
      s'.staged = s.staged ∧
      s'.SameBut s (req.traces ++ [(.REQUESTS_REFUSED, 0)]) ∧
      s'.SameBuffers s) ∧
  (∀ (s : State) (t : Time) (req : Req) (offers : List Time) (c : Nat),
    s.errs = [] →
    s.hears req →
    firstCode [s.mayInvoke req .RSV_COMMIT none, codeIf s.stagedRsvs.isEmpty 0x0102, codeIf (s.epochsRefused || s.get .PAIR_B_STATE ≠ 0) 0x0404, (s.at t).checkOffers offers, codeIf s.rsvJob.isSome 0x0501] = c →
    c ≠ 0 →
    ∃ s', Machine.exec (.rsvCommit t req offers) s = .next s' ∧
      s'.answered req c [] ∧
      s'.rsvJob = s.rsvJob ∧
      s'.SameBut s (req.traces ++ [(.REQUESTS_REFUSED, 0)]) ∧
      s'.SameBuffers s) ∧
  (∀ (s : State) (t : Time) (req : Req) (offers : List Time),
    s.errs = [] →
    s.hears req →
    s.mayInvoke req .RSV_COMMIT none = 0 →
    s.stagedRsvs ≠ [] →
    s.epochsRefused = false →
    s.get .PAIR_B_STATE = 0 →
    (s.at t).checkOffers offers = 0 →
    s.rsvJob = none →
    ∃ s', Machine.exec (.rsvCommit t req offers) s = .next s' ∧
      s'.rsvJob = some (req, offers, s.stagedRsvs) ∧
      s'.out = s.out ∧
      s'.SameBut s (req.traces ++ []) ∧
      s'.SameBuffers s) ∧
  (∀ (s : State) (t : Time) (req : Req) (offers : List Time),
    s.errs = [] →
    s.hears req →
    s.mayInvoke req .RSV_COMMIT none = 0 →
    s.stagedRsvs = [] →
    ∃ s', Machine.exec (.rsvCommit t req offers) s = .next s' ∧
      s'.answered req 0x0102 [] ∧
      s'.rsvJob = s.rsvJob ∧
      s'.SameBut s (req.traces ++ [(.REQUESTS_REFUSED, 0)]) ∧
      s'.SameBuffers s) ∧
  (∀ (s : State) (t : Time) (req : Req) (offers : List Time) (rows : List Nat) (r L : Nat),
    s.errs = [] →
    s.rsvJob = some (req, offers, rows) →
    s.get .PAIR_B_STATE = 0 →
    rows = [r] →
    s.get .RSV_STATE r = 1 →
    s.admitRows s.grantedRows [r] = [(r, { bound := L })] →
    s.unitsBusy (unitsOf (s.rsvNodes [r])) = false →
    (∀ e ∈ offers, max s.now t + 3 * s.P ≤ e) →
    offers ≠ [] →
    ∃ s', Machine.exec (.rsvAdmissionDone t) s = .next s' ∧
      s'.rsvJob = none ∧
      s'.get .RSV_STATE r = 2 ∧
      s'.get .RSV_RESULT r = 0 ∧
      s'.get .RSV_PATH_BOUND r = L ∧
      (∃ x ∈ s'.reqs, x.kind = 3 ∧ x.offers = offers ∧ x.units = unitsOf (s.rsvNodes [r]) ∧ s'.get .RSV_REQUEST r = x.num ∧ s'.answered req 0 [x.num] ∧
        s'.SameBut s (s.openedRows x.num ++ [(.RSV_RESULT, r), (.RSV_REFUSE_DETAIL, r), (.RSV_PATH_BOUND, r), (.RSV_STATE, r), (.RSV_REQUEST, r)])) ∧
      s'.SameBuffers s) ∧
  (∀ (s : State) (t : Time) (req : Req) (offers : List Time) (rows : List Nat) (r : Nat) (v : Verdict),
    s.errs = [] →
    s.rsvJob = some (req, offers, rows) →
    s.get .PAIR_B_STATE = 0 →
    rows = [r] →
    s.get .RSV_STATE r = 1 →
    s.admitRows s.grantedRows [r] = [(r, v)] →
    v.code ≠ 0 →
    (∃ e ∈ offers, max s.now t + 3 * s.P ≤ e) →
    ∃ s', Machine.exec (.rsvAdmissionDone t) s = .next s' ∧
      s'.rsvJob = none ∧
      s'.get .RSV_STATE r = 6 ∧
      s'.get .RSV_RESULT r = v.code ∧
      s'.get .RSV_REFUSE_DETAIL r = v.hop * 2048 + v.cause ∧
      s'.answered req 0x0601 [] ∧
      s'.reqs = s.reqs ∧
      s'.SameBut s [(.RSV_RESULT, r), (.RSV_REFUSE_DETAIL, r), (.RSV_PATH_BOUND, r), (.RSV_STATE, r), (.REQUESTS_REFUSED, 0)] ∧
      s'.SameBuffers s) ∧
  (∀ (s : State) (t : Time) (req : Req) (offers : List Time) (rows : List Nat) (r : Nat),
    s.errs = [] →
    s.rsvJob = some (req, offers, rows) →
    s.get .PAIR_B_STATE = 0 →
    rows = [r] →
    s.get .RSV_STATE r ≠ 1 →
    s.releaseStaged r = true →
    s.unitsBusy (unitsOf (s.rsvNodes [r])) = false →
    (∀ e ∈ offers, max s.now t + 3 * s.P ≤ e) →
    offers ≠ [] →
    ∃ s', Machine.exec (.rsvAdmissionDone t) s = .next s' ∧
      s'.rsvJob = none ∧
      (∃ x ∈ s'.reqs, x.kind = 3 ∧ x.offers = offers ∧ x.units = unitsOf (s.rsvNodes [r]) ∧ s'.get .RSV_REQUEST r = x.num ∧ s'.answered req 0 [x.num] ∧
        s'.SameBut s (s.openedRows x.num ++ [(.RSV_REQUEST, r)])) ∧
      s'.SameBuffers s) ∧
  (∀ (s : State) (t : Time) (req : Req) (offers : List Time) (rows : List Nat) (r L : Nat),
    s.errs = [] →
    s.rsvJob = some (req, offers, rows) →
    s.get .PAIR_B_STATE = 0 →
    rows = [r] →
    s.get .RSV_STATE r = 1 →
    s.admitRows s.grantedRows [r] = [(r, { bound := L })] →
    (∀ e ∈ offers, e < max s.now t + 3 * s.P) →
    ∃ s', Machine.exec (.rsvAdmissionDone t) s = .next s' ∧
      s'.rsvJob = none ∧
      s'.get .RSV_STATE r = 1 ∧
      s'.answered req 0x0402 [] ∧
      s'.reqs = s.reqs ∧
      s'.SameBut s [(.RSV_RESULT, r), (.RSV_REFUSE_DETAIL, r), (.RSV_PATH_BOUND, r), (.RSV_STATE, r), (.REQUESTS_REFUSED, 0)] ∧
      s'.SameBuffers s) ∧
  (∀ (s : State) (t : Time) (req : Req) (offers : List Time) (rows : List Nat),
    s.rsvJob = some (req, offers, rows) →
    s.get .PAIR_B_STATE = 0 →
    Machine.exec (.rsvAdmissionDone t) s = .next (((({ s.at t with rsvJob := none } : State).admissionDone offers rows).2.2.answer req (({ s.at t with rsvJob := none } : State).admissionDone offers rows).1
      (({ s.at t with rsvJob := none } : State).admissionDone offers rows).2.1).finish s)) ∧
  (∀ (s : State) (t : Time),
    s.errs = [] →
    (s.rsvJob = none ∨ s.get .PAIR_B_STATE ≠ 0) →
    ∃ s', Machine.exec (.rsvAdmissionDone t) s = .next s' ∧
      s'.rsvJob = s.rsvJob ∧
      s'.out = s.out ∧
      s'.SameBut s [] ∧
      s'.SameBuffers s) ∧
  (∀ (s : State) (t : Time) (r : Nat),
    r < 16384 →
    s.errs = [] →
    ((s.get .RSV_STATE r ≠ 3 ∧ s.get .RSV_STATE r ≠ 4) ∨ s.get .PAIR_B_STATE ≠ 0) →
    ∃ s', Machine.exec (.rsvReadmit t r) s = .next s' ∧
      s'.out = s.out ∧
      s'.SameBut s [] ∧
      s'.SameBuffers s) ∧
  (∀ (s : State) (t : Time) (r : Nat),
    r < 16384 →
    (s.get .RSV_STATE r = 3 ∨ s.get .RSV_STATE r = 4) →
    s.get .PAIR_B_STATE = 0 →
    Machine.exec (.rsvReadmit t r) s = .next ((((s.at t).put .RSV_PATH_BOUND r (s.outcome r).2).rsvTo r (s.outcome r).1).finish s)) ∧
  (∀ (s : State) (t : Time) (r : Nat),
    r < 16384 →
    s.errs = [] →
    s.get .RSV_STATE r = 3 →
    s.get .PAIR_B_STATE = 0 →
    s.get .RSV_TWIN r = 0 →
    s.rsvBound s.grantedRows r s.gateWaitAt = none →
    ∃ s', Machine.exec (.rsvReadmit t r) s = .next s' ∧
      s'.get .RSV_STATE r = 4 ∧
      Out.event 179 [r, 4] ∈ s'.out ∧
      s'.SameBut s [(.RSV_STATE, r)] ∧
      s'.SameBuffers s) ∧
  (∀ (s : State) (t : Time) (r L : Nat),
    r < 16384 →
    s.errs = [] →
    (s.get .RSV_STATE r = 3 ∨ s.get .RSV_STATE r = 4) →
    s.get .PAIR_B_STATE = 0 →
    s.get .RSV_TWIN r = 0 →
    s.rsvBound s.grantedRows r s.gateWaitAt = some L →
    s.deadlineOf L ≤ s.get .RSV_DEADLINE_GRANTED r →
    L ≤ periodNs (s.get .PIP_PERIOD) →
    s.crossesOut r = false →
    ∃ s', Machine.exec (.rsvReadmit t r) s = .next s' ∧
      s'.get .RSV_STATE r = 3 ∧
      s'.get .RSV_PATH_BOUND r = L ∧
      s'.SameBut s [(.RSV_STATE, r), (.RSV_PATH_BOUND, r)] ∧
      s'.SameBuffers s)

/-- A gate-list bank is written while it is not pending or active, and GATE_SWITCH submits the staged banks (R180,
R182, R183). What is the model's choice in it and not a rule of the spec: log 5, 25. -/
def Obligations.GateListsAreStagedAndSwitched : Prop :=
  (∀ (s : State) (t : Time) (req : Req) (bank i v : Nat),
    s.errs = [] →
    s.hears req →
    s.resolve (s.principal req.path) 2 (entryOf .GL_ENTRY (some (glKey (bank / 2) (bank % 2) i)) v).addr = .obj .GL_ENTRY (glKey (bank / 2) (bank % 2) i) →
    i < 1024 →
    8192 ≤ v →
    v < 2 ^ 32 →
    s.get .GL_BANK_STATE bank ≤ 1 →
    s.switching = false →
    ∃ s', Machine.exec (.glBankWrite t req bank (some i) none none v) s = .next s' ∧
      s'.get .GL_BANK_STATE bank = 1 ∧
      s'.newest .GL_ENTRY (glKey (bank / 2) (bank % 2) i) = v ∧
      s'.answered req 0 [0xFFFFFFFF, 0xFFFFFFFF] ∧
      s'.SameBut s (req.traces ++ [(.GL_BANK_STATE, bank)]) ∧
      s'.SameBuffers s) ∧
  (∀ (s : State) (t : Time) (req : Req) (bank i v : Nat),
    s.errs = [] →
    s.hears req →
    s.resolve (s.principal req.path) 2 (entryOf .GL_ENTRY (some (glKey (bank / 2) (bank % 2) i)) v).addr = .obj .GL_ENTRY (glKey (bank / 2) (bank % 2) i) →
    i < 1024 →
    8192 ≤ v →
    v < 2 ^ 32 →
    2 ≤ s.get .GL_BANK_STATE bank →
    ∃ s', Machine.exec (.glBankWrite t req bank (some i) none none v) s = .next s' ∧
      s'.answered req 0x0401 [0] ∧
      s'.staged = s.staged ∧
      s'.SameBut s (req.traces ++ [(.REQUESTS_REFUSED, 0)]) ∧
      s'.SameBuffers s) ∧
  (∀ (s : State) (t : Time) (req : Req) (bank n v : Nat),
    s.errs = [] →
    s.hears req →
    s.resolve (s.principal req.path) 2 (entryOf .GL_LENGTH (some bank) n).addr = .obj .GL_LENGTH bank →
    n ≤ 1024 →
    s.get .GL_BANK_STATE bank ≤ 1 →
    s.switching = false →
    ∃ s', Machine.exec (.glBankWrite t req bank none (some n) none v) s = .next s' ∧
      s'.get .GL_BANK_STATE bank = 1 ∧
      s'.newest .GL_LENGTH bank = n ∧
      s'.answered req 0 [0xFFFFFFFF, 0xFFFFFFFF] ∧
      s'.SameBut s (req.traces ++ [(.GL_BANK_STATE, bank)]) ∧
      s'.SameBuffers s) ∧
  (∀ (s : State) (t : Time) (req : Req) (bank n v : Nat),
    s.errs = [] →
    s.hears req →
    s.resolve (s.principal req.path) 2 (entryOf .GL_CYCLE_PIPS (some bank) n).addr = .obj .GL_CYCLE_PIPS bank →
    1 ≤ n →
    n ≤ 16 →
    s.get .GL_BANK_STATE bank ≤ 1 →
    s.switching = false →
    ∃ s', Machine.exec (.glBankWrite t req bank none none (some n) v) s = .next s' ∧
      s'.get .GL_BANK_STATE bank = 1 ∧
      s'.newest .GL_CYCLE_PIPS bank = n ∧
      s'.answered req 0 [0xFFFFFFFF, 0xFFFFFFFF] ∧
      s'.SameBut s (req.traces ++ [(.GL_BANK_STATE, bank)]) ∧
      s'.SameBuffers s) ∧
  (∀ (s : State) (t : Time) (req : Req) (bank i n m v : Nat),
    s.errs = [] →
    s.hears req →
    s.resolve (s.principal req.path) 2 (entryOf .GL_ENTRY (some (glKey (bank / 2) (bank % 2) i)) v).addr = .obj .GL_ENTRY (glKey (bank / 2) (bank % 2) i) →
    s.resolve (s.principal req.path) 2 (entryOf .GL_LENGTH (some bank) n).addr = .obj .GL_LENGTH bank →
    s.resolve (s.principal req.path) 2 (entryOf .GL_CYCLE_PIPS (some bank) m).addr = .obj .GL_CYCLE_PIPS bank →
    i < 1024 →
    8192 ≤ v →
    v < 2 ^ 32 →
    n ≤ 1024 →
    1 ≤ m →
    m ≤ 16 →
    s.get .GL_BANK_STATE bank ≤ 1 →
    s.switching = false →
    ∃ s', Machine.exec (.glBankWrite t req bank (some i) (some n) (some m) v) s = .next s' ∧
      s'.get .GL_BANK_STATE bank = 1 ∧
      s'.newest .GL_ENTRY (glKey (bank / 2) (bank % 2) i) = v ∧
      s'.newest .GL_LENGTH bank = n ∧
      s'.newest .GL_CYCLE_PIPS bank = m ∧
      s'.answered req 0 [0xFFFFFFFF, 0xFFFFFFFF] ∧
      s'.SameBut s (req.traces ++ [(.GL_BANK_STATE, bank)]) ∧
      s'.SameBuffers s) ∧
  (∀ (s : State) (t : Time) (req : Req) (bank i v : Nat),
    s.errs = [] →
    s.hears req →
    s.resolve (s.principal req.path) 2 (entryOf .GL_ENTRY (some (glKey (bank / 2) (bank % 2) i)) v).addr = .obj .GL_ENTRY (glKey (bank / 2) (bank % 2) i) →
    i < 1024 →
    v < 8192 →
    ∃ s', Machine.exec (.glBankWrite t req bank (some i) none none v) s = .next s' ∧
      s'.answered req 0x0301 [0] ∧
      s'.staged = s.staged ∧
      s'.SameBut s (req.traces ++ [(.REQUESTS_REFUSED, 0)]) ∧
      s'.SameBuffers s) ∧
  (∀ (s : State) (t : Time) (req : Req) (offers : List Time),
    s.errs = [] →
    s.hears req →
    s.mayInvoke req .GATE_SWITCH none = 0 →
    s.stagedBanks ≠ [] →
    s.epochsRefused = false →
    s.get .PAIR_B_STATE = 0 →
    (s.at t).checkOffers offers = 0 →
    s.stagedBanks.any s.bankTooLong = false →
    ((s.stagedBanks.any fun b => s.misaligned b offers) = false) →
    (s.blockedBy s.stagedBanks).isNone = true →
    s.unitsBusy (unitsOf (nub (s.stagedBanks.map (·.1)))) = false →
    ∃ s', Machine.exec (.gateSwitch t req offers) s = .next s' ∧
      (∃ x ∈ s'.reqs, x.kind = 2 ∧ x.offers = offers ∧ x.units = unitsOf (nub (s.stagedBanks.map (·.1))) ∧ x.work = .gates ((s.stagedBanks.filter fun b => b.1 = s.node).map (·.2)) ∧ s'.answered req 0 [x.num] ∧
        s'.SameBut s (req.traces ++ s.openedRows x.num ++ (.GS_RESULT, 0) :: (.GS_BLOCKING_RSV, 0) :: (s.stagedBanks.filter fun b => b.1 = s.node).map fun b => (.GL_BANK_STATE, b.2))) ∧
      (∀ b ∈ s.stagedBanks, b.1 = s.node → s'.get .GL_BANK_STATE b.2 = 2) ∧
      s'.get .GS_RESULT = 0 ∧
      s'.get .GS_BLOCKING_RSV = 0xFFFFFFFF ∧
      s'.SameBuffers s) ∧
  (∀ (s : State) (t : Time) (req : Req) (offers : List Time),
    s.errs = [] →
    s.hears req →
    s.mayInvoke req .GATE_SWITCH none = 0 →
    s.stagedBanks = [] →
    ∃ s', Machine.exec (.gateSwitch t req offers) s = .next s' ∧
      s'.answered req 0x0102 [] ∧
      s'.get .GS_RESULT = 0x0102 ∧
      s'.reqs = s.reqs ∧
      s'.SameBut s (req.traces ++ [(.GS_RESULT, 0), (.GS_BLOCKING_RSV, 0), (.REQUESTS_REFUSED, 0)]) ∧
      s'.SameBuffers s) ∧
  (∀ (s : State) (t : Time) (req : Req) (offers : List Time) (c : Nat),
    s.errs = [] →
    s.hears req →
    s.mayInvoke req .GATE_SWITCH none = 0 →
    (firstCode [codeIf s.stagedBanks.isEmpty 0x0102, codeIf (s.epochsRefused || s.get .PAIR_B_STATE ≠ 0) 0x0404, (s.at t).checkOffers offers, codeIf (s.stagedBanks.any s.bankTooLong) 0x0301, codeIf (s.stagedBanks.any fun b => s.misaligned b offers) 0x0301, codeIf (s.blockedBy s.stagedBanks).isSome 0x0601, codeIf (s.unitsBusy (unitsOf (nub (s.stagedBanks.map (·.1))))) 0x0602] = c) →
    c ≠ 0 →
    ∃ s', Machine.exec (.gateSwitch t req offers) s = .next s' ∧
      s'.answered req c [] ∧
      s'.get .GS_RESULT = c ∧
      (s'.get .GS_BLOCKING_RSV = (if c = 0x0601 then (s.blockedBy s.stagedBanks).getD 0xFFFFFFFF else 0xFFFFFFFF)) ∧
      s'.reqs = s.reqs ∧
      s'.SameBut s (req.traces ++ [(.GS_RESULT, 0), (.GS_BLOCKING_RSV, 0), (.REQUESTS_REFUSED, 0)]) ∧
      s'.SameBuffers s)

/-- Errors are captured, folded or supersede; HUSK_COMMAND husks, and a drained husk is released (R298, R299, R304,
R305, R309, R297, R300, R301, R302, R303). -/
def Obligations.ErrorsAreRecordedAndHusksReleased : Prop :=
  (∀ (s : State) (t : Time) (req : Req) (row : Nat),
    s.errs = [] →
    s.hears req →
    s.mayInvoke req .HUSK_COMMAND (some row) = 0 →
    0x1000 ≤ row →
    s.get .HUSK_STATE row = 0 →
    s.openRec (huskErr row) = none →
    s.log.length < 4096 →
    s.get .PARTITION_STATE (row - 0x1000) ≠ 0 →
    ∃ s', Machine.exec (.huskCommand t req row) s = .next s' ∧
      s'.get .HUSK_STATE row = 1 ∧
      s'.get .HUSK_CAUSE row = 0x2006 ∧
      s'.get .HUSK_CAUSE_SEQ row = s.get .LOG_NEXT_SEQ ∧
      s'.get .HUSK_DRAINED row = 0 ∧
      s'.get .PARTITION_STATE (row - 0x1000) = 3 ∧
      (∃ r ∈ s'.log, r.err = huskErr row ∧ r.seq = s.get .LOG_NEXT_SEQ ∧ r.action = 2 ∧ r.state = 0 ∧ r.time = max s.now t) ∧
      s'.answered req 0 [] ∧
      s'.SameBut s (req.traces ++ [(.HUSK_STATE, row), (.HUSK_CAUSE, row), (.HUSK_CAUSE_SEQ, row), (.HUSK_SINCE, row), (.HUSK_DRAINED, row), (.HUSK_RETRAINED, row), (.LOG_NEXT_SEQ, 0), (.PARTITION_STATE, row - 0x1000)]) ∧
      s'.SameBuffers s) ∧
  (∀ (s : State) (t : Time) (req : Req) (row : Nat),
    s.hears req →
    s.mayInvoke req .HUSK_COMMAND (some row) = 0 →
    s.get .HUSK_STATE row = 0 →
    Machine.exec (.huskCommand t req row) s = .next (((((s.at t).arrive req).raise (huskErr row)).answer req 0 []).finish s)) ∧
  (∀ (s : State) (t : Time) (req : Req) (row : Nat),
    s.errs = [] →
    s.hears req →
    s.mayInvoke req .HUSK_COMMAND (some row) = 0 →
    s.get .HUSK_STATE row ≠ 0 →
    ∃ s', Machine.exec (.huskCommand t req row) s = .next s' ∧
      s'.answered req 0x0401 [] ∧
      s'.SameBut s (req.traces ++ [(.REQUESTS_REFUSED, 0)]) ∧
      s'.SameBuffers s) ∧
  (∀ (s : State) (t : Time) (row : Nat),
    (row < 512 ∨ 4096 ≤ row) →
    row < 8192 →
    s.errs = [] →
    s.husked row = true →
    s.drained row = true →
    ∃ s', Machine.exec (.huskDrained t row) s = .next s' ∧
      s'.get .HUSK_DRAINED row = 1 ∧
      s'.SameBut s [(.HUSK_DRAINED, row)] ∧
      s'.SameBuffers s) ∧
  (∀ (s : State) (t : Time) (row : Nat),
    (row < 512 ∨ 4096 ≤ row) →
    row < 8192 →
    s.errs = [] →
    (s.husked row = false ∨ s.drained row = false) →
    ∃ s', Machine.exec (.huskDrained t row) s = .next s' ∧
      s'.SameBut s [] ∧
      s'.SameBuffers s) ∧
  (∀ (s : State) (t : Time) (req : Req) (row : Nat),
    s.errs = [] →
    s.hears req →
    s.mayInvoke req .HUSK_RELEASE (some row) = 0 →
    s.releasable row = true →
    (row < 512 ∨ (((s.at t).arrive req).othersDrained).1 = true) →
    ∃ s', Machine.exec (.huskRelease t req row) s = .next s' ∧
      s'.get .HUSK_STATE row = 2 ∧
      s'.releases.find row = some (max s.now t) ∧
      ({ obj := .HUSK_RELEASE, row := row, val := 0, pip := (s.at t).applyPip } : Held) ∈ s'.pendP ∧
      s'.answered req 0 [] ∧
      s'.SameBut s (req.traces ++ [(.HUSK_STATE, row)]) ∧
      s'.SameBuffers s) ∧
  (∀ (s : State) (t : Time) (req : Req) (row : Nat),
    s.errs = [] →
    s.hears req →
    s.mayInvoke req .HUSK_RELEASE (some row) = 0 →
    (s.releasable row = false ∨ (512 ≤ row ∧ (((s.at t).arrive req).othersDrained).1 = false)) →
    ∃ s', Machine.exec (.huskRelease t req row) s = .next s' ∧
      s'.answered req 0x0401 [] ∧
      s'.pendP = s.pendP ∧
      s'.SameBut s (req.traces ++ [(.REQUESTS_REFUSED, 0)]) ∧
      s'.SameBuffers s) ∧
  (∀ (s : State) (e : Err),
    s.actionOf e = 0 →
    s.openRec e = none →
    s.log.length < 4096 →
    ({ s with errs := [e] }.settle).get .LOG_NEXT_SEQ = (s.get .LOG_NEXT_SEQ + 1) % 2 ^ 32 ∧
      (∃ r ∈ ({ s with errs := [e] }.settle).log, r.seq = s.get .LOG_NEXT_SEQ ∧ r.err = e ∧ r.state = 0 ∧ r.cls = e.cls ∧ r.action = 0 ∧ r.time = s.now ∧ (∀ x ∈ s.log, x.entry ≠ r.entry)) ∧
      (∀ r ∈ s.log, r ∈ ({ s with errs := [e] }.settle).log) ∧
      ({ s with errs := [e] }.settle).log.length = s.log.length + 1 ∧
      (e.cls ≠ 0 → (({ s with errs := [e] }.settle).persist.head?).map (fun (x : Rec) => x.err) = some e ∧ ({ s with errs := [e] }.settle).persist.length ≤ 256) ∧
      ({ s with errs := [e] }.settle).errs = []) ∧
  (∀ (s : State) (e : Err) (r : Rec),
    s.actionOf e = 0 →
    s.openRec e = some r →
    e.cls ≤ r.cls →
    (sameClock r.time s.now = false ∨ e.before r.err = false ∨ e.code = r.err.code) →
    (∀ x ∈ s.log, x ≠ r → ¬(x.seq = r.seq ∧ x.time = r.time)) →
    ({ s with errs := [e] }.settle).get .LOG_NEXT_SEQ = s.get .LOG_NEXT_SEQ ∧
      (∃ x ∈ ({ s with errs := [e] }.settle).log, x.seq = r.seq ∧ x.time = r.time ∧ x.sequels = r.sequels + 1 ∧ x.seqCode = e.code ∧ x.state = 0) ∧
      (∀ x ∈ s.log, x ≠ r → x ∈ ({ s with errs := [e] }.settle).log) ∧
      ({ s with errs := [e] }.settle).log.length = s.log.length) ∧
  (∀ (s : State) (e : Err) (r : Rec),
    s.actionOf e = 0 →
    s.openRec e = some r →
    r.cls < e.cls →
    sameClock r.time s.now = false →
    s.log.length < 4096 →
    (∀ x ∈ s.log, x ≠ r → ¬(x.seq = r.seq ∧ x.time = r.time)) →
    ({ s with errs := [e] }.settle).get .LOG_NEXT_SEQ = (s.get .LOG_NEXT_SEQ + 1) % 2 ^ 32 ∧
      { r with state := 2 } ∈ ({ s with errs := [e] }.settle).log ∧
      (∃ x ∈ ({ s with errs := [e] }.settle).log, x.seq = s.get .LOG_NEXT_SEQ ∧ x.err = e ∧ x.state = 0) ∧
      (∀ x ∈ s.log, x ≠ r → x ∈ ({ s with errs := [e] }.settle).log)) ∧
  (∀ (s : State) (e : Err) (r : Rec),
    s.actionOf e = 0 →
    s.openRec e = some r →
    sameClock r.time s.now = true →
    e.before r.err = true →
    e.code ≠ r.err.code →
    (∀ x ∈ s.log, x ≠ r → ¬(x.seq = r.seq ∧ x.time = r.time)) →
    ({ s with errs := [e] }.settle).get .LOG_NEXT_SEQ = s.get .LOG_NEXT_SEQ ∧
      (∃ x ∈ ({ s with errs := [e] }.settle).log, x.seq = r.seq ∧ x.time = r.time ∧ x.err.code = e.code ∧ x.cls = e.cls ∧ x.sequels = r.sequels + 1 ∧ x.seqCode = r.err.code ∧ x.state = 0) ∧
      (∀ x ∈ s.log, x ≠ r → x ∈ ({ s with errs := [e] }.settle).log) ∧
      ({ s with errs := [e] }.settle).log.length = s.log.length)

/-- REGION_RESTART holds an isolated region, BIST follows, and its end starts the region or isolates it (R298, R306,
R309, R391, R392). What is the model's choice in it and not a rule of the spec: log 31. -/
def Obligations.RegionsRestartAfterBist : Prop :=
  (∀ (s : State) (t : Time) (req : Req) (r : Nat),
    s.errs = [] →
    s.hears req →
    s.mayInvoke req .REGION_RESTART none = 0 →
    r < 14 →
    s.get .REGION_STATE r = 2 →
    ∃ s', Machine.exec (.regionRestart t req r) s = .next s' ∧
      s'.get .REGION_STATE r = 3 ∧
      (s'.regions.getD {} r).heldAt = max s.now t ∧
      (s'.regions.getD {} r).bist = false ∧
      s'.answered req 0 [] ∧
      s'.SameBut s (req.traces ++ [(.REGION_STATE, r)]) ∧
      s'.SameBuffers s) ∧
  (∀ (s : State) (t : Time) (req : Req) (r : Nat),
    s.errs = [] →
    s.hears req →
    s.mayInvoke req .REGION_RESTART none = 0 →
    (14 ≤ r ∨ s.get .REGION_STATE r ≠ 2) →
    ∃ s', Machine.exec (.regionRestart t req r) s = .next s' ∧
      (s'.answered req (if 14 ≤ r then 0x0301 else 0x0401) []) ∧
      s'.SameBut s (req.traces ++ [(.REQUESTS_REFUSED, 0)]) ∧
      s'.SameBuffers s) ∧
  (∀ (s : State) (t : Time) (r : Nat),
    r < 15 →
    s.errs = [] →
    s.get .REGION_STATE r = 3 →
    (s.regions.getD {} r).heldAt + ms 10 ≤ max s.now t →
    (s.regions.getD {} r).overLimit = [] →
    ∃ s', Machine.exec (.regionRestartHoldEnd t r) s = .next s' ∧
      (s'.regions.getD {} r).bist = true ∧
      s'.SameBut s [] ∧
      s'.SameBuffers s) ∧
  (∀ (s : State) (t : Time) (r : Nat),
    r < 15 →
    s.errs = [] →
    (s.get .REGION_STATE r ≠ 3 ∨ max s.now t < (s.regions.getD {} r).heldAt + ms 10 ∨ (s.regions.getD {} r).overLimit ≠ []) →
    ∃ s', Machine.exec (.regionRestartHoldEnd t r) s = .next s' ∧
      s'.regions = s.regions ∧
      s'.SameBut s [] ∧
      s'.SameBuffers s) ∧
  (∀ (s : State) (t : Time) (r : Nat) (l : List (Nat × Nat)),
    r < 15 →
    s.errs = [] →
    s.inBist r = false →
    ∃ s', Machine.exec (.regionBistComplete t r l) s = .next s' ∧
      s'.regions = s.regions ∧
      s'.badCells = s.badCells ∧
      s'.SameBut s [] ∧
      s'.SameBuffers s) ∧
  (∀ (s : State) (t : Time) (r : Nat) (l : List (Nat × Nat)),
    r < 15 →
    s.inBist r = true →
    Machine.exec (.regionBistComplete t r l) s = .next (((s.at t).bistDone r l).finish s)) ∧
  (∀ (s : State) (t : Time) (r : Nat),
    r < 15 →
    s.errs = [] →
    (r < 8 ∨ 12 ≤ r ∨ (s.get .REGION_STATE r ≠ 2 ∧ s.get .REGION_STATE r ≠ 3)) →
    ∃ s', Machine.exec (.quadrantQueueSweepDone t r) s = .next s' ∧
      s'.queues = s.queues ∧
      s'.SameBut s [] ∧
      s'.SameBuffers s) ∧
  (∀ (s : State) (t : Time) (r : Nat),
    r < 15 →
    s.errs = [] →
    s.inBist r = true →
    s.get .REGION_STATE r = 4 →
    s.boot = .rom →
    (∀ x ∈ s.log, x.old = false) →
    (s.regions.getD {} r).sweep = [] →
    capLevel (s.get .CAP_STEP) = 8 →
    ∃ s', Machine.exec (.regionBistComplete t r []) s = .next s' ∧
      s'.get .REGION_STATE r = 0 ∧
      s'.get .LIMIT_FLAGS r = 0 ∧
      (∀ x ∈ s'.log, x.err.region = r → x.action = 3 → x.state ≠ 0) ∧
      s'.SameBut s [(.REGION_STATE, r), (.LIMIT_FLAGS, r), (.THROTTLE_LEVEL, r)] ∧
      s'.SameBuffers s) ∧
  (∀ (s : State) (t : Time) (r m row : Nat),
    r < 15 →
    s.errs = [] →
    s.inBist r = true →
    s.get .REGION_STATE r = 4 →
    s.boot = .rom →
    (s.regions.getD {} r).sweep = [] →
    capLevel (s.get .CAP_STEP) = 8 →
    s.remaps.getD 0 (r * 256 + m % 256) < 64 →
    ∃ s', Machine.exec (.regionBistComplete t r [(m, row)]) s = .next s' ∧
      s'.get .REGION_STATE r = 0 ∧
      s'.get .ROWS_REMAPPED = (s.get .ROWS_REMAPPED + 1) % 2 ^ 32 ∧
      s'.remaps.getD 0 (r * 256 + m % 256) = s.remaps.getD 0 (r * 256 + m % 256) + 1 ∧
      s'.SameBut s [(.REGION_STATE, r), (.LIMIT_FLAGS, r), (.THROTTLE_LEVEL, r), (.ROWS_REMAPPED, 0)] ∧
      s'.SameBuffers s) ∧
  (∀ (s : State) (t : Time) (r m row : Nat),
    r < 15 →
    s.errs = [] →
    s.inBist r = true →
    s.get .REGION_STATE r = 4 →
    s.boot = .rom →
    (s.regions.getD {} r).sweep = [] →
    capLevel (s.get .CAP_STEP) = 8 →
    s.remaps.getD 0 (r * 256 + m % 256) = 64 →
    bankMemory r m = true →
    ∃ s', Machine.exec (.regionBistComplete t r [(m, row)]) s = .next s' ∧
      s'.get .REGION_STATE r = 0 ∧
      cellOfRow r m row ∈ s'.badCells ∧
      s'.SameBut s [(.REGION_STATE, r), (.LIMIT_FLAGS, r), (.THROTTLE_LEVEL, r)] ∧
      s'.SameBuffers s) ∧
  (∀ (s : State) (t : Time) (r m row : Nat),
    r < 14 →
    (r < 8 ∨ 12 ≤ r) →
    s.inBist r = true →
    s.get .REGION_STATE r = 4 →
    s.remaps.getD 0 (r * 256 + m % 256) = 64 →
    s.badCells.Nodup →
    s.badCells.Pairwise (· < ·) →
    Machine.exec (.regionBistComplete t r [(m, row)]) s = .next ((((s.at t).put .BIST_FAILED 0 (s.get .BIST_FAILED ||| 2 ^ r)).raise { code := 0x3001, kind := 1, idx := r, region := r }).finish s)) ∧
  (∀ (s : State) (t : Time) (r : Nat),
    8 ≤ r →
    r < 12 →
    s.errs = [] →
    (s.get .REGION_STATE r = 2 ∨ s.get .REGION_STATE r = 3) →
    ∃ s', Machine.exec (.quadrantQueueSweepDone t r) s = .next s' ∧
      (∀ c ∈ (s.regions.getD {} r).sweep, s'.cells.find c = none) ∧
      (s'.regions.getD {} r).sweep = [] ∧
      s'.queues = s.queues ∧
      s'.SameBut s [] ∧
      s'.rx = s.rx ∧
      s'.tags = s.tags) ∧
  (∀ (s : State) (r : Nat),
    (∀ k ∈ s.queues.keys, quadRegion (s.portNow k % 512) = r → ((s.loseContexts r).queues.getD { num := 0 } k).isEmpty = true) ∧
      (∀ k ∈ s.queues.keys, quadRegion (s.portNow k % 512) ≠ r → (s.loseContexts r).queues.find k = s.queues.find k)) ∧
  (∀ (s : State) (t : Time) (k : Nat),
    k < 2 →
    Machine.exec (.hbmFailure t k) s = .next (((s.at t).raise { code := 0x3005, kind := 1, idx := 12 + k, region := 12 + k }).finish s)) ∧
  (∀ (s : State) (t : Time),
    Machine.exec (.controlFatal t) s = .next (((s.at t).raise { code := 0x3006, kind := 1, idx := 14, region := 14 }).finish s))

/-- A request is not heard on a closed path, is served from the cache the second time, and must be of version 1
(R312, R319, R322, R323, R326, R349). What is the model's choice in it and not a rule of the spec: log 70. -/
def Obligations.RequestsAreHeardOnceAndInVersionOne : Prop :=
  (∀ (s : State) (t : Time) (req : Req) (l : List ObjAddr),
    s.errs = [] →
    (s.odtakuUp = false ∨ s.pathOpen req.path = false) →
    ∃ s', Machine.exec (.read t req l) s = .next s' ∧
      s'.out = s.out ∧
      s'.cache = s.cache ∧
      s'.SameBut s [] ∧
      s'.SameBuffers s) ∧
  (∀ (s : State) (t : Time) (req : Req) (offers : List Time) (l : List WEntry),
    s.errs = [] →
    (s.odtakuUp = false ∨ s.pathOpen req.path = false) →
    ∃ s', Machine.exec (.write t req offers l) s = .next s' ∧
      s'.out = s.out ∧
      s'.cache = s.cache ∧
      s'.SameBut s [] ∧
      s'.SameBuffers s) ∧
  (∀ (s : State) (t : Time) (req : Req) (offers : List Time) (l : List WEntry) (a : Answer),
    s.errs = [] →
    s.odtakuUp = true →
    s.pathOpen req.path = true →
    s.cached req = some a →
    ∃ s', Machine.exec (.write t req offers l) s = .next s' ∧
      s'.out = s.out ++ [.reply a.path a.tag a.code a.body true] ∧
      s'.get .DUPLICATES_SERVED = (s.get .DUPLICATES_SERVED + 1) % 2 ^ 32 ∧
      s'.SameBut s (req.traces ++ [(.DUPLICATES_SERVED, 0)]) ∧
      s'.SameBuffers s) ∧
  (∀ (s : State) (t : Time) (req : Req) (l : List ObjAddr),
    s.errs = [] →
    s.odtakuUp = true →
    s.pathOpen req.path = true →
    s.cached req = none →
    (req.path.limit < req.size ∨ req.version ≠ 1) →
    ∃ s', Machine.exec (.read t req l) s = .next s' ∧
      s'.answered req 0x0302 [] ∧
      s'.SameBut s (req.traces ++ [(.REQUESTS_REFUSED, 0)]) ∧
      s'.SameBuffers s) ∧
  (∀ (s : State) (c : Instr) (t : Time) (req : Req),
    c.message = some (t, req) →
    c.wf = true →
    (s.odtakuUp = false ∨ s.pathOpen req.path = false) →
    Machine.exec c s = .next ((s.at t).finish s)) ∧
  (∀ (s : State) (c : Instr) (t : Time) (req : Req) (a : Answer),
    c.message = some (t, req) →
    c.wf = true →
    s.odtakuUp = true →
    s.pathOpen req.path = true →
    s.cached req = some a →
    Machine.exec c s = .next ((((((s.at t).arrive req)).bump .DUPLICATES_SERVED).emit (.reply a.path a.tag a.code a.body true)).finish s)) ∧
  (∀ (s : State) (c : Instr) (t : Time) (req : Req),
    c.message = some (t, req) →
    c.wf = true →
    s.odtakuUp = true →
    s.pathOpen req.path = true →
    s.cached req = none →
    (req.path.limit < req.size ∨ req.version ≠ 1) →
    Machine.exec c s = .next ((((s.at t).arrive req).answer req 0x0302 []).finish s)) ∧
  (∀ (s : State) (c : Instr) (t : Time) (req : Req) (o : Obj) (row : Option Nat) (code : Nat),
    c.message = some (t, req) →
    c.invocation = some (o, row) →
    c.wf = true →
    s.hears req →
    s.mayInvoke req o row = code →
    code ≠ 0 →
    Machine.exec c s = .next ((((s.at t).arrive req).answer req code []).finish s))

/-- READ, ROW_READ and BLOCK_READ answer one entry per address and change no row (R315, R323, R324). What is the
model's choice in it and not a rule of the spec: log 32. -/
def Obligations.ReadsReturnEntriesAndChangeNothing : Prop :=
  (∀ (s : State) (t : Time) (req : Req) (l : List ObjAddr),
    s.errs = [] →
    s.hears req →
    l.length ≤ 32 →
    ∃ s', Machine.exec (.read t req l) s = .next s' ∧
      s'.answered req 0 (bodyOf (l.map (((s.at t).arrive req).readEntry (s.principal req.path) req.active))) ∧
      s'.SameBut s (req.traces ++ []) ∧
      s'.SameBuffers s) ∧
  (∀ (s : State) (t : Time) (req : Req) (l : List ObjAddr),
    s.errs = [] →
    s.hears req →
    32 < l.length →
    ∃ s', Machine.exec (.read t req l) s = .next s' ∧
      s'.answered req 0x0302 [] ∧
      s'.SameBut s (req.traces ++ [(.REQUESTS_REFUSED, 0)]) ∧
      s'.SameBuffers s) ∧
  (∀ (s : State) (t : Time) (req : Req) (a : ObjAddr) (subs : List Nat),
    s.errs = [] →
    s.hears req →
    subs.length ≤ 32 →
    a.row.isSome = true →
    ∃ s', Machine.exec (.rowRead t req a subs) s = .next s' ∧
      (s'.answered req 0 (bodyOf (subs.map fun n => ((s.at t).arrive req).readEntry (s.principal req.path) req.active { a with sub := n }))) ∧
      s'.SameBut s (req.traces ++ []) ∧
      s'.SameBuffers s) ∧
  (∀ (s : State) (t : Time) (req : Req) (a : ObjAddr) (n mode : Nat),
    s.errs = [] →
    s.hears req →
    mode ≤ 2 →
    (mode = 0 ∨ ((Dict.rows a.idx).isSome = true ∧ a.row.isSome = true)) →
    Dict.atIndex a.idx ≠ [] →
    ∃ s', Machine.exec (.blockRead t req a n mode) s = .next s' ∧
      s'.answered req 0 (b2n (decide ((s.fitting (s.principal req.path) (req.path.limit - 16) (s.blockAddrs (s.principal req.path) a n mode)).length <
        (s.blockAddrs (s.principal req.path) a n mode).length)) ::
        bodyOf ((s.fitting (s.principal req.path) (req.path.limit - 16) (s.blockAddrs (s.principal req.path) a n mode)).map
          (((s.at t).arrive req).readEntry (s.principal req.path) req.active))) ∧
      s'.SameBut s (req.traces ++ []) ∧
      s'.SameBuffers s) ∧
  (∀ (s : State) (t : Time) (req : Req) (a : ObjAddr) (n mode : Nat),
    s.errs = [] →
    s.hears req →
    2 < mode →
    ∃ s', Machine.exec (.blockRead t req a n mode) s = .next s' ∧
      s'.answered req 0x0301 [] ∧
      s'.SameBut s (req.traces ++ [(.REQUESTS_REFUSED, 0)]) ∧
      s'.SameBuffers s) ∧
  (∀ (s : State) (t : Time) (req : Req) (l : List ObjAddr),
    s.hears req →
    l.length ≤ 32 →
    Machine.exec (.read t req l) s = .next (((((s.at t).arrive req).readAll req l).2.answer req 0 (bodyOf (((s.at t).arrive req).readAll req l).1)).finish s)) ∧
  (∀ (s : State) (t : Time) (req : Req) (a : ObjAddr) (subs : List Nat),
    s.hears req →
    subs.length ≤ 32 →
    a.row.isSome = true →
    Machine.exec (.rowRead t req a subs) s = .next (((((s.at t).arrive req).readAll req (subs.map fun n => { a with sub := n })).2.answer req 0 (bodyOf (((s.at t).arrive req).readAll req (subs.map fun n => { a with sub := n })).1)).finish s)) ∧
  (∀ (s : State) (t : Time) (req : Req) (a : ObjAddr) (subs : List Nat),
    s.errs = [] →
    s.hears req →
    (32 < subs.length ∨ a.row.isNone = true) →
    ∃ s', Machine.exec (.rowRead t req a subs) s = .next s' ∧
      s'.answered req 0x0302 [] ∧
      s'.SameBut s (req.traces ++ [(.REQUESTS_REFUSED, 0)]) ∧
      s'.SameBuffers s) ∧
  (∀ (s : State) (t : Time) (req : Req) (a : ObjAddr) (n mode : Nat),
    s.errs = [] →
    s.hears req →
    mode ≤ 2 →
    ((mode ≠ 0 ∧ ¬((Dict.rows a.idx).isSome = true ∧ a.row.isSome = true)) ∨ Dict.atIndex a.idx = []) →
    ∃ s', Machine.exec (.blockRead t req a n mode) s = .next s' ∧
      s'.answered req 0 (0 :: bodyOf [((s.at t).arrive req).readEntry (s.principal req.path) req.active a]) ∧
      s'.SameBut s (req.traces ++ []) ∧
      s'.SameBuffers s)

/-- A write set with one failing entry changes nothing; one that passes is taken whole (R44, R318, R323, R336). What
is the model's choice in it and not a rule of the spec: log 4. -/
def Obligations.WriteSetsAreTakenWholeOrNotAtAll : Prop :=
  (∀ (s : State) (t : Time) (req : Req) (l : List WEntry) (c i : Nat),
    s.errs = [] →
    s.hears req →
    l.length ≤ 32 →
    ((s.at t).arrive req).firstFailure req l = some (c, i) →
    c ≠ 0 →
    ∃ s', Machine.exec (.write t req [] l) s = .next s' ∧
      s'.answered req c [i] ∧
      s'.pendP = s.pendP ∧
      s'.staged = s.staged ∧
      s'.pendB = s.pendB ∧
      s'.SameBut s (req.traces ++ [(.REQUESTS_REFUSED, 0)]) ∧
      s'.SameBuffers s) ∧
  (∀ (s : State) (t : Time) (req : Req) (a : ObjAddr) (l : List WEntry) (c i : Nat),
    s.errs = [] →
    s.hears req →
    l.length ≤ 32 →
    a.row.isSome = true →
    (∀ e ∈ l, e.addr.idx = a.idx ∧ e.addr.row = a.row) →
    ((s.at t).arrive req).firstFailure req l = some (c, i) →
    c ≠ 0 →
    ∃ s', Machine.exec (.rowWrite t req a l) s = .next s' ∧
      s'.answered req c [i] ∧
      s'.pendP = s.pendP ∧
      s'.staged = s.staged ∧
      s'.pendB = s.pendB ∧
      s'.SameBut s (req.traces ++ [(.REQUESTS_REFUSED, 0)]) ∧
      s'.SameBuffers s) ∧
  (∀ (s : State) (t : Time) (req : Req) (l : List WEntry) (u : State),
    s.hears req →
    l.length ≤ 32 →
    ((s.at t).arrive req).allTaken req l = some u →
    Machine.exec (.write t req [] l) s = .next ((u.answer req 0 [u.applyPipOf ((s.at t).arrive req), 0xFFFFFFFF]).finish s)) ∧
  (∀ (s : State) (t : Time) (req : Req) (a : ObjAddr) (l : List WEntry) (u : State),
    s.hears req →
    l.length ≤ 32 →
    a.row.isSome = true →
    (∀ e ∈ l, e.addr.idx = a.idx ∧ e.addr.row = a.row) →
    ((s.at t).arrive req).allTaken req l = some u →
    Machine.exec (.rowWrite t req a l) s = .next ((u.answer req 0 [u.applyPipOf ((s.at t).arrive req), 0xFFFFFFFF]).finish s)) ∧
  (∀ (s : State) (t : Time) (req : Req) (offers : List Time) (l : List WEntry),
    s.hears req →
    Machine.exec (.write t req offers l) s = .next (((((s.at t).arrive req).writeMsg req offers l).2.2.answer req (((s.at t).arrive req).writeMsg req offers l).1 (((s.at t).arrive req).writeMsg req offers l).2.1).finish s)) ∧
  (∀ (s : State) (t : Time) (req : Req) (a : ObjAddr) (l : List WEntry),
    s.errs = [] →
    s.hears req →
    a.row = none →
    ∃ s', Machine.exec (.rowWrite t req a l) s = .next s' ∧
      s'.answered req 0x0302 [] ∧
      s'.pendP = s.pendP ∧
      s'.staged = s.staged ∧
      s'.pendB = s.pendB ∧
      s'.SameBut s (req.traces ++ [(.REQUESTS_REFUSED, 0)]) ∧
      s'.SameBuffers s) ∧
  (∀ (s : State) (t : Time) (req : Req) (offers : List Time) (l : List WEntry) (c i : Nat),
    s.errs = [] →
    s.hears req →
    offers ≠ [] →
    l.length ≤ 32 →
    (match ((s.at t).arrive req).writeAll ((s.at t).arrive req) (s.principal req.path) offers 0 l with
      | .error x => some x
      | .ok _ => none) = some (c, i) →
    c ≠ 0 →
    ∃ s', Machine.exec (.write t req offers l) s = .next s' ∧
      s'.answered req c [i] ∧
      s'.pendP = s.pendP ∧
      s'.staged = s.staged ∧
      s'.pendB = s.pendB ∧
      s'.SameBut s (req.traces ++ [(.REQUESTS_REFUSED, 0)]) ∧
      s'.SameBuffers s) ∧
  (∀ (s : State) (t : Time) (req : Req) (p v : Nat),
    s.errs = [] →
    s.hears req →
    s.resolve (s.principal req.path) 2 (entryOf .CPL_TIMEOUT (some p) v).addr = .obj .CPL_TIMEOUT p →
    40 ≤ v →
    v ≤ 64000000 →
    s.switching = false →
    ∃ s', Machine.exec (.write t req [] [entryOf .CPL_TIMEOUT (some p) v]) s = .next s' ∧
      s'.pendP = s.pendP ++ [{ obj := .CPL_TIMEOUT, row := p, val := v, pip := (s.at t).applyPip }] ∧
      s'.newest .CPL_TIMEOUT p = v ∧
      s'.answered req 0 [(s.at t).applyPip % 2 ^ 32, 0xFFFFFFFF] ∧
      s'.staged = s.staged ∧
      s'.SameBut s (req.traces ++ []) ∧
      s'.SameBuffers s) ∧
  (∀ (s : State) (t : Time) (req : Req) (p v : Nat),
    s.errs = [] →
    s.hears req →
    s.resolve (s.principal req.path) 2 (entryOf .CPL_TIMEOUT (some p) v).addr = .obj .CPL_TIMEOUT p →
    40 ≤ v →
    v ≤ 64000000 →
    s.switching = true →
    ∃ s', Machine.exec (.write t req [] [entryOf .CPL_TIMEOUT (some p) v]) s = .next s' ∧
      s'.answered req 0x0501 [0] ∧
      s'.pendP = s.pendP ∧
      s'.staged = s.staged ∧
      s'.pendB = s.pendB ∧
      s'.SameBut s (req.traces ++ [(.REQUESTS_REFUSED, 0)]) ∧
      s'.SameBuffers s) ∧
  (∀ (s : State) (t : Time) (req : Req) (l : List WEntry),
    s.errs = [] →
    s.hears req →
    32 < l.length →
    ∃ s', Machine.exec (.write t req [] l) s = .next s' ∧
      s'.answered req 0x0302 [] ∧
      s'.pendP = s.pendP ∧
      s'.staged = s.staged ∧
      s'.pendB = s.pendB ∧
      s'.SameBut s (req.traces ++ [(.REQUESTS_REFUSED, 0)]) ∧
      s'.SameBuffers s) ∧
  (∀ (s : State) (t : Time) (req : Req) (a : ObjAddr) (l : List WEntry) (e : WEntry),
    s.errs = [] →
    s.hears req →
    e ∈ l →
    e.addr.row ≠ a.row →
    ∃ s', Machine.exec (.rowWrite t req a l) s = .next s' ∧
      s'.answered req 0x0302 [] ∧
      s'.pendP = s.pendP ∧
      s'.staged = s.staged ∧
      s'.pendB = s.pendB ∧
      s'.SameBut s (req.traces ++ [(.REQUESTS_REFUSED, 0)]) ∧
      s'.SameBuffers s)

/-- Handshakes open sessions; idle time, SESSION_CLOSE, anchor and address writes close them; subscriptions come and
go (R320, R321, R328, R329, R337). What is the model's choice in it and not a rule of the spec: log 5, 20, 32. -/
def Obligations.SessionsOpenCloseAndSubscribe : Prop :=
  (∀ (s : State) (t : Time) (hash chain peer a : Nat),
    s.errs = [] →
    s.anchorOf hash = some a →
    s.handshakeOk chain true true true peer = true →
    s.freeSessions 0 ≠ [] →
    ∃ s', Machine.exec (.dtlsHandshake t hash chain true true true peer) s = .next s' ∧
      (∃ n ∈ s.freeSessions 0, s'.get .SESSION_STATE n = 2 ∧ s'.get .SESSION_PRINCIPAL n = s.get .TRUST_PRINCIPAL a ∧ s'.get .SESSION_PEER n = peer ∧
        s'.get .SESSION_OPENED n = max s.now t ∧ s'.get .SESSION_REQUESTS n = 0 ∧ (s'.sessions.getD {} n).anchor = a ∧
        s'.SameBut s [(.SESSION_STATE, n), (.SESSION_PRINCIPAL, n), (.SESSION_TRANSPORT, n), (.SESSION_PEER, n), (.SESSION_OPENED, n), (.SESSION_REQUESTS, n)]) ∧
      s'.out = s.out ∧
      s'.SameBuffers s) ∧
  (∀ (s : State) (t : Time) (hash chain peer : Nat) (b c d : Bool),
    s.errs = [] →
    (s.anchorOf hash = none ∨ s.handshakeOk chain b c d peer = false) →
    ∃ s', Machine.exec (.dtlsHandshake t hash chain b c d peer) s = .next s' ∧
      s'.out = s.out ++ [.event 320 [peer]] ∧
      s'.SameBut s [] ∧
      s'.SameBuffers s) ∧
  (∀ (s : State) (t : Time) (hash chain peer : Nat) (b c d : Bool),
    s.errs = [] →
    s.freeSessions 0 = [] →
    ∃ s', Machine.exec (.dtlsHandshake t hash chain b c d peer) s = .next s' ∧
      s'.out = s.out ++ [.event 320 [peer]] ∧
      s'.SameBut s [] ∧
      s'.SameBuffers s) ∧
  (∀ (s : State) (t : Time) (n : Nat),
    n < 16 →
    s.errs = [] →
    (s.get .SESSION_STATE n = 0 ∨ max s.now t < (s.sessions.getD {} n).last + ms (1000 * s.get .HEXSUM_IDLE_TIMEOUT)) →
    ∃ s', Machine.exec (.sessionIdleTimeout t n) s = .next s' ∧
      s'.sessions = s.sessions ∧
      s'.subs = s.subs ∧
      s'.SameBut s [] ∧
      s'.SameBuffers s) ∧
  (∀ (s : State) (t : Time) (n : Nat),
    n < 16 →
    s.errs = [] →
    s.get .SESSION_STATE n ≠ 0 →
    (s.sessions.getD {} n).last + ms (1000 * s.get .HEXSUM_IDLE_TIMEOUT) ≤ max s.now t →
    ∃ s', Machine.exec (.sessionIdleTimeout t n) s = .next s' ∧
      s'.get .SESSION_STATE n = 0 ∧
      s'.get .SESSION_PRINCIPAL n = 0 ∧
      (∀ x ∈ s'.subs, x.path.session ≠ some n) ∧
      s'.SameBut s [(.SESSION_STATE, n), (.SESSION_PRINCIPAL, n), (.SESSION_TRANSPORT, n), (.SESSION_PEER, n), (.SESSION_OPENED, n), (.SESSION_REQUESTS, n)] ∧
      s'.SameBuffers s) ∧
  (∀ (s : State) (t : Time) (req : Req) (n : Nat),
    s.errs = [] →
    s.hears req →
    s.mayInvoke req .SESSION_CLOSE (some n) = 0 →
    ∃ s', Machine.exec (.sessionClose t req n) s = .next s' ∧
      s'.get .SESSION_STATE n = 0 ∧
      (∀ x ∈ s'.subs, x.path.session ≠ some n) ∧
      s'.answered req 0 [] ∧
      s'.SameBut s (req.traces ++ [(.SESSION_STATE, n), (.SESSION_PRINCIPAL, n), (.SESSION_TRANSPORT, n), (.SESSION_PEER, n), (.SESSION_OPENED, n), (.SESSION_REQUESTS, n)]) ∧
      s'.SameBuffers s) ∧
  (∀ (s : State) (t : Time) (req : Req) (a v : Nat),
    s.errs = [] →
    s.hears req →
    s.resolve (s.principal req.path) 2 { idx := 0x1810, sub := 3, row := some a } = .obj .TRUST_VALID a →
    v ≤ 1 →
    ∃ s', Machine.exec (.trustAnchorWrite t req a 3 1 1 v) s = .next s' ∧
      s'.get .TRUST_VALID a = v ∧
      (∀ k ∈ List.range 16, (s.sessions.getD {} k).anchor = a → s'.get .SESSION_STATE k = 0) ∧
      s'.answered req 0 [0xFFFFFFFF, 0xFFFFFFFF] ∧
      (s'.SameBut s (req.traces ++ (.TRUST_VALID, a) :: ((List.range 16).filter fun k => s.get .SESSION_STATE k ≠ 0 && (s.sessions.getD {} k).anchor = a).flatMap fun k => [(.SESSION_STATE, k), (.SESSION_PRINCIPAL, k), (.SESSION_TRANSPORT, k), (.SESSION_PEER, k), (.SESSION_OPENED, k), (.SESSION_REQUESTS, k)])) ∧
      s'.SameBuffers s) ∧
  (∀ (s : State) (t : Time) (req : Req) (v : Nat),
    s.errs = [] →
    s.hears req →
    s.resolve (s.principal req.path) 2 { idx := 0x1802, sub := 2 } = .obj .MGMT_IPV4_ADDR 0 →
    v < 2 ^ 32 →
    v ≠ s.get .MGMT_IPV4_ADDR →
    ∃ s', Machine.exec (.mgmtAddressWrite t req 2 4 4 v) s = .next s' ∧
      s'.get .MGMT_IPV4_ADDR = v ∧
      (∀ k ∈ List.range 16, peerV4 (s.get .SESSION_PEER k) = true → s'.get .SESSION_STATE k = 0) ∧
      s'.answered req 0 [0xFFFFFFFF, 0xFFFFFFFF] ∧
      (s'.SameBut s (req.traces ++ (.MGMT_IPV4_ADDR, 0) :: ((List.range 16).filter fun k => s.get .SESSION_STATE k ≠ 0 && peerV4 (s.get .SESSION_PEER k)).flatMap fun k => [(.SESSION_STATE, k), (.SESSION_PRINCIPAL, k), (.SESSION_TRANSPORT, k), (.SESSION_PEER, k), (.SESSION_OPENED, k), (.SESSION_REQUESTS, k)])) ∧
      s'.SameBuffers s) ∧
  (∀ (s : State) (t : Time) (req : Req) (a sub ty len v : Nat),
    s.hears req →
    Machine.exec (.trustAnchorWrite t req a sub ty len v) s = .next (((((s.at t).arrive req).writeSet req [{ addr := { idx := 0x1810, sub := sub, row := some a }, ty := ty, octets := beBytes v len }]).2.2.answer req (((s.at t).arrive req).writeSet req [{ addr := { idx := 0x1810, sub := sub, row := some a }, ty := ty, octets := beBytes v len }]).1 (((s.at t).arrive req).writeSet req [{ addr := { idx := 0x1810, sub := sub, row := some a }, ty := ty, octets := beBytes v len }]).2.1).finish s)) ∧
  (∀ (s : State) (t : Time) (req : Req) (sub ty len v : Nat),
    s.hears req →
    Machine.exec (.mgmtAddressWrite t req sub ty len v) s = .next (((((s.at t).arrive req).writeSet req [{ addr := { idx := 0x1802, sub := sub }, ty := ty, octets := beBytes v len }]).2.2.answer req (((s.at t).arrive req).writeSet req [{ addr := { idx := 0x1802, sub := sub }, ty := ty, octets := beBytes v len }]).1 (((s.at t).arrive req).writeSet req [{ addr := { idx := 0x1802, sub := sub }, ty := ty, octets := beBytes v len }]).2.1).finish s)) ∧
  (∀ (s : State) (t : Time) (req : Req) (n period : Nat) (l : List ObjAddr),
    s.hears req →
    Machine.exec (.subscribe t req n period l) s = .next (((((s.at t).arrive req).subscribe req n period l).2.2.answer req (((s.at t).arrive req).subscribe req n period l).1 (((s.at t).arrive req).subscribe req n period l).2.1).finish s)) ∧
  (∀ (s : State) (t : Time) (req : Req) (n period : Nat) (l : List ObjAddr),
    s.errs = [] →
    s.hears req →
    0 < period →
    period ≤ 1024 →
    l.length ≤ 16 →
    n ≠ 0 →
    (∃ x ∈ s.subs, x.path = req.path ∧ x.id = n) →
    s.addrsCode (s.principal req.path) l = 0 →
    ∃ s', Machine.exec (.subscribe t req n period l) s = .next s' ∧
      (s'.subs = s.subs.map fun (x : SubH) => if x.path = req.path ∧ x.id = n then { x with period := period, addrs := l } else x) ∧
      s'.answered req 0 [n] ∧
      s'.SameBut s (req.traces ++ []) ∧
      s'.SameBuffers s) ∧
  (∀ (s : State) (t : Time) (req : Req) (n period : Nat) (l : List ObjAddr) (c : Nat),
    s.errs = [] →
    s.hears req →
    0 < period →
    (firstCode [codeIf (decide (1024 < period)) 0x0301, codeIf (decide (16 < l.length)) 0x0302, codeIf (n ≠ 0 && !(s.subs.filter fun (x : SubH) => x.path = req.path).any fun (x : SubH) => x.id = n) 0x0102, s.addrsCode (s.principal req.path) l, codeIf (n = 0 && (decide (8 ≤ (s.subs.filter fun (x : SubH) => x.path = req.path).length) || decide (256 ≤ s.subs.length))) 0x0602] = c) →
    c ≠ 0 →
    ∃ s', Machine.exec (.subscribe t req n period l) s = .next s' ∧
      s'.subs = s.subs ∧
      s'.answered req c [] ∧
      s'.SameBut s (req.traces ++ [(.REQUESTS_REFUSED, 0)]) ∧
      s'.SameBuffers s) ∧
  (∀ (s : State) (t : Time) (req : Req) (period : Nat) (l : List ObjAddr),
    s.errs = [] →
    s.hears req →
    0 < period →
    period ≤ 1024 →
    l.length ≤ 16 →
    s.addrsCode (s.principal req.path) l = 0 →
    ((s.subs.filter fun (x : SubH) => x.path = req.path).length < 8) →
    s.subs.length < 256 →
    ∃ s', Machine.exec (.subscribe t req 0 period l) s = .next s' ∧
      (∃ x ∈ s'.subs, x.path = req.path ∧ x.period = period ∧ x.addrs = l ∧ s'.answered req 0 [x.id] ∧ s'.subs = s.subs ++ [x]) ∧
      s'.SameBut s (req.traces ++ []) ∧
      s'.SameBuffers s) ∧
  (∀ (s : State) (t : Time) (req : Req) (n : Nat) (l : List ObjAddr),
    s.errs = [] →
    s.hears req →
    (∃ x ∈ s.subs, x.path = req.path ∧ x.id = n) →
    ∃ s', Machine.exec (.subscribe t req n 0 l) s = .next s' ∧
      (∀ x ∈ s'.subs, ¬(x.path = req.path ∧ x.id = n)) ∧
      s'.answered req 0 [n] ∧
      s'.SameBut s (req.traces ++ []) ∧
      s'.SameBuffers s) ∧
  (∀ (s : State) (t : Time) (req : Req) (n : Nat) (l : List ObjAddr),
    s.errs = [] →
    s.hears req →
    (∀ x ∈ s.subs, ¬(x.path = req.path ∧ x.id = n)) →
    ∃ s', Machine.exec (.subscribe t req n 0 l) s = .next s' ∧
      s'.subs = s.subs ∧
      s'.answered req 0x0102 [] ∧
      s'.SameBut s (req.traces ++ [(.REQUESTS_REFUSED, 0)]) ∧
      s'.SameBuffers s) ∧
  (∀ (s : State) (t : Time) (req : Req) (n : Nat),
    s.errs = [] →
    s.hears req →
    (∃ x ∈ s.subs, x.path = req.path ∧ x.id = n) →
    ∃ s', Machine.exec (.abort t req n 1) s = .next s' ∧
      (∀ x ∈ s'.subs, ¬(x.path = req.path ∧ x.id = n)) ∧
      s'.answered req 0 [0] ∧
      s'.SameBut s (req.traces ++ []) ∧
      s'.SameBuffers s) ∧
  (∀ (s : State) (t : Time) (req : Req) (n : Nat),
    s.errs = [] →
    s.hears req →
    ∃ s', Machine.exec (.abort t req n 0) s = .next s' ∧
      (s'.answered req 0 [if s.tagKnown req.path n then 1 else 2]) ∧
      s'.subs = s.subs ∧
      s'.SameBut s (req.traces ++ []) ∧
      s'.SameBuffers s) ∧
  (∀ (s : State) (t : Time) (req : Req) (n k : Nat),
    s.errs = [] →
    s.hears req →
    (1 < k ∨ (k = 1 ∧ ∀ x ∈ s.subs, ¬(x.path = req.path ∧ x.id = n))) →
    ∃ s', Machine.exec (.abort t req n k) s = .next s' ∧
      s'.answered req 0 [2] ∧
      s'.subs = s.subs ∧
      s'.SameBut s (req.traces ++ []) ∧
      s'.SameBuffers s)

/-- A write of PORT_ROLE starts or parks a quiet port, one of SP_ENABLE opens or closes a slot (R224, R225, R265,
R277, R278, R316). What is the model's choice in it and not a rule of the spec: log 62. -/
def Obligations.PortRolesAndSlotsAreSet : Prop :=
  (∀ (s : State) (t : Time) (req : Req) (port : Nat),
    s.errs = [] →
    s.hears req →
    s.resolve (s.principal req.path) 2 (entryOf .PORT_ROLE (some port) 1).addr = .obj .PORT_ROLE port →
    s.portQuiet port = true →
    rateSuits 1 (s.newest .MAX_RATE port) = true →
    s.switching = false →
    s.get .PORT_ROLE port ≠ 3 →
    s.get .PORT_ROLE port ≠ 2 →
    (s.put .PORT_ROLE port 1).sizesSoon.poolTooSmall = false →
    s.hostHeld port = false →
    ∃ s', Machine.exec (.portCfgWrite t req port (some 1) none none) s = .next s' ∧
      s'.get .PORT_ROLE port = 1 ∧
      s'.get .TRAIN_STATE port = 8 ∧
      (s'.pport port).free = true ∧
      s'.answered req 0 [0xFFFFFFFF, 0xFFFFFFFF] ∧
      (s'.SameBut s (req.traces ++ [(.PORT_ROLE, port), (.TRAIN_STATE, port)] ++ (List.range (s.get .PORT_WIDTH port)).map fun j => (.LANE_STATE, s.physLane port j))) ∧
      s'.SameBuffers s) ∧
  (∀ (s : State) (t : Time) (req : Req) (port : Nat),
    s.errs = [] →
    s.hears req →
    s.resolve (s.principal req.path) 2 (entryOf .PORT_ROLE (some port) 0).addr = .obj .PORT_ROLE port →
    s.portQuiet port = true →
    s.switching = false →
    s.get .PORT_ROLE port ≠ 3 →
    (s.put .PORT_ROLE port 0).sizesSoon.poolTooSmall = false →
    (s.perstH (clusterOf port)).asserted = true →
    (∀ q ∈ s.slotPorts (clusterOf port), q = port) →
    ∃ s', Machine.exec (.portCfgWrite t req port (some 0) none none) s = .next s' ∧
      s'.get .PORT_ROLE port = 0 ∧
      s'.get .TRAIN_STATE port = 0 ∧
      s'.get .DP_STATE port = 0 ∧
      s'.get .LINK_WIDTH port = 0 ∧
      s'.pport port = {} ∧
      s'.answered req 0 [0xFFFFFFFF, 0xFFFFFFFF] ∧
      (s'.SameBut s (req.traces ++ [(.PORT_ROLE, port), (.TRAIN_STATE, port), (.DP_STATE, port), (.LINK_WIDTH, port), (.LINK_RATE, port), (.FAILED_LANES, port)] ++ (List.range (s.get .PORT_WIDTH port)).map fun j => (.LANE_STATE, s.physLane port j))) ∧
      s'.SameBuffers s) ∧
  (∀ (s : State) (t : Time) (req : Req) (port v : Nat),
    s.errs = [] →
    s.hears req →
    s.resolve (s.principal req.path) 2 (entryOf .MAX_RATE (some port) v).addr = .obj .MAX_RATE port →
    s.portQuiet port = true →
    s.switching = false →
    s.get .PORT_ROLE port = 0 →
    1 ≤ v →
    v ≤ 6 →
    ∃ s', Machine.exec (.portCfgWrite t req port none none (some v)) s = .next s' ∧
      s'.get .MAX_RATE port = v ∧
      s'.answered req 0 [0xFFFFFFFF, 0xFFFFFFFF] ∧
      s'.SameBut s (req.traces ++ [(.MAX_RATE, port)]) ∧
      s'.SameBuffers s) ∧
  (∀ (s : State) (t : Time) (req : Req) (port v : Nat),
    s.errs = [] →
    s.hears req →
    s.resolve (s.principal req.path) 2 (entryOf .PORT_ROLE (some port) v).addr = .obj .PORT_ROLE port →
    v ≤ 3 →
    rateSuits v (s.newest .MAX_RATE port) = true →
    s.get .TRAIN_STATE port ≠ 0 →
    (v = 3 ∨ s.get .PORT_ROLE port ≠ 3) →
    ∃ s', Machine.exec (.portCfgWrite t req port (some v) none none) s = .next s' ∧
      s'.answered req 0x0401 [0] ∧
      s'.SameBut s (req.traces ++ [(.REQUESTS_REFUSED, 0)]) ∧
      s'.SameBuffers s) ∧
  (∀ (s : State) (t : Time) (req : Req) (c : Nat),
    s.errs = [] →
    s.hears req →
    s.resolve (s.principal req.path) 2 (entryOf .SP_ENABLE (some c) 0).addr = .obj .SP_ENABLE c →
    s.switching = false →
    s.get .SP_STATE c = 5 →
    (s.perstH c).asserted = true →
    ∃ s', Machine.exec (.spEnableWrite t req c 0) s = .next s' ∧
      s'.get .SP_ENABLE c = 0 ∧
      s'.get .SP_STATE c = 6 ∧
      s'.answered req 0 [0xFFFFFFFF, 0xFFFFFFFF] ∧
      (∀ k ∈ List.range 64, k ≠ c → s'.get .SP_STATE k = s.get .SP_STATE k ∧ s'.get .SP_ENABLE k = s.get .SP_ENABLE k) ∧
      s'.cells = s.cells ∧
      s'.queues = s.queues) ∧
  (∀ (s : State) (t : Time) (req : Req) (c : Nat),
    s.errs = [] →
    s.hears req →
    s.resolve (s.principal req.path) 2 (entryOf .SP_ENABLE (some c) 0).addr = .obj .SP_ENABLE c →
    (s.get .SP_STATE c = 3 ∨ s.get .SP_STATE c = 4) →
    s.clusterFree c = false →
    ∃ s', Machine.exec (.spEnableWrite t req c 0) s = .next s' ∧
      s'.answered req 0x0401 [0] ∧
      s'.slots = s.slots ∧
      s'.SameBut s (req.traces ++ [(.REQUESTS_REFUSED, 0)]) ∧
      s'.SameBuffers s) ∧
  (∀ (s : State) (t : Time) (req : Req) (c : Nat),
    s.errs = [] →
    s.hears req →
    s.resolve (s.principal req.path) 2 (entryOf .SP_ENABLE (some c) 1).addr = .obj .SP_ENABLE c →
    s.switching = false →
    s.slotHeld c = false →
    s.get .SP_STATE c = 0 →
    (s.slot c).seated = false →
    (s.perstH c).asserted = true →
    ∃ s', Machine.exec (.spEnableWrite t req c 1) s = .next s' ∧
      s'.get .SP_ENABLE c = 1 ∧
      s'.get .SP_STATE c = 1 ∧
      s'.answered req 0 [0xFFFFFFFF, 0xFFFFFFFF] ∧
      (∀ k ∈ List.range 64, k ≠ c → s'.get .SP_STATE k = s.get .SP_STATE k ∧ s'.get .SP_ENABLE k = s.get .SP_ENABLE k) ∧
      s'.cells = s.cells ∧
      s'.queues = s.queues) ∧
  (∀ (s : State) (t : Time) (req : Req) (port : Nat) (role width rate : Option Nat),
    port < 512 →
    s.hears req →
    Machine.exec (.portCfgWrite t req port role width rate) s = .next (((((s.at t).arrive req).writeSet req (entriesOf (some port) [(.MAX_RATE, rate), (.PORT_WIDTH, width), (.PORT_ROLE, role)])).2.2.answer req (((s.at t).arrive req).writeSet req (entriesOf (some port) [(.MAX_RATE, rate), (.PORT_WIDTH, width), (.PORT_ROLE, role)])).1 (((s.at t).arrive req).writeSet req (entriesOf (some port) [(.MAX_RATE, rate), (.PORT_WIDTH, width), (.PORT_ROLE, role)])).2.1).finish s)) ∧
  (∀ (s : State) (t : Time) (req : Req) (c v : Nat),
    c < 64 →
    s.hears req →
    Machine.exec (.spEnableWrite t req c v) s = .next (((((s.at t).arrive req).writeSet req [entryOf .SP_ENABLE (some c) v]).2.2.answer req (((s.at t).arrive req).writeSet req [entryOf .SP_ENABLE (some c) v]).1 (((s.at t).arrive req).writeSet req [entryOf .SP_ENABLE (some c) v]).2.1).finish s))

/-- PROFILE_SAVE, PROFILE_ERASE and PROFILE_SWITCH, their checks, and what a save or erase leaves (R332, R333, R334,
R336). What is the model's choice in it and not a rule of the spec: log 10, 34. -/
def Obligations.ProfilesAreSavedErasedAndSwitched : Prop :=
  (∀ (s : State) (t : Time) (req : Req) (n : Nat),
    s.errs = [] →
    s.hears req →
    s.mayInvoke req .PROFILE_SAVE none = 0 →
    n < 4 →
    s.storeBusy = false →
    ∃ s', Machine.exec (.profileSave t req n) s = .next s' ∧
      s'.storeOp = some { n := n, save := true, pip := (s.at t).pipAfter (max s.now t) (us 5) } ∧
      s'.profiles = s.profiles ∧
      s'.answered req 0 [] ∧
      s'.SameBut s (req.traces ++ []) ∧
      s'.SameBuffers s) ∧
  (∀ (s : State) (t : Time) (req : Req) (n : Nat),
    s.errs = [] →
    s.hears req →
    s.mayInvoke req .PROFILE_SAVE none = 0 →
    (4 ≤ n ∨ s.storeBusy = true) →
    ∃ s', Machine.exec (.profileSave t req n) s = .next s' ∧
      (s'.answered req (if 4 ≤ n then 0x0301 else 0x0501) []) ∧
      s'.storeOp = s.storeOp ∧
      s'.profiles = s.profiles ∧
      s'.SameBut s (req.traces ++ [(.REQUESTS_REFUSED, 0)]) ∧
      s'.SameBuffers s) ∧
  (∀ (s : State) (t : Time) (req : Req) (n : Nat),
    s.errs = [] →
    s.hears req →
    s.mayInvoke req .PROFILE_ERASE none = 0 →
    n < 4 →
    n ≠ s.get .ACTIVE_PROFILE →
    s.storeBusy = false →
    ∃ s', Machine.exec (.profileErase t req n) s = .next s' ∧
      s'.storeOp = some { n := n, save := false } ∧
      s'.profiles = s.profiles ∧
      s'.answered req 0 [] ∧
      s'.SameBut s (req.traces ++ []) ∧
      s'.SameBuffers s) ∧
  (∀ (s : State) (t : Time) (req : Req) (n : Nat),
    s.errs = [] →
    s.hears req →
    s.mayInvoke req .PROFILE_ERASE none = 0 →
    (4 ≤ n ∨ n = s.get .ACTIVE_PROFILE ∨ s.storeBusy = true) →
    ∃ s', Machine.exec (.profileErase t req n) s = .next s' ∧
      (s'.answered req (if 4 ≤ n then 0x0301 else if n = s.get .ACTIVE_PROFILE then 0x0401 else 0x0501) []) ∧
      s'.storeOp = s.storeOp ∧
      s'.SameBut s (req.traces ++ [(.REQUESTS_REFUSED, 0)]) ∧
      s'.SameBuffers s) ∧
  (∀ (s : State) (t : Time) (op : StoreOp) (p : ProfileH),
    s.errs = [] →
    s.storeOp = some op →
    op.save = true →
    op.taken = some p →
    ∃ s', Machine.exec (.profileStoreComplete t) s = .next s' ∧
      s'.storeOp = none ∧
      s'.profiles.getD {} op.n = p ∧
      (∀ k ∈ s.profiles.keys, k ≠ op.n → s'.profiles.getD {} k = s.profiles.getD {} k) ∧
      s'.get .PROF_VALID op.n = 1 ∧
      s'.get .PROF_SAVED op.n = max s.now t ∧
      s'.get .PROF_CHECK op.n = p.crc ∧
      s'.get .PROF_GENERATION op.n = (s.get .PROF_GENERATION op.n + 1) % 2 ^ 32 ∧
      s'.SameBut s [(.PROF_VALID, op.n), (.PROF_SAVED, op.n), (.PROF_CHECK, op.n), (.PROF_GENERATION, op.n)] ∧
      s'.SameBuffers s) ∧
  (∀ (s : State) (t : Time) (op : StoreOp),
    s.errs = [] →
    s.storeOp = some op →
    op.save = false →
    ∃ s', Machine.exec (.profileStoreComplete t) s = .next s' ∧
      s'.storeOp = none ∧
      s'.profiles.find op.n = none ∧
      (∀ k ∈ s.profiles.keys, k ≠ op.n → s'.profiles.getD {} k = s.profiles.getD {} k) ∧
      s'.get .PROF_VALID op.n = 0 ∧
      s'.SameBut s [(.PROF_VALID, op.n), (.PROF_CHECK, op.n)] ∧
      s'.SameBuffers s) ∧
  (∀ (s : State) (t : Time),
    s.errs = [] →
    (s.storeOp = none ∨ s.storeOp.any (fun o => o.save && o.taken.isNone) = true) →
    ∃ s', Machine.exec (.profileStoreComplete t) s = .next s' ∧
      s'.storeOp = s.storeOp ∧
      s'.profiles = s.profiles ∧
      s'.SameBut s [] ∧
      s'.SameBuffers s) ∧
  (∀ (s : State) (o : Obj) (r v : Nat),
    (o, r, v) ∈ s.takeProfile.vals →
    o ∈ profObjs ∧
      v = s.saveVal o r ∧
      v ≠ o.default r) ∧
  (∀ (s : State) (o : Obj) (r : Nat),
    o ∈ profObjs →
    s.saveVal o r ≠ o.default r →
    (s.pendB.all (fun h => h.obj ≠ o || h.row ≠ r) = true) →
    (o, r, s.saveVal o r) ∈ s.takeProfile.vals) ∧
  (∀ (s : State) (t : Time) (req : Req) (offers : List Time) (n force nodes : Nat),
    s.errs = [] →
    s.hears req →
    s.mayInvoke req .PROFILE_SWITCH none = 0 →
    n < 4 →
    force ≤ 1 →
    (∀ k ∈ s.named nodes, k ∈ s.live ∧ s.validOn k n = true) →
    ((s.named nodes).foldl (fun m k => m ||| s.diffClasses k n) 0 < 8 ∨ force = 1) →
    s.epochsRefused = false →
    s.get .PAIR_B_STATE = 0 →
    (s.at t).checkOffers offers = 0 →
    (s.node ∉ s.named nodes ∨ s.storeBusy = false) →
    s.unitsBusy (unitsOf (nub (s.named nodes ++ (s.diffNodes n).filter (· < 32)))) = false →
    ∃ s', Machine.exec (.profileSwitch t req offers n force nodes) s = .next s' ∧
      (∃ r ∈ s'.reqs, r.kind = 1 ∧ r.offers = offers ∧ r.work = .profile n force (maskOf (s.named nodes)) ∧ r.units = unitsOf (nub (s.named nodes ++ (s.diffNodes n).filter (· < 32))) ∧ s'.answered req 0 [r.num] ∧
        s'.SameBut s (req.traces ++ s.openedRows r.num ++ [(.PS_RESULT, 0), (.PS_DIFF_CLASS, 0), (.PS_FIRST_QB, 0)])) ∧
      s'.get .PS_RESULT = 0 ∧
      (s'.get .PS_DIFF_CLASS = (s.named nodes).foldl (fun m k => m ||| s.diffClasses k n) 0) ∧
      (s'.get .PS_FIRST_QB = ((s.named nodes).flatMap fun k => s.diffQb k n).foldl min (2 ^ 64 - 1)) ∧
      s'.SameBuffers s) ∧
  (∀ (s : State) (t : Time) (req : Req) (offers : List Time) (n force nodes : Nat),
    s.errs = [] →
    s.hears req →
    s.mayInvoke req .PROFILE_SWITCH none = 0 →
    (4 ≤ n ∨ 2 ≤ force ∨ ∃ k ∈ s.named nodes, k ∉ s.live ∨ s.validOn k n = false) →
    ∃ s', Machine.exec (.profileSwitch t req offers n force nodes) s = .next s' ∧
      (s'.answered req (if 4 ≤ n ∨ 2 ≤ force then 0x0301 else 0x0102) []) ∧
      (s'.get .PS_RESULT = if 4 ≤ n ∨ 2 ≤ force then 0x0301 else 0x0102) ∧
      s'.reqs = s.reqs ∧
      s'.SameBut s (req.traces ++ [(.REQUESTS_REFUSED, 0), (.PS_RESULT, 0)]) ∧
      s'.SameBuffers s) ∧
  (∀ (s : State) (t : Time) (req : Req) (offers : List Time) (n nodes : Nat),
    s.errs = [] →
    s.hears req →
    s.mayInvoke req .PROFILE_SWITCH none = 0 →
    n < 4 →
    (∀ k ∈ s.named nodes, k ∈ s.live ∧ s.validOn k n = true) →
    (8 ≤ (s.named nodes).foldl (fun m k => m ||| s.diffClasses k n) 0) →
    ∃ s', Machine.exec (.profileSwitch t req offers n 0 nodes) s = .next s' ∧
      s'.answered req 0x0401 [] ∧
      s'.get .PS_RESULT = 0x0401 ∧
      s'.reqs = s.reqs ∧
      s'.SameBut s (req.traces ++ [(.REQUESTS_REFUSED, 0), (.PS_RESULT, 0), (.PS_DIFF_CLASS, 0), (.PS_FIRST_QB, 0)]) ∧
      s'.SameBuffers s) ∧
  (∀ (s : State) (t : Time) (req : Req) (n : Nat),
    s.hears req →
    s.mayInvoke req .PROFILE_SAVE none = 0 →
    Machine.exec (.profileSave t req n) s = .next (((((s.at t).arrive req).profileSave n).2.2.answer req (((s.at t).arrive req).profileSave n).1 (((s.at t).arrive req).profileSave n).2.1).finish s)) ∧
  (∀ (s : State) (t : Time) (req : Req) (n : Nat),
    s.hears req →
    s.mayInvoke req .PROFILE_ERASE none = 0 →
    Machine.exec (.profileErase t req n) s = .next (((((s.at t).arrive req).profileErase n).2.2.answer req (((s.at t).arrive req).profileErase n).1 (((s.at t).arrive req).profileErase n).2.1).finish s)) ∧
  (∀ (s : State) (t : Time) (req : Req) (offers : List Time) (n force nodes : Nat),
    s.hears req →
    s.mayInvoke req .PROFILE_SWITCH none = 0 →
    Machine.exec (.profileSwitch t req offers n force nodes) s = .next (((((s.at t).arrive req).profileSwitch offers n force nodes).2.2.answer req (((s.at t).arrive req).profileSwitch offers n force nodes).1 (((s.at t).arrive req).profileSwitch offers n force nodes).2.1).finish s)) ∧
  (∀ (s : State) (t : Time) (req : Req) (offers : List Time) (n force nodes c : Nat),
    s.errs = [] →
    s.hears req →
    s.mayInvoke req .PROFILE_SWITCH none = 0 →
    n < 4 →
    force ≤ 1 →
    (∀ k ∈ s.named nodes, k ∈ s.live ∧ s.validOn k n = true) →
    (firstCode [codeIf (decide (8 ≤ (s.named nodes).foldl (fun m k => m ||| s.diffClasses k n) 0) && force = 0) 0x0401, codeIf (s.epochsRefused || s.get .PAIR_B_STATE ≠ 0) 0x0404, (s.at t).checkOffers offers,
      codeIf ((s.named nodes).contains s.node && s.storeBusy) 0x0501, codeIf (s.unitsBusy (unitsOf (nub (s.named nodes ++ (s.diffNodes n).filter (· < 32))))) 0x0602] = c) →
    c ≠ 0 →
    ∃ s', Machine.exec (.profileSwitch t req offers n force nodes) s = .next s' ∧
      s'.answered req c [] ∧
      s'.get .PS_RESULT = c ∧
      s'.reqs = s.reqs ∧
      s'.SameBut s (req.traces ++ [(.REQUESTS_REFUSED, 0), (.PS_RESULT, 0), (.PS_DIFF_CLASS, 0), (.PS_FIRST_QB, 0)]) ∧
      s'.SameBuffers s)

/-- A running pair stops with record 0x3007, restarts or is held, and is halted and resumed by debug (R25, R299,
R347, R348, R349, R369, R370). -/
def Obligations.PairsStopRestartAndHalt : Prop :=
  (∀ (s : State) (t : Time) (pair : Nat),
    pair < 2 →
    s.errs = [] →
    s.boot = .odtaku →
    s.get (pairObj pair) = 0 →
    s.openRec { code := 0x3007, kind := 1, idx := 14, region := 14, detail := pair } = none →
    s.log.length < 4096 →
    s.fw.trialUntil = none →
    ∃ s', Machine.exec (.pairStop t pair) s = .next s' ∧
      (s'.get (pairObj pair) = if s.get .PAIR_RESTART_LIMIT ≤ ((s.pairH pair).stops.filter fun (x : Time) => max s.now t < x + ms 86400000).length + 1 then 2 else 1) ∧
      s'.get (pairStopsObj pair) = (s.get (pairStopsObj pair) + 1) % 2 ^ 32 ∧
      (s'.pairH pair).stops = (s.pairH pair).stops ++ [max s.now t] ∧
      (∃ r ∈ s'.log, r.err = { code := 0x3007, kind := 1, idx := 14, region := 14, detail := pair } ∧ r.action = 5 ∧ r.state = 0 ∧ r.seq = s.get .LOG_NEXT_SEQ ∧ r.time = max s.now t) ∧
      (pair = 0 → s'.SameBut s [(.PAIR_A_STATE, 0), (.PAIR_A_STOPS, 0), (.LOG_NEXT_SEQ, 0)]) ∧
      (pair = 1 → s'.get .TIME_CLASS = 3 ∧ s'.get .PAIR_A_STATE = s.get .PAIR_A_STATE) ∧
      s'.SameBuffers s) ∧
  (∀ (s : State) (t : Time) (pair : Nat),
    pair < 2 →
    s.errs = [] →
    s.boot = .odtaku →
    s.get (pairObj pair) = 0 →
    s.openRec { code := 0x3007, kind := 1, idx := 14, region := 14, detail := pair } = none →
    s.log.length < 4096 →
    s.fw.trialUntil = none →
    ∃ s', Machine.exec (.watchdogExpiry t pair) s = .next s' ∧
      (s'.get (pairObj pair) = if s.get .PAIR_RESTART_LIMIT ≤ ((s.pairH pair).stops.filter fun (x : Time) => max s.now t < x + ms 86400000).length + 1 then 2 else 1) ∧
      s'.get (pairStopsObj pair) = (s.get (pairStopsObj pair) + 1) % 2 ^ 32 ∧
      (s'.pairH pair).stops = (s.pairH pair).stops ++ [max s.now t] ∧
      (∃ r ∈ s'.log, r.err = { code := 0x3007, kind := 1, idx := 14, region := 14, detail := pair } ∧ r.action = 5 ∧ r.state = 0 ∧ r.seq = s.get .LOG_NEXT_SEQ ∧ r.time = max s.now t) ∧
      (pair = 0 → s'.SameBut s [(.PAIR_A_STATE, 0), (.PAIR_A_STOPS, 0), (.LOG_NEXT_SEQ, 0)]) ∧
      (pair = 1 → s'.get .TIME_CLASS = 3 ∧ s'.get .PAIR_A_STATE = s.get .PAIR_A_STATE) ∧
      s'.SameBuffers s) ∧
  (∀ (s : State) (t : Time) (pair : Nat),
    pair < 2 →
    s.errs = [] →
    (s.get (pairObj pair) ≠ 0 ∨ s.boot ≠ .odtaku) →
    ∃ s', Machine.exec (.pairStop t pair) s = .next s' ∧
      s'.log = s.log ∧
      s'.pairs = s.pairs ∧
      s'.SameBut s [] ∧
      s'.SameBuffers s) ∧
  (∀ (s : State) (t : Time) (pair : Nat),
    pair < 2 →
    s.errs = [] →
    (s.get (pairObj pair) ≠ 0 ∨ s.boot ≠ .odtaku) →
    ∃ s', Machine.exec (.watchdogExpiry t pair) s = .next s' ∧
      s'.log = s.log ∧
      s'.pairs = s.pairs ∧
      s'.SameBut s [] ∧
      s'.SameBuffers s) ∧
  (∀ (s : State) (t : Time) (pair : Nat),
    pair < 2 →
    Machine.exec (.pairStop t pair) s = .next (((s.at t).stopPair pair).finish s)) ∧
  (∀ (s : State) (t : Time) (pair : Nat),
    pair < 2 →
    Machine.exec (.watchdogExpiry t pair) s = .next (((s.at t).stopPair pair).finish s)) ∧
  (∀ (s : State) (t : Time) (pair : Nat),
    pair < 2 →
    (s.at t).get (pairObj pair) = 1 →
    ((s.at t).pairH pair).reloading = false →
    ((s.at t).pairH pair).stoppedAt + ms 1 ≤ max s.now t →
    (s.at t).bankPasses (s.at t).activeFwBank ((s.at t).get .KEYSET_REVOKED) = false →
    Machine.exec (.pairRestartComplete t pair) s = .next (((s.at t).pairUnverified pair).finish s)) ∧
  (∀ (s : State) (t : Time) (pair : Nat),
    pair < 2 →
    (s.at t).get (pairObj pair) = 1 →
    ((s.at t).pairH pair).reloading = false →
    ((s.at t).pairH pair).stoppedAt + ms 1 ≤ max s.now t →
    (s.at t).bankPasses (s.at t).activeFwBank ((s.at t).get .KEYSET_REVOKED) = true →
    Machine.exec (.pairRestartComplete t pair) s = .next ((((if pair = 1 then (s.at t).hssRestart else s.at t).pairRuns pair).closePair pair).finish s)) ∧
  (∀ (s : State) (t : Time) (pair : Nat),
    pair < 2 →
    (s.at t).debugOpen = true →
    (s.at t).get (pairObj pair) = 0 →
    Machine.exec (.debugHalt t pair) s = .next ((((s.at t).put (pairObj pair) 0 3).pairGone pair).finish s)) ∧
  (∀ (s : State) (t : Time) (pair : Nat),
    pair < 2 →
    (s.at t).get (pairObj pair) = 3 →
    Machine.exec (.debugResume t pair) s = .next (((s.at t).pairRuns pair).finish s)) ∧
  (∀ (s : State) (t : Time) (pair : Nat),
    pair < 2 →
    s.errs = [] →
    s.get (pairObj pair) ≠ 3 →
    ∃ s', Machine.exec (.debugResume t pair) s = .next s' ∧
      s'.pairs = s.pairs ∧
      s'.log = s.log ∧
      s'.SameBut s [] ∧
      s'.SameBuffers s) ∧
  (∀ (s : State) (t : Time) (pair : Nat),
    pair < 2 →
    s.errs = [] →
    s.get (pairObj pair) = 1 →
    (s.pairH pair).reloading = false →
    (s.pairH pair).stoppedAt + ms 1 ≤ max s.now t →
    (s.at t).bankPasses (s.at t).activeFwBank ((s.at t).get .KEYSET_REVOKED) = true →
    s.get .KEEPER_ROLE ≠ 1 →
    (∀ r ∈ s.mboxes.keys, (s.mbox r).late = false) →
    ∃ s', Machine.exec (.pairRestartComplete t pair) s = .next s' ∧
      s'.get (pairObj pair) = 0 ∧
      (∀ r ∈ s'.log, r.err.code = 0x3007 → r.err.detail = pair → r.state ≠ 0) ∧
      s'.log.map (·.seq) = s.log.map (·.seq) ∧
      (pair = 0 → s'.SameBut s [(.PAIR_A_STATE, 0)]) ∧
      (pair = 1 → s'.get .TIME_CLASS = ({ s with objs := (s.put .PAIR_B_STATE 0 0).objs }).ownClass) ∧
      s'.SameBuffers s) ∧
  (∀ (s : State) (t : Time) (pair : Nat),
    pair < 2 →
    s.errs = [] →
    (s.get (pairObj pair) ≠ 1 ∨ max s.now t < (s.pairH pair).stoppedAt + ms 1 ∨ (s.pairH pair).reloading = true) →
    ∃ s', Machine.exec (.pairRestartComplete t pair) s = .next s' ∧
      s'.log = s.log ∧
      s'.SameBut s [] ∧
      s'.SameBuffers s) ∧
  (∀ (s : State) (t : Time) (req : Req) (pair : Nat),
    s.errs = [] →
    s.hears req →
    s.mayInvoke req .PAIR_RESTART none = 0 →
    pair < 2 →
    s.get (pairObj pair) = 2 →
    ∃ s', Machine.exec (.pairRestart t req pair) s = .next s' ∧
      s'.get (pairObj pair) = 1 ∧
      (s'.pairH pair).stoppedAt = max s.now t ∧
      s'.answered req 0 [] ∧
      s'.SameBut s (req.traces ++ [(pairObj pair, 0)]) ∧
      s'.SameBuffers s) ∧
  (∀ (s : State) (t : Time) (req : Req) (pair : Nat),
    s.errs = [] →
    s.hears req →
    s.mayInvoke req .PAIR_RESTART none = 0 →
    (2 ≤ pair ∨ s.get (pairObj pair) ≠ 2) →
    ∃ s', Machine.exec (.pairRestart t req pair) s = .next s' ∧
      (s'.answered req (if 2 ≤ pair then 0x0301 else 0x0401) []) ∧
      s'.SameBut s (req.traces ++ [(.REQUESTS_REFUSED, 0)]) ∧
      s'.SameBuffers s) ∧
  (∀ (s : State) (t : Time) (pair : Nat),
    pair < 2 →
    s.errs = [] →
    s.debugOpen = true →
    s.get (pairObj pair) = 0 →
    ∃ s', Machine.exec (.debugHalt t pair) s = .next s' ∧
      s'.get (pairObj pair) = 3 ∧
      s'.log = s.log ∧
      s'.pairs = s.pairs ∧
      (pair = 0 → s'.SameBut s [(.PAIR_A_STATE, 0)]) ∧
      (pair = 1 → s'.get .TIME_CLASS = 3 ∧ s'.get .PAIR_A_STATE = s.get .PAIR_A_STATE) ∧
      s'.SameBuffers s) ∧
  (∀ (s : State) (t : Time) (pair : Nat),
    pair < 2 →
    s.errs = [] →
    (s.debugOpen = false ∨ s.get (pairObj pair) ≠ 0) →
    ∃ s', Machine.exec (.debugHalt t pair) s = .next s' ∧
      s'.pairs = s.pairs ∧
      s'.SameBut s [] ∧
      s'.SameBuffers s) ∧
  (∀ (s : State) (t : Time) (pair : Nat),
    pair < 2 →
    s.errs = [] →
    s.get (pairObj pair) = 3 →
    s.get .KEEPER_ROLE ≠ 1 →
    (∀ r ∈ s.mboxes.keys, (s.mbox r).late = false) →
    ∃ s', Machine.exec (.debugResume t pair) s = .next s' ∧
      s'.get (pairObj pair) = 0 ∧
      s'.log = s.log ∧
      (pair = 0 → s'.SameBut s [(.PAIR_A_STATE, 0)]) ∧
      (pair = 1 → s'.get .PAIR_A_STATE = s.get .PAIR_A_STATE) ∧
      s'.SameBuffers s)

/-- Sources latch as IRQ_SENSE directs, the most urgent is taken, completes, and held writes apply (R353, R354,
R355, R356). What is the model's choice in it and not a rule of the spec: log 18, 83. -/
def Obligations.InterruptsAreTakenByPriority : Prop :=
  (∀ (s : State) (i : Nat),
    (s.irq i).high = false →
    s.get .IRQ_SENSE i = 1 →
    s.get .IRQ_ENABLE i ≤ 1 →
    ((s.irqSignal i true).get .IRQ_PENDING i = if s.get .IRQ_ENABLE i = 1 then 1 else s.get .IRQ_PENDING i) ∧
      (s.irqSignal i true).get .IRQ_COUNT i = (s.get .IRQ_COUNT i + 1) % 2 ^ 32 ∧
      (s.irqSignal i true).irq i = { s.irq i with high := true }) ∧
  (∀ (s : State) (k i : Nat),
    s.mostUrgent k = some i →
    (s.irqWaiting k).Pairwise (· < ·) →
    i ∈ s.irqWaiting k ∧
      (∀ j ∈ s.irqWaiting k, s.get .IRQ_PRIORITY i < s.get .IRQ_PRIORITY j ∨ (s.get .IRQ_PRIORITY i = s.get .IRQ_PRIORITY j ∧ i ≤ j))) ∧
  (∀ (s : State) (t : Time) (pair i : Nat),
    pair < 2 →
    s.errs = [] →
    s.boot = .odtaku →
    s.get (pairObj pair) = 0 →
    s.mostUrgent pair = some i →
    (s.pairH pair).stack.length < 16 →
    (((s.pairH pair).stack.head?.all fun a => decide (s.groupOf pair i < s.groupOf pair a)) = true) →
    ∃ s', Machine.exec (.irqTake t pair) s = .next s' ∧
      (s'.pairH pair).stack = i :: (s.pairH pair).stack ∧
      (i < 712 ∨ 807 < i → s'.get .IRQ_PENDING i = 0) ∧
      (s'.pairH (1 - pair)) = s.pairH (1 - pair) ∧
      s'.SameBut s [] ∧
      s'.SameBuffers s) ∧
  (∀ (s : State) (t : Time) (pair : Nat),
    pair < 2 →
    s.errs = [] →
    (s.boot ≠ .odtaku ∨ s.get (pairObj pair) ≠ 0 ∨ s.irqWaiting pair = [] ∨ (s.pairH pair).stack.length = 16 ∨ (s.mostUrgent pair).any (fun i => (s.pairH pair).stack.head?.any fun a => decide (s.groupOf pair a ≤ s.groupOf pair i)) = true) →
    ∃ s', Machine.exec (.irqTake t pair) s = .next s' ∧
      s'.pairs = s.pairs ∧
      s'.SameBut s [] ∧
      s'.SameBuffers s) ∧
  (∀ (s : State) (t : Time) (pair : Nat),
    pair < 2 →
    s.errs = [] →
    (s.pairH pair).stack = [] →
    ∃ s', Machine.exec (.irqComplete t pair) s = .next s' ∧
      s'.pairs = s.pairs ∧
      s'.SameBut s [] ∧
      s'.SameBuffers s) ∧
  (∀ (s : State) (t : Time) (pair i : Nat) (l : List Nat),
    pair < 2 →
    s.errs = [] →
    (s.pairH pair).stack = i :: l →
    (s.irq i).held = [] →
    s.irqWaiting pair = [] →
    s.get .IRQ_SENSE i ≠ 0 →
    ∃ s', Machine.exec (.irqComplete t pair) s = .next s' ∧
      (s'.pairH pair).stack = l ∧
      s'.SameBut s [] ∧
      s'.SameBuffers s) ∧
  (∀ (s : State) (t : Time) (pair i : Nat),
    pair < 2 →
    s.errs = [] →
    s.boot = .odtaku →
    s.get (pairObj pair) = 0 →
    (s.pairH pair).stack = [i] →
    (s.pairH (1 - pair)).stack = [] →
    (s.irq i).held = [] →
    s.irqWaiting pair = [] →
    s.get .IRQ_SENSE i = 0 →
    (s.irq i).high = true →
    s.get .IRQ_ENABLE i = 1 →
    s.get .IRQ_TARGET i = pair →
    s.get .IRQ_PRIORITY i < 0xFF →
    ∃ s', Machine.exec (.irqComplete t pair) s = .next s' ∧
      (s'.pairH pair).stack = [i] ∧
      s'.SameBut s [] ∧
      s'.SameBuffers s) ∧
  (∀ (s : State) (t : Time) (pair i v : Nat) (l : List Nat),
    pair < 2 →
    s.errs = [] →
    (s.pairH pair).stack = i :: l →
    (s.irq i).held = [(0, v)] →
    v < 256 →
    s.irqWaiting pair = [] →
    s.get .IRQ_SENSE i ≠ 0 →
    s.get .IRQ_PENDING i = 0 →
    ∃ s', Machine.exec (.irqComplete t pair) s = .next s' ∧
      (s'.pairH pair).stack = l ∧
      s'.get .IRQ_PRIORITY i = v ∧
      (s'.irq i).held = [] ∧
      s'.SameBut s [(.IRQ_PRIORITY, i)] ∧
      s'.SameBuffers s) ∧
  (∀ (s : State) (t : Time) (source field value : Nat),
    source < 2048 →
    field < 4 →
    s.errs = [] →
    s.irqActive source = true →
    ∃ s', Machine.exec (.irqConfigWrite t source field value) s = .next s' ∧
      (s'.irq source).held = (s.irq source).held ++ [(field, value)] ∧
      s'.SameBut s [] ∧
      s'.SameBuffers s) ∧
  (∀ (s : State) (t : Time) (source value : Nat),
    source < 2048 →
    s.errs = [] →
    s.irqActive source = false →
    value < 256 →
    ∃ s', Machine.exec (.irqConfigWrite t source 0 value) s = .next s' ∧
      s'.get .IRQ_PRIORITY source = value ∧
      s'.SameBut s [(.IRQ_PRIORITY, source)] ∧
      s'.SameBuffers s) ∧
  (∀ (s : State) (t : Time) (source : Nat),
    source < 2048 →
    s.errs = [] →
    ∃ s', Machine.exec (.irqConfigWrite t source 4 0) s = .next s' ∧
      s'.get .IRQ_ENABLE source = 0 ∧
      s'.get .IRQ_PENDING source = 0 ∧
      s'.SameBut s [(.IRQ_ENABLE, source)] ∧
      s'.SameBuffers s) ∧
  (∀ (s : State) (t : Time) (source value : Nat),
    source < 2048 →
    s.errs = [] →
    s.irqActive source = false →
    value < 2 →
    ∃ s', Machine.exec (.irqConfigWrite t source 2 value) s = .next s' ∧
      s'.get .IRQ_TARGET source = value ∧
      s'.get .IRQ_PENDING source = s.get .IRQ_PENDING source ∧
      s'.SameBut s [(.IRQ_TARGET, source)] ∧
      s'.SameBuffers s) ∧
  (∀ (s : State) (t : Time) (source value : Nat),
    source < 2048 →
    s.errs = [] →
    s.irqActive source = false →
    value < 4 →
    ∃ s', Machine.exec (.irqConfigWrite t source 1 value) s = .next s' ∧
      s'.get .IRQ_SENSE source = value ∧
      (value ≠ 0 → s'.get .IRQ_PENDING source = s.get .IRQ_PENDING source) ∧
      (value = 0 → s'.get .IRQ_PENDING source = b2n ((s.irq source).high && s.get .IRQ_ENABLE source = 1)) ∧
      s'.SameBut s [(.IRQ_SENSE, source)] ∧
      s'.SameBuffers s) ∧
  (∀ (s : State) (t : Time) (source value : Nat),
    source < 2048 →
    s.errs = [] →
    s.irqActive source = false →
    value ≤ 8 →
    ∃ s', Machine.exec (.irqConfigWrite t source 3 value) s = .next s' ∧
      (s'.get (if s.get .IRQ_TARGET source = 0 then .GROUP_BITS_A else .GROUP_BITS_B) = value) ∧
      s'.SameBut s [(.GROUP_BITS_A, 0), (.GROUP_BITS_B, 0)] ∧
      s'.SameBuffers s) ∧
  (∀ (s : State) (t : Time) (source : Nat),
    source < 2048 →
    s.errs = [] →
    s.get .IRQ_SENSE source ≠ 0 →
    ∃ s', Machine.exec (.irqConfigWrite t source 4 1) s = .next s' ∧
      s'.get .IRQ_ENABLE source = 1 ∧
      s'.get .IRQ_PENDING source = s.get .IRQ_PENDING source ∧
      s'.SameBut s [(.IRQ_ENABLE, source)] ∧
      s'.SameBuffers s) ∧
  (∀ (s : State) (t : Time) (source value : Nat),
    source < 2048 →
    s.errs = [] →
    (1024 ≤ source ∨ (808 ≤ source ∧ source ≤ 815)) →
    s.get .IRQ_SENSE source = 1 →
    (s.irq source).high = false →
    s.get .IRQ_ENABLE source = 1 →
    ∃ s', Machine.exec (.irqConfigWrite t source 5 value) s = .next s' ∧
      s'.get .IRQ_PENDING source = 1 ∧
      s'.get .IRQ_COUNT source = (s.get .IRQ_COUNT source + 1) % 2 ^ 32 ∧
      s'.SameBut s [] ∧
      s'.SameBuffers s) ∧
  (∀ (s : State) (t : Time) (source field value : Nat),
    source < 2048 →
    field < 6 →
    s.errs = [] →
    s.irqActive source = false →
    (field = 0 ∧ 256 ≤ value ∨ field = 1 ∧ 4 ≤ value ∨ field = 2 ∧ 2 ≤ value ∨ field = 3 ∧ 8 < value ∨ field = 4 ∧ 2 ≤ value ∨ field = 5 ∧ source < 1024 ∧ (source < 808 ∨ 815 < source)) →
    ∃ s', Machine.exec (.irqConfigWrite t source field value) s = .next s' ∧
      s'.irqs = s.irqs ∧
      (∀ o ∈ [Obj.IRQ_PRIORITY, .IRQ_SENSE, .IRQ_TARGET, .IRQ_ENABLE, .IRQ_PENDING], s'.get o source = s.get o source) ∧
      s'.SameBut s [] ∧
      s'.SameBuffers s) ∧
  (∀ (s : State) (t : Time) (source field value : Nat),
    source < 2048 →
    field < 6 →
    ((s.at t).irqActive source = false ∨ 4 ≤ field) →
    Machine.exec (.irqConfigWrite t source field value) s = .next (((s.at t).irqField source field value).finish s)) ∧
  (∀ (s : State) (t : Time) (pair : Nat),
    pair < 2 →
    Machine.exec (.irqTake t pair) s = .next (((s.at t).takeIrq pair).finish s)) ∧
  (∀ (s : State) (t : Time) (pair : Nat),
    pair < 2 →
    Machine.exec (.irqComplete t pair) s = .next (((s.at t).irqDone pair).finish s))

/-- Bytes fill MB_IN, the message is taken and answered in MB_OUT, and doorbell bits latch and clear (R357, R358,
R359, R360, R361). What is the model's choice in it and not a rule of the spec: log 61. -/
def Obligations.MailboxesAndDoorbellsPassMessages : Prop :=
  (∀ (s : State) (t : Time) (row offset : Nat) (bytes : List Nat),
    row < 4097 →
    s.errs = [] →
    bytes ≠ [] →
    offset + bytes.length ≤ 0xFF →
    ∃ s', Machine.exec (.mbInWrite t row offset bytes) s = .next s' ∧
      s'.get .MB_IN_STATE row = 1 ∧
      (∀ i ∈ List.range 256, (s'.mbox row).inB.getD 0 i = if offset ≤ i ∧ i < offset + bytes.length then (bytes.getD (i - offset) 0) % 256 else (s.mbox row).inB.getD 0 i) ∧
      (s'.get .MB_COLLISIONS row = if s.get .MB_IN_STATE row = 2 then (s.get .MB_COLLISIONS row + 1) % 2 ^ 32 else s.get .MB_COLLISIONS row) ∧
      (s.get .MB_IN_STATE row = 2 → (s'.mbox row).collision = true ∧ (s'.mbox row).inFull = true) ∧
      s'.SameBut s [(.MB_IN_STATE, row), (.MB_COLLISIONS, row)] ∧
      s'.SameBuffers s) ∧
  (∀ (s : State) (t : Time) (row offset : Nat) (bytes : List Nat),
    row < 4097 →
    s.errs = [] →
    offset ≤ 0xFF →
    0xFF < offset + bytes.length →
    ∃ s', Machine.exec (.mbInWrite t row offset bytes) s = .next s' ∧
      s'.get .MB_IN_STATE row = 2 ∧
      (s'.mbox row).inFull = true ∧
      (s'.mbox row).inB.getD 0 0xFF = (bytes.getD (0xFF - offset) 0) % 256 ∧
      ((s'.irq (if row = 4096 then 64 else row / 64)).high = true) ∧
      ((s'.mbox row).collision = if s.get .MB_IN_STATE row = 2 then true else (s.mbox row).collision) ∧
      s'.SameBut s [(.MB_IN_STATE, row), (.MB_COLLISIONS, row)] ∧
      s'.SameBuffers s) ∧
  (∀ (s : State) (t : Time) (row : Nat),
    row < 4097 →
    s.errs = [] →
    s.odtakuUp = true →
    s.get .MB_IN_STATE row = 2 →
    (s.mbox row).running = false →
    ∃ s', Machine.exec (.mbInTake t row) s = .next s' ∧
      s'.get .MB_IN_STATE row = 3 ∧
      s'.get .MB_MESSAGES_IN row = (s.get .MB_MESSAGES_IN row + 1) % 2 ^ 64 ∧
      (s'.mbox row).inFull = false ∧
      (s'.mbox row).running = true ∧
      (s'.mbox row).inB = (s.mbox row).inB ∧
      (row = 4096 → bit (s'.mbox row).smEvent 1 = true) ∧
      s'.SameBut s [(.MB_IN_STATE, row), (.MB_MESSAGES_IN, row)] ∧
      s'.SameBuffers s) ∧
  (∀ (s : State) (t : Time) (row : Nat),
    row < 4097 →
    s.errs = [] →
    (s.odtakuUp = false ∨ s.get .MB_IN_STATE row ≠ 2 ∨ (s.mbox row).running = true) →
    ∃ s', Machine.exec (.mbInTake t row) s = .next s' ∧
      s'.mboxes = s.mboxes ∧
      s'.SameBut s [] ∧
      s'.SameBuffers s) ∧
  (∀ (s : State) (t : Time) (row : Nat) (bytes : List Nat),
    row < 4097 →
    s.errs = [] →
    s.odtakuUp = true →
    s.get .MB_OUT_STATE row = 0 →
    ∃ s', Machine.exec (.mbOutPlace t row bytes) s = .next s' ∧
      s'.get .MB_OUT_STATE row = 1 ∧
      (s'.get .MB_IN_STATE row = if s.get .MB_IN_STATE row = 3 then 0 else s.get .MB_IN_STATE row) ∧
      (∀ i ∈ List.range 256, (s'.mbox row).outB.getD 0 i = (bytes.getD i 0) % 256) ∧
      (s'.mbox row).running = false ∧
      s'.SameBut s [(.MB_IN_STATE, row), (.MB_OUT_STATE, row)] ∧
      s'.SameBuffers s) ∧
  (∀ (s : State) (t : Time) (row : Nat) (bytes : List Nat),
    row < 4097 →
    s.errs = [] →
    (s.odtakuUp = false ∨ s.get .MB_OUT_STATE row ≠ 0) →
    ∃ s', Machine.exec (.mbOutPlace t row bytes) s = .next s' ∧
      s'.mboxes = s.mboxes ∧
      s'.SameBut s [] ∧
      s'.SameBuffers s) ∧
  (∀ (s : State) (t : Time) (row value : Nat),
    row < 4097 →
    s.errs = [] →
    bit value 0 = true →
    s.get .MB_OUT_STATE row = 1 →
    ∃ s', Machine.exec (.mbTake t row value) s = .next s' ∧
      s'.get .MB_OUT_STATE row = 0 ∧
      s'.get .MB_MESSAGES_OUT row = (s.get .MB_MESSAGES_OUT row + 1) % 2 ^ 64 ∧
      ((s'.irq (if row = 4096 then 64 else row / 64)).high = true) ∧
      s'.mboxes = s.mboxes ∧
      s'.SameBut s [(.MB_OUT_STATE, row), (.MB_MESSAGES_OUT, row)] ∧
      s'.SameBuffers s) ∧
  (∀ (s : State) (t : Time) (row value : Nat),
    row < 4097 →
    s.errs = [] →
    (bit value 0 = false ∨ s.get .MB_OUT_STATE row ≠ 1) →
    ∃ s', Machine.exec (.mbTake t row value) s = .next s' ∧
      s'.mboxes = s.mboxes ∧
      s'.SameBut s [] ∧
      s'.SameBuffers s) ∧
  (∀ (s : State) (t : Time) (row bits : Nat),
    row < 4097 →
    s.errs = [] →
    ∃ s', Machine.exec (.doorbellSet t row true bits) s = .next s' ∧
      s'.get .MB_DB_TO_FW row = (s.get .MB_DB_TO_FW row ||| bits % 2 ^ 32) ∧
      (without (without (bits % 2 ^ 32) (s.get .MB_DB_TO_FW row)) (s.get .MB_DB_TO_FW_MASK row) ≠ 0 → (s'.irq (if row = 4096 then 64 else row / 64)).high = true) ∧
      s'.mboxes = s.mboxes ∧
      s'.SameBut s [(.MB_DB_TO_FW, row)] ∧
      s'.SameBuffers s) ∧
  (∀ (s : State) (t : Time) (row bits : Nat),
    row < 4097 →
    s.errs = [] →
    ∃ s', Machine.exec (.doorbellSet t row false bits) s = .next s' ∧
      (s'.mbox row).dbFrom = ((s.mbox row).dbFrom ||| bits % 2 ^ 32) ∧
      (s'.mbox row).inB = (s.mbox row).inB ∧
      (s'.mbox row).outB = (s.mbox row).outB ∧
      (row = 4096 → without (without (bits % 2 ^ 32) (s.mbox row).dbFrom) (s.mbox row).dbMask ≠ 0 → bit (s'.mbox row).smEvent 2 = true) ∧
      s'.SameBut s [] ∧
      s'.SameBuffers s) ∧
  (∀ (s : State) (t : Time) (row bits setBits : Nat),
    row < 4097 →
    s.errs = [] →
    ∃ s', Machine.exec (.doorbellClear t row true bits setBits) s = .next s' ∧
      s'.get .MB_DB_TO_FW row = (without (s.get .MB_DB_TO_FW row) (bits % 2 ^ 32) ||| setBits % 2 ^ 32) ∧
      s'.mboxes = s.mboxes ∧
      s'.SameBut s [(.MB_DB_TO_FW, row)] ∧
      s'.SameBuffers s) ∧
  (∀ (s : State) (t : Time) (row bits setBits : Nat),
    row < 4097 →
    s.errs = [] →
    ∃ s', Machine.exec (.doorbellClear t row false bits setBits) s = .next s' ∧
      (s'.mbox row).dbFrom = (without (s.mbox row).dbFrom (bits % 2 ^ 32) ||| setBits % 2 ^ 32) ∧
      s'.SameBut s [] ∧
      s'.SameBuffers s) ∧
  (∀ (s : State) (t : Time) (row offset : Nat) (bytes : List Nat),
    row < 4097 →
    s.errs = [] →
    (0xFF < offset ∨ bytes = []) →
    ∃ s', Machine.exec (.mbInWrite t row offset bytes) s = .next s' ∧
      s'.mboxes = s.mboxes ∧
      s'.get .MB_IN_STATE row = s.get .MB_IN_STATE row ∧
      s'.SameBut s [] ∧
      s'.SameBuffers s) ∧
  (∀ (s : State) (t : Time) (row offset : Nat) (bytes : List Nat),
    row < 4097 →
    Machine.exec (.mbInWrite t row offset bytes) s = .next (((s.at t).mbIn row offset bytes).finish s)) ∧
  (∀ (s : State) (t : Time) (row value : Nat),
    row < 4097 →
    Machine.exec (.mbTake t row value) s = .next (((s.at t).mbTaken row value).finish s)) ∧
  (∀ (s : State) (t : Time) (row : Nat) (toFw : Bool) (bits : Nat),
    row < 4097 →
    Machine.exec (.doorbellSet t row toFw bits) s = .next (((s.at t).dbSet row toFw bits).finish s)) ∧
  (∀ (s : State) (t : Time) (row : Nat) (toFw : Bool) (bits setBits : Nat),
    row < 4097 →
    Machine.exec (.doorbellClear t row toFw bits setBits) s = .next (((s.at t).dbClear row toFw bits setBits).finish s)) ∧
  (∀ (s : State) (t : Time) (row : Nat),
    row < 4097 →
    (s.at t).odtakuUp = true →
    Machine.exec (.mbInTake t row) s = .next (((s.at t).mbInTaken row).finish s)) ∧
  (∀ (s : State) (t : Time) (row : Nat) (bytes : List Nat),
    row < 4097 →
    (s.at t).odtakuUp = true →
    Machine.exec (.mbOutPlace t row bytes) s = .next (((s.at t).mbOut row bytes).finish s))

/-- The sideband window, MCTP messages, protection descriptors, denials, JTAG and the I3C address (R319, R362, R363,
R364, R365, R366, R367, R368). What is the model's choice in it and not a rule of the spec: log 36, 80. -/
def Obligations.SidebandPortsProtectionAndJtag : Prop :=
  (∀ (s : State) (t : Time) (offset count : Nat) (bytes : List Nat),
    s.errs = [] →
    ∃ s', Machine.exec (.sidebandWindowTransaction t false offset bytes count) s = .next s' ∧
      (s'.out = s.out ++ [.event 362 (offset :: (List.range (min count 32)).map fun i => s.windowReg ((offset + i) / 4 * 4) / 256 ^ ((offset + i) % 4) % 256)]) ∧
      s'.mboxes = s.mboxes ∧
      s'.SameBut s [] ∧
      s'.SameBuffers s) ∧
  (∀ (s : State) (t : Time) (offset count : Nat) (bytes : List Nat),
    s.errs = [] →
    bytes ≠ [] →
    bytes.length ≤ 32 →
    offset + bytes.length ≤ 0xFF →
    ∃ s', Machine.exec (.sidebandWindowTransaction t true offset bytes count) s = .next s' ∧
      s'.get .MB_IN_STATE 4096 = 1 ∧
      (∀ i ∈ List.range 256, (s'.mbox 4096).inB.getD 0 i = if offset ≤ i ∧ i < offset + bytes.length then (bytes.getD (i - offset) 0) % 256 else (s.mbox 4096).inB.getD 0 i) ∧
      (s'.irq 709).high = true ∧
      s'.SameBut s [(.MB_IN_STATE, 4096), (.MB_COLLISIONS, 4096)] ∧
      s'.SameBuffers s) ∧
  (∀ (s : State) (t : Time) (write : Bool) (offset count : Nat) (bytes : List Nat),
    Machine.exec (.sidebandWindowTransaction t write offset bytes count) s = .next (((s.at t).sideband write offset bytes count).finish s)) ∧
  (∀ (s : State) (t : Time) (count v : Nat),
    s.errs = [] →
    v < 256 →
    ∃ s', Machine.exec (.sidebandWindowTransaction t true 0x214 [v] count) s = .next s' ∧
      (s'.mbox 4096).smEvent = without (s.mbox 4096).smEvent (v % 16) ∧
      (s'.irq 709).high = true ∧
      (s'.mbox 4096).inB = (s.mbox 4096).inB ∧
      s'.SameBut s [] ∧
      s'.SameBuffers s) ∧
  (∀ (s : State) (t : Time) (bits : Nat),
    s.errs = [] →
    ∃ s', Machine.exec (.smEventClear t bits) s = .next s' ∧
      (s'.mbox 4096).smEvent = without (s.mbox 4096).smEvent (bits % 16) ∧
      (s'.alert ≠ s.alert → Out.pin 362 0 true ∈ s'.out) ∧
      (s'.mbox 4096).inB = (s.mbox 4096).inB ∧
      s'.SameBut s [] ∧
      s'.SameBuffers s) ∧
  (∀ (s : State) (t : Time) (i3c : Bool) (endpoint size : Nat),
    16 ≤ endpoint →
    endpoint < 32 →
    s.errs = [] →
    i3c = (s.i3c.find 0).isSome →
    (bit (s.get .HEXSUM_ENABLE) (if i3c then 2 else 1) = true) →
    s.get .SESSION_STATE endpoint = 0 →
    size ≤ 1024 →
    ∃ s', Machine.exec (.mctpMessage t i3c endpoint 0x7E 0x1FA7 size) s = .next s' ∧
      s'.get .SESSION_STATE endpoint = 2 ∧
      s'.get .SESSION_PRINCIPAL endpoint = 1 ∧
      (s'.get .SESSION_TRANSPORT endpoint = if i3c then 2 else 1) ∧
      s'.get .SESSION_OPENED endpoint = max s.now t ∧
      s'.SameBut s [(.SESSION_STATE, endpoint), (.SESSION_PRINCIPAL, endpoint), (.SESSION_TRANSPORT, endpoint), (.SESSION_PEER, endpoint), (.SESSION_OPENED, endpoint), (.SESSION_REQUESTS, endpoint)] ∧
      s'.SameBuffers s) ∧
  (∀ (s : State) (t : Time) (i3c : Bool) (endpoint msgType vendor size : Nat),
    16 ≤ endpoint →
    endpoint < 32 →
    s.errs = [] →
    msgType ≠ 5 →
    (msgType ≠ 0x7E ∨ vendor ≠ 0x1FA7) →
    ∃ s', Machine.exec (.mctpMessage t i3c endpoint msgType vendor size) s = .next s' ∧
      s'.out = s.out ∧
      s'.sessions = s.sessions ∧
      s'.SameBut s [] ∧
      s'.SameBuffers s) ∧
  (∀ (s : State) (t : Time) (i3c : Bool) (endpoint msgType vendor size : Nat),
    16 ≤ endpoint →
    endpoint < 32 →
    s.errs = [] →
    (i3c ≠ (s.i3c.find 0).isSome ∨ (msgType = 0x7E ∧ vendor = 0x1FA7 ∧ bit (s.get .HEXSUM_ENABLE) (if i3c then 2 else 1) = false)) →
    ∃ s', Machine.exec (.mctpMessage t i3c endpoint msgType vendor size) s = .next s' ∧
      s'.out = s.out ∧
      s'.sessions = s.sessions ∧
      s'.SameBut s [] ∧
      s'.SameBuffers s) ∧
  (∀ (s : State) (t : Time) (endpoint vendor size : Nat),
    16 ≤ endpoint →
    endpoint < 32 →
    s.errs = [] →
    (s.i3c.find 0).isSome = false →
    ∃ s', Machine.exec (.mctpMessage t false endpoint 5 vendor size) s = .next s' ∧
      s'.out = s.out ++ [.event 379 [endpoint]] ∧
      s'.sessions = s.sessions ∧
      s'.SameBut s [] ∧
      s'.SameBuffers s) ∧
  (∀ (s : State) (t : Time) (endpoint size : Nat),
    16 ≤ endpoint →
    endpoint < 32 →
    s.errs = [] →
    s.odtakuUp = true →
    (s.i3c.find 0).isSome = false →
    bit (s.get .HEXSUM_ENABLE) 1 = true →
    1024 < size →
    s.get .SESSION_STATE endpoint = 2 →
    ∃ s', Machine.exec (.mctpMessage t false endpoint 0x7E 0x1FA7 size) s = .next s' ∧
      Out.reply (.mctpSmbus endpoint) 0 0x0302 [] false ∈ s'.out ∧
      s'.get .REQUESTS_REFUSED = (s.get .REQUESTS_REFUSED + 1) % 2 ^ 32 ∧
      s'.SameBut s [(.REQUESTS_REFUSED, 0)] ∧
      s'.SameBuffers s) ∧
  (∀ (s : State) (t : Time) (i3c : Bool) (endpoint msgType vendor size : Nat),
    16 ≤ endpoint →
    endpoint < 32 →
    Machine.exec (.mctpMessage t i3c endpoint msgType vendor size) s = .next (((s.at t).mctp i3c endpoint msgType vendor size).finish s)) ∧
  (∀ (s : State) (t : Time) (sbPort addr : Nat),
    sbPort < 2 →
    s.errs = [] →
    ∃ s', Machine.exec (.i3cDynamicAddress t sbPort addr) s = .next s' ∧
      s'.i3c.find sbPort = some addr ∧
      s'.SameBut s [] ∧
      s'.SameBuffers s) ∧
  (∀ (s : State) (t : Time) (unit n value : Nat),
    unit < 11 →
    (unit < 7 ∨ n < 16) →
    n < 64 →
    s.errs = [] →
    value < 2 ^ 64 →
    bitsOf value 31 27 ≤ 24 →
    bitsOf value 63 32 % 2 ^ bitsOf value 31 27 = 0 →
    ∃ s', Machine.exec (.protectionDescriptorWrite t unit n value) s = .next s' ∧
      s'.get (descriptorObj unit) n = value ∧
      s'.SameBut s [(descriptorObj unit, n)] ∧
      s'.SameBuffers s) ∧
  (∀ (s : State) (t : Time) (unit n value : Nat),
    unit < 11 →
    (unit < 7 ∨ n < 16) →
    n < 64 →
    s.errs = [] →
    value < 2 ^ 64 →
    (24 < bitsOf value 31 27 ∨ bitsOf value 63 32 % 2 ^ bitsOf value 31 27 ≠ 0) →
    ∃ s', Machine.exec (.protectionDescriptorWrite t unit n value) s = .next s' ∧
      s'.SameBut s [] ∧
      s'.SameBuffers s) ∧
  (∀ (s : State) (t : Time) (req : Req),
    s.errs = [] →
    s.hears req →
    s.mayInvoke req .ACU_FENCE none = 0 →
    ∃ s', Machine.exec (.acuFence t req) s = .next s' ∧
      s'.answered req 0 [] ∧
      s'.SameBut s (req.traces ++ []) ∧
      s'.SameBuffers s) ∧
  (∀ (s : State) (t : Time) (master priv access addr wrong : Nat),
    master < 8 →
    priv < 3 →
    access < 3 →
    addr < 2 ^ 40 →
    s.errs = [] →
    master < 4 →
    s.permits master priv access addr = false →
    decide (s.permits (master / 2 * 2) priv access addr ≠ s.permits (master / 2 * 2 + 1) priv access addr) = false →
    ∃ s', Machine.exec (.accessDenial t master priv access addr wrong) s = .next s' ∧
      s'.get .ACCESS_DENIALS = (s.get .ACCESS_DENIALS + 1) % 2 ^ 32 ∧
      s'.get .LAST_DENIAL = (master % 16 * 2 ^ 60 + priv % 4 * 2 ^ 58 + access % 4 * 2 ^ 56 + addr % 2 ^ 40) ∧
      s'.denials = s.denials ∧
      s'.badWords = s.badWords ∧
      s'.SameBut s [(.ACCESS_DENIALS, 0), (.LAST_DENIAL, 0)] ∧
      s'.SameBuffers s) ∧
  (∀ (s : State) (t : Time) (priv access addr wrong : Nat),
    priv < 3 →
    access < 3 →
    addr < 2 ^ 40 →
    s.errs = [] →
    s.permits 6 priv access addr = false →
    ∃ s', Machine.exec (.accessDenial t 6 priv access addr wrong) s = .next s' ∧
      s'.get .ACCESS_DENIALS = (s.get .ACCESS_DENIALS + 1) % 2 ^ 32 ∧
      s'.get .DEBUG_DENIALS = (s.get .DEBUG_DENIALS + 1) % 2 ^ 32 ∧
      s'.get .LAST_DENIAL = (6 * 2 ^ 60 + priv % 4 * 2 ^ 58 + access % 4 * 2 ^ 56 + addr % 2 ^ 40) ∧
      s'.denials = s.denials ++ [(addr % 2 ^ 40, access % 4, s.get .LIFECYCLE_STATE)] ∧
      s'.SameBut s [(.ACCESS_DENIALS, 0), (.LAST_DENIAL, 0), (.DEBUG_DENIALS, 0)] ∧
      s'.SameBuffers s) ∧
  (∀ (s : State) (t : Time) (priv access addr wrong : Nat),
    priv < 3 →
    access < 3 →
    addr < 2 ^ 40 →
    s.errs = [] →
    s.boot = .odtaku →
    s.get .PAIR_A_STATE = 0 →
    s.openRec { code := 0x3007, kind := 1, idx := 14, region := 14, detail := 0 } = none →
    s.log.length < 4096 →
    s.fw.trialUntil = none →
    s.permits 5 priv access addr = false →
    ∃ s', Machine.exec (.accessDenial t 5 priv access addr wrong) s = .next s' ∧
      (s'.get .PAIR_A_STATE = 1 ∨ s'.get .PAIR_A_STATE = 2) ∧
      s'.get .LAST_DENIAL = (5 * 2 ^ 60 + priv % 4 * 2 ^ 58 + access % 4 * 2 ^ 56 + addr % 2 ^ 40) ∧
      (∃ r ∈ s'.log, r.err = { code := 0x3007, kind := 1, idx := 14, region := 14, detail := 0 } ∧ r.action = 5) ∧
      s'.SameBut s [(.ACCESS_DENIALS, 0), (.LAST_DENIAL, 0), (.PAIR_A_STATE, 0), (.PAIR_A_STOPS, 0), (.LOG_NEXT_SEQ, 0)] ∧
      s'.SameBuffers s) ∧
  (∀ (s : State) (t : Time) (master priv access addr : Nat),
    master < 8 →
    priv < 3 →
    access < 3 →
    addr < 2 ^ 40 →
    s.errs = [] →
    (master = 7 ∨ s.permits master priv access addr = true) →
    (4 ≤ master ∨ decide (s.permits (master / 2 * 2) priv access addr ≠ s.permits (master / 2 * 2 + 1) priv access addr) = false) →
    ∃ s', Machine.exec (.accessDenial t master priv access addr 0) s = .next s' ∧
      s'.get .ACCESS_DENIALS = s.get .ACCESS_DENIALS ∧
      s'.denials = s.denials ∧
      s'.log = s.log ∧
      (s'.badWords = if access = 1 then s.badWords.filter (fun x => some x ≠ sterostoWord addr) else s.badWords) ∧
      s'.SameBut s [] ∧
      s'.SameBuffers s) ∧
  (∀ (s : State) (t : Time) (master priv addr : Nat),
    master < 8 →
    priv < 3 →
    inSram addr = true →
    s.errs = [] →
    s.boot = .odtaku →
    s.openRec { code := 0x100C, kind := 1, idx := 14, region := 14 } = none →
    s.log.length < 4096 →
    (master = 7 ∨ s.permits master priv 0 addr = true) →
    (4 ≤ master ∨ decide (s.permits (master / 2 * 2) priv 0 addr ≠ s.permits (master / 2 * 2 + 1) priv 0 addr) = false) →
    ∃ s', Machine.exec (.accessDenial t master priv 0 addr 1) s = .next s' ∧
      (∃ r ∈ s'.log, r.err = { code := 0x100C, kind := 1, idx := 14, region := 14 } ∧ r.seq = s.get .LOG_NEXT_SEQ) ∧
      s'.get .ACCESS_DENIALS = s.get .ACCESS_DENIALS ∧
      s'.SameBut s [(.LOG_NEXT_SEQ, 0)] ∧
      s'.SameBuffers s) ∧
  (∀ (s : State) (t : Time) (master priv addr wrong n : Nat),
    master < 8 →
    priv < 3 →
    addr < 2 ^ 40 →
    sterostoWord addr = some n →
    3 ≤ wrong →
    s.errs = [] →
    (master = 7 ∨ s.permits master priv 0 addr = true) →
    (4 ≤ master ∨ decide (s.permits (master / 2 * 2) priv 0 addr ≠ s.permits (master / 2 * 2 + 1) priv 0 addr) = false) →
    ∃ s', Machine.exec (.accessDenial t master priv 0 addr wrong) s = .next s' ∧
      s'.badWords = nub (s.badWords ++ [n]) ∧
      Out.event 351 [addr / 8 * 8] ∈ s'.out ∧
      s'.get .ACCESS_DENIALS = s.get .ACCESS_DENIALS ∧
      s'.SameBut s [] ∧
      s'.SameBuffers s) ∧
  (∀ (s : State) (master priv access a v : Nat),
    gajorAt a ≠ some .rom →
    gajorAt a ≠ some .sramLocked →
    gajorAt a ≠ some .sterostoLocked →
    4 ≤ master →
    master < 6 →
    (((List.range 64).map fun n => s.get (descriptorObj master) n).find? (fun v => descriptorHolds v a) = some v) →
    s.permits master priv access a = bit v ([25, 22, 19].getD priv 19 - access)) ∧
  (∀ (s : State) (master priv access a : Nat),
    gajorAt a ≠ some .rom →
    gajorAt a ≠ some .sramLocked →
    gajorAt a ≠ some .sterostoLocked →
    4 ≤ master →
    master < 6 →
    (∀ n ∈ List.range 64, descriptorHolds (s.get (descriptorObj master) n) a = false) →
    s.permits master priv access a = false) ∧
  (∀ (s : State) (master priv access a : Nat),
    (gajorAt a = some .sramLocked ∨ gajorAt a = some .sterostoLocked) →
    s.boot ≠ .rom →
    s.permits master priv access a = ((master = 2 || master = 3) && priv = 0)) ∧
  (∀ (s : State) (t : Time) (master priv access addr wrong : Nat),
    master < 8 →
    priv < 3 →
    access < 3 →
    addr < 2 ^ 40 →
    Machine.exec (.accessDenial t master priv access addr wrong) s = .next (((s.at t).accessed master priv access addr wrong).finish s)) ∧
  (∀ (s : State) (t : Time) (code : Nat),
    s.errs = [] →
    ∃ s', Machine.exec (.jtagInstruction t code) s = .next s' ∧
      (s'.jtag = if code ≤ 2 ∨ (code ≤ 7 ∧ s.boot = .reset) then code else 0) ∧
      (code = 1 → s'.out = s.out ++ [.event 367 [0xB5120E4B]]) ∧
      s'.SameBut s [] ∧
      s'.SameBuffers s) ∧
  (∀ (s : State) (t : Time) (code : Nat),
    s.errs = [] →
    code ≠ 1 →
    ∃ s', Machine.exec (.jtagInstruction t code) s = .next s' ∧
      s'.out = s.out ∧
      (s'.jtag = if code ≤ 2 ∨ (code ≤ 7 ∧ s.boot = .reset) then code else 0) ∧
      s'.SameBut s [] ∧
      s'.SameBuffers s)

/-- TOKEN_CHALLENGE, TOKEN_SUBMIT and DEBUG_LOCK, and what an accepted token makes pending (R385, R386, R387, R393).
What is the model's choice in it and not a rule of the spec: log 5, 10, 60. -/
def Obligations.TokensUnlockReturnAndRevoke : Prop :=
  (∀ (s : State) (t : Time) (req : Req),
    s.errs = [] →
    s.hears req →
    s.mayInvoke req .TOKEN_CHALLENGE none = 0 →
    ∃ s', Machine.exec (.tokenChallenge t req) s = .next s' ∧
      s'.sec = { s.sec with challenge := some (Config.random s.fresh % 2 ^ 384) } ∧
      s'.answered req 0 [Config.random s.fresh % 2 ^ 384] ∧
      s'.SameBut s (req.traces ++ []) ∧
      s'.SameBuffers s) ∧
  (∀ (s : State) (t : Time) (req : Req) (len : Nat),
    s.errs = [] →
    s.hears req →
    s.mayInvoke req .TOKEN_SUBMIT none = 0 →
    (len ≠ 2089 ∨ hdrField s.tokenBytes 2 2 = 0 ∨ 3 < hdrField s.tokenBytes 2 2) →
    ∃ s', Machine.exec (.tokenSubmit t req len) s = .next s' ∧
      s'.get .TOKEN_RESULT = 0x0302 ∧
      s'.answered req 0x0302 [] ∧
      (∀ n ∈ List.range 5, s'.get .TOKEN_BUFFER n = 0) ∧
      s'.sec = s.sec ∧
      s'.SameBut s (req.traces ++ [(.REQUESTS_REFUSED, 0), (.TOKEN_RESULT, 0), (.TOKEN_BUFFER, 0), (.TOKEN_BUFFER, 1), (.TOKEN_BUFFER, 2), (.TOKEN_BUFFER, 3), (.TOKEN_BUFFER, 4)]) ∧
      s'.SameBuffers s) ∧
  (∀ (s : State) (t : Time) (req : Req),
    s.errs = [] →
    s.hears req →
    s.mayInvoke req .TOKEN_SUBMIT none = 0 →
    hdrField s.tokenBytes 2 2 = 1 →
    ∃ s', Machine.exec (.tokenSubmit t req 2089) s = .next s' ∧
      s'.get .TOKEN_RESULT = s.tokenCode s.tokenBytes ∧
      (∀ n ∈ List.range 5, s'.get .TOKEN_BUFFER n = 0) ∧
      (s.tokenCode s.tokenBytes = 0 → s'.sec = { s.sec with challenge := none, token := true } ∧ s'.get .LIFECYCLE_PENDING = 2 ∧ s'.answered req 0 []) ∧
      (s.tokenCode s.tokenBytes ≠ 0 → s'.sec = s.sec ∧ s'.get .LIFECYCLE_PENDING = s.get .LIFECYCLE_PENDING ∧ s'.answered req (s.tokenCode s.tokenBytes) []) ∧
      s'.SameBut s (req.traces ++ [(.REQUESTS_REFUSED, 0), (.LIFECYCLE_PENDING, 0), (.TOKEN_RESULT, 0), (.TOKEN_BUFFER, 0), (.TOKEN_BUFFER, 1), (.TOKEN_BUFFER, 2), (.TOKEN_BUFFER, 3), (.TOKEN_BUFFER, 4)]) ∧
      s'.SameBuffers s) ∧
  (∀ (s : State) (t : Time) (req : Req),
    s.errs = [] →
    s.hears req →
    s.mayInvoke req .TOKEN_SUBMIT none = 0 →
    hdrField s.tokenBytes 2 2 = 3 →
    ∃ s', Machine.exec (.tokenSubmit t req 2089) s = .next s' ∧
      s'.get .TOKEN_RESULT = s.tokenCode s.tokenBytes ∧
      (∀ n ∈ List.range 5, s'.get .TOKEN_BUFFER n = 0) ∧
      (s.tokenCode s.tokenBytes = 0 → s'.sec = { s.sec with challenge := none } ∧ s'.get .KEYSET_REVOKED = (s.get .KEYSET_REVOKED ||| hdrField s.tokenBytes 60 63) % 16 ∧ s'.answered req 0 []) ∧
      (s.tokenCode s.tokenBytes ≠ 0 → s'.sec = s.sec ∧ s'.get .KEYSET_REVOKED = s.get .KEYSET_REVOKED ∧ s'.answered req (s.tokenCode s.tokenBytes) []) ∧
      s'.SameBut s (req.traces ++ [(.REQUESTS_REFUSED, 0), (.KEYSET_REVOKED, 0), (.TOKEN_RESULT, 0), (.TOKEN_BUFFER, 0), (.TOKEN_BUFFER, 1), (.TOKEN_BUFFER, 2), (.TOKEN_BUFFER, 3), (.TOKEN_BUFFER, 4)]) ∧
      s'.SameBuffers s) ∧
  (∀ (s : State) (t : Time) (req : Req),
    s.errs = [] →
    s.hears req →
    s.mayInvoke req .TOKEN_SUBMIT none = 0 →
    hdrField s.tokenBytes 2 2 = 2 →
    s.sec.returned = false →
    ∃ s', Machine.exec (.tokenSubmit t req 2089) s = .next s' ∧
      (s.tokenCode s.tokenBytes = 0 → s'.boot = .reset ∧ s'.get .LAST_RESET = 4 ∧ s'.get .LIFECYCLE_STATE = 3 ∧ s'.sec.returned = true ∧ s'.sec.zeroised = true ∧ s'.profiles = [] ∧ s'.get .HSS_TOP_Q = 0 ∧ s'.get .HSS_BOTTOM_Q = 0 ∧ s'.get .ROLLBACK_MIRROR = 0 ∧ s'.answered req 0 []) ∧
      (s.tokenCode s.tokenBytes ≠ 0 → s'.sec = s.sec ∧ s'.boot = .odtaku ∧ s'.get .TOKEN_RESULT = s.tokenCode s.tokenBytes ∧ s'.answered req (s.tokenCode s.tokenBytes) [])) ∧
  (∀ (s : State) (t : Time) (req : Req),
    s.errs = [] →
    s.hears req →
    s.mayInvoke req .DEBUG_LOCK none = 0 →
    ∃ s', Machine.exec (.debugLock t req) s = .next s' ∧
      s'.sec = { s.sec with token := false } ∧
      (s'.get .LIFECYCLE_PENDING = if s.sec.unlocked then 1 else 0xFF) ∧
      s'.answered req 0 [] ∧
      s'.SameBut s (req.traces ++ [(.LIFECYCLE_PENDING, 0)]) ∧
      s'.SameBuffers s) ∧
  (∀ (s : State) (t : Time) (req : Req) (len : Nat),
    Machine.exec (.tokenSubmit t req len) s = .next ((if ((s.at t).invoke req .TOKEN_SUBMIT none fun s => s.tokenSubmit len).sec.returned && !(s.at t).sec.returned then ((s.at t).invoke req .TOKEN_SUBMIT none fun s => s.tokenSubmit len).resetNow 4 else ((s.at t).invoke req .TOKEN_SUBMIT none fun s => s.tokenSubmit len)).finish s))

/-- SVN_COMMIT raises the rollback counter; SPDM answers spend one hash signature or are Busy (R349, R376, R379,
R381, R382, R384). What is the model's choice in it and not a rule of the spec: log 10, 58. -/
def Obligations.RollbackAndAttestationAdvance : Prop :=
  (∀ (s : State) (t : Time) (req : Req) (target : Nat),
    s.errs = [] →
    s.hears req →
    s.mayInvoke req .SVN_COMMIT none = 0 →
    (s.get .FW_SVN s.activeFwBank < target ∨ target < max (s.get .ROLLBACK_FUSED) (s.get .ROLLBACK_MIRROR % 128)) →
    ∃ s', Machine.exec (.svnCommit t req target) s = .next s' ∧
      s'.answered req 0x0301 [] ∧
      s'.SameBut s (req.traces ++ [(.REQUESTS_REFUSED, 0)]) ∧
      s'.SameBuffers s) ∧
  (∀ (s : State) (t : Time) (req : Req),
    s.errs = [] →
    s.hears req →
    s.mayInvoke req .SVN_COMMIT none = 0 →
    max (s.get .ROLLBACK_FUSED) (s.get .ROLLBACK_MIRROR % 128) ≤ s.get .FW_SVN s.activeFwBank →
    ∃ s', Machine.exec (.svnCommit t req (max (s.get .ROLLBACK_FUSED) (s.get .ROLLBACK_MIRROR % 128))) s = .next s' ∧
      s'.answered req 0 [] ∧
      s'.SameBut s (req.traces ++ []) ∧
      s'.SameBuffers s) ∧
  (∀ (s : State) (t : Time) (req : Req) (target : Nat),
    s.errs = [] →
    s.hears req →
    s.mayInvoke req .SVN_COMMIT none = 0 →
    max (s.get .ROLLBACK_FUSED) (s.get .ROLLBACK_MIRROR % 128) < target →
    target ≤ s.get .FW_SVN s.activeFwBank →
    ∃ s', Machine.exec (.svnCommit t req target) s = .next s' ∧
      s'.answered req 0 [] ∧
      s'.get .ROLLBACK_FUSED = target ∧
      s'.get .ROLLBACK_MIRROR = target ∧
      (s'.get .FW_BANK_STATE (otherBank s.activeFwBank) = if s.get .FW_SVN (otherBank s.activeFwBank) < target ∧ s.get .FW_BANK_STATE (otherBank s.activeFwBank) ≠ 0 then 3 else s.get .FW_BANK_STATE (otherBank s.activeFwBank)) ∧
      s'.SameBut s (req.traces ++ [(.ROLLBACK_FUSED, 0), (.ROLLBACK_MIRROR, 0), (.FW_BANK_STATE, otherBank s.activeFwBank)]) ∧
      s'.SameBuffers s) ∧
  (∀ (s : State) (t : Time) (requester code : Nat) (signed : Bool),
    s.errs = [] →
    s.boot = .odtaku →
    s.get .PAIR_B_STATE ≠ 0 →
    ∃ s', Machine.exec (.spdmRequest t requester code signed) s = .next s' ∧
      s'.out = s.out ++ [.event 379 [requester, code, 0, Config.spdmBody code 0]] ∧
      s'.sec = s.sec ∧
      s'.SameBut s [] ∧
      s'.SameBuffers s) ∧
  (∀ (s : State) (t : Time) (requester code : Nat) (signed : Bool),
    s.errs = [] →
    s.boot = .odtaku →
    s.get .PAIR_B_STATE = 0 →
    (signed = false ∨ s.get .LIFECYCLE_STATE ≠ 1) →
    ∃ s', Machine.exec (.spdmRequest t requester code signed) s = .next s' ∧
      s'.out = s.out ++ [.event 379 [requester, code, 1, Config.spdmBody code 1]] ∧
      s'.sec = s.sec ∧
      s'.SameBut s [] ∧
      s'.SameBuffers s) ∧
  (∀ (s : State) (t : Time) (requester code : Nat),
    s.errs = [] →
    s.boot = .odtaku →
    s.get .PAIR_B_STATE = 0 →
    s.get .LIFECYCLE_STATE = 1 →
    s.get .HSS_BOTTOM_Q + 1 < 2 ^ 20 →
    (s.sec.second = max s.now t / ms 1000 → s.sec.total < 64 ∧ s.sec.by_.getD 0 requester < 4) →
    ∃ s', Machine.exec (.spdmRequest t requester code true) s = .next s' ∧
      s'.out = s.out ++ [.event 379 [requester, code, 2, Config.spdmBody code 2]] ∧
      s'.get .HSS_BOTTOM_Q = s.get .HSS_BOTTOM_Q + 1 ∧
      (s'.sec.total = (if s.sec.second = max s.now t / ms 1000 then s.sec.total else 0) + 1) ∧
      (s'.sec.by_.getD 0 requester = (if s.sec.second = max s.now t / ms 1000 then s.sec.by_.getD 0 requester else 0) + 1) ∧
      s'.sec.second = max s.now t / ms 1000 ∧
      s'.SameBut s [(.HSS_BOTTOM_Q, 0)] ∧
      s'.SameBuffers s) ∧
  (∀ (s : State) (t : Time) (requester code : Nat),
    s.errs = [] →
    s.boot = .odtaku →
    s.get .PAIR_B_STATE = 0 →
    s.get .LIFECYCLE_STATE = 1 →
    (s.get .HSS_TOP_Q < 2 ^ 20 ∨ s.get .HSS_BOTTOM_Q < 2 ^ 20) →
    (2 ^ 20 ≤ s.get .HSS_BOTTOM_Q ∨ (s.sec.second = max s.now t / ms 1000 ∧ (64 ≤ s.sec.total ∨ 4 ≤ s.sec.by_.getD 0 requester))) →
    ∃ s', Machine.exec (.spdmRequest t requester code true) s = .next s' ∧
      s'.out = s.out ++ [.event 379 [requester, code, 0, Config.spdmBody code 0]] ∧
      s'.sec = s.sec ∧
      s'.SameBut s [] ∧
      s'.SameBuffers s) ∧
  (∀ (s : State) (t : Time) (requester code : Nat),
    s.errs = [] →
    s.boot = .odtaku →
    s.get .PAIR_B_STATE = 0 →
    s.get .LIFECYCLE_STATE = 1 →
    2 ^ 20 ≤ s.get .HSS_TOP_Q →
    2 ^ 20 ≤ s.get .HSS_BOTTOM_Q →
    ∃ s', Machine.exec (.spdmRequest t requester code true) s = .next s' ∧
      s'.out = s.out ++ [.event 381 [], .event 379 [requester, code, 1, Config.spdmBody code 1]] ∧
      s'.sec = s.sec ∧
      s'.SameBut s [] ∧
      s'.SameBuffers s) ∧
  (∀ (s : State) (t : Time),
    s.errs = [] →
    s.boot = .odtaku →
    s.get .PAIR_B_STATE = 0 →
    s.get .LIFECYCLE_STATE = 1 →
    s.get .HSS_BOTTOM_Q < 2 ^ 20 →
    ∃ s', Machine.exec (.hssTreeBuilt t) s = .next s' ∧
      s'.get .HSS_NEXT_READY = 1 ∧
      s'.SameBut s [(.HSS_NEXT_READY, 0)] ∧
      s'.SameBuffers s) ∧
  (∀ (s : State) (t : Time),
    s.errs = [] →
    s.boot = .odtaku →
    s.get .PAIR_B_STATE = 0 →
    s.get .LIFECYCLE_STATE = 1 →
    2 ^ 20 ≤ s.get .HSS_BOTTOM_Q →
    s.get .HSS_TOP_Q < 2 ^ 20 →
    ∃ s', Machine.exec (.hssTreeBuilt t) s = .next s' ∧
      s'.get .HSS_TOP_Q = s.get .HSS_TOP_Q + 1 ∧
      s'.get .HSS_BOTTOM_Q = 0 ∧
      s'.get .HSS_NEXT_READY = 0 ∧
      s'.sec.tree = s.sec.tree + 1 ∧
      s'.SameBut s [(.HSS_NEXT_READY, 0), (.HSS_TOP_Q, 0), (.HSS_BOTTOM_Q, 0)] ∧
      s'.SameBuffers s) ∧
  (∀ (s : State) (t : Time),
    s.errs = [] →
    (s.boot ≠ .odtaku ∨ s.get .PAIR_B_STATE ≠ 0 ∨ s.get .LIFECYCLE_STATE ≠ 1) →
    ∃ s', Machine.exec (.hssTreeBuilt t) s = .next s' ∧
      s'.sec = s.sec ∧
      s'.SameBut s [] ∧
      s'.SameBuffers s) ∧
  (∀ (s : State) (t : Time),
    (s.at t).boot = .odtaku →
    (s.at t).get .PAIR_B_STATE = 0 →
    (s.at t).get .LIFECYCLE_STATE = 1 →
    Machine.exec (.hssTreeBuilt t) s = .next ((((s.at t).put .HSS_NEXT_READY 0 1).treeChange).finish s)) ∧
  (∀ (s : State) (t : Time) (requester code : Nat) (signed : Bool),
    s.errs = [] →
    s.boot ≠ .odtaku →
    ∃ s', Machine.exec (.spdmRequest t requester code signed) s = .next s' ∧
      s'.out = s.out ∧
      s'.sec = s.sec ∧
      s'.SameBut s [] ∧
      s'.SameBuffers s) ∧
  (∀ (s : State) (t : Time) (requester code : Nat) (signed : Bool),
    (s.at t).boot = .odtaku →
    Machine.exec (.spdmRequest t requester code signed) s = .next (((s.at t).spdm requester code signed).finish s)) ∧
  (∀ (s : State) (t : Time) (req : Req) (target : Nat),
    s.hears req →
    s.mayInvoke req .SVN_COMMIT none = 0 →
    Machine.exec (.svnCommit t req target) s = .next (((((s.at t).arrive req).svnCommit target).2.2.answer req (((s.at t).arrive req).svnCommit target).1 (((s.at t).arrive req).svnCommit target).2.1).finish s))

/-- A cold, warm or commanded reset keeps Sterosto, fuses and flash and returns the rest to defaults (R295, R342,
R385, R393, R394). What is the model's choice in it and not a rule of the spec: log 9. -/
def Obligations.ResetsKeepWhatSurvives : Prop :=
  (∀ (s : State) (t : Time),
    s.fw.decided = false →
    s.sec.returned = false →
    ∃ s', Machine.exec (.coldReset t) s = .next s' ∧
      s'.boot = .reset ∧
      s'.now = 0 ∧
      s'.get .LAST_RESET = 0 ∧
      (s'.get .LIFECYCLE_STATE = if s.sec.secured then 1 else 0) ∧
      s'.sec.challenge = none ∧
      s'.sec.token = false ∧
      (s'.SameWhere s (fun (o : Obj) (_ : Nat) => o.survives && o ≠ .LIFECYCLE_STATE)) ∧
      (s'.DefaultWhere (fun (o : Obj) => !o.survives && o ≠ .LAST_RESET)) ∧
      s'.cells = State.reset.cells ∧
      s'.queues = [] ∧
      s'.rx = [] ∧
      s'.tags = [] ∧
      s'.log = [] ∧
      s'.reqs = [] ∧
      s'.grafts = [] ∧
      s'.errs = [] ∧
      (∀ x ∈ s'.slots, x.2.gates = false) ∧
      s'.flash = s.flash ∧
      s'.pending = s.pending ∧
      s'.profiles = s.profiles) ∧
  (∀ (s : State) (t : Time),
    s.fw.decided = false →
    s.sec.returned = false →
    ∃ s', Machine.exec (.warmReset t) s = .next s' ∧
      s'.boot = .reset ∧
      s'.now = max s.now t ∧
      s'.get .LAST_RESET = 1 ∧
      (s'.get .LIFECYCLE_STATE = if s.sec.secured then (if s.sec.token then 2 else 1) else 0) ∧
      (s'.SameWhere s (fun (o : Obj) (_ : Nat) => (o.survives || o.sinceCold) && o ≠ .LIFECYCLE_STATE)) ∧
      (s'.DefaultWhere (fun (o : Obj) => !o.survives && !o.sinceCold && o ≠ .LAST_RESET)) ∧
      s'.cells = State.reset.cells ∧
      s'.queues = [] ∧
      s'.rx = [] ∧
      s'.tags = [] ∧
      s'.log = [] ∧
      s'.reqs = [] ∧
      s'.grafts = [] ∧
      s'.errs = [] ∧
      (∀ x ∈ s'.slots, x.2.gates = false) ∧
      s'.flash = s.flash ∧
      s'.pending = s.pending ∧
      s'.profiles = s.profiles) ∧
  (∀ (s : State) (t : Time) (req : Req) (nodes keep : Nat),
    s.errs = [] →
    s.hears req →
    s.mayInvoke req .ORCHARD_RESET none = 0 →
    keep ≤ 1 →
    nodes < 2 ^ 32 →
    s.node ∈ s.named nodes →
    s.fw.decided = false →
    s.sec.returned = false →
    ∃ s', Machine.exec (.orchardReset t req nodes keep) s = .next s' ∧
      s'.boot = .reset ∧
      s'.get .LAST_RESET = 2 ∧
      s'.answered req 0 [] ∧
      Out.event 394 [maskOf (s.named nodes), keep] ∈ s'.out ∧
      (keep = 1 → ∀ c ∈ List.range 64, s.get .SP_STATE c = 4 → s'.get .SP_STATE c = 4 ∧ (s'.slot c).gates = (s.slot c).gates) ∧
      (∀ c ∈ List.range 64, keep = 0 ∨ s.get .SP_STATE c ≠ 4 → s'.get .SP_STATE c = 0 ∧ (s'.slot c).gates = false) ∧
      s'.queues = [] ∧
      s'.profiles = s.profiles) ∧
  (∀ (s : State) (t : Time) (req : Req) (nodes keep : Nat),
    s.errs = [] →
    s.hears req →
    s.mayInvoke req .ORCHARD_RESET none = 0 →
    keep ≤ 1 →
    nodes < 2 ^ 32 →
    s.node ∉ s.named nodes →
    ∃ s', Machine.exec (.orchardReset t req nodes keep) s = .next s' ∧
      s'.answered req 0 [] ∧
      Out.event 394 [maskOf (s.named nodes), keep] ∈ s'.out ∧
      s'.SameBut s (req.traces ++ []) ∧
      s'.SameBuffers s) ∧
  (∀ (s : State) (t : Time) (req : Req) (nodes keep : Nat),
    s.errs = [] →
    s.hears req →
    s.mayInvoke req .ORCHARD_RESET none = 0 →
    (2 ≤ keep ∨ 2 ^ 32 ≤ nodes) →
    ∃ s', Machine.exec (.orchardReset t req nodes keep) s = .next s' ∧
      s'.answered req 0x0301 [] ∧
      s'.SameBut s (req.traces ++ [(.REQUESTS_REFUSED, 0)]) ∧
      s'.SameBuffers s) ∧
  (∀ (s : State) (t : Time) (req : Req) (nodes keep : Nat),
    s.hears req →
    s.mayInvoke req .ORCHARD_RESET none = 0 →
    keep ≤ 1 →
    nodes < 2 ^ 32 →
    s.node ∈ s.named nodes →
    Machine.exec (.orchardReset t req nodes keep) s = .next ((((s.at t).invoke req .ORCHARD_RESET none fun s => s.orchardReset nodes keep).restart 2 (keep = 1)).finish s)) ∧
  (∀ (s : State) (t : Time),
    Machine.exec (.coldReset t) s = .next (((s.at t).resetNow 0).finish s)) ∧
  (∀ (s : State) (t : Time),
    Machine.exec (.warmReset t) s = .next (((s.at t).resetNow 1).finish s))

/-- The reset ends in the boot ROM, the ROM starts a good bank with its profile, or fails with ALERT_N low (R332,
R374, R389, R390). What is the model's choice in it and not a rule of the spec: log 5, 37, 38, 42. -/
def Obligations.ResetsEndAndFirmwareStarts : Prop :=
  (∀ (s : State) (t : Time) (pinEn sel1 sel0 : Bool),
    s.errs = [] →
    s.boot = .reset →
    (s.get .LAST_RESET ≤ 1 ∨ s.resetAt + ms 2 ≤ max s.now t) →
    ∃ s', Machine.exec (.resetEnd t pinEn sel1 sel0) s = .next s' ∧
      s'.boot = .rom ∧
      (s'.now = if s.get .LAST_RESET = 0 then 0 else max s.now t) ∧
      s'.resetEnd = s'.now ∧
      (s'.latchedPins = if s.get .LAST_RESET ≤ 1 then (pinEn, sel1, sel0) else s.latchedPins) ∧
      s'.SameBut s [] ∧
      s'.SameBuffers s) ∧
  (∀ (s : State) (t : Time) (pinEn sel1 sel0 : Bool),
    s.errs = [] →
    (s.boot ≠ .reset ∨ (2 ≤ s.get .LAST_RESET ∧ max s.now t < s.resetAt + ms 2)) →
    ∃ s', Machine.exec (.resetEnd t pinEn sel1 sel0) s = .next s' ∧
      s'.boot = s.boot ∧
      s'.latchedPins = s.latchedPins ∧
      s'.SameBut s [] ∧
      s'.SameBuffers s) ∧
  (∀ (s : State) (t : Time),
    s.errs = [] →
    s.boot = .rom →
    (∀ h ∈ s.pendB, h.obj ∈ profObjs) →
    (s.bankPasses s.activeFwBank (s.get .KEYSET_REVOKED) = true ∨ s.bankPasses (otherBank s.activeFwBank) (s.get .KEYSET_REVOKED) = true) →
    ∃ s', Machine.exec (.bootImageAccepted t) s = .next s' ∧
      s'.boot = .odtaku ∧
      s'.get .ACTIVE_PROFILE = (s.selection.map (·.1)).getD 0xFF ∧
      s'.get .LOAD_SOURCE = (s.selection.map (·.2)).getD 3 ∧
      s'.loadNext = none ∧
      s'.pendB = [] ∧
      (s'.get .FW_BANK_STATE s.activeFwBank = if s.bankPasses s.activeFwBank (s.get .KEYSET_REVOKED) then s.get .FW_BANK_STATE s.activeFwBank else 3) ∧
      (s'.get .FW_BANK_STATE (otherBank s.activeFwBank) = if s.bankPasses s.activeFwBank (s.get .KEYSET_REVOKED) then s.get .FW_BANK_STATE (otherBank s.activeFwBank) else 2) ∧
      s'.profiles = s.profiles ∧
      s'.flash = s.flash) ∧
  (∀ (s : State) (t : Time),
    s.errs = [] →
    s.boot = .rom →
    s.bankPasses s.activeFwBank (s.get .KEYSET_REVOKED) = false →
    s.bankPasses (otherBank s.activeFwBank) (s.get .KEYSET_REVOKED) = false →
    ∃ s', Machine.exec (.bootImageAccepted t) s = .next s' ∧
      s'.boot = .failed ∧
      s'.get .FW_BANK_STATE 0 = 3 ∧
      s'.get .FW_BANK_STATE 1 = 3 ∧
      Out.pin 362 0 false ∈ s'.out ∧
      (∀ c ∈ List.range 64, s'.get .SP_STATE c = 0) ∧
      s'.profiles = s.profiles) ∧
  (∀ (s : State) (t : Time),
    s.errs = [] →
    s.boot ≠ .rom →
    ∃ s', Machine.exec (.bootImageAccepted t) s = .next s' ∧
      s'.boot = s.boot ∧
      s'.SameBut s [] ∧
      s'.SameBuffers s) ∧
  (∀ (s : State) (t : Time),
    Machine.exec (.bootImageAccepted t) s = .next ((s.at t).romStart.finish s)) ∧
  (∀ (s : State) (n : Nat) (o : Obj) (r v : Nat),
    (o, r, v) ∈ (s.profiles.getD {} n).vals →
    o ∉ heldBack →
    (∀ x ∈ (s.profiles.getD {} n).vals, x.1 = o → x.2.1 = r → x.2.2 = v) →
    o ≠ .GRAFT_STATE →
    (s.loadValues n).get o r = v) ∧
  (∀ (s : State) (n : Nat) (o : Obj) (r : Nat),
    (∀ x ∈ (s.profiles.getD {} n).vals, x.1 ≠ o ∨ x.2.1 ≠ r) →
    o.info.idx ≠ 0x8000 →
    o ≠ .GRAFT_STATE →
    (s.loadValues n).get o r = s.get o r)

/-- PORT_RESET by role, PARTITION_RESET with R396's actions, and the end of a partition reset (R72, R395, R396,
R397). What is the model's choice in it and not a rule of the spec: log 46, 62. -/
def Obligations.PortsAndPartitionsAreReset : Prop :=
  (∀ (s : State) (t : Time) (req : Req) (port : Nat),
    s.errs = [] →
    s.hears req →
    s.mayInvoke req .PORT_RESET none = 0 →
    (512 ≤ port ∨ s.get .PORT_ROLE port = 0) →
    ∃ s', Machine.exec (.portReset t req port) s = .next s' ∧
      (s'.answered req (if 512 ≤ port then 0x0301 else 0x0401) []) ∧
      s'.SameBut s (req.traces ++ [(.REQUESTS_REFUSED, 0)]) ∧
      s'.SameBuffers s) ∧
  (∀ (s : State) (t : Time) (req : Req) (port : Nat),
    s.errs = [] →
    s.hears req →
    s.mayInvoke req .PORT_RESET none = 0 →
    port < 512 →
    s.get .PORT_ROLE port = 2 →
    s.clusterFree (port / 8) = false →
    ∃ s', Machine.exec (.portReset t req port) s = .next s' ∧
      s'.answered req 0x0401 [] ∧
      s'.SameBut s (req.traces ++ [(.REQUESTS_REFUSED, 0)]) ∧
      s'.SameBuffers s) ∧
  (∀ (s : State) (t : Time) (req : Req) (port : Nat),
    s.errs = [] →
    s.hears req →
    s.mayInvoke req .PORT_RESET none = 0 →
    port < 512 →
    s.get .PORT_ROLE port = 2 →
    s.clusterFree (port / 8) = true →
    ∃ s', Machine.exec (.portReset t req port) s = .next s' ∧
      s'.answered req 0 [] ∧
      (s'.perstH (port / 8)).asserted = true ∧
      (s'.perstH (port / 8)).pulse = some (max s.now t, us (s.get .PERST_PULSE port)) ∧
      port ∈ s'.ctrReset) ∧
  (∀ (s : State) (t : Time) (req : Req) (port : Nat),
    s.errs = [] →
    s.hears req →
    s.mayInvoke req .PORT_RESET none = 0 →
    port < 512 →
    s.get .PORT_ROLE port = 1 →
    s.partOfPort port = none →
    s.hostHeld port = false →
    ∃ s', Machine.exec (.portReset t req port) s = .next s' ∧
      s'.answered req 0 [] ∧
      s'.get .TRAIN_STATE port = 8 ∧
      (s'.pport port).up = false ∧
      (s'.pport port).trainAt = max s.now t ∧
      port ∈ s'.ctrReset ∧
      s'.cells = s.cells ∧
      s'.queues = s.queues ∧
      s'.tags = s.tags ∧
      (s'.SameWhere s (fun (o : Obj) (r : Nat) => !(req.traces.contains (o, r)) && !([Obj.LANE_STATE, .FAILED_LANES, .LINK_WIDTH, .LINK_RATE, .IDE_STREAMS_ACTIVE, .TRAIN_STATE].contains o)))) ∧
  (∀ (s : State) (t : Time) (req : Req) (port : Nat),
    s.errs = [] →
    s.hears req →
    s.mayInvoke req .PORT_RESET none = 0 →
    port < 512 →
    s.get .PORT_ROLE port = 3 →
    ∃ s', Machine.exec (.portReset t req port) s = .next s' ∧
      s'.answered req 0 [] ∧
      port ∈ s'.ctrReset ∧
      (s.get .OL_STATE port ≤ 1 → s'.get .TRAIN_STATE port = 2 ∧ s'.get .FAILED_LANES port = 0 ∧ s'.get .OL_STATE port = 0 ∧ s'.get .LINK_WIDTH port = 0) ∧
      (2 ≤ s.get .OL_STATE port → s'.get .WITHDRAWN port = 1)) ∧
  (∀ (s : State) (t : Time) (req : Req) (p : Nat),
    s.errs = [] →
    s.hears req →
    s.mayInvoke req .PARTITION_RESET none = 0 →
    p < 4096 →
    s.get .PARTITION_STATE p = 2 →
    ∃ s', Machine.exec (.partitionReset t req p) s = .next s' ∧
      s'.get .PARTITION_STATE p = 1 ∧
      (s'.parts.getD {} p).resets = true ∧
      s'.partDrained p ∧
      (∀ a ∈ (s'.rowsOf .AP_STATE).keys, s'.get .AP_PARTITION a = p → s'.get .AP_STATE a = 0) ∧
      s'.answered req 0 [] ∧
      s'.SameBut s (req.traces ++ s.partRows p)) ∧
  (∀ (s : State) (t : Time) (req : Req) (p : Nat),
    s.errs = [] →
    s.hears req →
    s.mayInvoke req .PARTITION_RESET none = 0 →
    4096 ≤ p →
    ∃ s', Machine.exec (.partitionReset t req p) s = .next s' ∧
      s'.answered req 0x0301 [] ∧
      s'.SameBut s (req.traces ++ [(.REQUESTS_REFUSED, 0)]) ∧
      s'.SameBuffers s) ∧
  (∀ (s : State) (t : Time) (req : Req) (p : Nat),
    s.errs = [] →
    s.hears req →
    s.mayInvoke req .PARTITION_RESET none = 0 →
    p < 4096 →
    s.get .PARTITION_STATE p ≠ 2 →
    s.get .PARTITION_STATE p ≠ 3 →
    ∃ s', Machine.exec (.partitionReset t req p) s = .next s' ∧
      s'.answered req 0 [] ∧
      (s'.tags = ((s.at t).quarantineEarly fun e => e.reqG = hostGfid p).tags) ∧
      s'.cells = s.cells ∧
      s'.queues = s.queues ∧
      s'.rx = s.rx ∧
      s'.SameBut s (req.traces ++ [])) ∧
  (∀ (s : State) (t : Time) (p : Nat),
    p < 4096 →
    s.errs = [] →
    s.get .PARTITION_STATE p = 1 →
    (s.parts.getD {} p).from0 = false →
    s.hostUp p = true →
    (s.at t).isEdge (max s.now t) = true →
    ∃ s', Machine.exec (.partitionResetComplete t p) s = .next s' ∧
      s'.get .PARTITION_STATE p = 2 ∧
      (s'.parts.getD {} p).resets = false ∧
      s'.SameBut s [(.PARTITION_STATE, p)] ∧
      s'.SameBuffers s) ∧
  (∀ (s : State) (t : Time) (p : Nat),
    p < 4096 →
    s.errs = [] →
    [1, 3, 4].contains (s.get .PARTITION_STATE p) = true →
    (s.at t).isEdge (max s.now t) = false →
    ∃ s', Machine.exec (.partitionResetComplete t p) s = .next s' ∧
      (s'.parts.getD {} p).resets = false ∧
      s'.SameBut s [] ∧
      s'.SameBuffers s) ∧
  (∀ (s : State) (t : Time) (p : Nat),
    p < 4096 →
    s.errs = [] →
    [1, 3, 4].contains (s.get .PARTITION_STATE p) = false →
    ∃ s', Machine.exec (.partitionResetComplete t p) s = .next s' ∧
      s'.parts = s.parts ∧
      s'.SameBut s [] ∧
      s'.SameBuffers s) ∧
  (∀ (s : State) (t : Time) (req : Req) (port : Nat),
    s.hears req →
    s.mayInvoke req .PORT_RESET none = 0 →
    Machine.exec (.portReset t req port) s = .next (((((s.at t).arrive req).portReset port).2.2.answer req (((s.at t).arrive req).portReset port).1 (((s.at t).arrive req).portReset port).2.1).finish s)) ∧
  (∀ (s : State) (t : Time) (req : Req) (p : Nat),
    s.errs = [] →
    s.hears req →
    s.mayInvoke req .PARTITION_RESET none = 0 →
    p < 4096 →
    s.get .PARTITION_STATE p = 3 →
    ∃ s', Machine.exec (.partitionReset t req p) s = .next s' ∧
      s'.get .PARTITION_STATE p = 3 ∧
      (s'.parts.getD {} p).resets = true ∧
      s'.partDrained p ∧
      s'.answered req 0 [] ∧
      s'.SameBut s (req.traces ++ s.partRows p)) ∧
  (∀ (s : State) (t : Time) (req : Req) (p : Nat),
    s.hears req →
    s.mayInvoke req .PARTITION_RESET none = 0 →
    p < 4096 →
    Machine.exec (.partitionReset t req p) s = .next (((((s.at t).arrive req).partReset p).answer req 0 []).finish s)) ∧
  (∀ (s : State) (t : Time) (p : Nat),
    p < 4096 →
    Machine.exec (.partitionResetComplete t p) s = .next (((s.at t).resetsDone p).finish s))

/-- FW_ERASE, FW_WRITE and FW_VERIFY act on the standby bank only, one operation at a time (R373, R388, R398). What
is the model's choice in it and not a rule of the spec: log 12, 37, 47. -/
def Obligations.FirmwareBanksAreErasedWrittenAndVerified : Prop :=
  (∀ (s : State) (t : Time) (req : Req) (bank : Nat),
    s.errs = [] →
    s.hears req →
    s.mayInvoke req .FW_ERASE none = 0 →
    bank < 2 →
    s.get .FW_OP_STATE = 0 →
    bank ≠ s.activeFwBank →
    ∃ s', Machine.exec (.fwErase t req bank) s = .next s' ∧
      s'.get .FW_OP_STATE = 1 ∧
      s'.get .FW_BANK_STATE bank = 0 ∧
      s'.fw.bank = bank ∧
      s'.answered req 0 [] ∧
      s'.SameBut s (req.traces ++ [(.FW_OP_STATE, 0), (.FW_BANK_STATE, bank)]) ∧
      s'.SameBuffers s) ∧
  (∀ (s : State) (t : Time) (req : Req) (bank : Nat),
    s.errs = [] →
    s.hears req →
    s.mayInvoke req .FW_ERASE none = 0 →
    (2 ≤ bank ∨ s.get .FW_OP_STATE ≠ 0 ∨ bank = s.activeFwBank) →
    ∃ s', Machine.exec (.fwErase t req bank) s = .next s' ∧
      (s'.answered req (if 2 ≤ bank then 0x0301 else if s.get .FW_OP_STATE ≠ 0 then 0x0501 else 0x0401) []) ∧
      s'.SameBut s (req.traces ++ [(.REQUESTS_REFUSED, 0)]) ∧
      s'.SameBuffers s) ∧
  (∀ (s : State) (t : Time) (req : Req) (bank offset : Nat) (bytes : List Nat),
    s.errs = [] →
    s.hears req →
    s.mayInvoke req .FW_WRITE none = 0 →
    s.flash.wf = true →
    bank < 2 →
    s.get .FW_OP_STATE = 0 →
    bank ≠ s.activeFwBank →
    bytes ≠ [] →
    bytes.length ≤ 1016 →
    offset + bytes.length ≤ 0x400000 →
    ∃ s', Machine.exec (.fwWrite t req bank offset bytes) s = .next s' ∧
      (∀ a : Nat, s'.flash.read a = if bank * 0x400000 + offset ≤ a ∧ a < bank * 0x400000 + offset + bytes.length then BitVec.ofNat 8 (bytes.getD (a - (bank * 0x400000 + offset)) 0) else s.flash.read a) ∧
      s'.get .FW_OP_STATE = 2 ∧
      s'.get .FW_BANK_STATE bank = 0 ∧
      s'.get .FW_LOADED_BYTES bank = (s.get .FW_LOADED_BYTES bank + bytes.length) % 2 ^ 32 ∧
      s'.fw.bank = bank ∧
      s'.flash.wf = true ∧
      s'.answered req 0 [] ∧
      s'.SameBut s (req.traces ++ [(.FW_OP_STATE, 0), (.FW_BANK_STATE, bank), (.FW_LOADED_BYTES, bank)]) ∧
      s'.cells = s.cells ∧
      s'.queues = s.queues ∧
      s'.rx = s.rx ∧
      s'.tags = s.tags) ∧
  (∀ (s : State) (t : Time) (req : Req) (bank offset : Nat) (bytes : List Nat),
    s.errs = [] →
    s.hears req →
    s.mayInvoke req .FW_WRITE none = 0 →
    (bytes = [] ∨ 1016 < bytes.length) →
    ∃ s', Machine.exec (.fwWrite t req bank offset bytes) s = .next s' ∧
      s'.answered req 0x0302 [] ∧
      s'.SameBut s (req.traces ++ [(.REQUESTS_REFUSED, 0)]) ∧
      s'.SameBuffers s) ∧
  (∀ (s : State) (t : Time) (req : Req) (bank offset : Nat) (bytes : List Nat),
    s.errs = [] →
    s.hears req →
    s.mayInvoke req .FW_WRITE none = 0 →
    bytes ≠ [] →
    bytes.length ≤ 1016 →
    (2 ≤ bank ∨ s.get .FW_OP_STATE ≠ 0 ∨ bank = s.activeFwBank ∨ 0x400000 < offset + bytes.length) →
    ∃ s', Machine.exec (.fwWrite t req bank offset bytes) s = .next s' ∧
      (s'.answered req (if 2 ≤ bank ∨ s.get .FW_OP_STATE ≠ 0 ∨ bank = s.activeFwBank then (if 2 ≤ bank then 0x0301 else if s.get .FW_OP_STATE ≠ 0 then 0x0501 else 0x0401) else 0x0301) []) ∧
      s'.SameBut s (req.traces ++ [(.REQUESTS_REFUSED, 0)]) ∧
      s'.SameBuffers s) ∧
  (∀ (s : State) (t : Time) (req : Req) (bank : Nat),
    s.errs = [] →
    s.hears req →
    s.mayInvoke req .FW_VERIFY none = 0 →
    bank < 2 →
    s.get .FW_OP_STATE = 0 →
    bank ≠ s.activeFwBank →
    ∃ s', Machine.exec (.fwVerify t req bank) s = .next s' ∧
      s'.get .FW_OP_STATE = 3 ∧
      s'.fw.bank = bank ∧
      s'.answered req 0 [] ∧
      s'.SameBut s (req.traces ++ [(.FW_OP_STATE, 0)]) ∧
      s'.SameBuffers s) ∧
  (∀ (s : State) (t : Time) (req : Req) (bank : Nat),
    s.errs = [] →
    s.hears req →
    s.mayInvoke req .FW_VERIFY none = 0 →
    (2 ≤ bank ∨ s.get .FW_OP_STATE ≠ 0 ∨ bank = s.activeFwBank) →
    ∃ s', Machine.exec (.fwVerify t req bank) s = .next s' ∧
      (s'.answered req (if 2 ≤ bank then 0x0301 else if s.get .FW_OP_STATE ≠ 0 then 0x0501 else 0x0401) []) ∧
      s'.SameBut s (req.traces ++ [(.REQUESTS_REFUSED, 0)]) ∧
      s'.SameBuffers s) ∧
  (∀ (s : State) (t : Time),
    s.errs = [] →
    s.get .FW_OP_STATE = 1 →
    s.flash.wf = true →
    ∃ s', Machine.exec (.fwOperationComplete t) s = .next s' ∧
      (∀ a : Nat, s'.flash.read a = if s.fw.bank * 0x400000 ≤ a ∧ a < (s.fw.bank + 1) * 0x400000 then 0xFF#8 else s.flash.read a) ∧
      s'.get .FW_OP_STATE = 0 ∧
      s'.get .FW_BANK_STATE s.fw.bank = 0 ∧
      s'.get .FW_LOADED_BYTES s.fw.bank = 0 ∧
      s'.flash.wf = true ∧
      s'.SameBut s [(.FW_OP_STATE, 0), (.FW_BANK_STATE, s.fw.bank), (.FW_LOADED_BYTES, s.fw.bank)] ∧
      s'.cells = s.cells ∧
      s'.queues = s.queues ∧
      s'.rx = s.rx ∧
      s'.tags = s.tags) ∧
  (∀ (s : State) (t : Time),
    s.errs = [] →
    s.get .FW_OP_STATE = 2 →
    ∃ s', Machine.exec (.fwOperationComplete t) s = .next s' ∧
      s'.get .FW_OP_STATE = 0 ∧
      s'.SameBut s [(.FW_OP_STATE, 0)] ∧
      s'.SameBuffers s) ∧
  (∀ (s : State) (t : Time),
    s.errs = [] →
    s.get .FW_OP_STATE = 3 →
    s.get .PAIR_B_STATE = 0 →
    ∃ s', Machine.exec (.fwOperationComplete t) s = .next s' ∧
      s'.get .FW_OP_STATE = 0 ∧
      (s'.get .FW_BANK_STATE s.fw.bank = if s.accepts s.fw.bank (s.get .KEYSET_REVOKED) && s.sectionsFit s.fw.bank then 1 else 3) ∧
      s'.get .FW_SVN s.fw.bank = (s.flash.read (s.fw.bank * 0x400000 + 8)).toNat ∧
      s'.get .FW_KEYSET s.fw.bank = (s.flash.read (s.fw.bank * 0x400000 + 9)).toNat ∧
      s'.SameBut s [(.FW_OP_STATE, 0), (.FW_BANK_STATE, s.fw.bank), (.FW_VERSION, s.fw.bank), (.FW_SVN, s.fw.bank), (.FW_KEYSET, s.fw.bank)] ∧
      s'.SameBuffers s) ∧
  (∀ (s : State) (t : Time),
    s.errs = [] →
    (s.get .FW_OP_STATE = 0 ∨ (s.get .FW_OP_STATE = 3 ∧ s.get .PAIR_B_STATE ≠ 0)) →
    ∃ s', Machine.exec (.fwOperationComplete t) s = .next s' ∧
      s'.SameBut s [] ∧
      s'.SameBuffers s) ∧
  (∀ (s : State) (t : Time) (req : Req) (bank : Nat),
    s.hears req →
    s.mayInvoke req .FW_ERASE none = 0 →
    Machine.exec (.fwErase t req bank) s = .next (((((s.at t).arrive req).fwErase bank).2.2.answer req (((s.at t).arrive req).fwErase bank).1 (((s.at t).arrive req).fwErase bank).2.1).finish s)) ∧
  (∀ (s : State) (t : Time) (req : Req) (bank : Nat),
    s.hears req →
    s.mayInvoke req .FW_VERIFY none = 0 →
    Machine.exec (.fwVerify t req bank) s = .next (((((s.at t).arrive req).fwVerify bank).2.2.answer req (((s.at t).arrive req).fwVerify bank).1 (((s.at t).arrive req).fwVerify bank).2.1).finish s))

/-- FW_SWITCH opens a kind-4 request; pairs change over one after the other; a stop in the trial falls back (R399,
R400, R401). What is the model's choice in it and not a rule of the spec: log 47. -/
def Obligations.FirmwareSwitchesAndFallsBack : Prop :=
  (∀ (s : State) (t : Time) (req : Req) (offers : List Time) (nodes : Nat),
    s.errs = [] →
    s.hears req →
    s.mayInvoke req .FW_SWITCH none = 0 →
    s.get .FW_OP_STATE = 0 →
    (∀ k ∈ s.named nodes, s.standbyOk k = true ∧ s.orchGet .PAIR_A_STATE k 0 = 0 ∧ s.orchGet .PAIR_B_STATE k 0 = 0) →
    s.epochsRefused = false →
    (s.at t).checkOffers offers = 0 →
    (s.unitsBusy ((s.named nodes).map fun (n : Nat) => (n, 14)) = false) →
    ∃ s', Machine.exec (.fwSwitch t req offers nodes) s = .next s' ∧
      (∃ r ∈ s'.reqs, r.kind = 4 ∧ r.offers = offers ∧ r.units = ((s.named nodes).map fun (n : Nat) => (n, 14)) ∧ r.work = .firmware (maskOf (s.named nodes)) ∧ s'.answered req 0 [r.num] ∧
        s'.SameBut s (req.traces ++ s.openedRows r.num ++ [(.FW_SWITCH_RESULT, 0)])) ∧
      s'.get .FW_SWITCH_RESULT = 0 ∧
      s'.SameBuffers s) ∧
  (∀ (s : State) (t : Time) (req : Req) (offers : List Time) (nodes : Nat),
    s.errs = [] →
    s.hears req →
    s.mayInvoke req .FW_SWITCH none = 0 →
    (s.get .FW_OP_STATE ≠ 0 ∨ ∃ k ∈ s.named nodes, s.standbyOk k = false) →
    ∃ s', Machine.exec (.fwSwitch t req offers nodes) s = .next s' ∧
      (s'.answered req (if s.get .FW_OP_STATE ≠ 0 then 0x0501 else 0x0401) []) ∧
      (s'.get .FW_SWITCH_RESULT = if s.get .FW_OP_STATE ≠ 0 then 0x0501 else 0x0401) ∧
      s'.reqs = s.reqs ∧
      s'.SameBut s (req.traces ++ [(.REQUESTS_REFUSED, 0), (.FW_SWITCH_RESULT, 0)]) ∧
      s'.SameBuffers s) ∧
  (∀ (s : State) (t : Time),
    s.errs = [] →
    (s.pairH 0).reloading = true →
    s.get .PAIR_A_STATE = 1 →
    s.fw.trialUntil.isSome = true →
    s.get .KEEPER_ROLE ≠ 1 →
    (∀ r ∈ s.mboxes.keys, (s.mbox r).late = false) →
    ∃ s', Machine.exec (.fwPairReloadDone t 0) s = .next s' ∧
      s'.get .PAIR_A_STATE = 0 ∧
      (s'.pairH 0).reloading = false ∧
      s'.fw = { s.fw with pairBDue := true } ∧
      s'.SameBut s [(.PAIR_A_STATE, 0)] ∧
      s'.SameBuffers s) ∧
  (∀ (s : State) (t : Time),
    s.errs = [] →
    (s.pairH 1).reloading = true →
    s.get .PAIR_B_STATE = 1 →
    s.fw.trialUntil.isSome = true →
    s.get .KEEPER_ROLE ≠ 1 →
    s.fw.old < 2 →
    ∃ s', Machine.exec (.fwPairReloadDone t 1) s = .next s' ∧
      s'.get .PAIR_B_STATE = 0 ∧
      (s'.pairH 1).reloading = false ∧
      s'.fw = { s.fw with decided := false } ∧
      s'.get .FW_BANK_STATE (1 - s.fw.old) = 2 ∧
      s'.get .FW_BANK_STATE s.fw.old = 1 ∧
      s'.SameBuffers s) ∧
  (∀ (s : State) (t : Time) (pair : Nat),
    pair < 2 →
    s.errs = [] →
    ((s.pairH pair).reloading = false ∨ s.get (pairObj pair) ≠ 1) →
    ∃ s', Machine.exec (.fwPairReloadDone t pair) s = .next s' ∧
      s'.fw = s.fw ∧
      s'.pairs = s.pairs ∧
      s'.SameBut s [] ∧
      s'.SameBuffers s) ∧
  (∀ (s : State) (t : Time) (pair : Nat) (u : Time),
    pair < 2 →
    s.errs = [] →
    s.boot = .odtaku →
    s.get (pairObj pair) = 0 →
    s.openRec { code := 0x3007, kind := 1, idx := 14, region := 14, detail := pair } = none →
    s.log.length < 4096 →
    s.fw.trialUntil = some u →
    max s.now t < u →
    s.fw.old < 2 →
    ∃ s', Machine.exec (.pairStop t pair) s = .next s' ∧
      s'.get .FW_BANK_STATE s.fw.old = 2 ∧
      s'.get .FW_BANK_STATE (1 - s.fw.old) = 3 ∧
      s'.fw = { old := s.fw.old } ∧
      s'.get (pairObj pair) ≠ 0) ∧
  (∀ (s : State) (t : Time) (u : Time),
    s.errs = [] →
    s.fw.trialUntil = some u →
    ∃ s', Machine.exec (.fwTrialEnd t) s = .next s' ∧
      (s'.fw = if u ≤ max s.now t then { s.fw with trialUntil := none } else s.fw) ∧
      s'.SameBut s [] ∧
      s'.SameBuffers s) ∧
  (∀ (s : State) (t : Time),
    s.errs = [] →
    s.fw.trialUntil = none →
    ∃ s', Machine.exec (.fwTrialEnd t) s = .next s' ∧
      s'.fw = s.fw ∧
      s'.SameBut s [] ∧
      s'.SameBuffers s) ∧
  (∀ (s : State) (t : Time) (req : Req) (offers : List Time) (nodes c : Nat),
    s.errs = [] →
    s.hears req →
    s.mayInvoke req .FW_SWITCH none = 0 →
    (firstCode [codeIf (s.get .FW_OP_STATE ≠ 0) 0x0501, codeIf (!(s.named nodes).all s.standbyOk) 0x0401,
      codeIf (s.epochsRefused || (s.named nodes).any fun n => s.orchGet .PAIR_A_STATE n 0 ≠ 0 || s.orchGet .PAIR_B_STATE n 0 ≠ 0) 0x0404, (s.at t).checkOffers offers, codeIf (s.unitsBusy ((s.named nodes).map fun (n : Nat) => (n, 14))) 0x0602] = c) →
    c ≠ 0 →
    ∃ s', Machine.exec (.fwSwitch t req offers nodes) s = .next s' ∧
      s'.answered req c [] ∧
      s'.get .FW_SWITCH_RESULT = c ∧
      s'.reqs = s.reqs ∧
      s'.SameBut s (req.traces ++ [(.REQUESTS_REFUSED, 0), (.FW_SWITCH_RESULT, 0)]) ∧
      s'.SameBuffers s) ∧
  (∀ (s : State) (t : Time) (req : Req) (offers : List Time) (nodes : Nat),
    s.hears req →
    s.mayInvoke req .FW_SWITCH none = 0 →
    Machine.exec (.fwSwitch t req offers nodes) s = .next (((((s.at t).arrive req).fwSwitch offers nodes).2.2.answer req (((s.at t).arrive req).fwSwitch offers nodes).1 (((s.at t).arrive req).fwSwitch offers nodes).2.1).finish s)) ∧
  (∀ (s : State) (t : Time) (pair : Nat),
    pair < 2 →
    Machine.exec (.fwPairReloadDone t pair) s = .next (((s.at t).fwReloaded pair).finish s))

/-- CTR_CLEAR, SAMPLE_CLEAR and PEAK_CLEAR clear what they name, and a counter wraps at 2^48 (R406, R410, R431).
What is the model's choice in it and not a rule of the spec: log 13. -/
def Obligations.CountersWrapAndClear : Prop :=
  (∀ (s : State) (t : Time) (req : Req) (key : Nat),
    s.errs = [] →
    s.hears req →
    s.mayInvoke req .CTR_CLEAR (some key) = 0 →
    key < 768 →
    s.get .CTR_EVENT key % 1024 ≠ 0xC3 →
    req.path = .smMailbox →
    ∃ s', Machine.exec (.ctrClear t req key) s = .next s' ∧
      s'.get .CTR_VALUE key = 0 ∧
      s'.get .CTR_OVERFLOW key = 0 ∧
      s'.answered req 0 [] ∧
      s'.SameBut s (req.traces ++ []) ∧
      s'.SameBuffers s) ∧
  (∀ (s : State) (t : Time) (key : Nat),
    key < 768 →
    s.errs = [] →
    s.get .CTR_VALUE key = 2 ^ 48 - 1 →
    s.get .CTR_EVENT key % 1024 ≠ 1 →
    ∃ s', Machine.exec (.counterWrap t key) s = .next s' ∧
      s'.get .CTR_VALUE key = 0 ∧
      s'.get .CTR_OVERFLOW key = 1 ∧
      (∀ k ∈ (s.rowsOf .CTR_VALUE).keys, k ≠ key → s.get .CTR_EVENT k % 1024 ≠ 1 → s'.get .CTR_VALUE k = s.get .CTR_VALUE k) ∧
      s'.SameBut s [] ∧
      s'.SameBuffers s) ∧
  (∀ (s : State) (t : Time) (key : Nat),
    key < 768 →
    s.errs = [] →
    s.get .CTR_VALUE key < 2 ^ 48 - 1 →
    s.get .CTR_EVENT key % 1024 ≠ 1 →
    ∃ s', Machine.exec (.counterWrap t key) s = .next s' ∧
      s'.get .CTR_VALUE key = s.get .CTR_VALUE key ∧
      s'.get .CTR_OVERFLOW key = s.get .CTR_OVERFLOW key ∧
      s'.SameBut s [] ∧
      s'.SameBuffers s) ∧
  (∀ (s : State) (t : Time) (req : Req),
    s.errs = [] →
    s.hears req →
    s.mayInvoke req .SAMPLE_CLEAR none = 0 →
    ∃ s', Machine.exec (.sampleClear t req) s = .next s' ∧
      s'.rowsOf .SAMPLE_RECORD = [] ∧
      s'.sampler.filled = 0 ∧
      s'.sampler.next = 0 ∧
      s'.answered req 0 [] ∧
      (s'.SameWhere s (fun (o : Obj) (r : Nat) => !(req.traces.contains (o, r)) && o ≠ .SAMPLE_RECORD)) ∧
      s'.SameBuffers s) ∧
  (∀ (s : State) (t : Time) (req : Req) (region : Nat),
    s.errs = [] →
    s.hears req →
    s.mayInvoke req .PEAK_CLEAR (some region) = 0 →
    ∃ s', Machine.exec (.peakClear t req region) s = .next s' ∧
      s'.get .TEMP_PEAK region = s.get .TEMP region ∧
      s'.answered req 0 [] ∧
      s'.SameBut s (req.traces ++ [(.TEMP_PEAK, region)]) ∧
      s'.SameBuffers s) ∧
  (∀ (s : State) (t : Time) (req : Req) (key : Nat),
    s.hears req →
    s.mayInvoke req .CTR_CLEAR (some key) = 0 →
    Machine.exec (.ctrClear t req key) s = .next (((((s.at t).arrive req).ctrClear key).answer req 0 []).finish s)) ∧
  (∀ (s : State) (t : Time) (key : Nat),
    key < 768 →
    Machine.exec (.counterWrap t key) s = .next ((if (s.at t).get .CTR_VALUE key = 2 ^ 48 - 1 then (s.at t).ctrAdd key 1 else s.at t).finish s)) ∧
  (∀ (s : State) (t : Time) (req : Req),
    s.hears req →
    s.mayInvoke req .SAMPLE_CLEAR none = 0 →
    Machine.exec (.sampleClear t req) s = .next ((((s.at t).arrive req).sampleClear.answer req 0 []).finish s)) ∧
  (∀ (s : State) (t : Time) (req : Req) (region : Nat),
    s.hears req →
    s.mayInvoke req .PEAK_CLEAR (some region) = 0 →
    Machine.exec (.peakClear t req region) s = .next (((((s.at t).arrive req).put .TEMP_PEAK region (((s.at t).arrive req).get .TEMP region)).answer req 0 []).finish s))
end

