-- ==== Sys2Proof/Laws/State.lean ====
section
/-! SUPPORT. The state record: what the shared updates leave of each field. One lemma per field and update, all
true by rfl; a read of the dictionary after each update. -/

namespace Sys2Proof.Machine

open Sys2Proof

variable (s : State)

/-! ## put -/

@[simp] theorem State.put_now (o : Obj) (i v : Nat) : (s.put o i v).now = s.now := rfl
@[simp] theorem State.put_age (o : Obj) (i v : Nat) : (s.put o i v).age = s.age := rfl
@[simp] theorem State.put_pip (o : Obj) (i v : Nat) : (s.put o i v).pip = s.pip := rfl
@[simp] theorem State.put_fresh (o : Obj) (i v : Nat) : (s.put o i v).fresh = s.fresh := rfl
@[simp] theorem State.put_pendP (o : Obj) (i v : Nat) : (s.put o i v).pendP = s.pendP := rfl
@[simp] theorem State.put_closedPip (o : Obj) (i v : Nat) : (s.put o i v).closedPip = s.closedPip := rfl
@[simp] theorem State.put_staged (o : Obj) (i v : Nat) : (s.put o i v).staged = s.staged := rfl
@[simp] theorem State.put_pendB (o : Obj) (i v : Nat) : (s.put o i v).pendB = s.pendB := rfl
@[simp] theorem State.put_reqs (o : Obj) (i v : Nat) : (s.put o i v).reqs = s.reqs := rfl
@[simp] theorem State.put_time (o : Obj) (i v : Nat) : (s.put o i v).time = s.time := rfl
@[simp] theorem State.put_marks (o : Obj) (i v : Nat) : (s.put o i v).marks = s.marks := rfl
@[simp] theorem State.put_hellos (o : Obj) (i v : Nat) : (s.put o i v).hellos = s.hellos := rfl
@[simp] theorem State.put_members (o : Obj) (i v : Nat) : (s.put o i v).members = s.members := rfl
@[simp] theorem State.put_topo (o : Obj) (i v : Nat) : (s.put o i v).topo = s.topo := rfl
@[simp] theorem State.put_pushWanted (o : Obj) (i v : Nat) : (s.put o i v).pushWanted = s.pushWanted := rfl
@[simp] theorem State.put_gone (o : Obj) (i v : Nat) : (s.put o i v).gone = s.gone := rfl
@[simp] theorem State.put_fns (o : Obj) (i v : Nat) : (s.put o i v).fns = s.fns := rfl
@[simp] theorem State.put_bridges (o : Obj) (i v : Nat) : (s.put o i v).bridges = s.bridges := rfl
@[simp] theorem State.put_ups (o : Obj) (i v : Nat) : (s.put o i v).ups = s.ups := rfl
@[simp] theorem State.put_cfg (o : Obj) (i v : Nat) : (s.put o i v).cfg = s.cfg := rfl
@[simp] theorem State.put_cfgWait (o : Obj) (i v : Nat) : (s.put o i v).cfgWait = s.cfgWait := rfl
@[simp] theorem State.put_grafts (o : Obj) (i v : Nat) : (s.put o i v).grafts = s.grafts := rfl
@[simp] theorem State.put_parts (o : Obj) (i v : Nat) : (s.put o i v).parts = s.parts := rfl
@[simp] theorem State.put_apPend (o : Obj) (i v : Nat) : (s.put o i v).apPend = s.apPend := rfl
@[simp] theorem State.put_grantPairs (o : Obj) (i v : Nat) : (s.put o i v).grantPairs = s.grantPairs := rfl
@[simp] theorem State.put_voids (o : Obj) (i v : Nat) : (s.put o i v).voids = s.voids := rfl
@[simp] theorem State.put_seenPip (o : Obj) (i v : Nat) : (s.put o i v).seenPip = s.seenPip := rfl
@[simp] theorem State.put_tags (o : Obj) (i v : Nat) : (s.put o i v).tags = s.tags := rfl
@[simp] theorem State.put_tagFree (o : Obj) (i v : Nat) : (s.put o i v).tagFree = s.tagFree := rfl
@[simp] theorem State.put_storm (o : Obj) (i v : Nat) : (s.put o i v).storm = s.storm := rfl
@[simp] theorem State.put_txSeq (o : Obj) (i v : Nat) : (s.put o i v).txSeq = s.txSeq := rfl
@[simp] theorem State.put_flagUntil (o : Obj) (i v : Nat) : (s.put o i v).flagUntil = s.flagUntil := rfl
@[simp] theorem State.put_streams (o : Obj) (i v : Nat) : (s.put o i v).streams = s.streams := rfl
@[simp] theorem State.put_cells (o : Obj) (i v : Nat) : (s.put o i v).cells = s.cells := rfl
@[simp] theorem State.put_bankRot (o : Obj) (i v : Nat) : (s.put o i v).bankRot = s.bankRot := rfl
@[simp] theorem State.put_leaks (o : Obj) (i v : Nat) : (s.put o i v).leaks = s.leaks := rfl
@[simp] theorem State.put_queues (o : Obj) (i v : Nat) : (s.put o i v).queues = s.queues := rfl
@[simp] theorem State.put_rx (o : Obj) (i v : Nat) : (s.put o i v).rx = s.rx := rfl
@[simp] theorem State.put_buckets (o : Obj) (i v : Nat) : (s.put o i v).buckets = s.buckets := rfl
@[simp] theorem State.put_meters (o : Obj) (i v : Nat) : (s.put o i v).meters = s.meters := rfl
@[simp] theorem State.put_withheld (o : Obj) (i v : Nat) : (s.put o i v).withheld = s.withheld := rfl
@[simp] theorem State.put_rsvs (o : Obj) (i v : Nat) : (s.put o i v).rsvs = s.rsvs := rfl
@[simp] theorem State.put_rsvJob (o : Obj) (i v : Nat) : (s.put o i v).rsvJob = s.rsvJob := rfl
@[simp] theorem State.put_gates (o : Obj) (i v : Nat) : (s.put o i v).gates = s.gates := rfl
@[simp] theorem State.put_errs (o : Obj) (i v : Nat) : (s.put o i v).errs = s.errs := rfl
@[simp] theorem State.put_log (o : Obj) (i v : Nat) : (s.put o i v).log = s.log := rfl
@[simp] theorem State.put_persist (o : Obj) (i v : Nat) : (s.put o i v).persist = s.persist := rfl
@[simp] theorem State.put_huskAgain (o : Obj) (i v : Nat) : (s.put o i v).huskAgain = s.huskAgain := rfl
@[simp] theorem State.put_pports (o : Obj) (i v : Nat) : (s.put o i v).pports = s.pports := rfl
@[simp] theorem State.put_links (o : Obj) (i v : Nat) : (s.put o i v).links = s.links := rfl
@[simp] theorem State.put_trains (o : Obj) (i v : Nat) : (s.put o i v).trains = s.trains := rfl
@[simp] theorem State.put_lanes (o : Obj) (i v : Nat) : (s.put o i v).lanes = s.lanes := rfl
@[simp] theorem State.put_spares (o : Obj) (i v : Nat) : (s.put o i v).spares = s.spares := rfl
@[simp] theorem State.put_perst (o : Obj) (i v : Nat) : (s.put o i v).perst = s.perst := rfl
@[simp] theorem State.put_slots (o : Obj) (i v : Nat) : (s.put o i v).slots = s.slots := rfl
@[simp] theorem State.put_mfs (o : Obj) (i v : Nat) : (s.put o i v).mfs = s.mfs := rfl
@[simp] theorem State.put_ctrReset (o : Obj) (i v : Nat) : (s.put o i v).ctrReset = s.ctrReset := rfl
@[simp] theorem State.put_subs (o : Obj) (i v : Nat) : (s.put o i v).subs = s.subs := rfl
@[simp] theorem State.put_regions (o : Obj) (i v : Nat) : (s.put o i v).regions = s.regions := rfl
@[simp] theorem State.put_badCells (o : Obj) (i v : Nat) : (s.put o i v).badCells = s.badCells := rfl
@[simp] theorem State.put_remaps (o : Obj) (i v : Nat) : (s.put o i v).remaps = s.remaps := rfl
@[simp] theorem State.put_boot (o : Obj) (i v : Nat) : (s.put o i v).boot = s.boot := rfl
@[simp] theorem State.put_resetAt (o : Obj) (i v : Nat) : (s.put o i v).resetAt = s.resetAt := rfl
@[simp] theorem State.put_resetEnd (o : Obj) (i v : Nat) : (s.put o i v).resetEnd = s.resetEnd := rfl
@[simp] theorem State.put_latchedPins (o : Obj) (i v : Nat) : (s.put o i v).latchedPins = s.latchedPins := rfl
@[simp] theorem State.put_pairs (o : Obj) (i v : Nat) : (s.put o i v).pairs = s.pairs := rfl
@[simp] theorem State.put_irqs (o : Obj) (i v : Nat) : (s.put o i v).irqs = s.irqs := rfl
@[simp] theorem State.put_mboxes (o : Obj) (i v : Nat) : (s.put o i v).mboxes = s.mboxes := rfl
@[simp] theorem State.put_sessions (o : Obj) (i v : Nat) : (s.put o i v).sessions = s.sessions := rfl
@[simp] theorem State.put_cache (o : Obj) (i v : Nat) : (s.put o i v).cache = s.cache := rfl
@[simp] theorem State.put_profiles (o : Obj) (i v : Nat) : (s.put o i v).profiles = s.profiles := rfl
@[simp] theorem State.put_storeOp (o : Obj) (i v : Nat) : (s.put o i v).storeOp = s.storeOp := rfl
@[simp] theorem State.put_loadNext (o : Obj) (i v : Nat) : (s.put o i v).loadNext = s.loadNext := rfl
@[simp] theorem State.put_firstEpoch (o : Obj) (i v : Nat) : (s.put o i v).firstEpoch = s.firstEpoch := rfl
@[simp] theorem State.put_flash (o : Obj) (i v : Nat) : (s.put o i v).flash = s.flash := rfl
@[simp] theorem State.put_fw (o : Obj) (i v : Nat) : (s.put o i v).fw = s.fw := rfl
@[simp] theorem State.put_sec (o : Obj) (i v : Nat) : (s.put o i v).sec = s.sec := rfl
@[simp] theorem State.put_denials (o : Obj) (i v : Nat) : (s.put o i v).denials = s.denials := rfl
@[simp] theorem State.put_snapshot (o : Obj) (i v : Nat) : (s.put o i v).snapshot = s.snapshot := rfl
@[simp] theorem State.put_sampler (o : Obj) (i v : Nat) : (s.put o i v).sampler = s.sampler := rfl
@[simp] theorem State.put_captureSeq (o : Obj) (i v : Nat) : (s.put o i v).captureSeq = s.captureSeq := rfl
@[simp] theorem State.put_mirrorRate (o : Obj) (i v : Nat) : (s.put o i v).mirrorRate = s.mirrorRate := rfl
@[simp] theorem State.put_telemetry (o : Obj) (i v : Nat) : (s.put o i v).telemetry = s.telemetry := rfl
@[simp] theorem State.put_ipfix (o : Obj) (i v : Nat) : (s.put o i v).ipfix = s.ipfix := rfl
@[simp] theorem State.put_paused (o : Obj) (i v : Nat) : (s.put o i v).paused = s.paused := rfl
@[simp] theorem State.put_capSince (o : Obj) (i v : Nat) : (s.put o i v).capSince = s.capSince := rfl
@[simp] theorem State.put_capParked (o : Obj) (i v : Nat) : (s.put o i v).capParked = s.capParked := rfl
@[simp] theorem State.put_refLostAt (o : Obj) (i v : Nat) : (s.put o i v).refLostAt = s.refLostAt := rfl
@[simp] theorem State.put_i3c (o : Obj) (i v : Nat) : (s.put o i v).i3c = s.i3c := rfl
@[simp] theorem State.put_jtag (o : Obj) (i v : Nat) : (s.put o i v).jtag = s.jtag := rfl
@[simp] theorem State.put_hbmCold (o : Obj) (i v : Nat) : (s.put o i v).hbmCold = s.hbmCold := rfl
@[simp] theorem State.put_out (o : Obj) (i v : Nat) : (s.put o i v).out = s.out := rfl
@[simp] theorem State.put_dupPorts (o : Obj) (i v : Nat) : (s.put o i v).dupPorts = s.dupPorts := rfl
@[simp] theorem State.put_routeTopo (o : Obj) (i v : Nat) : (s.put o i v).routeTopo = s.routeTopo := rfl
@[simp] theorem State.put_routeAll (o : Obj) (i v : Nat) : (s.put o i v).routeAll = s.routeAll := rfl
@[simp] theorem State.put_clockF (o : Obj) (i v : Nat) : (s.put o i v).clockF = s.clockF := rfl
@[simp] theorem State.put_touched (o : Obj) (i v : Nat) : (s.put o i v).touched = s.touched := rfl
@[simp] theorem State.put_xings (o : Obj) (i v : Nat) : (s.put o i v).xings = s.xings := rfl
@[simp] theorem State.put_oldRsvs (o : Obj) (i v : Nat) : (s.put o i v).oldRsvs = s.oldRsvs := rfl
@[simp] theorem State.put_releases (o : Obj) (i v : Nat) : (s.put o i v).releases = s.releases := rfl
@[simp] theorem State.put_spillDue (o : Obj) (i v : Nat) : (s.put o i v).spillDue = s.spillDue := rfl
@[simp] theorem State.put_badWords (o : Obj) (i v : Nat) : (s.put o i v).badWords = s.badWords := rfl
@[simp] theorem State.put_pending (o : Obj) (i v : Nat) : (s.put o i v).pending = s.pending := rfl

/-! ## emit -/

@[simp] theorem State.emit_now (x : Out) : (s.emit x).now = s.now := rfl
@[simp] theorem State.emit_age (x : Out) : (s.emit x).age = s.age := rfl
@[simp] theorem State.emit_pip (x : Out) : (s.emit x).pip = s.pip := rfl
@[simp] theorem State.emit_objs (x : Out) : (s.emit x).objs = s.objs := rfl
@[simp] theorem State.emit_fresh (x : Out) : (s.emit x).fresh = s.fresh := rfl
@[simp] theorem State.emit_pendP (x : Out) : (s.emit x).pendP = s.pendP := rfl
@[simp] theorem State.emit_closedPip (x : Out) : (s.emit x).closedPip = s.closedPip := rfl
@[simp] theorem State.emit_staged (x : Out) : (s.emit x).staged = s.staged := rfl
@[simp] theorem State.emit_pendB (x : Out) : (s.emit x).pendB = s.pendB := rfl
@[simp] theorem State.emit_reqs (x : Out) : (s.emit x).reqs = s.reqs := rfl
@[simp] theorem State.emit_time (x : Out) : (s.emit x).time = s.time := rfl
@[simp] theorem State.emit_marks (x : Out) : (s.emit x).marks = s.marks := rfl
@[simp] theorem State.emit_hellos (x : Out) : (s.emit x).hellos = s.hellos := rfl
@[simp] theorem State.emit_members (x : Out) : (s.emit x).members = s.members := rfl
@[simp] theorem State.emit_topo (x : Out) : (s.emit x).topo = s.topo := rfl
@[simp] theorem State.emit_pushWanted (x : Out) : (s.emit x).pushWanted = s.pushWanted := rfl
@[simp] theorem State.emit_gone (x : Out) : (s.emit x).gone = s.gone := rfl
@[simp] theorem State.emit_fns (x : Out) : (s.emit x).fns = s.fns := rfl
@[simp] theorem State.emit_bridges (x : Out) : (s.emit x).bridges = s.bridges := rfl
@[simp] theorem State.emit_ups (x : Out) : (s.emit x).ups = s.ups := rfl
@[simp] theorem State.emit_cfg (x : Out) : (s.emit x).cfg = s.cfg := rfl
@[simp] theorem State.emit_cfgWait (x : Out) : (s.emit x).cfgWait = s.cfgWait := rfl
@[simp] theorem State.emit_grafts (x : Out) : (s.emit x).grafts = s.grafts := rfl
@[simp] theorem State.emit_parts (x : Out) : (s.emit x).parts = s.parts := rfl
@[simp] theorem State.emit_apPend (x : Out) : (s.emit x).apPend = s.apPend := rfl
@[simp] theorem State.emit_grantPairs (x : Out) : (s.emit x).grantPairs = s.grantPairs := rfl
@[simp] theorem State.emit_voids (x : Out) : (s.emit x).voids = s.voids := rfl
@[simp] theorem State.emit_seenPip (x : Out) : (s.emit x).seenPip = s.seenPip := rfl
@[simp] theorem State.emit_tags (x : Out) : (s.emit x).tags = s.tags := rfl
@[simp] theorem State.emit_tagFree (x : Out) : (s.emit x).tagFree = s.tagFree := rfl
@[simp] theorem State.emit_storm (x : Out) : (s.emit x).storm = s.storm := rfl
@[simp] theorem State.emit_txSeq (x : Out) : (s.emit x).txSeq = s.txSeq := rfl
@[simp] theorem State.emit_flagUntil (x : Out) : (s.emit x).flagUntil = s.flagUntil := rfl
@[simp] theorem State.emit_streams (x : Out) : (s.emit x).streams = s.streams := rfl
@[simp] theorem State.emit_cells (x : Out) : (s.emit x).cells = s.cells := rfl
@[simp] theorem State.emit_bankRot (x : Out) : (s.emit x).bankRot = s.bankRot := rfl
@[simp] theorem State.emit_leaks (x : Out) : (s.emit x).leaks = s.leaks := rfl
@[simp] theorem State.emit_queues (x : Out) : (s.emit x).queues = s.queues := rfl
@[simp] theorem State.emit_rx (x : Out) : (s.emit x).rx = s.rx := rfl
@[simp] theorem State.emit_buckets (x : Out) : (s.emit x).buckets = s.buckets := rfl
@[simp] theorem State.emit_meters (x : Out) : (s.emit x).meters = s.meters := rfl
@[simp] theorem State.emit_withheld (x : Out) : (s.emit x).withheld = s.withheld := rfl
@[simp] theorem State.emit_rsvs (x : Out) : (s.emit x).rsvs = s.rsvs := rfl
@[simp] theorem State.emit_rsvJob (x : Out) : (s.emit x).rsvJob = s.rsvJob := rfl
@[simp] theorem State.emit_gates (x : Out) : (s.emit x).gates = s.gates := rfl
@[simp] theorem State.emit_errs (x : Out) : (s.emit x).errs = s.errs := rfl
@[simp] theorem State.emit_log (x : Out) : (s.emit x).log = s.log := rfl
@[simp] theorem State.emit_persist (x : Out) : (s.emit x).persist = s.persist := rfl
@[simp] theorem State.emit_huskAgain (x : Out) : (s.emit x).huskAgain = s.huskAgain := rfl
@[simp] theorem State.emit_pports (x : Out) : (s.emit x).pports = s.pports := rfl
@[simp] theorem State.emit_links (x : Out) : (s.emit x).links = s.links := rfl
@[simp] theorem State.emit_trains (x : Out) : (s.emit x).trains = s.trains := rfl
@[simp] theorem State.emit_lanes (x : Out) : (s.emit x).lanes = s.lanes := rfl
@[simp] theorem State.emit_spares (x : Out) : (s.emit x).spares = s.spares := rfl
@[simp] theorem State.emit_perst (x : Out) : (s.emit x).perst = s.perst := rfl
@[simp] theorem State.emit_slots (x : Out) : (s.emit x).slots = s.slots := rfl
@[simp] theorem State.emit_mfs (x : Out) : (s.emit x).mfs = s.mfs := rfl
@[simp] theorem State.emit_ctrReset (x : Out) : (s.emit x).ctrReset = s.ctrReset := rfl
@[simp] theorem State.emit_subs (x : Out) : (s.emit x).subs = s.subs := rfl
@[simp] theorem State.emit_regions (x : Out) : (s.emit x).regions = s.regions := rfl
@[simp] theorem State.emit_badCells (x : Out) : (s.emit x).badCells = s.badCells := rfl
@[simp] theorem State.emit_remaps (x : Out) : (s.emit x).remaps = s.remaps := rfl
@[simp] theorem State.emit_boot (x : Out) : (s.emit x).boot = s.boot := rfl
@[simp] theorem State.emit_resetAt (x : Out) : (s.emit x).resetAt = s.resetAt := rfl
@[simp] theorem State.emit_resetEnd (x : Out) : (s.emit x).resetEnd = s.resetEnd := rfl
@[simp] theorem State.emit_latchedPins (x : Out) : (s.emit x).latchedPins = s.latchedPins := rfl
@[simp] theorem State.emit_pairs (x : Out) : (s.emit x).pairs = s.pairs := rfl
@[simp] theorem State.emit_irqs (x : Out) : (s.emit x).irqs = s.irqs := rfl
@[simp] theorem State.emit_mboxes (x : Out) : (s.emit x).mboxes = s.mboxes := rfl
@[simp] theorem State.emit_sessions (x : Out) : (s.emit x).sessions = s.sessions := rfl
@[simp] theorem State.emit_cache (x : Out) : (s.emit x).cache = s.cache := rfl
@[simp] theorem State.emit_profiles (x : Out) : (s.emit x).profiles = s.profiles := rfl
@[simp] theorem State.emit_storeOp (x : Out) : (s.emit x).storeOp = s.storeOp := rfl
@[simp] theorem State.emit_loadNext (x : Out) : (s.emit x).loadNext = s.loadNext := rfl
@[simp] theorem State.emit_firstEpoch (x : Out) : (s.emit x).firstEpoch = s.firstEpoch := rfl
@[simp] theorem State.emit_flash (x : Out) : (s.emit x).flash = s.flash := rfl
@[simp] theorem State.emit_fw (x : Out) : (s.emit x).fw = s.fw := rfl
@[simp] theorem State.emit_sec (x : Out) : (s.emit x).sec = s.sec := rfl
@[simp] theorem State.emit_denials (x : Out) : (s.emit x).denials = s.denials := rfl
@[simp] theorem State.emit_snapshot (x : Out) : (s.emit x).snapshot = s.snapshot := rfl
@[simp] theorem State.emit_sampler (x : Out) : (s.emit x).sampler = s.sampler := rfl
@[simp] theorem State.emit_captureSeq (x : Out) : (s.emit x).captureSeq = s.captureSeq := rfl
@[simp] theorem State.emit_mirrorRate (x : Out) : (s.emit x).mirrorRate = s.mirrorRate := rfl
@[simp] theorem State.emit_telemetry (x : Out) : (s.emit x).telemetry = s.telemetry := rfl
@[simp] theorem State.emit_ipfix (x : Out) : (s.emit x).ipfix = s.ipfix := rfl
@[simp] theorem State.emit_paused (x : Out) : (s.emit x).paused = s.paused := rfl
@[simp] theorem State.emit_capSince (x : Out) : (s.emit x).capSince = s.capSince := rfl
@[simp] theorem State.emit_capParked (x : Out) : (s.emit x).capParked = s.capParked := rfl
@[simp] theorem State.emit_refLostAt (x : Out) : (s.emit x).refLostAt = s.refLostAt := rfl
@[simp] theorem State.emit_i3c (x : Out) : (s.emit x).i3c = s.i3c := rfl
@[simp] theorem State.emit_jtag (x : Out) : (s.emit x).jtag = s.jtag := rfl
@[simp] theorem State.emit_hbmCold (x : Out) : (s.emit x).hbmCold = s.hbmCold := rfl
@[simp] theorem State.emit_dupPorts (x : Out) : (s.emit x).dupPorts = s.dupPorts := rfl
@[simp] theorem State.emit_routeTopo (x : Out) : (s.emit x).routeTopo = s.routeTopo := rfl
@[simp] theorem State.emit_routeAll (x : Out) : (s.emit x).routeAll = s.routeAll := rfl
@[simp] theorem State.emit_clockF (x : Out) : (s.emit x).clockF = s.clockF := rfl
@[simp] theorem State.emit_touched (x : Out) : (s.emit x).touched = s.touched := rfl
@[simp] theorem State.emit_xings (x : Out) : (s.emit x).xings = s.xings := rfl
@[simp] theorem State.emit_oldRsvs (x : Out) : (s.emit x).oldRsvs = s.oldRsvs := rfl
@[simp] theorem State.emit_releases (x : Out) : (s.emit x).releases = s.releases := rfl
@[simp] theorem State.emit_spillDue (x : Out) : (s.emit x).spillDue = s.spillDue := rfl
@[simp] theorem State.emit_badWords (x : Out) : (s.emit x).badWords = s.badWords := rfl
@[simp] theorem State.emit_pending (x : Out) : (s.emit x).pending = s.pending := rfl
@[simp] theorem State.emit_get (x : Out) (o' : Obj) (r : Nat) : (s.emit x).get o' r = s.get o' r := rfl

@[simp] theorem State.emit_out (x : Out) : (s.emit x).out = s.out ++ [x] := rfl

/-! ## raise -/

@[simp] theorem State.raise_now (e : Err) : (s.raise e).now = s.now := rfl
@[simp] theorem State.raise_age (e : Err) : (s.raise e).age = s.age := rfl
@[simp] theorem State.raise_pip (e : Err) : (s.raise e).pip = s.pip := rfl
@[simp] theorem State.raise_objs (e : Err) : (s.raise e).objs = s.objs := rfl
@[simp] theorem State.raise_fresh (e : Err) : (s.raise e).fresh = s.fresh := rfl
@[simp] theorem State.raise_pendP (e : Err) : (s.raise e).pendP = s.pendP := rfl
@[simp] theorem State.raise_closedPip (e : Err) : (s.raise e).closedPip = s.closedPip := rfl
@[simp] theorem State.raise_staged (e : Err) : (s.raise e).staged = s.staged := rfl
@[simp] theorem State.raise_pendB (e : Err) : (s.raise e).pendB = s.pendB := rfl
@[simp] theorem State.raise_reqs (e : Err) : (s.raise e).reqs = s.reqs := rfl
@[simp] theorem State.raise_time (e : Err) : (s.raise e).time = s.time := rfl
@[simp] theorem State.raise_marks (e : Err) : (s.raise e).marks = s.marks := rfl
@[simp] theorem State.raise_hellos (e : Err) : (s.raise e).hellos = s.hellos := rfl
@[simp] theorem State.raise_members (e : Err) : (s.raise e).members = s.members := rfl
@[simp] theorem State.raise_topo (e : Err) : (s.raise e).topo = s.topo := rfl
@[simp] theorem State.raise_pushWanted (e : Err) : (s.raise e).pushWanted = s.pushWanted := rfl
@[simp] theorem State.raise_gone (e : Err) : (s.raise e).gone = s.gone := rfl
@[simp] theorem State.raise_fns (e : Err) : (s.raise e).fns = s.fns := rfl
@[simp] theorem State.raise_bridges (e : Err) : (s.raise e).bridges = s.bridges := rfl
@[simp] theorem State.raise_ups (e : Err) : (s.raise e).ups = s.ups := rfl
@[simp] theorem State.raise_cfg (e : Err) : (s.raise e).cfg = s.cfg := rfl
@[simp] theorem State.raise_cfgWait (e : Err) : (s.raise e).cfgWait = s.cfgWait := rfl
@[simp] theorem State.raise_grafts (e : Err) : (s.raise e).grafts = s.grafts := rfl
@[simp] theorem State.raise_parts (e : Err) : (s.raise e).parts = s.parts := rfl
@[simp] theorem State.raise_apPend (e : Err) : (s.raise e).apPend = s.apPend := rfl
@[simp] theorem State.raise_grantPairs (e : Err) : (s.raise e).grantPairs = s.grantPairs := rfl
@[simp] theorem State.raise_voids (e : Err) : (s.raise e).voids = s.voids := rfl
@[simp] theorem State.raise_seenPip (e : Err) : (s.raise e).seenPip = s.seenPip := rfl
@[simp] theorem State.raise_tags (e : Err) : (s.raise e).tags = s.tags := rfl
@[simp] theorem State.raise_tagFree (e : Err) : (s.raise e).tagFree = s.tagFree := rfl
@[simp] theorem State.raise_storm (e : Err) : (s.raise e).storm = s.storm := rfl
@[simp] theorem State.raise_txSeq (e : Err) : (s.raise e).txSeq = s.txSeq := rfl
@[simp] theorem State.raise_flagUntil (e : Err) : (s.raise e).flagUntil = s.flagUntil := rfl
@[simp] theorem State.raise_streams (e : Err) : (s.raise e).streams = s.streams := rfl
@[simp] theorem State.raise_cells (e : Err) : (s.raise e).cells = s.cells := rfl
@[simp] theorem State.raise_bankRot (e : Err) : (s.raise e).bankRot = s.bankRot := rfl
@[simp] theorem State.raise_leaks (e : Err) : (s.raise e).leaks = s.leaks := rfl
@[simp] theorem State.raise_queues (e : Err) : (s.raise e).queues = s.queues := rfl
@[simp] theorem State.raise_rx (e : Err) : (s.raise e).rx = s.rx := rfl
@[simp] theorem State.raise_buckets (e : Err) : (s.raise e).buckets = s.buckets := rfl
@[simp] theorem State.raise_meters (e : Err) : (s.raise e).meters = s.meters := rfl
@[simp] theorem State.raise_withheld (e : Err) : (s.raise e).withheld = s.withheld := rfl
@[simp] theorem State.raise_rsvs (e : Err) : (s.raise e).rsvs = s.rsvs := rfl
@[simp] theorem State.raise_rsvJob (e : Err) : (s.raise e).rsvJob = s.rsvJob := rfl
@[simp] theorem State.raise_gates (e : Err) : (s.raise e).gates = s.gates := rfl
@[simp] theorem State.raise_log (e : Err) : (s.raise e).log = s.log := rfl
@[simp] theorem State.raise_persist (e : Err) : (s.raise e).persist = s.persist := rfl
@[simp] theorem State.raise_huskAgain (e : Err) : (s.raise e).huskAgain = s.huskAgain := rfl
@[simp] theorem State.raise_pports (e : Err) : (s.raise e).pports = s.pports := rfl
@[simp] theorem State.raise_links (e : Err) : (s.raise e).links = s.links := rfl
@[simp] theorem State.raise_trains (e : Err) : (s.raise e).trains = s.trains := rfl
@[simp] theorem State.raise_lanes (e : Err) : (s.raise e).lanes = s.lanes := rfl
@[simp] theorem State.raise_spares (e : Err) : (s.raise e).spares = s.spares := rfl
@[simp] theorem State.raise_perst (e : Err) : (s.raise e).perst = s.perst := rfl
@[simp] theorem State.raise_slots (e : Err) : (s.raise e).slots = s.slots := rfl
@[simp] theorem State.raise_mfs (e : Err) : (s.raise e).mfs = s.mfs := rfl
@[simp] theorem State.raise_ctrReset (e : Err) : (s.raise e).ctrReset = s.ctrReset := rfl
@[simp] theorem State.raise_subs (e : Err) : (s.raise e).subs = s.subs := rfl
@[simp] theorem State.raise_regions (e : Err) : (s.raise e).regions = s.regions := rfl
@[simp] theorem State.raise_badCells (e : Err) : (s.raise e).badCells = s.badCells := rfl
@[simp] theorem State.raise_remaps (e : Err) : (s.raise e).remaps = s.remaps := rfl
@[simp] theorem State.raise_boot (e : Err) : (s.raise e).boot = s.boot := rfl
@[simp] theorem State.raise_resetAt (e : Err) : (s.raise e).resetAt = s.resetAt := rfl
@[simp] theorem State.raise_resetEnd (e : Err) : (s.raise e).resetEnd = s.resetEnd := rfl
@[simp] theorem State.raise_latchedPins (e : Err) : (s.raise e).latchedPins = s.latchedPins := rfl
@[simp] theorem State.raise_pairs (e : Err) : (s.raise e).pairs = s.pairs := rfl
@[simp] theorem State.raise_irqs (e : Err) : (s.raise e).irqs = s.irqs := rfl
@[simp] theorem State.raise_mboxes (e : Err) : (s.raise e).mboxes = s.mboxes := rfl
@[simp] theorem State.raise_sessions (e : Err) : (s.raise e).sessions = s.sessions := rfl
@[simp] theorem State.raise_cache (e : Err) : (s.raise e).cache = s.cache := rfl
@[simp] theorem State.raise_profiles (e : Err) : (s.raise e).profiles = s.profiles := rfl
@[simp] theorem State.raise_storeOp (e : Err) : (s.raise e).storeOp = s.storeOp := rfl
@[simp] theorem State.raise_loadNext (e : Err) : (s.raise e).loadNext = s.loadNext := rfl
@[simp] theorem State.raise_firstEpoch (e : Err) : (s.raise e).firstEpoch = s.firstEpoch := rfl
@[simp] theorem State.raise_flash (e : Err) : (s.raise e).flash = s.flash := rfl
@[simp] theorem State.raise_fw (e : Err) : (s.raise e).fw = s.fw := rfl
@[simp] theorem State.raise_sec (e : Err) : (s.raise e).sec = s.sec := rfl
@[simp] theorem State.raise_denials (e : Err) : (s.raise e).denials = s.denials := rfl
@[simp] theorem State.raise_snapshot (e : Err) : (s.raise e).snapshot = s.snapshot := rfl
@[simp] theorem State.raise_sampler (e : Err) : (s.raise e).sampler = s.sampler := rfl
@[simp] theorem State.raise_captureSeq (e : Err) : (s.raise e).captureSeq = s.captureSeq := rfl
@[simp] theorem State.raise_mirrorRate (e : Err) : (s.raise e).mirrorRate = s.mirrorRate := rfl
@[simp] theorem State.raise_telemetry (e : Err) : (s.raise e).telemetry = s.telemetry := rfl
@[simp] theorem State.raise_ipfix (e : Err) : (s.raise e).ipfix = s.ipfix := rfl
@[simp] theorem State.raise_paused (e : Err) : (s.raise e).paused = s.paused := rfl
@[simp] theorem State.raise_capSince (e : Err) : (s.raise e).capSince = s.capSince := rfl
@[simp] theorem State.raise_capParked (e : Err) : (s.raise e).capParked = s.capParked := rfl
@[simp] theorem State.raise_refLostAt (e : Err) : (s.raise e).refLostAt = s.refLostAt := rfl
@[simp] theorem State.raise_i3c (e : Err) : (s.raise e).i3c = s.i3c := rfl
@[simp] theorem State.raise_jtag (e : Err) : (s.raise e).jtag = s.jtag := rfl
@[simp] theorem State.raise_hbmCold (e : Err) : (s.raise e).hbmCold = s.hbmCold := rfl
@[simp] theorem State.raise_out (e : Err) : (s.raise e).out = s.out := rfl
@[simp] theorem State.raise_dupPorts (e : Err) : (s.raise e).dupPorts = s.dupPorts := rfl
@[simp] theorem State.raise_routeTopo (e : Err) : (s.raise e).routeTopo = s.routeTopo := rfl
@[simp] theorem State.raise_routeAll (e : Err) : (s.raise e).routeAll = s.routeAll := rfl
@[simp] theorem State.raise_clockF (e : Err) : (s.raise e).clockF = s.clockF := rfl
@[simp] theorem State.raise_touched (e : Err) : (s.raise e).touched = s.touched := rfl
@[simp] theorem State.raise_xings (e : Err) : (s.raise e).xings = s.xings := rfl
@[simp] theorem State.raise_oldRsvs (e : Err) : (s.raise e).oldRsvs = s.oldRsvs := rfl
@[simp] theorem State.raise_releases (e : Err) : (s.raise e).releases = s.releases := rfl
@[simp] theorem State.raise_spillDue (e : Err) : (s.raise e).spillDue = s.spillDue := rfl
@[simp] theorem State.raise_badWords (e : Err) : (s.raise e).badWords = s.badWords := rfl
@[simp] theorem State.raise_pending (e : Err) : (s.raise e).pending = s.pending := rfl
@[simp] theorem State.raise_get (e : Err) (o' : Obj) (r : Nat) : (s.raise e).get o' r = s.get o' r := rfl

@[simp] theorem State.raise_errs (e : Err) : (s.raise e).errs = s.errs ++ [e] := rfl

/-! ## moveTo -/

@[simp] theorem State.moveTo_pip (t : Time) : (s.moveTo t).pip = s.pip := rfl
@[simp] theorem State.moveTo_objs (t : Time) : (s.moveTo t).objs = s.objs := rfl
@[simp] theorem State.moveTo_fresh (t : Time) : (s.moveTo t).fresh = s.fresh := rfl
@[simp] theorem State.moveTo_pendP (t : Time) : (s.moveTo t).pendP = s.pendP := rfl
@[simp] theorem State.moveTo_closedPip (t : Time) : (s.moveTo t).closedPip = s.closedPip := rfl
@[simp] theorem State.moveTo_staged (t : Time) : (s.moveTo t).staged = s.staged := rfl
@[simp] theorem State.moveTo_pendB (t : Time) : (s.moveTo t).pendB = s.pendB := rfl
@[simp] theorem State.moveTo_reqs (t : Time) : (s.moveTo t).reqs = s.reqs := rfl
@[simp] theorem State.moveTo_time (t : Time) : (s.moveTo t).time = s.time := rfl
@[simp] theorem State.moveTo_marks (t : Time) : (s.moveTo t).marks = s.marks := rfl
@[simp] theorem State.moveTo_hellos (t : Time) : (s.moveTo t).hellos = s.hellos := rfl
@[simp] theorem State.moveTo_members (t : Time) : (s.moveTo t).members = s.members := rfl
@[simp] theorem State.moveTo_topo (t : Time) : (s.moveTo t).topo = s.topo := rfl
@[simp] theorem State.moveTo_pushWanted (t : Time) : (s.moveTo t).pushWanted = s.pushWanted := rfl
@[simp] theorem State.moveTo_gone (t : Time) : (s.moveTo t).gone = s.gone := rfl
@[simp] theorem State.moveTo_fns (t : Time) : (s.moveTo t).fns = s.fns := rfl
@[simp] theorem State.moveTo_bridges (t : Time) : (s.moveTo t).bridges = s.bridges := rfl
@[simp] theorem State.moveTo_ups (t : Time) : (s.moveTo t).ups = s.ups := rfl
@[simp] theorem State.moveTo_cfg (t : Time) : (s.moveTo t).cfg = s.cfg := rfl
@[simp] theorem State.moveTo_cfgWait (t : Time) : (s.moveTo t).cfgWait = s.cfgWait := rfl
@[simp] theorem State.moveTo_grafts (t : Time) : (s.moveTo t).grafts = s.grafts := rfl
@[simp] theorem State.moveTo_parts (t : Time) : (s.moveTo t).parts = s.parts := rfl
@[simp] theorem State.moveTo_apPend (t : Time) : (s.moveTo t).apPend = s.apPend := rfl
@[simp] theorem State.moveTo_grantPairs (t : Time) : (s.moveTo t).grantPairs = s.grantPairs := rfl
@[simp] theorem State.moveTo_voids (t : Time) : (s.moveTo t).voids = s.voids := rfl
@[simp] theorem State.moveTo_seenPip (t : Time) : (s.moveTo t).seenPip = s.seenPip := rfl
@[simp] theorem State.moveTo_tags (t : Time) : (s.moveTo t).tags = s.tags := rfl
@[simp] theorem State.moveTo_tagFree (t : Time) : (s.moveTo t).tagFree = s.tagFree := rfl
@[simp] theorem State.moveTo_storm (t : Time) : (s.moveTo t).storm = s.storm := rfl
@[simp] theorem State.moveTo_txSeq (t : Time) : (s.moveTo t).txSeq = s.txSeq := rfl
@[simp] theorem State.moveTo_flagUntil (t : Time) : (s.moveTo t).flagUntil = s.flagUntil := rfl
@[simp] theorem State.moveTo_streams (t : Time) : (s.moveTo t).streams = s.streams := rfl
@[simp] theorem State.moveTo_cells (t : Time) : (s.moveTo t).cells = s.cells := rfl
@[simp] theorem State.moveTo_bankRot (t : Time) : (s.moveTo t).bankRot = s.bankRot := rfl
@[simp] theorem State.moveTo_leaks (t : Time) : (s.moveTo t).leaks = s.leaks := rfl
@[simp] theorem State.moveTo_queues (t : Time) : (s.moveTo t).queues = s.queues := rfl
@[simp] theorem State.moveTo_rx (t : Time) : (s.moveTo t).rx = s.rx := rfl
@[simp] theorem State.moveTo_buckets (t : Time) : (s.moveTo t).buckets = s.buckets := rfl
@[simp] theorem State.moveTo_meters (t : Time) : (s.moveTo t).meters = s.meters := rfl
@[simp] theorem State.moveTo_withheld (t : Time) : (s.moveTo t).withheld = s.withheld := rfl
@[simp] theorem State.moveTo_rsvs (t : Time) : (s.moveTo t).rsvs = s.rsvs := rfl
@[simp] theorem State.moveTo_rsvJob (t : Time) : (s.moveTo t).rsvJob = s.rsvJob := rfl
@[simp] theorem State.moveTo_gates (t : Time) : (s.moveTo t).gates = s.gates := rfl
@[simp] theorem State.moveTo_errs (t : Time) : (s.moveTo t).errs = s.errs := rfl
@[simp] theorem State.moveTo_log (t : Time) : (s.moveTo t).log = s.log := rfl
@[simp] theorem State.moveTo_persist (t : Time) : (s.moveTo t).persist = s.persist := rfl
@[simp] theorem State.moveTo_huskAgain (t : Time) : (s.moveTo t).huskAgain = s.huskAgain := rfl
@[simp] theorem State.moveTo_pports (t : Time) : (s.moveTo t).pports = s.pports := rfl
@[simp] theorem State.moveTo_links (t : Time) : (s.moveTo t).links = s.links := rfl
@[simp] theorem State.moveTo_trains (t : Time) : (s.moveTo t).trains = s.trains := rfl
@[simp] theorem State.moveTo_lanes (t : Time) : (s.moveTo t).lanes = s.lanes := rfl
@[simp] theorem State.moveTo_spares (t : Time) : (s.moveTo t).spares = s.spares := rfl
@[simp] theorem State.moveTo_perst (t : Time) : (s.moveTo t).perst = s.perst := rfl
@[simp] theorem State.moveTo_slots (t : Time) : (s.moveTo t).slots = s.slots := rfl
@[simp] theorem State.moveTo_mfs (t : Time) : (s.moveTo t).mfs = s.mfs := rfl
@[simp] theorem State.moveTo_ctrReset (t : Time) : (s.moveTo t).ctrReset = s.ctrReset := rfl
@[simp] theorem State.moveTo_subs (t : Time) : (s.moveTo t).subs = s.subs := rfl
@[simp] theorem State.moveTo_regions (t : Time) : (s.moveTo t).regions = s.regions := rfl
@[simp] theorem State.moveTo_badCells (t : Time) : (s.moveTo t).badCells = s.badCells := rfl
@[simp] theorem State.moveTo_remaps (t : Time) : (s.moveTo t).remaps = s.remaps := rfl
@[simp] theorem State.moveTo_boot (t : Time) : (s.moveTo t).boot = s.boot := rfl
@[simp] theorem State.moveTo_resetAt (t : Time) : (s.moveTo t).resetAt = s.resetAt := rfl
@[simp] theorem State.moveTo_resetEnd (t : Time) : (s.moveTo t).resetEnd = s.resetEnd := rfl
@[simp] theorem State.moveTo_latchedPins (t : Time) : (s.moveTo t).latchedPins = s.latchedPins := rfl
@[simp] theorem State.moveTo_pairs (t : Time) : (s.moveTo t).pairs = s.pairs := rfl
@[simp] theorem State.moveTo_irqs (t : Time) : (s.moveTo t).irqs = s.irqs := rfl
@[simp] theorem State.moveTo_mboxes (t : Time) : (s.moveTo t).mboxes = s.mboxes := rfl
@[simp] theorem State.moveTo_sessions (t : Time) : (s.moveTo t).sessions = s.sessions := rfl
@[simp] theorem State.moveTo_cache (t : Time) : (s.moveTo t).cache = s.cache := rfl
@[simp] theorem State.moveTo_profiles (t : Time) : (s.moveTo t).profiles = s.profiles := rfl
@[simp] theorem State.moveTo_storeOp (t : Time) : (s.moveTo t).storeOp = s.storeOp := rfl
@[simp] theorem State.moveTo_loadNext (t : Time) : (s.moveTo t).loadNext = s.loadNext := rfl
@[simp] theorem State.moveTo_firstEpoch (t : Time) : (s.moveTo t).firstEpoch = s.firstEpoch := rfl
@[simp] theorem State.moveTo_flash (t : Time) : (s.moveTo t).flash = s.flash := rfl
@[simp] theorem State.moveTo_fw (t : Time) : (s.moveTo t).fw = s.fw := rfl
@[simp] theorem State.moveTo_sec (t : Time) : (s.moveTo t).sec = s.sec := rfl
@[simp] theorem State.moveTo_denials (t : Time) : (s.moveTo t).denials = s.denials := rfl
@[simp] theorem State.moveTo_snapshot (t : Time) : (s.moveTo t).snapshot = s.snapshot := rfl
@[simp] theorem State.moveTo_sampler (t : Time) : (s.moveTo t).sampler = s.sampler := rfl
@[simp] theorem State.moveTo_captureSeq (t : Time) : (s.moveTo t).captureSeq = s.captureSeq := rfl
@[simp] theorem State.moveTo_mirrorRate (t : Time) : (s.moveTo t).mirrorRate = s.mirrorRate := rfl
@[simp] theorem State.moveTo_telemetry (t : Time) : (s.moveTo t).telemetry = s.telemetry := rfl
@[simp] theorem State.moveTo_ipfix (t : Time) : (s.moveTo t).ipfix = s.ipfix := rfl
@[simp] theorem State.moveTo_paused (t : Time) : (s.moveTo t).paused = s.paused := rfl
@[simp] theorem State.moveTo_capSince (t : Time) : (s.moveTo t).capSince = s.capSince := rfl
@[simp] theorem State.moveTo_capParked (t : Time) : (s.moveTo t).capParked = s.capParked := rfl
@[simp] theorem State.moveTo_refLostAt (t : Time) : (s.moveTo t).refLostAt = s.refLostAt := rfl
@[simp] theorem State.moveTo_i3c (t : Time) : (s.moveTo t).i3c = s.i3c := rfl
@[simp] theorem State.moveTo_jtag (t : Time) : (s.moveTo t).jtag = s.jtag := rfl
@[simp] theorem State.moveTo_hbmCold (t : Time) : (s.moveTo t).hbmCold = s.hbmCold := rfl
@[simp] theorem State.moveTo_out (t : Time) : (s.moveTo t).out = s.out := rfl
@[simp] theorem State.moveTo_dupPorts (t : Time) : (s.moveTo t).dupPorts = s.dupPorts := rfl
@[simp] theorem State.moveTo_routeTopo (t : Time) : (s.moveTo t).routeTopo = s.routeTopo := rfl
@[simp] theorem State.moveTo_routeAll (t : Time) : (s.moveTo t).routeAll = s.routeAll := rfl
@[simp] theorem State.moveTo_clockF (t : Time) : (s.moveTo t).clockF = s.clockF := rfl
@[simp] theorem State.moveTo_touched (t : Time) : (s.moveTo t).touched = s.touched := rfl
@[simp] theorem State.moveTo_xings (t : Time) : (s.moveTo t).xings = s.xings := rfl
@[simp] theorem State.moveTo_oldRsvs (t : Time) : (s.moveTo t).oldRsvs = s.oldRsvs := rfl
@[simp] theorem State.moveTo_releases (t : Time) : (s.moveTo t).releases = s.releases := rfl
@[simp] theorem State.moveTo_spillDue (t : Time) : (s.moveTo t).spillDue = s.spillDue := rfl
@[simp] theorem State.moveTo_badWords (t : Time) : (s.moveTo t).badWords = s.badWords := rfl
@[simp] theorem State.moveTo_pending (t : Time) : (s.moveTo t).pending = s.pending := rfl
@[simp] theorem State.moveTo_get (t : Time) (o' : Obj) (r : Nat) : (s.moveTo t).get o' r = s.get o' r := rfl

@[simp] theorem State.moveTo_now (t : Time) : (s.moveTo t).now = max s.now t := rfl

/-- An event is one output. -/
@[simp] theorem State.event_eq (rule : Nat) (args : List Nat) : s.event rule args = s.emit (.event rule args) := rfl

/-- A message is one output. -/
@[simp] theorem State.msg_eq (k : MsgKind) (args : List Nat) : s.msg k args = s.emit (.msg k args) := rfl

/-! ## updGraft -/

@[simp] theorem State.updGraft_objs (i : Nat) (f : GraftH → GraftH) : (s.updGraft i f).objs = s.objs := rfl
@[simp] theorem State.updGraft_errs (i : Nat) (f : GraftH → GraftH) : (s.updGraft i f).errs = s.errs := rfl
@[simp] theorem State.updGraft_now (i : Nat) (f : GraftH → GraftH) : (s.updGraft i f).now = s.now := rfl
@[simp] theorem State.updGraft_boot (i : Nat) (f : GraftH → GraftH) : (s.updGraft i f).boot = s.boot := rfl
@[simp] theorem State.updGraft_flash (i : Nat) (f : GraftH → GraftH) : (s.updGraft i f).flash = s.flash := rfl
@[simp] theorem State.updGraft_out (i : Nat) (f : GraftH → GraftH) : (s.updGraft i f).out = s.out := rfl
@[simp] theorem State.updGraft_pending (i : Nat) (f : GraftH → GraftH) : (s.updGraft i f).pending = s.pending := rfl
@[simp] theorem State.updGraft_tags (i : Nat) (f : GraftH → GraftH) : (s.updGraft i f).tags = s.tags := rfl
@[simp] theorem State.updGraft_cells (i : Nat) (f : GraftH → GraftH) : (s.updGraft i f).cells = s.cells := rfl
@[simp] theorem State.updGraft_queues (i : Nat) (f : GraftH → GraftH) : (s.updGraft i f).queues = s.queues := rfl
@[simp] theorem State.updGraft_rx (i : Nat) (f : GraftH → GraftH) : (s.updGraft i f).rx = s.rx := rfl
@[simp] theorem State.updGraft_log (i : Nat) (f : GraftH → GraftH) : (s.updGraft i f).log = s.log := rfl
@[simp] theorem State.updGraft_closedPip (i : Nat) (f : GraftH → GraftH) : (s.updGraft i f).closedPip = s.closedPip := rfl
@[simp] theorem State.updGraft_pendP (i : Nat) (f : GraftH → GraftH) : (s.updGraft i f).pendP = s.pendP := rfl
@[simp] theorem State.updGraft_staged (i : Nat) (f : GraftH → GraftH) : (s.updGraft i f).staged = s.staged := rfl
@[simp] theorem State.updGraft_pendB (i : Nat) (f : GraftH → GraftH) : (s.updGraft i f).pendB = s.pendB := rfl
@[simp] theorem State.updGraft_get (i : Nat) (f : GraftH → GraftH) (o : Obj) (r : Nat) : (s.updGraft i f).get o r = s.get o r := rfl
@[simp] theorem State.updGraft_grafts (i : Nat) (f : GraftH → GraftH) : (s.updGraft i f).grafts = s.grafts.updD {} i f := rfl

/-! ## updIrq -/

@[simp] theorem State.updIrq_objs (i : Nat) (f : IrqH → IrqH) : (s.updIrq i f).objs = s.objs := rfl
@[simp] theorem State.updIrq_errs (i : Nat) (f : IrqH → IrqH) : (s.updIrq i f).errs = s.errs := rfl
@[simp] theorem State.updIrq_now (i : Nat) (f : IrqH → IrqH) : (s.updIrq i f).now = s.now := rfl
@[simp] theorem State.updIrq_boot (i : Nat) (f : IrqH → IrqH) : (s.updIrq i f).boot = s.boot := rfl
@[simp] theorem State.updIrq_flash (i : Nat) (f : IrqH → IrqH) : (s.updIrq i f).flash = s.flash := rfl
@[simp] theorem State.updIrq_out (i : Nat) (f : IrqH → IrqH) : (s.updIrq i f).out = s.out := rfl
@[simp] theorem State.updIrq_pending (i : Nat) (f : IrqH → IrqH) : (s.updIrq i f).pending = s.pending := rfl
@[simp] theorem State.updIrq_tags (i : Nat) (f : IrqH → IrqH) : (s.updIrq i f).tags = s.tags := rfl
@[simp] theorem State.updIrq_cells (i : Nat) (f : IrqH → IrqH) : (s.updIrq i f).cells = s.cells := rfl
@[simp] theorem State.updIrq_queues (i : Nat) (f : IrqH → IrqH) : (s.updIrq i f).queues = s.queues := rfl
@[simp] theorem State.updIrq_rx (i : Nat) (f : IrqH → IrqH) : (s.updIrq i f).rx = s.rx := rfl
@[simp] theorem State.updIrq_log (i : Nat) (f : IrqH → IrqH) : (s.updIrq i f).log = s.log := rfl
@[simp] theorem State.updIrq_closedPip (i : Nat) (f : IrqH → IrqH) : (s.updIrq i f).closedPip = s.closedPip := rfl
@[simp] theorem State.updIrq_pendP (i : Nat) (f : IrqH → IrqH) : (s.updIrq i f).pendP = s.pendP := rfl
@[simp] theorem State.updIrq_staged (i : Nat) (f : IrqH → IrqH) : (s.updIrq i f).staged = s.staged := rfl
@[simp] theorem State.updIrq_pendB (i : Nat) (f : IrqH → IrqH) : (s.updIrq i f).pendB = s.pendB := rfl
@[simp] theorem State.updIrq_get (i : Nat) (f : IrqH → IrqH) (o : Obj) (r : Nat) : (s.updIrq i f).get o r = s.get o r := rfl
@[simp] theorem State.updIrq_irqs (i : Nat) (f : IrqH → IrqH) : (s.updIrq i f).irqs = s.irqs.updD {} i f := rfl

/-! ## updPair -/

@[simp] theorem State.updPair_objs (i : Nat) (f : PairH → PairH) : (s.updPair i f).objs = s.objs := rfl
@[simp] theorem State.updPair_errs (i : Nat) (f : PairH → PairH) : (s.updPair i f).errs = s.errs := rfl
@[simp] theorem State.updPair_now (i : Nat) (f : PairH → PairH) : (s.updPair i f).now = s.now := rfl
@[simp] theorem State.updPair_boot (i : Nat) (f : PairH → PairH) : (s.updPair i f).boot = s.boot := rfl
@[simp] theorem State.updPair_flash (i : Nat) (f : PairH → PairH) : (s.updPair i f).flash = s.flash := rfl
@[simp] theorem State.updPair_out (i : Nat) (f : PairH → PairH) : (s.updPair i f).out = s.out := rfl
@[simp] theorem State.updPair_pending (i : Nat) (f : PairH → PairH) : (s.updPair i f).pending = s.pending := rfl
@[simp] theorem State.updPair_tags (i : Nat) (f : PairH → PairH) : (s.updPair i f).tags = s.tags := rfl
@[simp] theorem State.updPair_cells (i : Nat) (f : PairH → PairH) : (s.updPair i f).cells = s.cells := rfl
@[simp] theorem State.updPair_queues (i : Nat) (f : PairH → PairH) : (s.updPair i f).queues = s.queues := rfl
@[simp] theorem State.updPair_rx (i : Nat) (f : PairH → PairH) : (s.updPair i f).rx = s.rx := rfl
@[simp] theorem State.updPair_log (i : Nat) (f : PairH → PairH) : (s.updPair i f).log = s.log := rfl
@[simp] theorem State.updPair_closedPip (i : Nat) (f : PairH → PairH) : (s.updPair i f).closedPip = s.closedPip := rfl
@[simp] theorem State.updPair_pendP (i : Nat) (f : PairH → PairH) : (s.updPair i f).pendP = s.pendP := rfl
@[simp] theorem State.updPair_staged (i : Nat) (f : PairH → PairH) : (s.updPair i f).staged = s.staged := rfl
@[simp] theorem State.updPair_pendB (i : Nat) (f : PairH → PairH) : (s.updPair i f).pendB = s.pendB := rfl
@[simp] theorem State.updPair_get (i : Nat) (f : PairH → PairH) (o : Obj) (r : Nat) : (s.updPair i f).get o r = s.get o r := rfl
@[simp] theorem State.updPair_pairs (i : Nat) (f : PairH → PairH) : (s.updPair i f).pairs = s.pairs.updD {} i f := rfl

/-! ## updMbox -/

@[simp] theorem State.updMbox_objs (i : Nat) (f : MboxH → MboxH) : (s.updMbox i f).objs = s.objs := rfl
@[simp] theorem State.updMbox_errs (i : Nat) (f : MboxH → MboxH) : (s.updMbox i f).errs = s.errs := rfl
@[simp] theorem State.updMbox_now (i : Nat) (f : MboxH → MboxH) : (s.updMbox i f).now = s.now := rfl
@[simp] theorem State.updMbox_boot (i : Nat) (f : MboxH → MboxH) : (s.updMbox i f).boot = s.boot := rfl
@[simp] theorem State.updMbox_flash (i : Nat) (f : MboxH → MboxH) : (s.updMbox i f).flash = s.flash := rfl
@[simp] theorem State.updMbox_out (i : Nat) (f : MboxH → MboxH) : (s.updMbox i f).out = s.out := rfl
@[simp] theorem State.updMbox_pending (i : Nat) (f : MboxH → MboxH) : (s.updMbox i f).pending = s.pending := rfl
@[simp] theorem State.updMbox_tags (i : Nat) (f : MboxH → MboxH) : (s.updMbox i f).tags = s.tags := rfl
@[simp] theorem State.updMbox_cells (i : Nat) (f : MboxH → MboxH) : (s.updMbox i f).cells = s.cells := rfl
@[simp] theorem State.updMbox_queues (i : Nat) (f : MboxH → MboxH) : (s.updMbox i f).queues = s.queues := rfl
@[simp] theorem State.updMbox_rx (i : Nat) (f : MboxH → MboxH) : (s.updMbox i f).rx = s.rx := rfl
@[simp] theorem State.updMbox_log (i : Nat) (f : MboxH → MboxH) : (s.updMbox i f).log = s.log := rfl
@[simp] theorem State.updMbox_closedPip (i : Nat) (f : MboxH → MboxH) : (s.updMbox i f).closedPip = s.closedPip := rfl
@[simp] theorem State.updMbox_pendP (i : Nat) (f : MboxH → MboxH) : (s.updMbox i f).pendP = s.pendP := rfl
@[simp] theorem State.updMbox_staged (i : Nat) (f : MboxH → MboxH) : (s.updMbox i f).staged = s.staged := rfl
@[simp] theorem State.updMbox_pendB (i : Nat) (f : MboxH → MboxH) : (s.updMbox i f).pendB = s.pendB := rfl
@[simp] theorem State.updMbox_get (i : Nat) (f : MboxH → MboxH) (o : Obj) (r : Nat) : (s.updMbox i f).get o r = s.get o r := rfl
@[simp] theorem State.updMbox_mboxes (i : Nat) (f : MboxH → MboxH) : (s.updMbox i f).mboxes = s.mboxes.updD {} i f := rfl

/-! ## updTrain -/

@[simp] theorem State.updTrain_objs (i : Nat) (f : TrainH → TrainH) : (s.updTrain i f).objs = s.objs := rfl
@[simp] theorem State.updTrain_errs (i : Nat) (f : TrainH → TrainH) : (s.updTrain i f).errs = s.errs := rfl
@[simp] theorem State.updTrain_now (i : Nat) (f : TrainH → TrainH) : (s.updTrain i f).now = s.now := rfl
@[simp] theorem State.updTrain_boot (i : Nat) (f : TrainH → TrainH) : (s.updTrain i f).boot = s.boot := rfl
@[simp] theorem State.updTrain_flash (i : Nat) (f : TrainH → TrainH) : (s.updTrain i f).flash = s.flash := rfl
@[simp] theorem State.updTrain_out (i : Nat) (f : TrainH → TrainH) : (s.updTrain i f).out = s.out := rfl
@[simp] theorem State.updTrain_pending (i : Nat) (f : TrainH → TrainH) : (s.updTrain i f).pending = s.pending := rfl
@[simp] theorem State.updTrain_tags (i : Nat) (f : TrainH → TrainH) : (s.updTrain i f).tags = s.tags := rfl
@[simp] theorem State.updTrain_cells (i : Nat) (f : TrainH → TrainH) : (s.updTrain i f).cells = s.cells := rfl
@[simp] theorem State.updTrain_queues (i : Nat) (f : TrainH → TrainH) : (s.updTrain i f).queues = s.queues := rfl
@[simp] theorem State.updTrain_rx (i : Nat) (f : TrainH → TrainH) : (s.updTrain i f).rx = s.rx := rfl
@[simp] theorem State.updTrain_log (i : Nat) (f : TrainH → TrainH) : (s.updTrain i f).log = s.log := rfl
@[simp] theorem State.updTrain_closedPip (i : Nat) (f : TrainH → TrainH) : (s.updTrain i f).closedPip = s.closedPip := rfl
@[simp] theorem State.updTrain_pendP (i : Nat) (f : TrainH → TrainH) : (s.updTrain i f).pendP = s.pendP := rfl
@[simp] theorem State.updTrain_staged (i : Nat) (f : TrainH → TrainH) : (s.updTrain i f).staged = s.staged := rfl
@[simp] theorem State.updTrain_pendB (i : Nat) (f : TrainH → TrainH) : (s.updTrain i f).pendB = s.pendB := rfl
@[simp] theorem State.updTrain_get (i : Nat) (f : TrainH → TrainH) (o : Obj) (r : Nat) : (s.updTrain i f).get o r = s.get o r := rfl
@[simp] theorem State.updTrain_trains (i : Nat) (f : TrainH → TrainH) : (s.updTrain i f).trains = s.trains.updD {} i f := rfl

/-! ## updLane -/

@[simp] theorem State.updLane_objs (i : Nat) (f : LaneH → LaneH) : (s.updLane i f).objs = s.objs := rfl
@[simp] theorem State.updLane_errs (i : Nat) (f : LaneH → LaneH) : (s.updLane i f).errs = s.errs := rfl
@[simp] theorem State.updLane_now (i : Nat) (f : LaneH → LaneH) : (s.updLane i f).now = s.now := rfl
@[simp] theorem State.updLane_boot (i : Nat) (f : LaneH → LaneH) : (s.updLane i f).boot = s.boot := rfl
@[simp] theorem State.updLane_flash (i : Nat) (f : LaneH → LaneH) : (s.updLane i f).flash = s.flash := rfl
@[simp] theorem State.updLane_out (i : Nat) (f : LaneH → LaneH) : (s.updLane i f).out = s.out := rfl
@[simp] theorem State.updLane_pending (i : Nat) (f : LaneH → LaneH) : (s.updLane i f).pending = s.pending := rfl
@[simp] theorem State.updLane_tags (i : Nat) (f : LaneH → LaneH) : (s.updLane i f).tags = s.tags := rfl
@[simp] theorem State.updLane_cells (i : Nat) (f : LaneH → LaneH) : (s.updLane i f).cells = s.cells := rfl
@[simp] theorem State.updLane_queues (i : Nat) (f : LaneH → LaneH) : (s.updLane i f).queues = s.queues := rfl
@[simp] theorem State.updLane_rx (i : Nat) (f : LaneH → LaneH) : (s.updLane i f).rx = s.rx := rfl
@[simp] theorem State.updLane_log (i : Nat) (f : LaneH → LaneH) : (s.updLane i f).log = s.log := rfl
@[simp] theorem State.updLane_closedPip (i : Nat) (f : LaneH → LaneH) : (s.updLane i f).closedPip = s.closedPip := rfl
@[simp] theorem State.updLane_pendP (i : Nat) (f : LaneH → LaneH) : (s.updLane i f).pendP = s.pendP := rfl
@[simp] theorem State.updLane_staged (i : Nat) (f : LaneH → LaneH) : (s.updLane i f).staged = s.staged := rfl
@[simp] theorem State.updLane_pendB (i : Nat) (f : LaneH → LaneH) : (s.updLane i f).pendB = s.pendB := rfl
@[simp] theorem State.updLane_get (i : Nat) (f : LaneH → LaneH) (o : Obj) (r : Nat) : (s.updLane i f).get o r = s.get o r := rfl
@[simp] theorem State.updLane_lanes (i : Nat) (f : LaneH → LaneH) : (s.updLane i f).lanes = s.lanes.updD {} i f := rfl

/-! ## updLink -/

@[simp] theorem State.updLink_objs (i : Nat) (f : LinkH → LinkH) : (s.updLink i f).objs = s.objs := rfl
@[simp] theorem State.updLink_errs (i : Nat) (f : LinkH → LinkH) : (s.updLink i f).errs = s.errs := rfl
@[simp] theorem State.updLink_now (i : Nat) (f : LinkH → LinkH) : (s.updLink i f).now = s.now := rfl
@[simp] theorem State.updLink_boot (i : Nat) (f : LinkH → LinkH) : (s.updLink i f).boot = s.boot := rfl
@[simp] theorem State.updLink_flash (i : Nat) (f : LinkH → LinkH) : (s.updLink i f).flash = s.flash := rfl
@[simp] theorem State.updLink_out (i : Nat) (f : LinkH → LinkH) : (s.updLink i f).out = s.out := rfl
@[simp] theorem State.updLink_pending (i : Nat) (f : LinkH → LinkH) : (s.updLink i f).pending = s.pending := rfl
@[simp] theorem State.updLink_tags (i : Nat) (f : LinkH → LinkH) : (s.updLink i f).tags = s.tags := rfl
@[simp] theorem State.updLink_cells (i : Nat) (f : LinkH → LinkH) : (s.updLink i f).cells = s.cells := rfl
@[simp] theorem State.updLink_queues (i : Nat) (f : LinkH → LinkH) : (s.updLink i f).queues = s.queues := rfl
@[simp] theorem State.updLink_rx (i : Nat) (f : LinkH → LinkH) : (s.updLink i f).rx = s.rx := rfl
@[simp] theorem State.updLink_log (i : Nat) (f : LinkH → LinkH) : (s.updLink i f).log = s.log := rfl
@[simp] theorem State.updLink_closedPip (i : Nat) (f : LinkH → LinkH) : (s.updLink i f).closedPip = s.closedPip := rfl
@[simp] theorem State.updLink_pendP (i : Nat) (f : LinkH → LinkH) : (s.updLink i f).pendP = s.pendP := rfl
@[simp] theorem State.updLink_staged (i : Nat) (f : LinkH → LinkH) : (s.updLink i f).staged = s.staged := rfl
@[simp] theorem State.updLink_pendB (i : Nat) (f : LinkH → LinkH) : (s.updLink i f).pendB = s.pendB := rfl
@[simp] theorem State.updLink_get (i : Nat) (f : LinkH → LinkH) (o : Obj) (r : Nat) : (s.updLink i f).get o r = s.get o r := rfl
@[simp] theorem State.updLink_links (i : Nat) (f : LinkH → LinkH) : (s.updLink i f).links = s.links.updD {} i f := rfl

/-! ## updPport -/

@[simp] theorem State.updPport_objs (i : Nat) (f : PPort → PPort) : (s.updPport i f).objs = s.objs := rfl
@[simp] theorem State.updPport_errs (i : Nat) (f : PPort → PPort) : (s.updPport i f).errs = s.errs := rfl
@[simp] theorem State.updPport_now (i : Nat) (f : PPort → PPort) : (s.updPport i f).now = s.now := rfl
@[simp] theorem State.updPport_boot (i : Nat) (f : PPort → PPort) : (s.updPport i f).boot = s.boot := rfl
@[simp] theorem State.updPport_flash (i : Nat) (f : PPort → PPort) : (s.updPport i f).flash = s.flash := rfl
@[simp] theorem State.updPport_out (i : Nat) (f : PPort → PPort) : (s.updPport i f).out = s.out := rfl
@[simp] theorem State.updPport_pending (i : Nat) (f : PPort → PPort) : (s.updPport i f).pending = s.pending := rfl
@[simp] theorem State.updPport_tags (i : Nat) (f : PPort → PPort) : (s.updPport i f).tags = s.tags := rfl
@[simp] theorem State.updPport_cells (i : Nat) (f : PPort → PPort) : (s.updPport i f).cells = s.cells := rfl
@[simp] theorem State.updPport_queues (i : Nat) (f : PPort → PPort) : (s.updPport i f).queues = s.queues := rfl
@[simp] theorem State.updPport_rx (i : Nat) (f : PPort → PPort) : (s.updPport i f).rx = s.rx := rfl
@[simp] theorem State.updPport_log (i : Nat) (f : PPort → PPort) : (s.updPport i f).log = s.log := rfl
@[simp] theorem State.updPport_closedPip (i : Nat) (f : PPort → PPort) : (s.updPport i f).closedPip = s.closedPip := rfl
@[simp] theorem State.updPport_pendP (i : Nat) (f : PPort → PPort) : (s.updPport i f).pendP = s.pendP := rfl
@[simp] theorem State.updPport_staged (i : Nat) (f : PPort → PPort) : (s.updPport i f).staged = s.staged := rfl
@[simp] theorem State.updPport_pendB (i : Nat) (f : PPort → PPort) : (s.updPport i f).pendB = s.pendB := rfl
@[simp] theorem State.updPport_get (i : Nat) (f : PPort → PPort) (o : Obj) (r : Nat) : (s.updPport i f).get o r = s.get o r := rfl
@[simp] theorem State.updPport_pports (i : Nat) (f : PPort → PPort) : (s.updPport i f).pports = s.pports.updD {} i f := rfl

/-! ## updPerst -/

@[simp] theorem State.updPerst_objs (i : Nat) (f : PerstH → PerstH) : (s.updPerst i f).objs = s.objs := rfl
@[simp] theorem State.updPerst_errs (i : Nat) (f : PerstH → PerstH) : (s.updPerst i f).errs = s.errs := rfl
@[simp] theorem State.updPerst_now (i : Nat) (f : PerstH → PerstH) : (s.updPerst i f).now = s.now := rfl
@[simp] theorem State.updPerst_boot (i : Nat) (f : PerstH → PerstH) : (s.updPerst i f).boot = s.boot := rfl
@[simp] theorem State.updPerst_flash (i : Nat) (f : PerstH → PerstH) : (s.updPerst i f).flash = s.flash := rfl
@[simp] theorem State.updPerst_out (i : Nat) (f : PerstH → PerstH) : (s.updPerst i f).out = s.out := rfl
@[simp] theorem State.updPerst_pending (i : Nat) (f : PerstH → PerstH) : (s.updPerst i f).pending = s.pending := rfl
@[simp] theorem State.updPerst_tags (i : Nat) (f : PerstH → PerstH) : (s.updPerst i f).tags = s.tags := rfl
@[simp] theorem State.updPerst_cells (i : Nat) (f : PerstH → PerstH) : (s.updPerst i f).cells = s.cells := rfl
@[simp] theorem State.updPerst_queues (i : Nat) (f : PerstH → PerstH) : (s.updPerst i f).queues = s.queues := rfl
@[simp] theorem State.updPerst_rx (i : Nat) (f : PerstH → PerstH) : (s.updPerst i f).rx = s.rx := rfl
@[simp] theorem State.updPerst_log (i : Nat) (f : PerstH → PerstH) : (s.updPerst i f).log = s.log := rfl
@[simp] theorem State.updPerst_closedPip (i : Nat) (f : PerstH → PerstH) : (s.updPerst i f).closedPip = s.closedPip := rfl
@[simp] theorem State.updPerst_pendP (i : Nat) (f : PerstH → PerstH) : (s.updPerst i f).pendP = s.pendP := rfl
@[simp] theorem State.updPerst_staged (i : Nat) (f : PerstH → PerstH) : (s.updPerst i f).staged = s.staged := rfl
@[simp] theorem State.updPerst_pendB (i : Nat) (f : PerstH → PerstH) : (s.updPerst i f).pendB = s.pendB := rfl
@[simp] theorem State.updPerst_get (i : Nat) (f : PerstH → PerstH) (o : Obj) (r : Nat) : (s.updPerst i f).get o r = s.get o r := rfl
@[simp] theorem State.updPerst_perst (i : Nat) (f : PerstH → PerstH) : (s.updPerst i f).perst = s.perst.updD {} i f := rfl

/-! ## updSlot -/

@[simp] theorem State.updSlot_objs (i : Nat) (f : SlotH → SlotH) : (s.updSlot i f).objs = s.objs := rfl
@[simp] theorem State.updSlot_errs (i : Nat) (f : SlotH → SlotH) : (s.updSlot i f).errs = s.errs := rfl
@[simp] theorem State.updSlot_now (i : Nat) (f : SlotH → SlotH) : (s.updSlot i f).now = s.now := rfl
@[simp] theorem State.updSlot_boot (i : Nat) (f : SlotH → SlotH) : (s.updSlot i f).boot = s.boot := rfl
@[simp] theorem State.updSlot_flash (i : Nat) (f : SlotH → SlotH) : (s.updSlot i f).flash = s.flash := rfl
@[simp] theorem State.updSlot_out (i : Nat) (f : SlotH → SlotH) : (s.updSlot i f).out = s.out := rfl
@[simp] theorem State.updSlot_pending (i : Nat) (f : SlotH → SlotH) : (s.updSlot i f).pending = s.pending := rfl
@[simp] theorem State.updSlot_tags (i : Nat) (f : SlotH → SlotH) : (s.updSlot i f).tags = s.tags := rfl
@[simp] theorem State.updSlot_cells (i : Nat) (f : SlotH → SlotH) : (s.updSlot i f).cells = s.cells := rfl
@[simp] theorem State.updSlot_queues (i : Nat) (f : SlotH → SlotH) : (s.updSlot i f).queues = s.queues := rfl
@[simp] theorem State.updSlot_rx (i : Nat) (f : SlotH → SlotH) : (s.updSlot i f).rx = s.rx := rfl
@[simp] theorem State.updSlot_log (i : Nat) (f : SlotH → SlotH) : (s.updSlot i f).log = s.log := rfl
@[simp] theorem State.updSlot_closedPip (i : Nat) (f : SlotH → SlotH) : (s.updSlot i f).closedPip = s.closedPip := rfl
@[simp] theorem State.updSlot_pendP (i : Nat) (f : SlotH → SlotH) : (s.updSlot i f).pendP = s.pendP := rfl
@[simp] theorem State.updSlot_staged (i : Nat) (f : SlotH → SlotH) : (s.updSlot i f).staged = s.staged := rfl
@[simp] theorem State.updSlot_pendB (i : Nat) (f : SlotH → SlotH) : (s.updSlot i f).pendB = s.pendB := rfl
@[simp] theorem State.updSlot_get (i : Nat) (f : SlotH → SlotH) (o : Obj) (r : Nat) : (s.updSlot i f).get o r = s.get o r := rfl
@[simp] theorem State.updSlot_slots (i : Nat) (f : SlotH → SlotH) : (s.updSlot i f).slots = s.slots.updD {} i f := rfl

/-! ## updUp -/

@[simp] theorem State.updUp_objs (i : Nat) (f : UpBridge → UpBridge) : (s.updUp i f).objs = s.objs := rfl
@[simp] theorem State.updUp_errs (i : Nat) (f : UpBridge → UpBridge) : (s.updUp i f).errs = s.errs := rfl
@[simp] theorem State.updUp_now (i : Nat) (f : UpBridge → UpBridge) : (s.updUp i f).now = s.now := rfl
@[simp] theorem State.updUp_boot (i : Nat) (f : UpBridge → UpBridge) : (s.updUp i f).boot = s.boot := rfl
@[simp] theorem State.updUp_flash (i : Nat) (f : UpBridge → UpBridge) : (s.updUp i f).flash = s.flash := rfl
@[simp] theorem State.updUp_out (i : Nat) (f : UpBridge → UpBridge) : (s.updUp i f).out = s.out := rfl
@[simp] theorem State.updUp_pending (i : Nat) (f : UpBridge → UpBridge) : (s.updUp i f).pending = s.pending := rfl
@[simp] theorem State.updUp_tags (i : Nat) (f : UpBridge → UpBridge) : (s.updUp i f).tags = s.tags := rfl
@[simp] theorem State.updUp_cells (i : Nat) (f : UpBridge → UpBridge) : (s.updUp i f).cells = s.cells := rfl
@[simp] theorem State.updUp_queues (i : Nat) (f : UpBridge → UpBridge) : (s.updUp i f).queues = s.queues := rfl
@[simp] theorem State.updUp_rx (i : Nat) (f : UpBridge → UpBridge) : (s.updUp i f).rx = s.rx := rfl
@[simp] theorem State.updUp_log (i : Nat) (f : UpBridge → UpBridge) : (s.updUp i f).log = s.log := rfl
@[simp] theorem State.updUp_closedPip (i : Nat) (f : UpBridge → UpBridge) : (s.updUp i f).closedPip = s.closedPip := rfl
@[simp] theorem State.updUp_pendP (i : Nat) (f : UpBridge → UpBridge) : (s.updUp i f).pendP = s.pendP := rfl
@[simp] theorem State.updUp_staged (i : Nat) (f : UpBridge → UpBridge) : (s.updUp i f).staged = s.staged := rfl
@[simp] theorem State.updUp_pendB (i : Nat) (f : UpBridge → UpBridge) : (s.updUp i f).pendB = s.pendB := rfl
@[simp] theorem State.updUp_get (i : Nat) (f : UpBridge → UpBridge) (o : Obj) (r : Nat) : (s.updUp i f).get o r = s.get o r := rfl
@[simp] theorem State.updUp_ups (i : Nat) (f : UpBridge → UpBridge) : (s.updUp i f).ups = s.ups.updD {} i f := rfl

end Sys2Proof.Machine
end

