-- ==== Sys2Proof/Laws/Tab.lean ====
section
/-! SUPPORT. Sparse tables: what is read after an entry is written, erased or changed. -/

namespace Sys2Proof.Machine

variable {α : Type}

@[simp] theorem Tab.find_nil (i : Nat) : Tab.find ([] : Tab α) i = none := rfl

theorem Tab.find_set (t : Tab α) (i : Nat) (a : α) (j : Nat) :
    (t.set i a).find j = if i = j then some a else t.find j := by
  induction t with
  | nil => simp [Tab.set, Tab.find]
  | cons x t ih =>
    obtain ⟨k, v⟩ := x
    unfold Tab.set
    split
    · next h => subst h; by_cases hj : k = j <;> simp [Tab.find, hj]
    · split
      · by_cases hj : i = j <;> simp [Tab.find, hj]
      · next h _ =>
        simp only [Tab.find, ih]
        by_cases hk : k = j
        · subst hk; simp [Ne.symm h]
        · simp [hk]

theorem Tab.find_erase (t : Tab α) (i j : Nat) :
    (t.erase i).find j = if i = j then none else t.find j := by
  induction t with
  | nil => simp [Tab.erase, Tab.find]
  | cons x t ih =>
    obtain ⟨k, v⟩ := x
    unfold Tab.erase
    split
    · next h => subst h; rw [ih]; by_cases hj : k = j <;> simp [Tab.find, hj]
    · next h =>
      simp only [Tab.find, ih]
      by_cases hk : k = j
      · subst hk; simp [Ne.symm h]
      · simp [hk]

@[simp] theorem Tab.getD_nil (d : α) (i : Nat) : Tab.getD ([] : Tab α) d i = d := rfl

/-- A read after a write of a table: the value at its own key, every other key as before. -/
theorem Tab.getD_set (t : Tab α) (d : α) (i : Nat) (a : α) (j : Nat) :
    (t.set i a).getD d j = if i = j then a else t.getD d j := by
  unfold Tab.getD; rw [Tab.find_set]; split <;> rfl

theorem Tab.getD_erase (t : Tab α) (d : α) (i j : Nat) :
    (t.erase i).getD d j = if i = j then d else t.getD d j := by
  unfold Tab.getD; rw [Tab.find_erase]; split <;> rfl

theorem Tab.getD_putD [DecidableEq α] (t : Tab α) (d : α) (i : Nat) (a : α) (j : Nat) :
    (t.putD d i a).getD d j = if i = j then a else t.getD d j := by
  unfold Tab.putD
  split
  · next h => rw [Tab.getD_erase, h]
  · rw [Tab.getD_set]

theorem Tab.find_putD_ne [DecidableEq α] {i j : Nat} (h : i ≠ j) (t : Tab α) (d : α) (a : α) :
    (t.putD d i a).find j = t.find j := by
  unfold Tab.putD
  split <;> simp [Tab.find_erase, Tab.find_set, h]

theorem Tab.getD_updD [DecidableEq α] (t : Tab α) (d : α) (i : Nat) (f : α → α) (j : Nat) :
    (t.updD d i f).getD d j = if i = j then f (t.getD d i) else t.getD d j := Tab.getD_putD ..

end Sys2Proof.Machine
end

