-- ==== Sys2Proof/Laws/Dict.lean ====
section
/-! SUPPORT. The dictionary: a read after a write of an object's row. -/

namespace Sys2Proof.Machine

open Sys2Proof

theorem column_setColumn (t : List (Obj × Tab Nat)) (o : Obj) (c : Tab Nat) (o' : Obj) :
    column (setColumn t o c) o' = if o = o' then c else column t o' := by
  induction t with
  | nil => by_cases h : o = o' <;> simp [setColumn, column, h]
  | cons x t ih =>
    obtain ⟨k, d⟩ := x
    unfold setColumn
    split
    · next h => subst h; by_cases h' : k = o' <;> simp [column, h']
    · split
      · by_cases h' : o = o' <;> simp [column, h']
      · next h _ =>
        simp only [column, ih]
        by_cases hk : k = o'
        · subst hk; simp [Ne.symm h]
        · simp [hk]

/-- A read after a write of the dictionary: the value at the row written, every other row of every object as
before. -/
theorem State.get_put (s : State) (o : Obj) (i v : Nat) (o' : Obj) (j : Nat) :
    (s.put o i v).get o' j = if o = o' ∧ i = j then v else s.get o' j := by
  unfold State.get State.put
  simp only [column_setColumn]
  by_cases h : o = o'
  · subst h
    by_cases hi : i = j
    · subst hi; simp [Tab.getD_putD]
    · simp [Tab.getD, Tab.find_putD_ne hi, hi]
  · simp [h]

@[simp] theorem State.get_put_same (s : State) (o : Obj) (i v : Nat) : (s.put o i v).get o i = v := by
  simp [State.get_put]

@[simp] theorem State.get_put_ne {o o' : Obj} (h : o ≠ o') (s : State) (i v j : Nat) :
    (s.put o i v).get o' j = s.get o' j := by simp [State.get_put, h]

@[simp] theorem State.get_put_row {i j : Nat} (h : i ≠ j) (s : State) (o o' : Obj) (v : Nat) :
    (s.put o i v).get o' j = s.get o' j := by simp [State.get_put, h]

theorem State.rowsOf_put_ne {o o' : Obj} (h : o ≠ o') (s : State) (i v : Nat) :
    (s.put o i v).rowsOf o' = s.rowsOf o' := by simp [State.rowsOf, State.put, column_setColumn, h]

/-- A counter advanced. -/
theorem State.get_bump (s : State) (o : Obj) (i n : Nat) (o' : Obj) (j : Nat) :
    (s.bump o i n).get o' j =
      if o = o' ∧ i = j then (s.get o i + n) % 2 ^ o.info.ty.bits else s.get o' j := State.get_put ..

/-- States with the same dictionary read the same. -/
theorem State.get_congr {s s' : State} (h : s'.objs = s.objs) (o : Obj) (r : Nat) : s'.get o r = s.get o r := by
  simp [State.get, h]

end Sys2Proof.Machine
end

