-- ==== Sys2Proof/Laws/Ops.lean ====
section
/-! SUPPORT. The operations that every meaning shares: time going on, the end of a command and its outcome. -/

namespace Sys2Proof.Machine

open Sys2Proof

/-- A fold of updates keeps what each of them keeps. -/
theorem foldl_keep {α β γ : Type} (f : α → β → α) (p : α → γ) (h : ∀ a b, p (f a b) = p a) (l : List β) (a : α) :
    p (l.foldl f a) = p a := by
  induction l generalizing a with
  | nil => rfl
  | cons b l ih => rw [List.foldl_cons, ih, h]

/-! ## Updates of the dictionary alone -/

/-- `s'` differs from `s` in booked objects of the dictionary alone. -/
def OnlyBooked (s' s : State) : Prop :=
  (∃ c, s' = { s with objs := c }) ∧ ∀ o r, o.booked = false → s'.get o r = s.get o r

theorem OnlyBooked.refl (s : State) : OnlyBooked s s := ⟨⟨s.objs, rfl⟩, fun _ _ _ => rfl⟩

theorem OnlyBooked.trans {a b c : State} (h : OnlyBooked c b) (g : OnlyBooked b a) : OnlyBooked c a := by
  obtain ⟨⟨x, rfl⟩, h⟩ := h
  obtain ⟨⟨y, rfl⟩, g⟩ := g
  exact ⟨⟨x, rfl⟩, fun o r ho => (h o r ho).trans (g o r ho)⟩

theorem OnlyBooked.put (s : State) {o : Obj} (ho : o.booked = true) (i v : Nat) : OnlyBooked (s.put o i v) s :=
  ⟨⟨_, rfl⟩, fun o' r h => State.get_put_ne (fun e => by subst e; simp [ho] at h) s i v r⟩

theorem OnlyBooked.foldl {β : Type} (f : State → β → State) (h : ∀ s b, OnlyBooked (f s b) s) (l : List β)
    (s : State) : OnlyBooked (l.foldl f s) s := by
  induction l generalizing s with
  | nil => exact .refl s
  | cons b l ih => exact (ih (f s b)).trans (h s b)

theorem OnlyBooked.ctrAdd (s : State) (k n : Nat) : OnlyBooked (s.ctrAdd k n) s := by
  unfold State.ctrAdd
  dsimp only
  split
  · exact .put _ rfl ..
  · exact (OnlyBooked.put _ rfl ..).trans (.put _ rfl ..)

theorem OnlyBooked.clocks (s : State) (n : Nat) : OnlyBooked (s.clocks n) s := by
  unfold State.clocks
  split
  · exact .refl s
  · refine ((OnlyBooked.foldl _ ?_ _ _).trans (OnlyBooked.foldl _ ?_ _ _)).trans (OnlyBooked.foldl _ ?_ _ _)
    · intro s k
      dsimp only
      split
      · exact .refl s
      · exact .put _ rfl ..
    · intro s r
      dsimp only
      split <;> split <;> first | exact .ctrAdd .. | exact .refl s
    · exact fun s k => .ctrAdd ..

/-! ## Time goes on -/

/-- What State.at does: clock counters advance, and time with them. -/
theorem State.at_eq (s : State) (t : Time) :
    ∃ c, s.at t = { s with objs := c, now := max s.now t, age := s.age + (t - s.now) } := by
  obtain ⟨⟨c, h⟩, -⟩ := OnlyBooked.clocks s ((s.age + (t - s.now)) / 65536 - s.age / 65536)
  exact ⟨c, by unfold State.at; rw [h]; rfl⟩

@[simp] theorem State.at_get (s : State) (t : Time) {o : Obj} (h : o.booked = false) (r : Nat) :
    (s.at t).get o r = s.get o r := by
  unfold State.at
  rw [State.moveTo_get]
  exact (OnlyBooked.clocks s _).2 o r h

@[simp] theorem State.at_now (s : State) (t : Time) : (s.at t).now = max s.now t := by
  obtain ⟨c, h⟩ := s.at_eq t; rw [h]

@[simp] theorem State.at_pip (s : State) (t : Time) : (s.at t).pip = s.pip := by
  obtain ⟨c, h⟩ := s.at_eq t; rw [h]
@[simp] theorem State.at_fresh (s : State) (t : Time) : (s.at t).fresh = s.fresh := by
  obtain ⟨c, h⟩ := s.at_eq t; rw [h]
@[simp] theorem State.at_pendP (s : State) (t : Time) : (s.at t).pendP = s.pendP := by
  obtain ⟨c, h⟩ := s.at_eq t; rw [h]
@[simp] theorem State.at_closedPip (s : State) (t : Time) : (s.at t).closedPip = s.closedPip := by
  obtain ⟨c, h⟩ := s.at_eq t; rw [h]
@[simp] theorem State.at_staged (s : State) (t : Time) : (s.at t).staged = s.staged := by
  obtain ⟨c, h⟩ := s.at_eq t; rw [h]
@[simp] theorem State.at_pendB (s : State) (t : Time) : (s.at t).pendB = s.pendB := by
  obtain ⟨c, h⟩ := s.at_eq t; rw [h]
@[simp] theorem State.at_reqs (s : State) (t : Time) : (s.at t).reqs = s.reqs := by
  obtain ⟨c, h⟩ := s.at_eq t; rw [h]
@[simp] theorem State.at_time (s : State) (t : Time) : (s.at t).time = s.time := by
  obtain ⟨c, h⟩ := s.at_eq t; rw [h]
@[simp] theorem State.at_marks (s : State) (t : Time) : (s.at t).marks = s.marks := by
  obtain ⟨c, h⟩ := s.at_eq t; rw [h]
@[simp] theorem State.at_hellos (s : State) (t : Time) : (s.at t).hellos = s.hellos := by
  obtain ⟨c, h⟩ := s.at_eq t; rw [h]
@[simp] theorem State.at_members (s : State) (t : Time) : (s.at t).members = s.members := by
  obtain ⟨c, h⟩ := s.at_eq t; rw [h]
@[simp] theorem State.at_topo (s : State) (t : Time) : (s.at t).topo = s.topo := by
  obtain ⟨c, h⟩ := s.at_eq t; rw [h]
@[simp] theorem State.at_pushWanted (s : State) (t : Time) : (s.at t).pushWanted = s.pushWanted := by
  obtain ⟨c, h⟩ := s.at_eq t; rw [h]
@[simp] theorem State.at_gone (s : State) (t : Time) : (s.at t).gone = s.gone := by
  obtain ⟨c, h⟩ := s.at_eq t; rw [h]
@[simp] theorem State.at_fns (s : State) (t : Time) : (s.at t).fns = s.fns := by
  obtain ⟨c, h⟩ := s.at_eq t; rw [h]
@[simp] theorem State.at_bridges (s : State) (t : Time) : (s.at t).bridges = s.bridges := by
  obtain ⟨c, h⟩ := s.at_eq t; rw [h]
@[simp] theorem State.at_ups (s : State) (t : Time) : (s.at t).ups = s.ups := by
  obtain ⟨c, h⟩ := s.at_eq t; rw [h]
@[simp] theorem State.at_cfg (s : State) (t : Time) : (s.at t).cfg = s.cfg := by
  obtain ⟨c, h⟩ := s.at_eq t; rw [h]
@[simp] theorem State.at_cfgWait (s : State) (t : Time) : (s.at t).cfgWait = s.cfgWait := by
  obtain ⟨c, h⟩ := s.at_eq t; rw [h]
@[simp] theorem State.at_grafts (s : State) (t : Time) : (s.at t).grafts = s.grafts := by
  obtain ⟨c, h⟩ := s.at_eq t; rw [h]
@[simp] theorem State.at_parts (s : State) (t : Time) : (s.at t).parts = s.parts := by
  obtain ⟨c, h⟩ := s.at_eq t; rw [h]
@[simp] theorem State.at_apPend (s : State) (t : Time) : (s.at t).apPend = s.apPend := by
  obtain ⟨c, h⟩ := s.at_eq t; rw [h]
@[simp] theorem State.at_grantPairs (s : State) (t : Time) : (s.at t).grantPairs = s.grantPairs := by
  obtain ⟨c, h⟩ := s.at_eq t; rw [h]
@[simp] theorem State.at_voids (s : State) (t : Time) : (s.at t).voids = s.voids := by
  obtain ⟨c, h⟩ := s.at_eq t; rw [h]
@[simp] theorem State.at_seenPip (s : State) (t : Time) : (s.at t).seenPip = s.seenPip := by
  obtain ⟨c, h⟩ := s.at_eq t; rw [h]
@[simp] theorem State.at_tags (s : State) (t : Time) : (s.at t).tags = s.tags := by
  obtain ⟨c, h⟩ := s.at_eq t; rw [h]
@[simp] theorem State.at_tagFree (s : State) (t : Time) : (s.at t).tagFree = s.tagFree := by
  obtain ⟨c, h⟩ := s.at_eq t; rw [h]
@[simp] theorem State.at_storm (s : State) (t : Time) : (s.at t).storm = s.storm := by
  obtain ⟨c, h⟩ := s.at_eq t; rw [h]
@[simp] theorem State.at_txSeq (s : State) (t : Time) : (s.at t).txSeq = s.txSeq := by
  obtain ⟨c, h⟩ := s.at_eq t; rw [h]
@[simp] theorem State.at_flagUntil (s : State) (t : Time) : (s.at t).flagUntil = s.flagUntil := by
  obtain ⟨c, h⟩ := s.at_eq t; rw [h]
@[simp] theorem State.at_streams (s : State) (t : Time) : (s.at t).streams = s.streams := by
  obtain ⟨c, h⟩ := s.at_eq t; rw [h]
@[simp] theorem State.at_cells (s : State) (t : Time) : (s.at t).cells = s.cells := by
  obtain ⟨c, h⟩ := s.at_eq t; rw [h]
@[simp] theorem State.at_bankRot (s : State) (t : Time) : (s.at t).bankRot = s.bankRot := by
  obtain ⟨c, h⟩ := s.at_eq t; rw [h]
@[simp] theorem State.at_leaks (s : State) (t : Time) : (s.at t).leaks = s.leaks := by
  obtain ⟨c, h⟩ := s.at_eq t; rw [h]
@[simp] theorem State.at_queues (s : State) (t : Time) : (s.at t).queues = s.queues := by
  obtain ⟨c, h⟩ := s.at_eq t; rw [h]
@[simp] theorem State.at_rx (s : State) (t : Time) : (s.at t).rx = s.rx := by
  obtain ⟨c, h⟩ := s.at_eq t; rw [h]
@[simp] theorem State.at_releases (s : State) (t : Time) : (s.at t).releases = s.releases := by
  obtain ⟨c, h⟩ := s.at_eq t; rw [h]
@[simp] theorem State.at_spillDue (s : State) (t : Time) : (s.at t).spillDue = s.spillDue := by
  obtain ⟨c, h⟩ := s.at_eq t; rw [h]
@[simp] theorem State.at_badWords (s : State) (t : Time) : (s.at t).badWords = s.badWords := by
  obtain ⟨c, h⟩ := s.at_eq t; rw [h]
@[simp] theorem State.at_routeTopo (s : State) (t : Time) : (s.at t).routeTopo = s.routeTopo := by
  obtain ⟨c, h⟩ := s.at_eq t; rw [h]
@[simp] theorem State.at_routeAll (s : State) (t : Time) : (s.at t).routeAll = s.routeAll := by
  obtain ⟨c, h⟩ := s.at_eq t; rw [h]
@[simp] theorem State.at_clockF (s : State) (t : Time) : (s.at t).clockF = s.clockF := by
  obtain ⟨c, h⟩ := s.at_eq t; rw [h]
@[simp] theorem State.at_touched (s : State) (t : Time) : (s.at t).touched = s.touched := by
  obtain ⟨c, h⟩ := s.at_eq t; rw [h]
@[simp] theorem State.at_xings (s : State) (t : Time) : (s.at t).xings = s.xings := by
  obtain ⟨c, h⟩ := s.at_eq t; rw [h]
@[simp] theorem State.at_oldRsvs (s : State) (t : Time) : (s.at t).oldRsvs = s.oldRsvs := by
  obtain ⟨c, h⟩ := s.at_eq t; rw [h]
@[simp] theorem State.at_dupPorts (s : State) (t : Time) : (s.at t).dupPorts = s.dupPorts := by
  obtain ⟨c, h⟩ := s.at_eq t; rw [h]
@[simp] theorem State.at_buckets (s : State) (t : Time) : (s.at t).buckets = s.buckets := by
  obtain ⟨c, h⟩ := s.at_eq t; rw [h]
@[simp] theorem State.at_meters (s : State) (t : Time) : (s.at t).meters = s.meters := by
  obtain ⟨c, h⟩ := s.at_eq t; rw [h]
@[simp] theorem State.at_withheld (s : State) (t : Time) : (s.at t).withheld = s.withheld := by
  obtain ⟨c, h⟩ := s.at_eq t; rw [h]
@[simp] theorem State.at_rsvs (s : State) (t : Time) : (s.at t).rsvs = s.rsvs := by
  obtain ⟨c, h⟩ := s.at_eq t; rw [h]
@[simp] theorem State.at_rsvJob (s : State) (t : Time) : (s.at t).rsvJob = s.rsvJob := by
  obtain ⟨c, h⟩ := s.at_eq t; rw [h]
@[simp] theorem State.at_gates (s : State) (t : Time) : (s.at t).gates = s.gates := by
  obtain ⟨c, h⟩ := s.at_eq t; rw [h]
@[simp] theorem State.at_errs (s : State) (t : Time) : (s.at t).errs = s.errs := by
  obtain ⟨c, h⟩ := s.at_eq t; rw [h]
@[simp] theorem State.at_log (s : State) (t : Time) : (s.at t).log = s.log := by
  obtain ⟨c, h⟩ := s.at_eq t; rw [h]
@[simp] theorem State.at_persist (s : State) (t : Time) : (s.at t).persist = s.persist := by
  obtain ⟨c, h⟩ := s.at_eq t; rw [h]
@[simp] theorem State.at_huskAgain (s : State) (t : Time) : (s.at t).huskAgain = s.huskAgain := by
  obtain ⟨c, h⟩ := s.at_eq t; rw [h]
@[simp] theorem State.at_pports (s : State) (t : Time) : (s.at t).pports = s.pports := by
  obtain ⟨c, h⟩ := s.at_eq t; rw [h]
@[simp] theorem State.at_links (s : State) (t : Time) : (s.at t).links = s.links := by
  obtain ⟨c, h⟩ := s.at_eq t; rw [h]
@[simp] theorem State.at_trains (s : State) (t : Time) : (s.at t).trains = s.trains := by
  obtain ⟨c, h⟩ := s.at_eq t; rw [h]
@[simp] theorem State.at_lanes (s : State) (t : Time) : (s.at t).lanes = s.lanes := by
  obtain ⟨c, h⟩ := s.at_eq t; rw [h]
@[simp] theorem State.at_spares (s : State) (t : Time) : (s.at t).spares = s.spares := by
  obtain ⟨c, h⟩ := s.at_eq t; rw [h]
@[simp] theorem State.at_perst (s : State) (t : Time) : (s.at t).perst = s.perst := by
  obtain ⟨c, h⟩ := s.at_eq t; rw [h]
@[simp] theorem State.at_slots (s : State) (t : Time) : (s.at t).slots = s.slots := by
  obtain ⟨c, h⟩ := s.at_eq t; rw [h]
@[simp] theorem State.at_mfs (s : State) (t : Time) : (s.at t).mfs = s.mfs := by
  obtain ⟨c, h⟩ := s.at_eq t; rw [h]
@[simp] theorem State.at_ctrReset (s : State) (t : Time) : (s.at t).ctrReset = s.ctrReset := by
  obtain ⟨c, h⟩ := s.at_eq t; rw [h]
@[simp] theorem State.at_subs (s : State) (t : Time) : (s.at t).subs = s.subs := by
  obtain ⟨c, h⟩ := s.at_eq t; rw [h]
@[simp] theorem State.at_regions (s : State) (t : Time) : (s.at t).regions = s.regions := by
  obtain ⟨c, h⟩ := s.at_eq t; rw [h]
@[simp] theorem State.at_badCells (s : State) (t : Time) : (s.at t).badCells = s.badCells := by
  obtain ⟨c, h⟩ := s.at_eq t; rw [h]
@[simp] theorem State.at_remaps (s : State) (t : Time) : (s.at t).remaps = s.remaps := by
  obtain ⟨c, h⟩ := s.at_eq t; rw [h]
@[simp] theorem State.at_boot (s : State) (t : Time) : (s.at t).boot = s.boot := by
  obtain ⟨c, h⟩ := s.at_eq t; rw [h]
@[simp] theorem State.at_resetAt (s : State) (t : Time) : (s.at t).resetAt = s.resetAt := by
  obtain ⟨c, h⟩ := s.at_eq t; rw [h]
@[simp] theorem State.at_resetEnd (s : State) (t : Time) : (s.at t).resetEnd = s.resetEnd := by
  obtain ⟨c, h⟩ := s.at_eq t; rw [h]
@[simp] theorem State.at_latchedPins (s : State) (t : Time) : (s.at t).latchedPins = s.latchedPins := by
  obtain ⟨c, h⟩ := s.at_eq t; rw [h]
@[simp] theorem State.at_pairs (s : State) (t : Time) : (s.at t).pairs = s.pairs := by
  obtain ⟨c, h⟩ := s.at_eq t; rw [h]
@[simp] theorem State.at_irqs (s : State) (t : Time) : (s.at t).irqs = s.irqs := by
  obtain ⟨c, h⟩ := s.at_eq t; rw [h]
@[simp] theorem State.at_mboxes (s : State) (t : Time) : (s.at t).mboxes = s.mboxes := by
  obtain ⟨c, h⟩ := s.at_eq t; rw [h]
@[simp] theorem State.at_sessions (s : State) (t : Time) : (s.at t).sessions = s.sessions := by
  obtain ⟨c, h⟩ := s.at_eq t; rw [h]
@[simp] theorem State.at_cache (s : State) (t : Time) : (s.at t).cache = s.cache := by
  obtain ⟨c, h⟩ := s.at_eq t; rw [h]
@[simp] theorem State.at_profiles (s : State) (t : Time) : (s.at t).profiles = s.profiles := by
  obtain ⟨c, h⟩ := s.at_eq t; rw [h]
@[simp] theorem State.at_storeOp (s : State) (t : Time) : (s.at t).storeOp = s.storeOp := by
  obtain ⟨c, h⟩ := s.at_eq t; rw [h]
@[simp] theorem State.at_loadNext (s : State) (t : Time) : (s.at t).loadNext = s.loadNext := by
  obtain ⟨c, h⟩ := s.at_eq t; rw [h]
@[simp] theorem State.at_firstEpoch (s : State) (t : Time) : (s.at t).firstEpoch = s.firstEpoch := by
  obtain ⟨c, h⟩ := s.at_eq t; rw [h]
@[simp] theorem State.at_flash (s : State) (t : Time) : (s.at t).flash = s.flash := by
  obtain ⟨c, h⟩ := s.at_eq t; rw [h]
@[simp] theorem State.at_fw (s : State) (t : Time) : (s.at t).fw = s.fw := by
  obtain ⟨c, h⟩ := s.at_eq t; rw [h]
@[simp] theorem State.at_sec (s : State) (t : Time) : (s.at t).sec = s.sec := by
  obtain ⟨c, h⟩ := s.at_eq t; rw [h]
@[simp] theorem State.at_denials (s : State) (t : Time) : (s.at t).denials = s.denials := by
  obtain ⟨c, h⟩ := s.at_eq t; rw [h]
@[simp] theorem State.at_snapshot (s : State) (t : Time) : (s.at t).snapshot = s.snapshot := by
  obtain ⟨c, h⟩ := s.at_eq t; rw [h]
@[simp] theorem State.at_sampler (s : State) (t : Time) : (s.at t).sampler = s.sampler := by
  obtain ⟨c, h⟩ := s.at_eq t; rw [h]
@[simp] theorem State.at_captureSeq (s : State) (t : Time) : (s.at t).captureSeq = s.captureSeq := by
  obtain ⟨c, h⟩ := s.at_eq t; rw [h]
@[simp] theorem State.at_mirrorRate (s : State) (t : Time) : (s.at t).mirrorRate = s.mirrorRate := by
  obtain ⟨c, h⟩ := s.at_eq t; rw [h]
@[simp] theorem State.at_telemetry (s : State) (t : Time) : (s.at t).telemetry = s.telemetry := by
  obtain ⟨c, h⟩ := s.at_eq t; rw [h]
@[simp] theorem State.at_ipfix (s : State) (t : Time) : (s.at t).ipfix = s.ipfix := by
  obtain ⟨c, h⟩ := s.at_eq t; rw [h]
@[simp] theorem State.at_paused (s : State) (t : Time) : (s.at t).paused = s.paused := by
  obtain ⟨c, h⟩ := s.at_eq t; rw [h]
@[simp] theorem State.at_capSince (s : State) (t : Time) : (s.at t).capSince = s.capSince := by
  obtain ⟨c, h⟩ := s.at_eq t; rw [h]
@[simp] theorem State.at_capParked (s : State) (t : Time) : (s.at t).capParked = s.capParked := by
  obtain ⟨c, h⟩ := s.at_eq t; rw [h]
@[simp] theorem State.at_refLostAt (s : State) (t : Time) : (s.at t).refLostAt = s.refLostAt := by
  obtain ⟨c, h⟩ := s.at_eq t; rw [h]
@[simp] theorem State.at_i3c (s : State) (t : Time) : (s.at t).i3c = s.i3c := by
  obtain ⟨c, h⟩ := s.at_eq t; rw [h]
@[simp] theorem State.at_jtag (s : State) (t : Time) : (s.at t).jtag = s.jtag := by
  obtain ⟨c, h⟩ := s.at_eq t; rw [h]
@[simp] theorem State.at_hbmCold (s : State) (t : Time) : (s.at t).hbmCold = s.hbmCold := by
  obtain ⟨c, h⟩ := s.at_eq t; rw [h]
@[simp] theorem State.at_out (s : State) (t : Time) : (s.at t).out = s.out := by
  obtain ⟨c, h⟩ := s.at_eq t; rw [h]
@[simp] theorem State.at_pending (s : State) (t : Time) : (s.at t).pending = s.pending := by
  obtain ⟨c, h⟩ := s.at_eq t; rw [h]

/-! ## The end of a command -/

theorem State.irqSignal_eq (s : State) (i : Nat) (high : Bool) :
    (∃ c q, s.irqSignal i high = { s with objs := c, irqs := q }) ∧
      ∀ o r, o.booked = false → (s.irqSignal i high).get o r = s.get o r := by
  constructor
  · unfold State.irqSignal
    dsimp only
    split <;> split <;> (try split) <;> exact ⟨_, _, rfl⟩
  · intro o r h
    have hc : Obj.IRQ_COUNT ≠ o := fun e => by subst e; cases h
    have hp : Obj.IRQ_PENDING ≠ o := fun e => by subst e; cases h
    unfold State.irqSignal
    dsimp only
    split <;> split <;> (try split) <;> simp [State.bump, hc, hp]

/-- What the interrupt sources of a command's end change. -/
theorem State.irqsOf_eq (s s0 : State) :
    (∃ c q, s.irqsOf s0 = { s with objs := c, irqs := q }) ∧
      ∀ o r, o.booked = false → (s.irqsOf s0).get o r = s.get o r := by
  unfold State.irqsOf
  dsimp only
  generalize (_ : List Nat) ++ _ = l
  induction l generalizing s with
  | nil => exact ⟨⟨s.objs, s.irqs, rfl⟩, fun _ _ _ => rfl⟩
  | cons i l ih =>
    obtain ⟨⟨c, q, h⟩, g⟩ := s.irqSignal_eq i true
    obtain ⟨⟨c', q', h'⟩, g'⟩ := ih (s.irqSignal i true)
    rw [List.foldl_cons]
    refine ⟨⟨c', q', ?_⟩, fun o r ho => (g' o r ho).trans (g o r ho)⟩
    rw [h', h]

theorem State.measured_booked (s s0 : State) : OnlyBooked (s.measured s0) s := by
  unfold State.measured
  exact .foldl _ (fun s i => .put _ rfl ..) _ _

/-- Where a command has raised no error, its end changes booked objects and interrupt sources alone. -/
theorem State.done_eq {s : State} (h : s.errs = []) (s0 : State) :
    (∃ c q, s.done s0 = { s with objs := c, irqs := q }) ∧
      ∀ o r, o.booked = false → (s.done s0).get o r = s.get o r := by
  have hs : s.settle = s := by unfold State.settle; simp [h]
  unfold State.done
  simp only [hs]
  split
  · exact ⟨⟨s.objs, s.irqs, rfl⟩, fun _ _ _ => rfl⟩
  · obtain ⟨⟨c, q, e⟩, g⟩ := s.irqsOf_eq s0
    split
    · obtain ⟨⟨c', e'⟩, g'⟩ := (s.irqsOf s0).measured_booked s0
      exact ⟨⟨c', q, by rw [e', e]⟩, fun o r ho => (g' o r ho).trans (g o r ho)⟩
    · exact ⟨⟨c, q, e⟩, g⟩

/-- No error is left after a command (R301). -/
theorem State.done_errs (s s0 : State) : (s.done s0).errs = [] := by
  have hs : s.settle.errs = [] := by
    unfold State.settle
    split
    · next h => simpa using h
    · rfl
  unfold State.done
  dsimp only
  split
  · exact hs
  · obtain ⟨⟨c, q, e⟩, -⟩ := s.settle.irqsOf_eq s0
    split
    · obtain ⟨⟨c', e'⟩, -⟩ := (s.settle.irqsOf s0).measured_booked s0
      rw [e', e]; exact hs
    · rw [e]; exact hs

@[simp] theorem State.finish_get {e : State} (h : e.errs = []) (s : State) {o : Obj} (ho : o.booked = false) (r : Nat) :
    (e.finish s).get o r = e.get o r := (State.done_eq h s).2 o r ho

@[simp] theorem State.finish_errs (e s : State) : (e.finish s).errs = [] := e.done_errs s

@[simp] theorem State.finish_pending (e s : State) : (e.finish s).pending = s.pending := rfl

@[simp] theorem State.finish_flash (e s : State) : (e.finish s).flash = s.flash := rfl

@[simp] theorem State.finishFlash_errs (e s : State) : (e.finishFlash s).errs = [] := e.done_errs s

@[simp] theorem State.finishFlash_pending (e s : State) : (e.finishFlash s).pending = s.pending := rfl

@[simp] theorem State.finishFlash_flash (e s : State) : (e.finishFlash s).flash = e.flash := rfl

@[simp] theorem State.finishFlash_get {e : State} (h : e.errs = []) (s : State) {o : Obj} (ho : o.booked = false)
    (r : Nat) : (e.finishFlash s).get o r = e.get o r := (State.done_eq h s).2 o r ho

@[simp] theorem State.finish_now {e : State} (h : e.errs = []) (s : State) : (e.finish s).now = e.now := by
  obtain ⟨⟨c, q, h⟩, -⟩ := State.done_eq h s; simp [State.finish, h]
@[simp] theorem State.finish_age {e : State} (h : e.errs = []) (s : State) : (e.finish s).age = e.age := by
  obtain ⟨⟨c, q, h⟩, -⟩ := State.done_eq h s; simp [State.finish, h]
@[simp] theorem State.finish_pip {e : State} (h : e.errs = []) (s : State) : (e.finish s).pip = e.pip := by
  obtain ⟨⟨c, q, h⟩, -⟩ := State.done_eq h s; simp [State.finish, h]
@[simp] theorem State.finish_fresh {e : State} (h : e.errs = []) (s : State) : (e.finish s).fresh = e.fresh := by
  obtain ⟨⟨c, q, h⟩, -⟩ := State.done_eq h s; simp [State.finish, h]
@[simp] theorem State.finish_pendP {e : State} (h : e.errs = []) (s : State) : (e.finish s).pendP = e.pendP := by
  obtain ⟨⟨c, q, h⟩, -⟩ := State.done_eq h s; simp [State.finish, h]
@[simp] theorem State.finish_closedPip {e : State} (h : e.errs = []) (s : State) : (e.finish s).closedPip = e.closedPip := by
  obtain ⟨⟨c, q, h⟩, -⟩ := State.done_eq h s; simp [State.finish, h]
@[simp] theorem State.finish_staged {e : State} (h : e.errs = []) (s : State) : (e.finish s).staged = e.staged := by
  obtain ⟨⟨c, q, h⟩, -⟩ := State.done_eq h s; simp [State.finish, h]
@[simp] theorem State.finish_pendB {e : State} (h : e.errs = []) (s : State) : (e.finish s).pendB = e.pendB := by
  obtain ⟨⟨c, q, h⟩, -⟩ := State.done_eq h s; simp [State.finish, h]
@[simp] theorem State.finish_reqs {e : State} (h : e.errs = []) (s : State) : (e.finish s).reqs = e.reqs := by
  obtain ⟨⟨c, q, h⟩, -⟩ := State.done_eq h s; simp [State.finish, h]
@[simp] theorem State.finish_time {e : State} (h : e.errs = []) (s : State) : (e.finish s).time = e.time := by
  obtain ⟨⟨c, q, h⟩, -⟩ := State.done_eq h s; simp [State.finish, h]
@[simp] theorem State.finish_marks {e : State} (h : e.errs = []) (s : State) : (e.finish s).marks = e.marks := by
  obtain ⟨⟨c, q, h⟩, -⟩ := State.done_eq h s; simp [State.finish, h]
@[simp] theorem State.finish_hellos {e : State} (h : e.errs = []) (s : State) : (e.finish s).hellos = e.hellos := by
  obtain ⟨⟨c, q, h⟩, -⟩ := State.done_eq h s; simp [State.finish, h]
@[simp] theorem State.finish_members {e : State} (h : e.errs = []) (s : State) : (e.finish s).members = e.members := by
  obtain ⟨⟨c, q, h⟩, -⟩ := State.done_eq h s; simp [State.finish, h]
@[simp] theorem State.finish_topo {e : State} (h : e.errs = []) (s : State) : (e.finish s).topo = e.topo := by
  obtain ⟨⟨c, q, h⟩, -⟩ := State.done_eq h s; simp [State.finish, h]
@[simp] theorem State.finish_pushWanted {e : State} (h : e.errs = []) (s : State) : (e.finish s).pushWanted = e.pushWanted := by
  obtain ⟨⟨c, q, h⟩, -⟩ := State.done_eq h s; simp [State.finish, h]
@[simp] theorem State.finish_gone {e : State} (h : e.errs = []) (s : State) : (e.finish s).gone = e.gone := by
  obtain ⟨⟨c, q, h⟩, -⟩ := State.done_eq h s; simp [State.finish, h]
@[simp] theorem State.finish_fns {e : State} (h : e.errs = []) (s : State) : (e.finish s).fns = e.fns := by
  obtain ⟨⟨c, q, h⟩, -⟩ := State.done_eq h s; simp [State.finish, h]
@[simp] theorem State.finish_bridges {e : State} (h : e.errs = []) (s : State) : (e.finish s).bridges = e.bridges := by
  obtain ⟨⟨c, q, h⟩, -⟩ := State.done_eq h s; simp [State.finish, h]
@[simp] theorem State.finish_ups {e : State} (h : e.errs = []) (s : State) : (e.finish s).ups = e.ups := by
  obtain ⟨⟨c, q, h⟩, -⟩ := State.done_eq h s; simp [State.finish, h]
@[simp] theorem State.finish_cfg {e : State} (h : e.errs = []) (s : State) : (e.finish s).cfg = e.cfg := by
  obtain ⟨⟨c, q, h⟩, -⟩ := State.done_eq h s; simp [State.finish, h]
@[simp] theorem State.finish_cfgWait {e : State} (h : e.errs = []) (s : State) : (e.finish s).cfgWait = e.cfgWait := by
  obtain ⟨⟨c, q, h⟩, -⟩ := State.done_eq h s; simp [State.finish, h]
@[simp] theorem State.finish_grafts {e : State} (h : e.errs = []) (s : State) : (e.finish s).grafts = e.grafts := by
  obtain ⟨⟨c, q, h⟩, -⟩ := State.done_eq h s; simp [State.finish, h]
@[simp] theorem State.finish_parts {e : State} (h : e.errs = []) (s : State) : (e.finish s).parts = e.parts := by
  obtain ⟨⟨c, q, h⟩, -⟩ := State.done_eq h s; simp [State.finish, h]
@[simp] theorem State.finish_apPend {e : State} (h : e.errs = []) (s : State) : (e.finish s).apPend = e.apPend := by
  obtain ⟨⟨c, q, h⟩, -⟩ := State.done_eq h s; simp [State.finish, h]
@[simp] theorem State.finish_grantPairs {e : State} (h : e.errs = []) (s : State) : (e.finish s).grantPairs = e.grantPairs := by
  obtain ⟨⟨c, q, h⟩, -⟩ := State.done_eq h s; simp [State.finish, h]
@[simp] theorem State.finish_voids {e : State} (h : e.errs = []) (s : State) : (e.finish s).voids = e.voids := by
  obtain ⟨⟨c, q, h⟩, -⟩ := State.done_eq h s; simp [State.finish, h]
@[simp] theorem State.finish_seenPip {e : State} (h : e.errs = []) (s : State) : (e.finish s).seenPip = e.seenPip := by
  obtain ⟨⟨c, q, h⟩, -⟩ := State.done_eq h s; simp [State.finish, h]
@[simp] theorem State.finish_tags {e : State} (h : e.errs = []) (s : State) : (e.finish s).tags = e.tags := by
  obtain ⟨⟨c, q, h⟩, -⟩ := State.done_eq h s; simp [State.finish, h]
@[simp] theorem State.finish_tagFree {e : State} (h : e.errs = []) (s : State) : (e.finish s).tagFree = e.tagFree := by
  obtain ⟨⟨c, q, h⟩, -⟩ := State.done_eq h s; simp [State.finish, h]
@[simp] theorem State.finish_storm {e : State} (h : e.errs = []) (s : State) : (e.finish s).storm = e.storm := by
  obtain ⟨⟨c, q, h⟩, -⟩ := State.done_eq h s; simp [State.finish, h]
@[simp] theorem State.finish_txSeq {e : State} (h : e.errs = []) (s : State) : (e.finish s).txSeq = e.txSeq := by
  obtain ⟨⟨c, q, h⟩, -⟩ := State.done_eq h s; simp [State.finish, h]
@[simp] theorem State.finish_flagUntil {e : State} (h : e.errs = []) (s : State) : (e.finish s).flagUntil = e.flagUntil := by
  obtain ⟨⟨c, q, h⟩, -⟩ := State.done_eq h s; simp [State.finish, h]
@[simp] theorem State.finish_streams {e : State} (h : e.errs = []) (s : State) : (e.finish s).streams = e.streams := by
  obtain ⟨⟨c, q, h⟩, -⟩ := State.done_eq h s; simp [State.finish, h]
@[simp] theorem State.finish_cells {e : State} (h : e.errs = []) (s : State) : (e.finish s).cells = e.cells := by
  obtain ⟨⟨c, q, h⟩, -⟩ := State.done_eq h s; simp [State.finish, h]
@[simp] theorem State.finish_bankRot {e : State} (h : e.errs = []) (s : State) : (e.finish s).bankRot = e.bankRot := by
  obtain ⟨⟨c, q, h⟩, -⟩ := State.done_eq h s; simp [State.finish, h]
@[simp] theorem State.finish_leaks {e : State} (h : e.errs = []) (s : State) : (e.finish s).leaks = e.leaks := by
  obtain ⟨⟨c, q, h⟩, -⟩ := State.done_eq h s; simp [State.finish, h]
@[simp] theorem State.finish_queues {e : State} (h : e.errs = []) (s : State) : (e.finish s).queues = e.queues := by
  obtain ⟨⟨c, q, h⟩, -⟩ := State.done_eq h s; simp [State.finish, h]
@[simp] theorem State.finish_rx {e : State} (h : e.errs = []) (s : State) : (e.finish s).rx = e.rx := by
  obtain ⟨⟨c, q, h⟩, -⟩ := State.done_eq h s; simp [State.finish, h]
@[simp] theorem State.finish_releases {e : State} (h : e.errs = []) (s : State) : (e.finish s).releases = e.releases := by
  obtain ⟨⟨c, q, h⟩, -⟩ := State.done_eq h s; simp [State.finish, h]
@[simp] theorem State.finish_spillDue {e : State} (h : e.errs = []) (s : State) : (e.finish s).spillDue = e.spillDue := by
  obtain ⟨⟨c, q, h⟩, -⟩ := State.done_eq h s; simp [State.finish, h]
@[simp] theorem State.finish_badWords {e : State} (h : e.errs = []) (s : State) : (e.finish s).badWords = e.badWords := by
  obtain ⟨⟨c, q, h⟩, -⟩ := State.done_eq h s; simp [State.finish, h]
@[simp] theorem State.finish_routeTopo {e : State} (h : e.errs = []) (s : State) : (e.finish s).routeTopo = e.routeTopo := by
  obtain ⟨⟨c, q, h⟩, -⟩ := State.done_eq h s; simp [State.finish, h]
@[simp] theorem State.finish_routeAll {e : State} (h : e.errs = []) (s : State) : (e.finish s).routeAll = e.routeAll := by
  obtain ⟨⟨c, q, h⟩, -⟩ := State.done_eq h s; simp [State.finish, h]
@[simp] theorem State.finish_clockF {e : State} (h : e.errs = []) (s : State) : (e.finish s).clockF = e.clockF := by
  obtain ⟨⟨c, q, h⟩, -⟩ := State.done_eq h s; simp [State.finish, h]
@[simp] theorem State.finish_touched {e : State} (h : e.errs = []) (s : State) : (e.finish s).touched = e.touched := by
  obtain ⟨⟨c, q, h⟩, -⟩ := State.done_eq h s; simp [State.finish, h]
@[simp] theorem State.finish_xings {e : State} (h : e.errs = []) (s : State) : (e.finish s).xings = e.xings := by
  obtain ⟨⟨c, q, h⟩, -⟩ := State.done_eq h s; simp [State.finish, h]
@[simp] theorem State.finish_oldRsvs {e : State} (h : e.errs = []) (s : State) : (e.finish s).oldRsvs = e.oldRsvs := by
  obtain ⟨⟨c, q, h⟩, -⟩ := State.done_eq h s; simp [State.finish, h]
@[simp] theorem State.finish_dupPorts {e : State} (h : e.errs = []) (s : State) : (e.finish s).dupPorts = e.dupPorts := by
  obtain ⟨⟨c, q, h⟩, -⟩ := State.done_eq h s; simp [State.finish, h]
@[simp] theorem State.finish_buckets {e : State} (h : e.errs = []) (s : State) : (e.finish s).buckets = e.buckets := by
  obtain ⟨⟨c, q, h⟩, -⟩ := State.done_eq h s; simp [State.finish, h]
@[simp] theorem State.finish_meters {e : State} (h : e.errs = []) (s : State) : (e.finish s).meters = e.meters := by
  obtain ⟨⟨c, q, h⟩, -⟩ := State.done_eq h s; simp [State.finish, h]
@[simp] theorem State.finish_withheld {e : State} (h : e.errs = []) (s : State) : (e.finish s).withheld = e.withheld := by
  obtain ⟨⟨c, q, h⟩, -⟩ := State.done_eq h s; simp [State.finish, h]
@[simp] theorem State.finish_rsvs {e : State} (h : e.errs = []) (s : State) : (e.finish s).rsvs = e.rsvs := by
  obtain ⟨⟨c, q, h⟩, -⟩ := State.done_eq h s; simp [State.finish, h]
@[simp] theorem State.finish_rsvJob {e : State} (h : e.errs = []) (s : State) : (e.finish s).rsvJob = e.rsvJob := by
  obtain ⟨⟨c, q, h⟩, -⟩ := State.done_eq h s; simp [State.finish, h]
@[simp] theorem State.finish_gates {e : State} (h : e.errs = []) (s : State) : (e.finish s).gates = e.gates := by
  obtain ⟨⟨c, q, h⟩, -⟩ := State.done_eq h s; simp [State.finish, h]
@[simp] theorem State.finish_log {e : State} (h : e.errs = []) (s : State) : (e.finish s).log = e.log := by
  obtain ⟨⟨c, q, h⟩, -⟩ := State.done_eq h s; simp [State.finish, h]
@[simp] theorem State.finish_persist {e : State} (h : e.errs = []) (s : State) : (e.finish s).persist = e.persist := by
  obtain ⟨⟨c, q, h⟩, -⟩ := State.done_eq h s; simp [State.finish, h]
@[simp] theorem State.finish_huskAgain {e : State} (h : e.errs = []) (s : State) : (e.finish s).huskAgain = e.huskAgain := by
  obtain ⟨⟨c, q, h⟩, -⟩ := State.done_eq h s; simp [State.finish, h]
@[simp] theorem State.finish_pports {e : State} (h : e.errs = []) (s : State) : (e.finish s).pports = e.pports := by
  obtain ⟨⟨c, q, h⟩, -⟩ := State.done_eq h s; simp [State.finish, h]
@[simp] theorem State.finish_links {e : State} (h : e.errs = []) (s : State) : (e.finish s).links = e.links := by
  obtain ⟨⟨c, q, h⟩, -⟩ := State.done_eq h s; simp [State.finish, h]
@[simp] theorem State.finish_trains {e : State} (h : e.errs = []) (s : State) : (e.finish s).trains = e.trains := by
  obtain ⟨⟨c, q, h⟩, -⟩ := State.done_eq h s; simp [State.finish, h]
@[simp] theorem State.finish_lanes {e : State} (h : e.errs = []) (s : State) : (e.finish s).lanes = e.lanes := by
  obtain ⟨⟨c, q, h⟩, -⟩ := State.done_eq h s; simp [State.finish, h]
@[simp] theorem State.finish_spares {e : State} (h : e.errs = []) (s : State) : (e.finish s).spares = e.spares := by
  obtain ⟨⟨c, q, h⟩, -⟩ := State.done_eq h s; simp [State.finish, h]
@[simp] theorem State.finish_perst {e : State} (h : e.errs = []) (s : State) : (e.finish s).perst = e.perst := by
  obtain ⟨⟨c, q, h⟩, -⟩ := State.done_eq h s; simp [State.finish, h]
@[simp] theorem State.finish_slots {e : State} (h : e.errs = []) (s : State) : (e.finish s).slots = e.slots := by
  obtain ⟨⟨c, q, h⟩, -⟩ := State.done_eq h s; simp [State.finish, h]
@[simp] theorem State.finish_mfs {e : State} (h : e.errs = []) (s : State) : (e.finish s).mfs = e.mfs := by
  obtain ⟨⟨c, q, h⟩, -⟩ := State.done_eq h s; simp [State.finish, h]
@[simp] theorem State.finish_ctrReset {e : State} (h : e.errs = []) (s : State) : (e.finish s).ctrReset = e.ctrReset := by
  obtain ⟨⟨c, q, h⟩, -⟩ := State.done_eq h s; simp [State.finish, h]
@[simp] theorem State.finish_subs {e : State} (h : e.errs = []) (s : State) : (e.finish s).subs = e.subs := by
  obtain ⟨⟨c, q, h⟩, -⟩ := State.done_eq h s; simp [State.finish, h]
@[simp] theorem State.finish_regions {e : State} (h : e.errs = []) (s : State) : (e.finish s).regions = e.regions := by
  obtain ⟨⟨c, q, h⟩, -⟩ := State.done_eq h s; simp [State.finish, h]
@[simp] theorem State.finish_badCells {e : State} (h : e.errs = []) (s : State) : (e.finish s).badCells = e.badCells := by
  obtain ⟨⟨c, q, h⟩, -⟩ := State.done_eq h s; simp [State.finish, h]
@[simp] theorem State.finish_remaps {e : State} (h : e.errs = []) (s : State) : (e.finish s).remaps = e.remaps := by
  obtain ⟨⟨c, q, h⟩, -⟩ := State.done_eq h s; simp [State.finish, h]
@[simp] theorem State.finish_boot {e : State} (h : e.errs = []) (s : State) : (e.finish s).boot = e.boot := by
  obtain ⟨⟨c, q, h⟩, -⟩ := State.done_eq h s; simp [State.finish, h]
@[simp] theorem State.finish_resetAt {e : State} (h : e.errs = []) (s : State) : (e.finish s).resetAt = e.resetAt := by
  obtain ⟨⟨c, q, h⟩, -⟩ := State.done_eq h s; simp [State.finish, h]
@[simp] theorem State.finish_resetEnd {e : State} (h : e.errs = []) (s : State) : (e.finish s).resetEnd = e.resetEnd := by
  obtain ⟨⟨c, q, h⟩, -⟩ := State.done_eq h s; simp [State.finish, h]
@[simp] theorem State.finish_latchedPins {e : State} (h : e.errs = []) (s : State) : (e.finish s).latchedPins = e.latchedPins := by
  obtain ⟨⟨c, q, h⟩, -⟩ := State.done_eq h s; simp [State.finish, h]
@[simp] theorem State.finish_pairs {e : State} (h : e.errs = []) (s : State) : (e.finish s).pairs = e.pairs := by
  obtain ⟨⟨c, q, h⟩, -⟩ := State.done_eq h s; simp [State.finish, h]
@[simp] theorem State.finish_mboxes {e : State} (h : e.errs = []) (s : State) : (e.finish s).mboxes = e.mboxes := by
  obtain ⟨⟨c, q, h⟩, -⟩ := State.done_eq h s; simp [State.finish, h]
@[simp] theorem State.finish_sessions {e : State} (h : e.errs = []) (s : State) : (e.finish s).sessions = e.sessions := by
  obtain ⟨⟨c, q, h⟩, -⟩ := State.done_eq h s; simp [State.finish, h]
@[simp] theorem State.finish_cache {e : State} (h : e.errs = []) (s : State) : (e.finish s).cache = e.cache := by
  obtain ⟨⟨c, q, h⟩, -⟩ := State.done_eq h s; simp [State.finish, h]
@[simp] theorem State.finish_profiles {e : State} (h : e.errs = []) (s : State) : (e.finish s).profiles = e.profiles := by
  obtain ⟨⟨c, q, h⟩, -⟩ := State.done_eq h s; simp [State.finish, h]
@[simp] theorem State.finish_storeOp {e : State} (h : e.errs = []) (s : State) : (e.finish s).storeOp = e.storeOp := by
  obtain ⟨⟨c, q, h⟩, -⟩ := State.done_eq h s; simp [State.finish, h]
@[simp] theorem State.finish_loadNext {e : State} (h : e.errs = []) (s : State) : (e.finish s).loadNext = e.loadNext := by
  obtain ⟨⟨c, q, h⟩, -⟩ := State.done_eq h s; simp [State.finish, h]
@[simp] theorem State.finish_firstEpoch {e : State} (h : e.errs = []) (s : State) : (e.finish s).firstEpoch = e.firstEpoch := by
  obtain ⟨⟨c, q, h⟩, -⟩ := State.done_eq h s; simp [State.finish, h]
@[simp] theorem State.finish_fw {e : State} (h : e.errs = []) (s : State) : (e.finish s).fw = e.fw := by
  obtain ⟨⟨c, q, h⟩, -⟩ := State.done_eq h s; simp [State.finish, h]
@[simp] theorem State.finish_sec {e : State} (h : e.errs = []) (s : State) : (e.finish s).sec = e.sec := by
  obtain ⟨⟨c, q, h⟩, -⟩ := State.done_eq h s; simp [State.finish, h]
@[simp] theorem State.finish_denials {e : State} (h : e.errs = []) (s : State) : (e.finish s).denials = e.denials := by
  obtain ⟨⟨c, q, h⟩, -⟩ := State.done_eq h s; simp [State.finish, h]
@[simp] theorem State.finish_snapshot {e : State} (h : e.errs = []) (s : State) : (e.finish s).snapshot = e.snapshot := by
  obtain ⟨⟨c, q, h⟩, -⟩ := State.done_eq h s; simp [State.finish, h]
@[simp] theorem State.finish_sampler {e : State} (h : e.errs = []) (s : State) : (e.finish s).sampler = e.sampler := by
  obtain ⟨⟨c, q, h⟩, -⟩ := State.done_eq h s; simp [State.finish, h]
@[simp] theorem State.finish_captureSeq {e : State} (h : e.errs = []) (s : State) : (e.finish s).captureSeq = e.captureSeq := by
  obtain ⟨⟨c, q, h⟩, -⟩ := State.done_eq h s; simp [State.finish, h]
@[simp] theorem State.finish_mirrorRate {e : State} (h : e.errs = []) (s : State) : (e.finish s).mirrorRate = e.mirrorRate := by
  obtain ⟨⟨c, q, h⟩, -⟩ := State.done_eq h s; simp [State.finish, h]
@[simp] theorem State.finish_telemetry {e : State} (h : e.errs = []) (s : State) : (e.finish s).telemetry = e.telemetry := by
  obtain ⟨⟨c, q, h⟩, -⟩ := State.done_eq h s; simp [State.finish, h]
@[simp] theorem State.finish_ipfix {e : State} (h : e.errs = []) (s : State) : (e.finish s).ipfix = e.ipfix := by
  obtain ⟨⟨c, q, h⟩, -⟩ := State.done_eq h s; simp [State.finish, h]
@[simp] theorem State.finish_paused {e : State} (h : e.errs = []) (s : State) : (e.finish s).paused = e.paused := by
  obtain ⟨⟨c, q, h⟩, -⟩ := State.done_eq h s; simp [State.finish, h]
@[simp] theorem State.finish_capSince {e : State} (h : e.errs = []) (s : State) : (e.finish s).capSince = e.capSince := by
  obtain ⟨⟨c, q, h⟩, -⟩ := State.done_eq h s; simp [State.finish, h]
@[simp] theorem State.finish_capParked {e : State} (h : e.errs = []) (s : State) : (e.finish s).capParked = e.capParked := by
  obtain ⟨⟨c, q, h⟩, -⟩ := State.done_eq h s; simp [State.finish, h]
@[simp] theorem State.finish_refLostAt {e : State} (h : e.errs = []) (s : State) : (e.finish s).refLostAt = e.refLostAt := by
  obtain ⟨⟨c, q, h⟩, -⟩ := State.done_eq h s; simp [State.finish, h]
@[simp] theorem State.finish_i3c {e : State} (h : e.errs = []) (s : State) : (e.finish s).i3c = e.i3c := by
  obtain ⟨⟨c, q, h⟩, -⟩ := State.done_eq h s; simp [State.finish, h]
@[simp] theorem State.finish_jtag {e : State} (h : e.errs = []) (s : State) : (e.finish s).jtag = e.jtag := by
  obtain ⟨⟨c, q, h⟩, -⟩ := State.done_eq h s; simp [State.finish, h]
@[simp] theorem State.finish_hbmCold {e : State} (h : e.errs = []) (s : State) : (e.finish s).hbmCold = e.hbmCold := by
  obtain ⟨⟨c, q, h⟩, -⟩ := State.done_eq h s; simp [State.finish, h]
@[simp] theorem State.finish_out {e : State} (h : e.errs = []) (s : State) : (e.finish s).out = e.out := by
  obtain ⟨⟨c, q, h⟩, -⟩ := State.done_eq h s; simp [State.finish, h]

/-- The outcome of a command: the next state where its operands name units of the part, else the fault. -/
@[simp] theorem unit_true (s e : State) : unit s true e = .next (e.finish s) := rfl

@[simp] theorem unit_false (s e : State) : unit s false e = .fault .noSuchUnit := rfl

@[simp] theorem unitFlash_true (s e : State) : unitFlash s true e = .next (e.finishFlash s) := rfl

@[simp] theorem unitFlash_false (s e : State) : unitFlash s false e = .fault .noSuchUnit := rfl

end Sys2Proof.Machine
end

