-- ==== Sys2Proof/Laws/Hexsum.lean ====
section
/-! SUPPORT. What a Hexsum request does to the state beside the command's own effect: it is not heard, it is
answered from the cache, it is refused for its form, or it is answered afresh (R319 to R326). -/

namespace Sys2Proof.Machine

open Sys2Proof

theorem State.bump_get_other (s : State) {o o' : Obj} {r r' n : Nat} (h : ¬(o' = o ∧ r' = r)) :
    (s.bump o r n).get o' r' = s.get o' r' := by
  unfold State.bump
  rw [State.get_put]
  exact if_neg fun e => h ⟨e.1.symm, e.2.symm⟩

/-! ## Counting -/

theorem OnlyBooked.countAt (s : State) (u code port n : Nat) (p : Option Pkt) :
    OnlyBooked (s.countAt u code port n p) s := by
  unfold State.countAt
  refine OnlyBooked.foldl _ ?_ _ _
  intro s k
  dsimp only
  split <;> split <;> first | exact .ctrAdd .. | exact .refl s

theorem OnlyBooked.countControl (s : State) (code n : Nat) : OnlyBooked (s.countControl code n) s :=
  OnlyBooked.foldl _ (fun s _ => .countAt s ..) _ _

/-! ## Arrival and answer -/

theorem State.hexsumIrq_eq (s : State) (p : Path) :
    (∃ c q, s.hexsumIrq p = { s with objs := c, irqs := q }) ∧
      ∀ o r, o.booked = false → (s.hexsumIrq p).get o r = s.get o r := by
  unfold State.hexsumIrq
  split <;> first
    | exact s.irqSignal_eq _ _
    | exact ⟨⟨s.objs, s.irqs, rfl⟩, fun _ _ _ => rfl⟩

/-- A request that arrives raises its transport's source and is counted by its session. -/
theorem State.arrive_eq (s : State) (req : Req) :
    (∃ c q k, s.arrive req = { s with objs := c, irqs := q, sessions := k }) ∧
      ∀ o r, o.booked = false → (o, r) ∉ req.traces → (s.arrive req).get o r = s.get o r := by
  obtain ⟨⟨c, q, e⟩, g⟩ := s.hexsumIrq_eq req.path
  unfold State.arrive Req.traces
  cases hn : req.path.session with
  | some n =>
    refine ⟨⟨_, q, _, by rw [e]; rfl⟩, fun o r ho hr => ?_⟩
    have hx : ¬(o = .SESSION_REQUESTS ∧ r = n) := fun ⟨a, b⟩ => hr (by subst a b; exact List.mem_singleton.2 rfl)
    show ((s.hexsumIrq req.path).bump .SESSION_REQUESTS n).get o r = _
    rw [State.bump_get_other _ hx]
    exact g o r ho
  | none => exact ⟨⟨c, q, s.sessions, e⟩, fun o r ho _ => g o r ho⟩

@[simp] theorem State.arrive_cached (s : State) (req : Req) : (s.arrive req).cached req = s.cached req := by
  obtain ⟨⟨c, q, k, e⟩, -⟩ := s.arrive_eq req
  rw [e]; rfl

@[simp] theorem State.arrive_out (s : State) (req : Req) : (s.arrive req).out = s.out := by
  obtain ⟨⟨c, q, k, e⟩, -⟩ := s.arrive_eq req
  rw [e]

@[simp] theorem State.arrive_errs (s : State) (req : Req) : (s.arrive req).errs = s.errs := by
  obtain ⟨⟨c, q, k, e⟩, -⟩ := s.arrive_eq req
  rw [e]

theorem State.counted_eq (s : State) (code n : Nat) (x : Out) :
    (∃ c, (s.countControl code n).emit x = { s with objs := c, out := s.out ++ [x] }) ∧
      ∀ o r, o.booked = false → ((s.countControl code n).emit x).get o r = s.get o r := by
  obtain ⟨⟨c, e⟩, g⟩ := OnlyBooked.countControl s code n
  refine ⟨⟨c, by rw [e]; rfl⟩, fun o r ho => ?_⟩
  rw [State.emit_get]
  exact g o r ho

/-- An answer goes into the cache and out; a refusal is counted. -/
theorem State.answer_eq (s : State) (req : Req) (code : Nat) (body : List Nat) :
    (∃ c k, s.answer req code body =
        { s with objs := c, cache := k, out := s.out ++ [.reply req.path req.tag code body false] }) ∧
      ∀ o r, o.booked = false → (¬(o = .REQUESTS_REFUSED ∧ r = 0) ∨ code = 0) →
        (s.answer req code body).get o r = s.get o r := by
  unfold State.answer
  dsimp only
  generalize (_ : List Answer) ++ _ = k
  have hk : ∀ o r, ({ s with cache := k } : State).get o r = s.get o r := fun _ _ => rfl
  split
  · obtain ⟨⟨c, e⟩, g⟩ := State.counted_eq { s with cache := k } 0xC3 1 (.reply req.path req.tag code body false)
    exact ⟨⟨c, k, e⟩, fun o r ho _ => (g o r ho).trans (hk o r)⟩
  · next hc =>
    obtain ⟨⟨c, e⟩, g⟩ := State.counted_eq (State.bump { s with cache := k } .REQUESTS_REFUSED) 0xC3 1
      (.reply req.path req.tag code body false)
    refine ⟨⟨c, k, e⟩, fun o r ho hr => ((g o r ho).trans ?_).trans (hk o r)⟩
    exact State.bump_get_other _ (hr.resolve_right hc)

@[simp] theorem State.answer_errs (s : State) (req : Req) (code : Nat) (body : List Nat) :
    (s.answer req code body).errs = s.errs := by
  obtain ⟨⟨c, k, e⟩, -⟩ := s.answer_eq req code body
  rw [e]

@[simp] theorem State.answer_out (s : State) (req : Req) (code : Nat) (body : List Nat) :
    (s.answer req code body).out = s.out ++ [.reply req.path req.tag code body false] := by
  obtain ⟨⟨c, k, e⟩, -⟩ := s.answer_eq req code body
  rw [e]

/-! ## What becomes of a request -/

/-- Odtaku does not run or the path is closed: nothing happens. -/
theorem State.hexsumK_deaf {s : State} {req : Req} (h : s.odtakuUp = false ∨ s.pathOpen req.path = false)
    (f : State → Option (Nat × List Nat) × State) : s.hexsumK req f = s := by
  unfold State.hexsumK
  rcases h with h | h <;> simp [h]

/-- A tag of late is answered from the cache. -/
theorem State.hexsumK_cached {s : State} {req : Req} (hu : s.odtakuUp = true) (hp : s.pathOpen req.path = true)
    {a : Answer} (ha : s.cached req = some a) (f : State → Option (Nat × List Nat) × State) :
    s.hexsumK req f =
      ((s.arrive req).bump .DUPLICATES_SERVED).emit (.reply a.path a.tag a.code a.body true) := by
  unfold State.hexsumK
  simp [hu, hp, ha]

/-- A request too long for its path, or of another version, is refused. -/
theorem State.hexsumK_form {s : State} {req : Req} (hu : s.odtakuUp = true) (hp : s.pathOpen req.path = true)
    (hc : s.cached req = none) (hf : req.path.limit < req.size ∨ req.version ≠ 1)
    (f : State → Option (Nat × List Nat) × State) : s.hexsumK req f = (s.arrive req).answer req 0x0302 [] := by
  unfold State.hexsumK
  simp [hu, hp, hc, hf]

/-- A request that is heard runs its command on the state at its arrival, and is answered. -/
theorem State.hexsum_hears {s : State} {req : Req} (h : s.hears req) (f : State → Nat × List Nat × State) :
    s.hexsum req f =
      (f (s.arrive req)).2.2.answer req (f (s.arrive req)).1 (f (s.arrive req)).2.1 := by
  obtain ⟨hu, hp, hc, hs, hv⟩ := h
  unfold State.hexsum State.hexsumK
  have : ¬(req.path.limit < req.size ∨ req.version ≠ 1) := by omega
  simp [hu, hp, hc, this]

/-- An invocation that is heard and held by the right x runs its command. -/
theorem State.invoke_hears {s : State} {req : Req} (h : s.hears req) {o : Obj} {row : Option Nat}
    (hm : (s.arrive req).mayInvoke req o row = 0) (f : State → Nat × List Nat × State) :
    s.invoke req o row f =
      (f (s.arrive req)).2.2.answer req (f (s.arrive req)).1 (f (s.arrive req)).2.1 := by
  unfold State.invoke
  rw [State.hexsum_hears h]
  simp [hm]

/-- An invocation without the right is refused with its code and has no effect of its own. -/
theorem State.invoke_barred {s : State} {req : Req} (h : s.hears req) {o : Obj} {row : Option Nat} {c : Nat}
    (hm : (s.arrive req).mayInvoke req o row = c) (hc : c ≠ 0) (f : State → Nat × List Nat × State) :
    s.invoke req o row f = (s.arrive req).answer req c [] := by
  unfold State.invoke
  rw [State.hexsum_hears h]
  simp [hm, hc]

end Sys2Proof.Machine
end

