-- ==== Sys2Proof/Laws/Memory.lean ====
section
/-! SUPPORT. The flash: a read after a write or an erase, and the canonical form that each keeps. -/

namespace Sys2Proof.Machine

@[simp] theorem Memory.read_nil (a : Nat) : Memory.read [] a = Memory.blank := rfl

theorem Memory.above_mono {lo lo' : Nat} {m : Memory} (h : lo' ≤ lo) (hm : Memory.above lo m = true) :
    Memory.above lo' m = true := by
  cases m with
  | nil => rfl
  | cons x m =>
    simp only [Memory.above, Bool.and_eq_true, decide_eq_true_eq] at *
    exact ⟨⟨by omega, hm.1.2⟩, hm.2⟩

/-- Below the lower bound of a canonical memory every byte is blank. -/
theorem Memory.read_below {lo a : Nat} {m : Memory} (hm : Memory.above lo m = true) (h : a < lo) :
    m.read a = Memory.blank := by
  induction m generalizing lo with
  | nil => rfl
  | cons x m ih =>
    obtain ⟨k, b⟩ := x
    simp only [Memory.above, Bool.and_eq_true, decide_eq_true_eq] at hm
    have hk : k ≠ a := by omega
    simp only [Memory.read, hk, if_false]
    exact ih hm.2 (by omega)

theorem Memory.write_above {lo a : Nat} {m : Memory} (v : BitVec 8) (hm : Memory.above lo m = true)
    (h : lo ≤ a) : Memory.above lo (m.write a v) = true := by
  induction m generalizing lo with
  | nil => unfold Memory.write; split <;> simp_all [Memory.above]
  | cons x m ih =>
    obtain ⟨k, b⟩ := x
    simp only [Memory.above, Bool.and_eq_true, decide_eq_true_eq] at hm
    unfold Memory.write
    split
    · next hk => simp only [Memory.above, Bool.and_eq_true, decide_eq_true_eq]; exact ⟨hm.1, ih hm.2 hk⟩
    · split
      · next hk =>
        subst hk
        split
        · exact Memory.above_mono (by omega) hm.2
        · next hv => simp only [Memory.above, Bool.and_eq_true, decide_eq_true_eq]; exact ⟨⟨h, hv⟩, hm.2⟩
      · split
        · simp only [Memory.above, Bool.and_eq_true, decide_eq_true_eq]; exact hm
        · next hv =>
          simp only [Memory.above, Bool.and_eq_true, decide_eq_true_eq]
          exact ⟨⟨h, hv⟩, ⟨by omega, hm.1.2⟩, hm.2⟩

/-- A write keeps the canonical form. -/
theorem Memory.write_wf {m : Memory} (a : Nat) (v : BitVec 8) (hm : m.wf = true) : (m.write a v).wf = true :=
  Memory.write_above v hm (Nat.zero_le a)

/-- A read after a write: the byte written at its address, every other byte as before. -/
theorem Memory.read_write_above {lo : Nat} {m : Memory} (a b : Nat) (v : BitVec 8)
    (hm : Memory.above lo m = true) : (m.write a v).read b = if a = b then v else m.read b := by
  induction m generalizing lo with
  | nil => unfold Memory.write; split <;> by_cases hb : a = b <;> simp_all [Memory.read]
  | cons x m ih =>
    obtain ⟨k, c⟩ := x
    simp only [Memory.above, Bool.and_eq_true, decide_eq_true_eq] at hm
    unfold Memory.write
    split
    · next hk =>
      simp only [Memory.read, ih hm.2]
      by_cases hb : k = b
      · subst hb; simp [show a ≠ k by omega]
      · simp [hb]
    · split
      · next hk =>
        subst hk
        split
        · next hv =>
          by_cases hb : k = b
          · subst hb; simpa [hv] using Memory.read_below hm.2 (by omega)
          · simp [Memory.read, hb]
        · by_cases hb : k = b <;> simp [Memory.read, hb]
      · next hk hne =>
        have below : a = b → Memory.read ((k, c) :: m) b = Memory.blank := fun h => by
          subst h
          simp only [Memory.read, hne, if_false]
          exact Memory.read_below hm.2 (by omega)
        split
        · next hv => by_cases hb : a = b <;> simp [hb, hv]; exact hb ▸ below hb
        · by_cases hb : a = b <;> simp [Memory.read, hb]

theorem Memory.read_write {m : Memory} (a b : Nat) (v : BitVec 8) (hm : m.wf = true) :
    (m.write a v).read b = if a = b then v else m.read b := Memory.read_write_above a b v hm

theorem Memory.writeAll_wf {m : Memory} (a : Nat) (l : List Nat) (hm : m.wf = true) :
    (m.writeAll a l).wf = true := by
  induction l generalizing m a with
  | nil => exact hm
  | cons v l ih => exact ih (a + 1) (Memory.write_wf a _ hm)

/-- A read outside the bytes written gives what it gave before. -/
theorem Memory.read_writeAll {m : Memory} (a b : Nat) (l : List Nat) (hm : m.wf = true)
    (h : b < a ∨ a + l.length ≤ b) : (m.writeAll a l).read b = m.read b := by
  induction l generalizing m a with
  | nil => rfl
  | cons v l ih =>
    simp only [List.length_cons] at h
    rw [Memory.writeAll, ih (a + 1) (Memory.write_wf a _ hm) (by omega), Memory.read_write a b _ hm]
    simp [show a ≠ b by omega]

/-- A read of a byte written gives it. -/
theorem Memory.read_writeAll_in {m : Memory} (a i : Nat) (l : List Nat) (hm : m.wf = true) (h : i < l.length) :
    (m.writeAll a l).read (a + i) = BitVec.ofNat 8 (l.getD i 0) := by
  induction l generalizing m a i with
  | nil => simp at h
  | cons v l ih =>
    rw [Memory.writeAll]
    cases i with
    | zero =>
      rw [Memory.read_writeAll (a + 1) _ l (Memory.write_wf a _ hm) (by omega), Memory.read_write a _ _ hm]
      simp
    | succ i =>
      have := ih (a + 1) i (Memory.write_wf a (BitVec.ofNat 8 v) hm) (by simpa using h)
      rw [show a + (i + 1) = a + 1 + i by omega, this]
      simp

theorem Memory.erase_above {lo : Nat} {m : Memory} (a n : Nat) (hm : Memory.above lo m = true) :
    Memory.above lo (m.erase a n) = true := by
  induction m generalizing lo with
  | nil => rfl
  | cons x m ih =>
    obtain ⟨k, b⟩ := x
    simp only [Memory.above, Bool.and_eq_true, decide_eq_true_eq] at hm
    unfold Memory.erase
    rw [List.filter_cons]
    split
    · simp only [Memory.above, Bool.and_eq_true, decide_eq_true_eq]; exact ⟨hm.1, ih hm.2⟩
    · exact Memory.above_mono (by omega) (ih hm.2)

/-- An erase keeps the canonical form. -/
theorem Memory.erase_wf {m : Memory} (a n : Nat) (hm : m.wf = true) : (m.erase a n).wf = true :=
  Memory.erase_above a n hm

/-- A read after an erase: blank inside the range, as before outside it. -/
theorem Memory.read_erase {m : Memory} (a n b : Nat) :
    (m.erase a n).read b = if a ≤ b ∧ b < a + n then Memory.blank else m.read b := by
  induction m with
  | nil => simp [Memory.erase, Memory.read]
  | cons x m ih =>
    obtain ⟨k, c⟩ := x
    unfold Memory.erase at *
    rw [List.filter_cons]
    by_cases hk : k = b
    · subst hk
      by_cases hin : a ≤ k ∧ k < a + n
      · have hc : (decide (k < a) || decide (a + n ≤ k)) = false := by simp; omega
        simp only [hc, Bool.false_eq_true, if_false, ih, hin, and_self, if_true]
      · have hc : (decide (k < a) || decide (a + n ≤ k)) = true := by simp; omega
        simp [hc, Memory.read, hin]
    · split <;> simp [Memory.read, hk, ih]

end Sys2Proof.Machine
end

