-- ==== Sys2Proof/Laws/Same.lean ====
section
/-! SUPPORT. Frames: how "every row but these reads as before" is put together from the updates of a meaning. -/

namespace Sys2Proof.Machine

open Sys2Proof

theorem SameBut.refl (s : State) (l : List (Obj × Nat)) : s.SameBut s l := fun _ _ _ _ => rfl

/-- States with the same dictionary. -/
theorem SameBut.of_objs {a b : State} (h : a.objs = b.objs) (l : List (Obj × Nat)) : a.SameBut b l :=
  fun o r _ _ => State.get_congr h o r

theorem SameBut.trans {a b c : State} {l : List (Obj × Nat)} (h : c.SameBut b l) (g : b.SameBut a l) : c.SameBut a l :=
  fun o r ho hr => (h o r ho hr).trans (g o r ho hr)

theorem SameBut.mono {a b : State} {l m : List (Obj × Nat)} (h : b.SameBut a l) (hl : ∀ x ∈ l, x ∈ m) : b.SameBut a m :=
  fun o r ho hr => h o r ho fun hm => hr (hl _ hm)

theorem SameBut.put (s : State) {o : Obj} {i : Nat} (v : Nat) {l : List (Obj × Nat)} (h : (o, i) ∈ l) :
    (s.put o i v).SameBut s l := fun o' r _ hr => by
  rw [State.get_put]
  exact if_neg fun e => hr (by obtain ⟨rfl, rfl⟩ := e; exact h)

theorem SameBut.bump (s : State) {o : Obj} {i : Nat} (n : Nat) {l : List (Obj × Nat)} (h : (o, i) ∈ l) :
    (s.bump o i n).SameBut s l := SameBut.put s _ h

theorem SameBut.foldl {β : Type} (f : State → β → State) (l : List (Obj × Nat)) (xs : List β)
    (h : ∀ s, ∀ x ∈ xs, (f s x).SameBut s l) (s : State) : (xs.foldl f s).SameBut s l := by
  induction xs generalizing s with
  | nil => exact SameBut.refl s l
  | cons x xs ih =>
    exact SameBut.trans (ih (fun s y hy => h s y (List.mem_cons_of_mem _ hy)) (f s x)) (h s x List.mem_cons_self)

/-- Booked rows do not count. -/
theorem SameBut.booked {a b : State} (h : OnlyBooked b a) (l : List (Obj × Nat)) : b.SameBut a l :=
  fun o r ho _ => h.2 o r ho

/-- Time goes on. -/
theorem SameBut.at (s : State) (t : Time) (l : List (Obj × Nat)) : (s.at t).SameBut s l :=
  fun _ r ho _ => s.at_get t ho r

/-- The end of a command that has raised no error. -/
theorem SameBut.finish {e : State} (h : e.errs = []) (s : State) (l : List (Obj × Nat)) : (e.finish s).SameBut e l :=
  fun _ r ho _ => State.finish_get h s ho r

theorem SameBut.finishFlash {e : State} (h : e.errs = []) (s : State) (l : List (Obj × Nat)) :
    (e.finishFlash s).SameBut e l := fun _ r ho _ => State.finishFlash_get h s ho r

/-- An interrupt source's signal. -/
theorem SameBut.irqSignal (s : State) (i : Nat) (high : Bool) (l : List (Obj × Nat)) : (s.irqSignal i high).SameBut s l :=
  fun o r ho _ => (s.irqSignal_eq i high).2 o r ho

/-- A request arrives. -/
theorem SameBut.arrive (s : State) (req : Req) {l : List (Obj × Nat)} (h : ∀ x ∈ req.traces, x ∈ l) :
    (s.arrive req).SameBut s l := fun o r ho hr => (s.arrive_eq req).2 o r ho fun hm => hr (h _ hm)

/-- A request is answered with success. -/
theorem SameBut.answered (s : State) (req : Req) (body : List Nat) (l : List (Obj × Nat)) :
    (s.answer req 0 body).SameBut s l := fun o r ho _ => (s.answer_eq req 0 body).2 o r ho (.inr rfl)

/-- A request is refused. -/
theorem SameBut.refused (s : State) (req : Req) (code : Nat) (body : List Nat) {l : List (Obj × Nat)}
    (h : (Obj.REQUESTS_REFUSED, 0) ∈ l) : (s.answer req code body).SameBut s l := fun o r ho hr =>
  (s.answer_eq req code body).2 o r ho (.inl fun e => hr (by obtain ⟨rfl, rfl⟩ := e; exact h))

/-! ## Buffers -/

theorem SameBuffers.refl (s : State) : s.SameBuffers s := ⟨rfl, rfl, rfl, rfl, fun _ => rfl⟩

theorem SameBuffers.trans {a b c : State} (h : c.SameBuffers b) (g : b.SameBuffers a) : c.SameBuffers a :=
  ⟨h.1.trans g.1, h.2.1.trans g.2.1, h.2.2.1.trans g.2.2.1, h.2.2.2.1.trans g.2.2.2.1,
    fun a => (h.2.2.2.2 a).trans (g.2.2.2.2 a)⟩

theorem SameBuffers.at (s : State) (t : Time) : (s.at t).SameBuffers s :=
  ⟨s.at_cells t, s.at_queues t, s.at_rx t, s.at_tags t, fun a => by rw [s.at_flash t]⟩

theorem SameBuffers.finish {e : State} (h : e.errs = []) {s : State} (hf : e.flash = s.flash) :
    (e.finish s).SameBuffers e :=
  ⟨State.finish_cells h s, State.finish_queues h s, State.finish_rx h s, State.finish_tags h s,
    fun a => by rw [State.finish_flash, hf]⟩

end Sys2Proof.Machine
end

