-- ==== Sys2Proof/Tests/Slice0.lean ====
section
/-! SUPPORT. Tests of the model against the spec, and a witness for the hypotheses of every statement. -/

open Sys2Proof Machine

section

set_option Elab.async false

/-! ## Ill-formed commands: one for each check of Instr.wf, every other operand at the edge of its range -/

theorem test_ill_formed_1 (hello0 : Hello) (cfgReq0 : CfgReq) (shadowReg0 : ShadowReg) (tlp0 : Tlp) :
    ([.engineBudgetExhausted 0 8 14 2, .engineBudgetExhausted 0 7 15 2, .engineBudgetExhausted 0 7 14 3,
      .engineBudgetExhausted 0 0 14 2, .ipfixMessageSend 0 4, .gateEntryStart 0 512,
      .timeSourceQualified 0 3, .timeMarkerSend 0 512, .ptmRequest 0 512,
      .unitReady 0 0 32 14 false none, .unitReady 0 0 31 15 false none, .decisionQuery 0 0 15 false,
      .helloSend 0 512, .helloReceive 0 512 hello0, .neighbourDown 0 512,
      .linkStateMessage 0 32 511 31 511 false false, .linkStateMessage 0 31 512 31 511 false false, .linkStateMessage 0 31 511 32 511 false false,
      .linkStateMessage 0 31 511 31 512 false false, .keeperHandover 0 32, .deviceEnumeration 0 512 [],
      .partitionWaitTimeout 0 4096, .hostConfigRequest 0 512 cfgReq0, .configFwCompletion 0 4096,
      .hostConfigShadowWrite 0 4096 65535 shadowReg0 0 0 0, .hostConfigShadowWrite 0 4095 65536 shadowReg0 0 0 0, .hostSlotPowerControl 0 4096 255 false false,
      .hostSlotPowerControl 0 4095 256 false false, .ungraftTimeout 0 65536, .hostSecondaryBusReset 0 4096 255,
      .hostSecondaryBusReset 0 4095 256, .hostFunctionLevelReset 0 4096 65535, .hostFunctionLevelReset 0 4095 65536,
      .tlpIngressParse 0 512 tlp0, .mgmtFunctionMemoryAccess 0 4096 false 0 [] 0 0, .mfRegisterWrite 0 4096 0 0,
      .hostBarWrite 0 4096 65535 65535 0 0 0 0, .hostBarWrite 0 4095 65536 65535 0 0 0 0, .hostBarWrite 0 4095 65535 65536 0 0 0 0,
      .apertureActivate 0 4096 65535 0] : List Instr).any
      (fun c => c.wf) = false :=
  rfl

theorem test_ill_formed_2 (cfgReq0 : CfgReq) (pkt0 : Pkt) (init0 : Init) (ctl0 : Ctl) :
    ([.apertureActivate 0 4095 65536 0, .vfBarEmulate 0 4096 65535 cfgReq0, .vfBarEmulate 0 4095 65536 cfgReq0,
      .schedulerSelect 0 512, .flowControlUpdate 0 512 (0, 0) (0, 0) (0, 0), .shaperConform 0 512 7 none,
      .shaperConform 0 511 8 none, .creditWithholdEnd 0 262144, .tagDeadline 0 512 16383,
      .tagDeadline 0 511 16384, .tagQuarantineEnd 0 512 16383, .tagQuarantineEnd 0 511 16384,
      .cplTimeoutStorm 0 512, .fabricPacketArrive 0 512 pkt0, .pathChangeFlaggingEnd 0 32,
      .twinCopyArrive 0 512 pkt0, .twinSkewTimeout 0 16384, .receiveFifoResume 0 512,
      .rsvReadmit 0 16384, .flitTransmit 0 512 [], .flitTransmit 0 0 [(false, 8, 0)],
      .flitTransmit 0 0 [(false, 0, 22)], .flitReceive 0 512 { header := 0, payload := .data [] }, .flitReceive 0 0 { header := 0, payload := .data [], noise := [(512, 1)] },
      .flitReceive 0 0 { header := 0, payload := .data [], noise := [(5, 0)] }, .flitReceive 0 0 { header := 0, payload := .data [], noise := [(5, 1), (5, 2)] }, .ackTimerExpiry 0 512,
      .nakRepeat 0 512, .replayTimeout 0 512, .initFlitReceive 0 512 init0,
      .initTimeout 0 512, .reinitTimeout 0 512, .blockLockLost 0 512,
      .linkDownTimeExpiry 0 512, .salvageComplete 0 512, .creditPoolAudit 0 512 [],
      .withdrawReinitRequest 0 512, .poolUpdate 0 512 [], .request 0 512 ctl0,
      .grant 0 512 ctl0] : List Instr).any
      (fun c => c.wf) = false :=
  rfl

theorem test_ill_formed_3 (ctl0 : Ctl) :
    ([.refuse 0 512 ctl0, .done 0 512 ctl0, .detectRetry 0 512 false false,
      .trainingBlockReceive 0 544 { sync := 0, laneIndex := 0, width := 0, rate := 0, node := 0, stage := 0, eqOp := 0, eqArg := 0, eqNum := 0, echoNum := 0, echoStatus := 0 }, .trainingBlockReceive 0 0 { sync := 4294967296, laneIndex := 0, width := 0, rate := 0, node := 0, stage := 0, eqOp := 0, eqArg := 0, eqNum := 0, echoNum := 0, echoStatus := 0 }, .trainingBlockReceive 0 0 { sync := 0, laneIndex := 32, width := 0, rate := 0, node := 0, stage := 0, eqOp := 0, eqArg := 0, eqNum := 0, echoNum := 0, echoStatus := 0 },
      .trainingBlockReceive 0 0 { sync := 0, laneIndex := 0, width := 8, rate := 0, node := 0, stage := 0, eqOp := 0, eqArg := 0, eqNum := 0, echoNum := 0, echoStatus := 0 }, .trainingBlockReceive 0 0 { sync := 0, laneIndex := 0, width := 0, rate := 4, node := 0, stage := 0, eqOp := 0, eqArg := 0, eqNum := 0, echoNum := 0, echoStatus := 0 }, .trainingBlockReceive 0 0 { sync := 0, laneIndex := 0, width := 0, rate := 0, node := 32, stage := 0, eqOp := 0, eqArg := 0, eqNum := 0, echoNum := 0, echoStatus := 0 },
      .trainingBlockReceive 0 0 { sync := 0, laneIndex := 0, width := 0, rate := 0, node := 0, stage := 8, eqOp := 0, eqArg := 0, eqNum := 0, echoNum := 0, echoStatus := 0 }, .trainingBlockReceive 0 0 { sync := 0, laneIndex := 0, width := 0, rate := 0, node := 0, stage := 0, eqOp := 8, eqArg := 0, eqNum := 0, echoNum := 0, echoStatus := 0 }, .trainingBlockReceive 0 0 { sync := 0, laneIndex := 0, width := 0, rate := 0, node := 0, stage := 0, eqOp := 0, eqArg := 16, eqNum := 0, echoNum := 0, echoStatus := 0 },
      .trainingBlockReceive 0 0 { sync := 0, laneIndex := 0, width := 0, rate := 0, node := 0, stage := 0, eqOp := 0, eqArg := 0, eqNum := 16, echoNum := 0, echoStatus := 0 }, .trainingBlockReceive 0 0 { sync := 0, laneIndex := 0, width := 0, rate := 0, node := 0, stage := 0, eqOp := 0, eqArg := 0, eqNum := 0, echoNum := 16, echoStatus := 0 }, .trainingBlockReceive 0 0 { sync := 0, laneIndex := 0, width := 0, rate := 0, node := 0, stage := 0, eqOp := 0, eqArg := 0, eqNum := 0, echoNum := 0, echoStatus := 4 },
      .trainingBlockReceive 0 0 { sync := 0, laneIndex := 0, width := 0, rate := 0, node := 0, stage := 0, eqOp := 0, eqArg := 0, eqNum := 0, echoNum := 0, echoStatus := 0, check := 65536 }, .trainStageTimeout 0 512, .retrainIntervalExpiry 0 512,
      .marginSample 0 544 0 0 none, .spareTrained 0 32, .spareReadyTimeout 0 32,
      .swapFlitReached 0 512, .dataLinkUp 0 512 0 0 false, .trainTimeout 0 512,
      .surpriseDown 0 512, .hostLinkDown 0 32 511, .hostLinkDown 0 31 512,
      .hotResetReceive 0 32 511, .hotResetReceive 0 31 512, .hostPerstAssert 0 64,
      .hostPerstDeassert 0 64, .aspmL1Entry 0 512, .deviceL1Request 0 512,
      .ideKmMessage 0 512 0 false, .ideRekey 0 512, .perstPulseEnd 0 64,
      .mfFunctionLevelReset 0 4096, .mfResetComplete 0 4096, .ringBatchWrite 0 4096 0,
      .hostDpcSoftwareTrigger 0 4096 255] : List Instr).any
      (fun c => c.wf) = false :=
  rfl

theorem test_ill_formed_4 :
    ([.hostDpcSoftwareTrigger 0 4095 256, .hostDpcStatusClear 0 4096 255, .hostDpcStatusClear 0 4095 256,
      .presenceChange 0 64 false false, .seatDebounceEnd 0 64, .powerGood 0 64 [],
      .powerGood 0 0 [(0, 2 ^ 32, 0, 0)], .powerGood 0 0 [(0, 0, 2 ^ 32, 0)], .powerGood 0 0 [(0, 0, 0, 2 ^ 32)],
      .perstDelayEnd 0 64, .faultTimerExpiry 0 64 [], .fastTrip 0 64 0 0,
      .inrushTimeout 0 64, .undervoltageTrip 0 64 [], .faultTimerClear 0 64 [],
      .offTimeEnd 0 64, .commandedGateOff 0 64, .shareAdjust 0 64 [],
      .shareOutOfRange 0 64, .feedLost 0 64 [], .feedReturn 0 64 [],
      .huskDrained 0 512, .huskDrained 0 4095, .huskDrained 0 8192,
      .regionRestartHoldEnd 0 15, .regionBistComplete 0 15 [], .quadrantQueueSweepDone 0 15,
      .sessionIdleTimeout 0 16, .pairStop 0 2, .watchdogExpiry 0 2,
      .pairRestartComplete 0 2, .irqTake 0 2, .irqComplete 0 2,
      .irqConfigWrite 0 2048 5 0, .irqConfigWrite 0 2047 6 0, .mbInWrite 0 4097 0 [],
      .mbInTake 0 4097, .mbOutPlace 0 4097 [], .mbTake 0 4097 0,
      .doorbellSet 0 4097 false 0] : List Instr).any
      (fun c => c.wf) = false :=
  rfl

theorem test_ill_formed_5 :
    ([.doorbellClear 0 4097 false 0 0, .mctpMessage 0 false 32 0 0 0, .mctpMessage 0 false 15 0 0 0,
      .i3cDynamicAddress 0 2 0, .protectionDescriptorWrite 0 11 0 0, .protectionDescriptorWrite 0 7 16 0,
      .protectionDescriptorWrite 0 0 64 0, .accessDenial 0 8 2 2 (2 ^ 40 - 1) 0, .accessDenial 0 7 3 2 (2 ^ 40 - 1) 0,
      .accessDenial 0 7 2 3 (2 ^ 40 - 1) 0, .accessDenial 0 7 2 2 (2 ^ 40) 0, .debugHalt 0 2,
      .debugResume 0 2, .partitionResetComplete 0 4096, .fwPairReloadDone 0 2,
      .counterWrap 0 768, .regionLimitExceeded 0 4 false 14 14 0 0, .regionLimitExceeded 0 3 false 15 14 0 0,
      .regionLimitExceeded 0 3 false 14 15 0 0, .regionLimitExceeded 0 0 false 14 14 0 0, .limitThrottleEnd 0 15 3,
      .limitThrottleEnd 0 14 4, .limitThrottleEnd 0 14 0, .throttleTempExceeded 0 15 0,
      .throttleLevelStep 0 15 2 false, .throttleLevelStep 0 14 3 false, .overtemperatureIsolate 0 15,
      .hbmColdStartReady 0 2, .faultTimerStart 0 64 [], .perstOutDeassertDelayEnd 0 64,
      .verifyStageEnd 0 512 [], .prbsCheckerLock 0 544 [], .prbsCheckerLockLost 0 544 [],
      .receiverDetect 0 512, .hbmFailure 0 2] : List Instr).any
      (fun c => c.wf) = false :=
  rfl

theorem test_ill_formed_faults : Machine.step { State.reset with pending := [.pairStop 0 2] } = .fault .noSuchUnit :=
  rfl

theorem test_no_word_spells_a_command : decodeTableWord 16 0x1234 = none := rfl

theorem test_empty_queue_idles : Machine.step State.reset = .next State.reset := rfl

/-! ## The spec's worked examples -/

/-- The numbering of port 200: cluster 25, tile T3, quadrant Q1 in region 9 (R11, R12). -/
theorem test_numbering : clusterOf 200 = 25 ∧ tileOf 200 = 3 ∧ quadRegion 200 = 9 := by decide

/-- With P = 125 us an edge falls at OT 10,000,125,000 ns and opens pip 80,001 (R41). -/
theorem test_pip_edge : State.reset.edge 80001 = ns 10000125000 ∧ State.reset.pipAt (ns 10000125000) = 80001 ∧
    State.reset.pipAt (ns 10000124999) = 80000 := by decide +kernel

/-- FQ_KEY 0x0012_9002: source 37, target 128, route 0, SC2, template row 298 (R131). -/
theorem test_flow_key : keySource 0x129002 = 37 ∧ keyTarget 0x129002 = 128 ∧ keyRoute 0x129002 = 0 ∧
    keyClass 0x129002 = 2 ∧ keyRow 0x129002 = 298 := by decide

/-- The wrap with 2,048 flits outstanding (R202, R203): dist to O - 1 and from L. -/
theorem test_sequence_wrap : seqDist 65529 64511 = 1018 ∧ seqDist 1023 65529 = 1030 ∧ seqDist 300 65529 = 307 ∧
    seqDist 1023 300 = 723 ∧ seqBefore 64000 300 = true ∧ seqAfter 2000 1023 = true := by decide

/-- The increments of the weighted share: weight 512 and 256 for 256 bytes (R153). -/
theorem test_tag_increment : tagIncrement 256 512 2 = 32768 ∧ tagIncrement 256 256 2 = 65536 := by decide

/-- The metered burst: TLP 133 finds Tc = 100 and is yellow; TLP 276 leaves Tp at 288; TLP 277 finds Tp = 328
and is red (R159). -/
theorem test_meter_colours :
    (meterColour 1 0 0 512 { tc := 100 * 2 ^ 20, tp := 68296 * 2 ^ 20 }).1 = 1 ∧
    (meterColour 1 0 0 512 { tc := 100 * 2 ^ 20, tp := 800 * 2 ^ 20 }).2.tp = 288 * 2 ^ 20 ∧
    (meterColour 1 0 0 512 { tc := 100 * 2 ^ 20, tp := 328 * 2 ^ 20 }).1 = 2 := by decide

/-- Admission of row 12: need and gate wait at both hops (R173). -/
theorem test_admission_need : needFor 102720 8 0x11 0 = 2098 ∧ needFor 98304 8 6 1 = 3333 ∧
    gateWait [] [(10000, 0xC0), (115000, 0x3F)] 7 3333 = 118333 := by decide +kernel

/-- Admission of row 13: one closed span becomes two (R173). -/
theorem test_admission_long_need : needFor 376640 8 0x11 0 = 7691 ∧ needFor 360448 8 6 1 = 12219 ∧
    gateWait [] [(10000, 0xC0), (115000, 0x3F)] 7 12219 = 242219 := by decide +kernel

/-- D of row 12: 125,000 + 121,271 rounded up (R174). -/
theorem test_deadline : State.reset.deadlineOf 121271 = 247000 := by decide +kernel

/-! ## Interrupts: the example of R356, with GROUP_BITS_A 3 -/

/-- Pair A with the four sources of the example: those listed pending, and a stack. -/
def irqState (pending stack : List Nat) : State :=
  { State.reset with
    boot := .odtaku, pairs := [(0, { stack := stack })],
    objs := [(.IRQ_PRIORITY, [(0, 0x45), (80, 0x22), (144, 0x20), (704, 0x40)]),
      (.IRQ_TARGET, [(0, 0), (80, 0), (144, 0), (704, 0)]), (.IRQ_ENABLE, [(0, 1), (80, 1), (144, 1), (704, 1)]),
      (.IRQ_PENDING, pending.map fun i => (i, 1))] }

theorem test_irq_lower_sub_priority_first : ((irqState [0, 704] []).takeIrq 0).pairH 0 = { stack := [704] } := by
  decide +kernel

theorem test_irq_lower_group_preempts : ((irqState [0, 80] [704]).takeIrq 0).pairH 0 = { stack := [80, 704] } := by
  decide +kernel

theorem test_irq_equal_group_waits :
    ((irqState [0, 144] [80, 704]).takeIrq 0).pairH 0 = { stack := [80, 704] } := by decide +kernel

theorem test_irq_most_urgent_before_resume :
    ((irqState [0, 144, 80] [80, 704]).irqDone 0).pairH 0 = { stack := [144, 704] } := by decide +kernel

/-! ## The tree change across a power loss (R382) -/

/-- The state of the HSS key: TOP_Q, BOTTOM_Q and the next tree built. -/
def hssState (top bottom : Nat) : State :=
  { State.reset with objs := [(.HSS_TOP_Q, [(0, top)]), (.HSS_BOTTOM_Q, [(0, bottom)]), (.HSS_NEXT_READY, [(0, 1)]),
      (.HSS_FORFEITED, [(0, 0)]), (.LIFECYCLE_STATE, [(0, 1)])] }

theorem test_hss_leaf_advances : (hssState 7 1048574).hssSign.get .HSS_BOTTOM_Q = 1048575 := by
  have h : (hssState 7 1048574).get .HSS_BOTTOM_Q = 1048574 := rfl
  simp [State.hssSign, State.treeChange, h, leaves]

theorem test_hss_restart_forfeits : (hssState 8 1048576).hssRestart.get .HSS_FORFEITED = 1 ∧
    (hssState 8 1048576).hssRestart.get .HSS_TOP_Q = 9 ∧ (hssState 8 1048576).hssRestart.get .HSS_BOTTOM_Q = 0 := by
  have e : (hssState 8 1048576).hssRestart = ((hssState 8 1048576).bump .HSS_FORFEITED).treeChange := rfl
  have h : (hssState 8 1048576).get .HSS_BOTTOM_Q = 1048576 := rfl
  have h1 : (hssState 8 1048576).get .HSS_TOP_Q = 8 := rfl
  have h2 : (hssState 8 1048576).get .HSS_NEXT_READY = 1 := rfl
  have h3 : (hssState 8 1048576).get .HSS_FORFEITED = 0 := rfl
  have g : ∀ s : State, ¬(s.get .HSS_BOTTOM_Q < leaves ∨ s.get .HSS_NEXT_READY = 0 ∨ leaves ≤ s.get .HSS_TOP_Q) →
      ∀ o, s.treeChange.get o =
        (((s.put .HSS_TOP_Q 0 (s.get .HSS_TOP_Q + 1)).put .HSS_NEXT_READY 0 0).put .HSS_BOTTOM_Q 0 0).get o := by
    intro s hs o; rw [State.treeChange, if_neg hs]; rfl
  rw [e]
  simp [g, State.bump, h, h1, h2, h3, leaves, Obj.info, Ty.bits]

/-! ## One step each -/

/-- A state of the tests: this chip with one command waiting. -/
def runs (c : Instr) (s : State := State.reset) : State := { s with boot := .rom, pending := [c] }

/-- A field of the next state. -/
def after {α : Type} (s : State) (f : State → α) : Option α :=
  match Machine.step s with
  | .next s' => some (f s')
  | _ => none

theorem test_reset_end_starts_rom :
    after { State.reset with pending := [.resetEnd 5 true false true] } (fun s => (s.boot, s.latchedPins)) =
      some (.rom, true, false, true) := by decide +kernel

theorem test_unplugged_card_is_debounced_again :
    after (runs (.presenceChange (ms 3) 5 true true) (State.reset.put .SP_STATE 5 1))
      (fun s => (s.get .SP_STATE 5, (s.slot 5).debFrom)) = some (2, ms 3) := by decide +kernel

theorem test_fast_trip_latches :
    after (runs (.fastTrip 0 5 0 900000) (State.reset.put .SP_STATE 5 4))
      (fun s => (s.get .SP_STATE 5, s.get .SP_TRIP_CAUSE 5, s.get .SP_TRIPS 5)) = some (5, 3, 1) := by decide +kernel

theorem test_undervoltage_trip_cause :
    after (runs (.undervoltageTrip (ms 5) 5 [(50, 1000, 1000, 5000)]) (State.reset.put .SP_STATE 5 4)) (fun s => s.get .SP_TRIP_CAUSE 5) =
      some 5 := by decide +kernel

theorem test_mailbox_last_byte_posts :
    after (runs (.mbInWrite 0 37 0xFF [0x5A])) (fun s => (s.get .MB_IN_STATE 37, (s.mbox 37).inFull)) =
      some (2, true) := by decide +kernel

theorem test_mailbox_collision_fills_again :
    after (runs (.mbInWrite 0 37 0 [1]) (State.reset.put .MB_IN_STATE 37 2))
      (fun s => (s.get .MB_IN_STATE 37, (s.mbox 37).collision, s.get .MB_COLLISIONS 37)) = some (1, true, 1) := by
  decide +kernel

theorem test_doorbell_set_governs :
    after (runs (.doorbellClear 0 37 true 3 1) (State.reset.put .MB_DB_TO_FW 37 7)) (fun s => s.get .MB_DB_TO_FW 37) =
      some 5 := by decide +kernel

theorem test_idcode :
    after (runs (.jtagInstruction 0 1)) (fun s => s.out.getLast?) = some (some (.event 367 [0xB5120E4B])) := by
  decide +kernel

theorem test_counter_wraps :
    after (runs (.counterWrap 0 80) (State.reset.put .CTR_VALUE 80 (2 ^ 48 - 1)))
      (fun s => (s.get .CTR_VALUE 80, s.get .CTR_OVERFLOW 80)) = some (0, 1) := by decide +kernel

theorem test_unknown_profile_is_out_of_range : (State.reset.profileSave 4).1 = 0x0301 := by decide +kernel

theorem test_parked_port_is_not_reset : (State.reset.portReset 8).1 = 0x0401 := by decide +kernel

theorem test_pair_stop_raises :
    (({ State.reset with boot := .odtaku }.stopPair 1).errs.map fun (e : Err) => (e.code, e.detail)) = [(0x3007, 1)] := by
  decide +kernel

theorem test_warm_reset_keeps_time :
    after (runs (.warmReset (ms 7)) { State.reset with sec := { State.reset.sec with returned := false } })
      (fun s => (s.boot, s.now)) = some (.reset, ms 7) := by decide +kernel

theorem test_trained_host_link_waits_for_presence :
    after (runs (.hotResetReceive 0 State.reset.node 8)) (fun s => s.get .TRAIN_STATE 8) = some 0 := by decide +kernel

/-- The check value of this CRC's parameters (R191) over the characters 1 to 9. -/
theorem test_flit_crc_check :
    crc64 [0x31, 0x32, 0x33, 0x34, 0x35, 0x36, 0x37, 0x38, 0x39] = 0x62EC59E3F1A4F00A := by decide +kernel

/-- The product of R190's six factors: α^166, α^0, α^134, α^5, α^176 and α^15 below x^6. -/
theorem test_flit_code_generator : rsGen = [63, 1, 218, 32, 227, 38] := by decide +kernel

/-- Three symbols of a codeword are corrected (R190). -/
theorem test_three_symbols_corrected :
    rsDecode 171 (rsSyndromes [(5, 255), (6, 255), (160, 1)]) = some [(5, 255), (6, 255), (160, 1)] := by decide +kernel

/-- A value is sent most significant byte first (R311). -/
theorem test_value_octets : beBytes 0x0102 4 = [0, 0, 1, 2] := by decide

/-- A checker that the generator's own pattern reaches, error-free, holds lock after its seed and 64 bits (R237). -/
theorem test_checker_locks :
    (checkBits 7 6 false {} (prbsRun 7 6 5 71)).2.1 = true ∧ (checkBits 7 6 false {} (prbsRun 7 6 5 70)).2.1 = false := by
  decide +kernel

/-- The pairs 00, 01, 11 and 10 are the four levels in order, the more significant pair first (R226). -/
theorem test_gray_symbols : byteSymbols 0b00011110 = [0, 1, 2, 3] := by decide

/-! ## A concrete state and operands for every hypothesis -/

theorem witness_StepRunsTheFrontCommand : ∃ s : State, s.pending = [] := ⟨State.reset, rfl⟩

theorem witness_EveryStepKeepsTheInvariant : ∃ s : State, s.Inv ∧ s.pending ≠ [] :=
  ⟨{ State.reset with pending := [.coldReset 0] }, by decide +kernel⟩

theorem witness_CommandsStopOnlyOutsideThePart_1 : ∃ c : Instr, c.wf = true := ⟨.coldReset 0, rfl⟩

theorem witness_CommandsStopOnlyOutsideThePart_2 : ∃ c : Instr, c.wf = false := ⟨.pairStop 0 2, rfl⟩

theorem witness_FastTripsHaveCauseThree :
  (∃ (s : State) (_t : Time) (c iA iB : Nat),
    c < 64 ∧ s.errs = [] ∧ s.get .SP_STATE c = 3 ∧ s.get .SP_INRUSH_LIMIT c * s.get .SP_FAST_TRIP_PCT c < 100 * max iA iB) ∧
  (∃ (s : State) (_t : Time) (c iA iB : Nat),
    c < 64 ∧ s.errs = [] ∧ s.get .SP_STATE c = 4 ∧ s.get .SP_LIMIT c * s.get .SP_FAST_TRIP_PCT c < 100 * max iA iB) ∧
  (∃ (s : State) (_t : Time) (c iA iB : Nat),
    c < 64 ∧ s.errs = [] ∧ s.get .SP_STATE c = 4 ∧ 100 * max iA iB ≤ s.get .SP_LIMIT c * s.get .SP_FAST_TRIP_PCT c) :=
  ⟨⟨State.reset.put .SP_STATE 3 3, 0, 3, 0, 1000000, by decide +kernel⟩,
  ⟨State.reset.put .SP_STATE 3 4, 0, 3, 1000000, 0, by decide +kernel⟩,
  ⟨State.reset.put .SP_STATE 3 4, 0, 3, 0, 0, by decide +kernel⟩⟩

theorem witness_SeatingEndsAtTheLaterOfTwoInstants :
  (∃ (s : State) (_t : Time) (c : Nat) (long short : Bool),
    c < 64 ∧ s.errs = [] ∧ (s.get .SP_STATE c = 1 ∨ s.get .SP_STATE c = 2) ∧ (long ≠ (s.slot c).long ∨ short ≠ (s.slot c).short)) ∧
  (∃ (s : State) (_t : Time) (c : Nat),
    c < 64 ∧ s.errs = [] ∧ s.get .SP_STATE c = 2 ∧ (s.slot c).seated = true) ∧
  (∃ (s : State) (_t : Time) (c : Nat),
    c < 64 ∧ s.errs = [] ∧ s.get .SP_STATE c = 2 ∧ (s.slot c).seated = true) :=
  ⟨⟨({ State.reset with slots := [(3, { long := true, short := true })] }).put .SP_STATE 3 2, ms 10, 3, true, false, by decide +kernel⟩,
  ⟨({ State.reset with slots := [(3, { long := true, short := true, offUntil := ms 5 })] }).put .SP_STATE 3 2, ms 1000, 3, by decide +kernel⟩,
  ⟨({ State.reset with slots := [(3, { long := true, short := true, offUntil := ms 5 })] }).put .SP_STATE 3 2, ms 1000, 3, by decide +kernel⟩⟩

theorem witness_EveryCommandCompletesWithItsEffect_1 :
    ∀ c ∈ ([.pipEdge [],
      .shadowSetClose 0,
      .engineBudgetExhausted 0 1 0 0,
      .ipfixMessageSend 0 0,
      .gateEntryStart 0 0,
      .trefPpsEdge 0 true,
      .trefLost 0,
      .ptpMessageReceive 0 0 0,
      .timeSourceQualified 0 0,
      .timeRootDisplace 0,
      .timeMarkerSend 0 0,
      .ptmRequest 0 0,
      .timeStep 0 { path := .smMailbox } [] 0,
      .pipPeriodWrite 0 { path := .smMailbox } [] (entryOf .PIP_PERIOD none 0),
      .unitReady 0 0 0 0 true none,
      .guardPoint 0 0,
      .decisionResend 0 0 [],
      .decisionQuery 0 0 0 true,
      .epochApply 0,
      .helloSend 0 0,
      .helloReceive 0 0 { node := 1, serial := 0, plane := 0, orchard := 0, healthy := true, rootClass := 0, rootNode := 0, hops := 0, keeper := 0, port := 0 },
      .neighbourDown 0 0,
      .linkStateMessage 0 0 0 0 0 true true,
      .keeperTakeover 0,
      .keeperHandover 0 0,
      .keeperColdElection 0,
      .deviceEnumeration 0 0 [],
      .sriovNumvfsWrite 0 { path := .smMailbox } 0 0,
      .partitionBindWrite 0 { path := .smMailbox } 0 none none,
      .partitionWaitTimeout 0 0,
      .partitionQuiesce 0 { path := .smMailbox } 0 0,
      .hostConfigRequest 0 0 { bus := 0, dev := 0, fn := 0, reg := 0 },
      .configFwCompletion 0 0,
      .hostConfigShadowWrite 0 0 0 .maxPayload 0 0 0,
      .graftActionWrite 0 { path := .smMailbox } 0 0,
      .graftCommit 0 { path := .smMailbox } [],
      .hostSlotPowerControl 0 0 0 true true,
      .ungraftTimeout 0 0,
      .hostSecondaryBusReset 0 0 0,
      .hostFunctionLevelReset 0 0 0,
      .tlpIngressParse 0 0 {},
      .mgmtFunctionMemoryAccess 0 0 true 0 [] 0 0,
      .mfRegisterWrite 0 0 0 0,
      .hostBarWrite 0 0 0 0 0 0 0 0,
      .apertureActivate 0 0 0 0,
      .vfBarEmulate 0 0 0 { bus := 0, dev := 0, fn := 0, reg := 0 },
      .schedulerSelect 0 0,
      .flowControlUpdate 0 0 (0, 0) (0, 0) (0, 0),
      .shaperConform 0 0 0 none,
      .creditWithholdEnd 0 0,
      .tagDeadline 0 0 0,
      .tagQuarantineEnd 0 0 0,
      .cplTimeoutStorm 0 0,
      .fabricPacketArrive 0 0 {},
      .orderHoldTimeout 0 0,
      .pathChangeFlaggingEnd 0 0,
      .twinCopyArrive 0 0 {},
      .twinSkewTimeout 0 0,
      .spillBlockClose 0 0 .posted,
      .spillBlockWritten 0 0 .posted] : List Instr), c.wf = true := by decide

theorem witness_EveryCommandCompletesWithItsEffect_2 :
    ∀ c ∈ ([.drainBlockRead 0 0 .posted,
      .drainBlockLinked 0 0 .posted true,
      .spillExit 0 0,
      .receiveFifoResume 0 0,
      .bramblePassEnd 0,
      .rsvActionWrite 0 { path := .smMailbox } 0 0,
      .rsvCommit 0 { path := .smMailbox } [],
      .rsvAdmissionDone 0,
      .rsvReadmit 0 0,
      .glBankWrite 0 { path := .smMailbox } 0 none none none 0,
      .gateSwitch 0 { path := .smMailbox } [],
      .flitTransmit 0 0 [],
      .flitReceive 0 0 { header := 0, payload := .data [] },
      .ackTimerExpiry 0 0,
      .nakRepeat 0 0,
      .replayTimeout 0 0,
      .initFlitReceive 0 0 { node := 0, width := 0, port := 0, gen := 0, peerSeen := true, seqKept := true, serial := 0, poolUnits := 0, mins := [], held := [], rxLastGood := 0, txNextSeq := 0, ackCoalesce := 0, resumeGranule := 0, ackTimer := 0 },
      .initTimeout 0 0,
      .reinitTimeout 0 0,
      .blockLockLost 0 0,
      .linkDownTimeExpiry 0 0,
      .salvageComplete 0 0,
      .creditPoolAudit 0 0 [],
      .withdraw 0 { path := .smMailbox } 0,
      .withdrawReinitRequest 0 0,
      .poolUpdate 0 0 [],
      .request 0 0 { op := 1 },
      .grant 0 0 { op := 1 },
      .refuse 0 0 { op := 1 },
      .done 0 0 { op := 1 },
      .detectRetry 0 0 true true,
      .trainingBlockReceive 0 0 { sync := 0, laneIndex := 0, width := 0, rate := 0, node := 0, stage := 0, eqOp := 0, eqArg := 0, eqNum := 0, echoNum := 0, echoStatus := 0 },
      .trainStageTimeout 0 0,
      .retrainIntervalExpiry 0 0,
      .marginSample 0 0 0 0 none,
      .spareCommand 0 { path := .smMailbox } 0 0,
      .spareTrained 0 0,
      .spareReadyTimeout 0 0,
      .swapFlitReached 0 0,
      .retrain 0 { path := .smMailbox } 0,
      .counterClear 0 { path := .smMailbox } 0,
      .portCfgWrite 0 { path := .smMailbox } 0 none none none,
      .dataLinkUp 0 0 0 0 true,
      .trainTimeout 0 0,
      .surpriseDown 0 0,
      .hostLinkDown 0 0 0,
      .hotResetReceive 0 0 0,
      .hostPerstAssert 0 0,
      .hostPerstDeassert 0 0,
      .aspmL1Entry 0 0,
      .deviceL1Request 0 0,
      .ideKmMessage 0 0 0 true,
      .ideRekey 0 0,
      .fundamentalReset 0 { path := .smMailbox } 0,
      .perstPulseEnd 0 0,
      .mfFunctionLevelReset 0 0,
      .mfResetComplete 0 0,
      .ringBatchWrite 0 0 0,
      .hostDpcSoftwareTrigger 0 0 0,
      .hostDpcStatusClear 0 0 0] : List Instr), c.wf = true := by decide

theorem witness_EveryCommandCompletesWithItsEffect_3 :
    ∀ c ∈ ([.spEnableWrite 0 { path := .smMailbox } 0 0,
      .presenceChange 0 0 true true,
      .seatDebounceEnd 0 0,
      .powerGood 0 0 [],
      .perstDelayEnd 0 0,
      .faultTimerExpiry 0 0 [],
      .fastTrip 0 0 0 0,
      .inrushTimeout 0 0,
      .undervoltageTrip 0 0 [],
      .faultTimerClear 0 0 [],
      .offTimeEnd 0 0,
      .commandedGateOff 0 0,
      .shareAdjust 0 0 [],
      .shareOutOfRange 0 0,
      .feedLost 0 0 [],
      .feedReturn 0 0 [],
      .huskDrained 0 0,
      .huskCommand 0 { path := .smMailbox } 0,
      .huskRelease 0 { path := .smMailbox } 0,
      .regionRestartHoldEnd 0 0,
      .regionRestart 0 { path := .smMailbox } 0,
      .regionBistComplete 0 0 [],
      .quadrantQueueSweepDone 0 0,
      .read 0 { path := .smMailbox } [],
      .write 0 { path := .smMailbox } [] [],
      .blockRead 0 { path := .smMailbox } { idx := 0x1000, sub := 1 } 0 0,
      .rowRead 0 { path := .smMailbox } { idx := 0x1000, sub := 1 } [],
      .rowWrite 0 { path := .smMailbox } { idx := 0x1000, sub := 1 } [],
      .subscribe 0 { path := .smMailbox } 0 0 [],
      .abort 0 { path := .smMailbox } 0 0,
      .dtlsHandshake 0 0 0 true true true 0,
      .sessionIdleTimeout 0 0,
      .sessionClose 0 { path := .smMailbox } 0,
      .trustAnchorWrite 0 { path := .smMailbox } 0 0 0 0 0,
      .mgmtAddressWrite 0 { path := .smMailbox } 0 0 0 0,
      .profileSave 0 { path := .smMailbox } 0,
      .profileErase 0 { path := .smMailbox } 0,
      .profileSwitch 0 { path := .smMailbox } [] 0 0 0,
      .windowCommit 0 { path := .smMailbox } [],
      .windowDiscard 0 { path := .smMailbox },
      .pairStop 0 0,
      .watchdogExpiry 0 0,
      .pairRestartComplete 0 0,
      .pairRestart 0 { path := .smMailbox } 0,
      .irqTake 0 0,
      .irqComplete 0 0,
      .irqConfigWrite 0 0 0 0,
      .mbInWrite 0 0 0 [],
      .mbInTake 0 0,
      .mbOutPlace 0 0 [],
      .mbTake 0 0 0,
      .doorbellSet 0 0 true 0,
      .doorbellClear 0 0 true 0 0,
      .sidebandWindowTransaction 0 true 0 [] 0,
      .smEventClear 0 0,
      .mctpMessage 0 true 16 0 0 0,
      .i3cDynamicAddress 0 0 0,
      .protectionDescriptorWrite 0 0 0 0,
      .acuFence 0 { path := .smMailbox },
      .accessDenial 0 0 0 0 0 0] : List Instr), c.wf = true := by decide

theorem witness_EveryCommandCompletesWithItsEffect_4 :
    ∀ c ∈ ([.debugHalt 0 0,
      .debugResume 0 0,
      .jtagInstruction 0 0,
      .tokenChallenge 0 { path := .smMailbox },
      .tokenSubmit 0 { path := .smMailbox } 0,
      .debugLock 0 { path := .smMailbox },
      .svnCommit 0 { path := .smMailbox } 0,
      .spdmRequest 0 0 0 true,
      .hssTreeBuilt 0,
      .coldReset 0,
      .warmReset 0,
      .orchardReset 0 { path := .smMailbox } 0 0,
      .resetEnd 0 true true true,
      .portReset 0 { path := .smMailbox } 0,
      .partitionReset 0 { path := .smMailbox } 0,
      .partitionResetComplete 0 0,
      .fwErase 0 { path := .smMailbox } 0,
      .fwWrite 0 { path := .smMailbox } 0 0 [],
      .fwVerify 0 { path := .smMailbox } 0,
      .fwSwitch 0 { path := .smMailbox } [] 0,
      .fwPairReloadDone 0 0,
      .fwTrialEnd 0,
      .ctrClear 0 { path := .smMailbox } 0,
      .counterWrap 0 0,
      .sampleClear 0 { path := .smMailbox },
      .peakClear 0 { path := .smMailbox } 0,
      .regionLimitExceeded 0 1 true 0 0 0 0,
      .limitThrottleEnd 0 0 1,
      .throttleTempExceeded 0 0 0,
      .throttleLevelStep 0 0 0 true,
      .overtemperatureIsolate 0 0,
      .coreReferenceLost 0 true,
      .corePllRelock 0,
      .coreReferenceHoldExpiry 0,
      .powerCapCheck 0 0,
      .hbmColdStartReady 0 0,
      .gpioChange 0 0,
      .bootImageAccepted 0,
      .fwOperationComplete 0,
      .profileStoreComplete 0,
      .faultTimerStart 0 0 [],
      .perstOutDeassertDelayEnd 0 0,
      .verifyStageEnd 0 0 [],
      .prbsCheckerLock 0 0 [],
      .prbsCheckerLockLost 0 0 [],
      .receiverDetect 0 0,
      .hbmFailure 0 0,
      .controlFatal 0] : List Instr), c.wf = true := by decide

theorem witness_SlotsArePoweredAndTrip :
  (∃ (s : State) (_t : Time) (c : Nat),
    c < 64 ∧ s.errs = [] ∧ s.get .SP_STATE c = 1 ∧ (s.slot c).seated = false) ∧
  (∃ (s : State) (t : Time) (c : Nat),
    c < 64 ∧ s.errs = [] ∧ s.get .SP_STATE c = 2 ∧ (s.slot c).seated = true ∧ (s.slot c).debFrom + ms (s.get .SP_SEAT_DEBOUNCE c) ≤ max s.now t ∧ (s.slot c).offUntil ≤ max s.now t) ∧
  (∃ (s : State) (t : Time) (c : Nat),
    c < 64 ∧ s.errs = [] ∧ s.get .SP_STATE c = 2 ∧ (s.slot c).seated = true ∧ (s.slot c).debFrom + ms (s.get .SP_SEAT_DEBOUNCE c) ≤ max s.now t ∧ (s.slot c).offUntil ≤ max s.now t) ∧
  (∃ (s : State) (_t : Time) (c n iA iB v : Nat),
    c < 64 ∧ s.errs = [] ∧ s.get .SP_STATE c = 3 ∧ (s.slot c).timer = 0 ∧ iA < 2 ^ 32 ∧ iB < 2 ^ 32 ∧ v < 2 ^ 32 ∧ s.get .SP_UV_THRESHOLD c ≤ s.adcRail c v ∧ (s.adcCurrent c iA) ≤ 16 * (s.adcCurrent c iB) ∧ (s.adcCurrent c iB) ≤ 16 * (s.adcCurrent c iA) ∧ (s.adcCurrent c iA) ≤ s.get .SP_INRUSH_LIMIT c ∧ (s.adcCurrent c iB) ≤ s.get .SP_INRUSH_LIMIT c ∧ s.get .SP_PG_THRESHOLD c ≤ s.adcRail c v ∧ 0 < n ∧ (s.slot c).good + n = s.get .SP_PG_DEBOUNCE c) ∧
  (∃ (s : State) (t : Time) (c : Nat),
    c < 64 ∧ s.errs = [] ∧ s.get .SP_STATE c = 4 ∧ (s.slot c).offCmd = none ∧ (s.slot c).stateAt + ms (s.get .SP_PERST_DELAY c) ≤ max s.now t) ∧
  (∃ (s : State) (t : Time) (c : Nat),
    c < 64 ∧ s.errs = [] ∧ (s.slot c).offCmd = some 0 ∧ us 100 ≤ max s.now t) ∧
  (∃ (s : State) (_t : Time) (c n iA iB v : Nat),
    c < 64 ∧ s.errs = [] ∧ s.powered c = true ∧ iA < 2 ^ 32 ∧ iB < 2 ^ 32 ∧ v < 2 ^ 32 ∧ s.get .SP_UV_THRESHOLD c ≤ s.adcRail c v ∧ (s.adcCurrent c iA) ≤ 16 * (s.adcCurrent c iB) ∧ (s.adcCurrent c iB) ≤ 16 * (s.adcCurrent c iA) ∧ s.slotLimit c (s.get .SP_STATE c) < max (s.adcCurrent c iA) (s.adcCurrent c iB) ∧ 0 < n ∧ (s.slot c).timer + n = s.get .SP_FAULT_TIME c) ∧
  (∃ (s : State) (_t : Time) (c iA _iB : Nat),
    c < 64 ∧ s.powered c = true ∧ s.slotLimit c (s.get .SP_STATE c) * s.get .SP_FAST_TRIP_PCT c < 100 * iA) ∧
  (∃ (s : State) (t : Time) (c : Nat),
    c < 64 ∧ s.get .SP_STATE c = 3 ∧ (s.slot c).stateAt + us (s.get .SP_INRUSH_TIMEOUT c) ≤ max s.now t) ∧
  (∃ (s : State) (_t : Time) (c n iA iB v : Nat),
    c < 64 ∧ s.errs = [] ∧ s.get .SP_STATE c = 4 ∧ iA < 2 ^ 32 ∧ iB < 2 ^ 32 ∧ s.adcRail c v < s.get .SP_UV_THRESHOLD c ∧ v < 2 ^ 32 ∧ (s.adcCurrent c iA) ≤ 16 * (s.adcCurrent c iB) ∧ (s.adcCurrent c iB) ≤ 16 * (s.adcCurrent c iA) ∧ max (s.adcCurrent c iA) (s.adcCurrent c iB) ≤ s.get .SP_LIMIT c ∧ 0 < n ∧ (s.slot c).low + n = 50) :=
  ⟨⟨State.reset.put .SP_STATE 3 1, 0, 3, by decide +kernel⟩,
  ⟨({ State.reset with slots := [(3, { long := true, short := true })] }).put .SP_STATE 3 2, ms 1000, 3, by decide +kernel⟩,
  ⟨({ State.reset with slots := [(3, { long := true, short := true, offUntil := ms 200 })] }).put .SP_STATE 3 2, ms 1000, 3, by decide +kernel⟩,
  ⟨({ State.reset with slots := [(3, { good := 999, last := [(1000, 1000)] })] }).put .SP_STATE 3 3, ms 1000, 3, 1, 1000, 1000, 12000, by decide +kernel⟩,
  ⟨State.reset.put .SP_STATE 3 4, ms 100000, 3, by decide +kernel⟩,
  ⟨({ State.reset with slots := [(3, { offCmd := some 0 })] }).put .SP_STATE 3 4, us 100, 3, by decide +kernel⟩,
  ⟨({ State.reset with slots := [(3, { timer := 995 })] }).put .SP_STATE 3 4, ms 5, 3, 5, 1000000, 1000000, 12000, by decide +kernel⟩,
  ⟨State.reset.put .SP_STATE 3 4, 0, 3, 1000000, 0, by decide +kernel⟩,
  ⟨State.reset.put .SP_STATE 3 3, ms 10000, 3, by decide +kernel⟩,
  ⟨({ State.reset with slots := [(3, { low := 40 })] }).put .SP_STATE 3 4, ms 5, 3, 10, 1000, 1000, 5000, by decide +kernel⟩⟩

theorem witness_SlotSamplesTimersAndFeeds :
  (∃ (_s : State) (_t : Time) (c : Nat) (l : List (Nat × Nat × Nat × Nat)),
    c < 64 ∧ (l.all (fun x => x.2.1 < 2 ^ 32 && x.2.2.1 < 2 ^ 32 && x.2.2.2 < 2 ^ 32) = true)) ∧
  (∃ (_s : State) (_t : Time) (c : Nat) (l : List (Nat × Nat × Nat × Nat)),
    c < 64 ∧ (l.all (fun x => x.2.1 < 2 ^ 32 && x.2.2.1 < 2 ^ 32 && x.2.2.2 < 2 ^ 32) = true)) ∧
  (∃ (_s : State) (_t : Time) (c : Nat) (l : List (Nat × Nat × Nat × Nat)),
    c < 64 ∧ (l.all (fun x => x.2.1 < 2 ^ 32 && x.2.2.1 < 2 ^ 32 && x.2.2.2 < 2 ^ 32) = true)) ∧
  (∃ (_s : State) (_t : Time) (c : Nat) (l : List (Nat × Nat × Nat × Nat)),
    c < 64 ∧ (l.all (fun x => x.2.1 < 2 ^ 32 && x.2.2.1 < 2 ^ 32 && x.2.2.2 < 2 ^ 32) = true)) ∧
  (∃ (_s : State) (_t : Time) (c : Nat) (l : List (Nat × Nat × Nat × Nat)),
    c < 64 ∧ (l.all (fun x => x.2.1 < 2 ^ 32 && x.2.2.1 < 2 ^ 32 && x.2.2.2 < 2 ^ 32) = true)) ∧
  (∃ (_s : State) (_t : Time) (c : Nat) (l : List (Nat × Nat × Nat × Nat)),
    c < 64 ∧ (l.all (fun x => x.2.1 < 2 ^ 32 && x.2.2.1 < 2 ^ 32 && x.2.2.2 < 2 ^ 32) = true)) ∧
  (∃ (_s : State) (_t : Time) (c : Nat) (l : List (Nat × Nat × Nat × Nat)),
    c < 64 ∧ (l.all (fun x => x.2.1 < 2 ^ 32 && x.2.2.1 < 2 ^ 32 && x.2.2.2 < 2 ^ 32) = true)) ∧
  (∃ (_s : State) (_t : Time) (c : Nat) (l : List (Nat × Nat × Nat × Nat)),
    c < 64 ∧ (l.all (fun x => x.2.1 < 2 ^ 32 && x.2.2.1 < 2 ^ 32 && x.2.2.2 < 2 ^ 32) = true)) ∧
  (∃ (s : State) (_t : Time) (c n iA iB v : Nat),
    c < 64 ∧ s.errs = [] ∧ s.get .SP_STATE c = 4 ∧ iA < 2 ^ 32 ∧ iB < 2 ^ 32 ∧ v < 2 ^ 32 ∧ s.get .SP_UV_THRESHOLD c ≤ s.adcRail c v ∧ (s.adcCurrent c iA) ≤ 16 * (s.adcCurrent c iB) ∧ (s.adcCurrent c iB) ≤ 16 * (s.adcCurrent c iA) ∧ s.get .SP_LIMIT c < max (s.adcCurrent c iA) (s.adcCurrent c iB) ∧ 0 < n ∧ (s.slot c).timer + n < s.get .SP_FAULT_TIME c) ∧
  (∃ (s : State) (_t : Time) (c n iA iB v : Nat),
    c < 64 ∧ s.errs = [] ∧ s.get .SP_STATE c = 4 ∧ iA < 2 ^ 32 ∧ iB < 2 ^ 32 ∧ v < 2 ^ 32 ∧ s.get .SP_UV_THRESHOLD c ≤ s.adcRail c v ∧ (s.adcCurrent c iA) ≤ 16 * (s.adcCurrent c iB) ∧ (s.adcCurrent c iB) ≤ 16 * (s.adcCurrent c iA) ∧ 100 * max (s.adcCurrent c iA) (s.adcCurrent c iB) ≤ s.get .SP_LIMIT c * 95 ∧ 0 < n ∧ (s.slot c).calm + n = 10 ∧ 0 < (s.slot c).timer) ∧
  (∃ (s : State) (t : Time) (c iA iB : Nat),
    c < 64 ∧ s.errs = [] ∧ s.get .SP_SHARE_ENABLE c = 1 ∧ s.powered c = true ∧ s.get .SP_I_A c = iA ∧ s.get .SP_I_B c = iB ∧ s.get .SP_SHARE_MIN c < iA + iB ∧ s.get .SP_FEED_STATUS c = 0 ∧ 5 * max iA iB < 100 * (max iA iB - min iA iB) ∧ (s.slot c).adjAt + us 100 ≤ max s.now t) ∧
  (∃ (s : State) (t : Time) (c : Nat) (w : Time),
    c < 64 ∧ s.errs = [] ∧ s.get .SP_SHARE_ENABLE c = 1 ∧ s.powered c = true ∧ s.feedBit c 2 = false ∧ (s.slot c).wideAt = some w ∧ w + ms 100 ≤ max s.now t) ∧
  (∃ (s : State) (_t : Time) (c n iA iB v feed : Nat),
    c < 64 ∧ s.errs = [] ∧ s.get .SP_STATE c = 4 ∧ iA < 2 ^ 32 ∧ iB < 2 ^ 32 ∧ v < 2 ^ 32 ∧ s.get .SP_UV_THRESHOLD c ≤ s.adcRail c v ∧ max (s.adcCurrent c iA) (s.adcCurrent c iB) ≤ s.get .SP_LIMIT c ∧ s.get .SP_SHARE_MIN c < (s.adcCurrent c iA) + (s.adcCurrent c iB) ∧ ((feed = 0 ∧ 16 * (s.adcCurrent c iA) < (s.adcCurrent c iB)) ∨ (feed = 1 ∧ 16 * (s.adcCurrent c iB) < (s.adcCurrent c iA))) ∧ s.feedBit c feed = false ∧ 0 < n ∧ (s.slot c).starved.getD 0 feed + n = 1000) ∧
  (∃ (s : State) (_t : Time) (c n iA iB v feed : Nat),
    c < 64 ∧ s.errs = [] ∧ s.get .SP_STATE c = 4 ∧ iA < 2 ^ 32 ∧ iB < 2 ^ 32 ∧ v < 2 ^ 32 ∧ s.get .SP_UV_THRESHOLD c ≤ s.adcRail c v ∧ (s.adcCurrent c iA) ≤ 16 * (s.adcCurrent c iB) ∧ (s.adcCurrent c iB) ≤ 16 * (s.adcCurrent c iA) ∧ max (s.adcCurrent c iA) (s.adcCurrent c iB) ≤ s.get .SP_LIMIT c ∧ ((feed = 0 ∧ (s.adcCurrent c iB) < 4 * (s.adcCurrent c iA)) ∨ (feed = 1 ∧ (s.adcCurrent c iA) < 4 * (s.adcCurrent c iB))) ∧ s.feedBit c feed = true ∧ 0 < n ∧ (s.slot c).fed.getD 0 feed + n = 10000) :=
  ⟨⟨State.reset.put .SP_STATE 3 4, ms 7, 3, [(3, 1000, 0, 12000), (2, 9000000, 5, 6)], by decide +kernel⟩,
  ⟨State.reset.put .SP_STATE 3 4, ms 7, 3, [(3, 1000, 0, 12000), (2, 9000000, 5, 6)], by decide +kernel⟩,
  ⟨State.reset.put .SP_STATE 3 4, ms 7, 3, [(3, 1000, 0, 12000), (2, 9000000, 5, 6)], by decide +kernel⟩,
  ⟨State.reset.put .SP_STATE 3 4, ms 7, 3, [(3, 1000, 0, 12000), (2, 9000000, 5, 6)], by decide +kernel⟩,
  ⟨State.reset.put .SP_STATE 3 4, ms 7, 3, [(3, 1000, 0, 12000), (2, 9000000, 5, 6)], by decide +kernel⟩,
  ⟨State.reset.put .SP_STATE 3 4, ms 7, 3, [(3, 1000, 0, 12000), (2, 9000000, 5, 6)], by decide +kernel⟩,
  ⟨State.reset.put .SP_STATE 3 4, ms 7, 3, [(3, 1000, 0, 12000), (2, 9000000, 5, 6)], by decide +kernel⟩,
  ⟨State.reset.put .SP_STATE 3 4, ms 7, 3, [(3, 1000, 0, 12000), (2, 9000000, 5, 6)], by decide +kernel⟩,
  ⟨State.reset.put .SP_STATE 3 4, 0, 3, 7, 1000000, 1000000, 12000, by decide +kernel⟩,
  ⟨({ State.reset with slots := [(3, { timer := 5, calm := 4 })] }).put .SP_STATE 3 4, 0, 3, 6, 100, 100, 12000, by decide +kernel⟩,
  ⟨((State.reset.put .SP_STATE 3 4).put .SP_SHARE_ENABLE 3 1).put .SP_I_B 3 1000000, ms 1, 3, 0, 1000000, by decide +kernel⟩,
  ⟨(({ State.reset with slots := [(3, { wideAt := some 0 })] }).put .SP_STATE 3 4).put .SP_SHARE_ENABLE 3 1, ms 100, 3, 0, by decide +kernel⟩,
  ⟨({ State.reset with slots := [(3, { starved := [(1, 990)] })] }).put .SP_STATE 3 4, 0, 3, 10, 5000, 100, 12000, 1, by decide +kernel⟩,
  ⟨(({ State.reset with slots := [(3, { fed := [(1, 9995)] })] }).put .SP_STATE 3 4).put .SP_FEED_STATUS 3 2, 0, 3, 5, 1000, 1000, 12000, 1, by decide +kernel⟩⟩

theorem witness_ThrottlesBeginStepAndEnd :
  (∃ (s : State) (_t : Time) (r : Nat) (temp : Int),
    r < 14 ∧ s.errs = [] ∧ s.runs r = true ∧ (s.regions.getD {} r).throttles = [] ∧ ((s.get .THROTTLE_TEMP * 8 : Nat) : Int) < temp) ∧
  (∃ (s : State) (_t : Time) (r : Nat) (b : Nat) (va vb : Int) (_sw : Bool),
    r < 14 ∧ b < 15 ∧ s.errs = [] ∧ s.neighbours r b = true ∧ s.runs r = true ∧ (s.regions.getD {} r).throttles = [] ∧ 200 < va - vb ∧ va - vb ≤ 240) ∧
  (∃ (s : State) (_t : Time) (r : Nat) (b : Nat) (va vb : Int) (_sw severe : Bool),
    r < 14 ∧ b < 15 ∧ s.errs = [] ∧ s.neighbours r b = true ∧ s.runs r = true ∧ (280 < va - vb ∨ (severe = true ∧ 240 < va - vb))) ∧
  (∃ (s : State) (_t : Time) (r : Nat) (b : Nat) (va vb : Int),
    r < 14 ∧ b < 15 ∧ s.errs = [] ∧ s.neighbours r b = true ∧ s.runs r = true ∧ (s.regions.getD {} r).throttles = [] ∧ 3 * (s.get .VDD_SET_MV r * s.get .VDD_SET_MV b : Nat) < 100 * ((vb - s.get .VDD_SET_MV b) * s.get .VDD_SET_MV r - (va - s.get .VDD_SET_MV r) * s.get .VDD_SET_MV b)) ∧
  (∃ (s : State) (_t : Time) (r : Nat) (_va : Int),
    r < 14 ∧ s.errs = [] ∧ s.runs r = true) ∧
  (∃ (s : State) (_t : Time) (r : Nat) (b : Nat) (va _vb : Int),
    r < 8 ∧ b < 15 ∧ s.errs = [] ∧ s.neighbours r b = true ∧ 300 < va.natAbs) ∧
  (∃ (s : State) (_t : Time) (r : Nat) (b : Nat) (_va _vb : Int),
    r < 8 ∧ b < 15 ∧ s.errs = [] ∧ s.neighbours r b = true ∧ s.runs r = true) ∧
  (∃ (s : State) (t : Time) (r : Nat) (cause : Nat) (h : Throttle),
    r < 15 ∧ cause < 3 ∧ s.errs = [] ∧ (s.regions.getD {} r).throttles = [(cause, h)] ∧ h.stepAt + ms 1 ≤ max s.now t ∧ (cause ≠ 0 ∨ (s.get .THROTTLE_TEMP * 8 : Nat) < toInt 16 (s.get .TEMP r))) ∧
  (∃ (s : State) (t : Time) (r : Nat) (cause : Nat) (h : Throttle),
    r < 15 ∧ cause < 3 ∧ s.errs = [] ∧ (s.regions.getD {} r).throttles = [(cause, h)] ∧ h.stepAt + ms 10 ≤ max s.now t ∧ (cause ≠ 0 ∨ toInt 16 (s.get .TEMP r) + 24 ≤ (s.get .THROTTLE_TEMP * 8 : Nat))) ∧
  (∃ (s : State) (t : Time) (r : Nat) (h : Throttle),
    r < 15 ∧ s.errs = [] ∧ s.get .REGION_STATE r = 1 ∧ (s.regions.getD {} r).throttles = [(0, h)] ∧ h.level = 7 ∧ h.stepAt + ms 10 ≤ max s.now t ∧ toInt 16 (s.get .TEMP r) + 24 ≤ (s.get .THROTTLE_TEMP * 8 : Nat)) ∧
  (∃ (s : State) (t : Time) (r : Nat) (limit : Nat) (h : Throttle),
    r < 15 ∧ 0 < limit ∧ limit < 3 ∧ s.errs = [] ∧ s.get .REGION_STATE r = 1 ∧ (s.regions.getD {} r).throttles = [(limit, h)] ∧ (s.regions.getD {} r).beyond.getD limit 0 + ms 100 ≤ max s.now t) ∧
  (∃ (s : State) (t : Time) (r : Nat),
    r < 8 ∧ s.errs = [] ∧ (s.regions.getD {} r).beyond.getD 3 0 + ms 100 ≤ max s.now t) :=
  ⟨⟨State.reset.put .REGION_STATE 9 0, 0, 9, 900, by decide +kernel⟩,
  ⟨(State.reset.put .REGION_STATE 0 0).put .REGION_STATE 8 0, 0, 0, 8, 900, 690, true, by decide +kernel⟩,
  ⟨(State.reset.put .REGION_STATE 0 0).put .REGION_STATE 8 0, 0, 0, 8, 950, 700, true, true, by decide +kernel⟩,
  ⟨(State.reset.put .REGION_STATE 0 0).put .REGION_STATE 8 0, 0, 0, 8, 700, 750, by decide +kernel⟩,
  ⟨State.reset.put .REGION_STATE 0 0, 0, 0, 700, by decide +kernel⟩,
  ⟨(State.reset.put .REGION_STATE 0 0).put .REGION_STATE 8 0, 0, 0, 8, -301, 0, by decide +kernel⟩,
  ⟨(State.reset.put .REGION_STATE 0 0).put .REGION_STATE 8 0, 0, 0, 8, 0, 0, by decide +kernel⟩,
  ⟨({ State.reset with regions := [(9, { throttles := [(1, {})] })] }), ms 2, 9, 1, {}, by decide +kernel⟩,
  ⟨({ State.reset with regions := [(9, { throttles := [(2, {})] })] }), ms 12, 9, 2, {}, by decide +kernel⟩,
  ⟨({ State.reset with regions := [(9, { throttles := [(0, {})] })] }).put .REGION_STATE 9 1, ms 12, 9, {}, by decide +kernel⟩,
  ⟨({ State.reset with regions := [(9, { throttles := [(2, {})] })] }).put .REGION_STATE 9 1, ms 120, 9, 2, {}, by decide +kernel⟩,
  ⟨({ State.reset with regions := [(3, { beyond := [(3, 5)], overLimit := [3] })] }).put .REF_STATE 3 2, ms 120, 3, by decide +kernel⟩⟩

theorem witness_CoreReferenceHeatAndCapMoveOn :
  (∃ (s : State) (_t : Time) (_lost : Bool) (u : Nat),
    s.errs = [] ∧ u < 8 ∧ u ≠ s.get .CORE_REF_TILE ∧ s.get .REF_STATE u = 0 ∧ (∀ v < u, v ≠ s.get .CORE_REF_TILE → s.get .REF_STATE v ≠ 0)) ∧
  (∃ (s : State) (_t : Time) (_lost : Bool),
    s.errs = [] ∧ (∀ v ∈ List.range 8, v ≠ s.get .CORE_REF_TILE → s.get .REF_STATE v ≠ 0)) ∧
  (∃ (s : State) (_t : Time),
    s.errs = []) ∧
  (∃ (s : State) (t a : Time),
    s.refLostAt = some a ∧ a + ms 10 ≤ max s.now t) ∧
  (∃ (s : State) (_t : Time) (r : Nat),
    r < 14 ∧ toInt 16 (s.get .TEMP r) < 920) ∧
  (∃ (s : State) (_t : Time),
    toInt 16 (s.get .TEMP 14) < 920) ∧
  (∃ (s : State) (_t : Time) (k : Nat),
    k < 2 ∧ s.errs = [] ∧ k ∈ s.hbmCold) ∧
  (∃ (s : State) (_t : Time) (avg : Nat),
    s.errs = [] ∧ s.get .POWER_CAP < avg ∧ s.get .CAP_STEP < 10) ∧
  (∃ (s : State) (_t : Time) (avg : Nat),
    s.errs = [] ∧ s.get .POWER_CAP < avg ∧ s.get .CAP_STEP = 10) ∧
  (∃ (s : State) (t : Time) (avg : Nat) (a : Time),
    s.errs = [] ∧ avg + 10 < s.get .POWER_CAP ∧ 0 < s.get .CAP_STEP ∧ s.capSince = some a ∧ a + ms 100 ≤ max s.now t) ∧
  (∃ (s : State) (_t : Time) (avg : Nat),
    s.errs = [] ∧ s.get .POWER_CAP < avg ∧ s.get .CAP_STEP = 11) ∧
  (∃ (s : State) (_t : Time) (levels i : Nat),
    s.errs = [] ∧ i < 16 ∧ bit (s.get .GPIO_EVENT_MASK) i = true ∧ bit (levels &&& s.gpioInputs) i ≠ bit (s.get .GPIO_IN) i) :=
  ⟨⟨State.reset, 0, true, 1, by decide +kernel⟩,
  ⟨[1, 2, 3, 4, 5, 6, 7].foldl (fun s u => s.put .REF_STATE u 2) State.reset, 0, false, by decide +kernel⟩,
  ⟨State.reset, 0, by decide +kernel⟩,
  ⟨{ State.reset with refLostAt := some 0 }, ms 11, 0, by decide +kernel⟩,
  ⟨State.reset, 0, 9, by decide +kernel⟩,
  ⟨State.reset, 0, by decide +kernel⟩,
  ⟨{ State.reset with hbmCold := [0, 1] }, 0, 1, by decide +kernel⟩,
  ⟨(State.reset.put .CAP_STEP 0 7).put .POWER_CAP 0 100, 0, 200, by decide +kernel⟩,
  ⟨(State.reset.put .CAP_STEP 0 10).put .POWER_CAP 0 100, 0, 200, by decide +kernel⟩,
  ⟨{ State.reset.put .CAP_STEP 0 7 with capSince := some 0 }, ms 100, 200, 0, by decide +kernel⟩,
  ⟨(State.reset.put .CAP_STEP 0 11).put .POWER_CAP 0 100, 0, 200, by decide +kernel⟩,
  ⟨State.reset.put .GPIO_EVENT_MASK 0 4, 0, 4, 2, by decide +kernel⟩⟩

theorem witness_HostAndDeviceLinksComeUpAndGo :
  (∃ (s : State) (_t : Time) (port : Nat) (w r : Nat) (f : Bool),
    port < 512 ∧ s.errs = [] ∧ (s.isDevice port = true ∨ s.isHost port = true) ∧ s.get .TRAIN_STATE port = 8 ∧ (s.pport port).up = false ∧ 0 < s.soundWidth port (s.get .PORT_WIDTH port) w ∧ (f = true ∨ (s.get .NONFLIT_ALLOW port = 1 ∧ min r (s.get .MAX_RATE port) ≤ 5))) ∧
  (∃ (s : State) (_t : Time) (port : Nat) (w r : Nat),
    port < 512 ∧ s.errs = [] ∧ (s.isDevice port = true ∨ s.isHost port = true) ∧ s.get .TRAIN_STATE port = 8 ∧ (s.pport port).up = false ∧ 0 < s.soundWidth port (s.get .PORT_WIDTH port) w ∧ (s.get .NONFLIT_ALLOW port ≠ 1 ∨ 5 < min r (s.get .MAX_RATE port))) ∧
  (∃ (s : State) (_t : Time) (port : Nat) (w _r : Nat) (_f : Bool),
    port < 512 ∧ s.errs = [] ∧ (s.isDevice port = true ∨ s.isHost port = true) ∧ s.get .TRAIN_STATE port = 8 ∧ (s.pport port).up = true ∧ (s.pport port).flit = true ∧ s.get .L0P_ENABLE port = 1 ∧ 0 < s.soundWidth port (s.get .PORT_WIDTH port) w) ∧
  (∃ (s : State) (t : Time) (port : Nat),
    port < 512 ∧ s.errs = [] ∧ s.isDevice port = true ∧ s.get .DP_STATE port = 2 ∧ (s.pport port).trainAt + ms (s.get .TRAIN_TIMEOUT port) ≤ max s.now t) ∧
  (∃ (s : State) (_t : Time) (port : Nat),
    port < 512 ∧ s.isDevice port = true ∧ (s.pport port).up = true ∧ (s.get .DP_STATE port = 3 ∨ s.get .DP_STATE port = 4) ∧ (s.perstH (clusterOf port)).asserted = false) ∧
  (∃ (s : State) (_t : Time) (port : Nat),
    port < 512 ∧ s.isDevice port = true ∧ (s.pport port).up = true ∧ s.get .DP_STATE port = 5 ∧ (s.perstH (clusterOf port)).asserted = false) ∧
  (∃ (s : State) (_t : Time) (port : Nat),
    port < 512 ∧ s.isDevice port = true ∧ (s.pport port).up = true ∧ (s.get .DP_STATE port = 3 ∨ s.get .DP_STATE port = 4) ∧ (s.perstH (clusterOf port)).asserted = true) ∧
  (∃ (s : State) (_t : Time) (port : Nat),
    port < 512 ∧ s.errs = [] ∧ s.node < 32 ∧ s.isHost port = true ∧ (s.pport port).up = true ∧ s.partOfPort port = none) ∧
  (∃ (s : State) (_t : Time) (port : Nat) (p : Nat),
    port < 512 ∧ s.errs = [] ∧ s.node < 32 ∧ s.isHost port = true ∧ (s.pport port).up = true ∧ s.partOfPort port = some p ∧ s.get .PARTITION_STATE p = 2) ∧
  (∃ (s : State) (_t : Time) (port : Nat) (node p : Nat),
    port < 512 ∧ node < 32 ∧ node ≠ s.node ∧ (((s.rowsOf .HOST_PORT).keys.find? fun p => s.get .HOST_PORT p = port && s.get .HOST_NODE p = node) = some p)) ∧
  (∃ (s : State) (_t : Time) (port : Nat),
    port < 512 ∧ s.errs = [] ∧ s.node < 32 ∧ s.isHost port = true ∧ (s.pport port).up = true ∧ s.partOfPort port = none) ∧
  (∃ (s : State) (_t : Time) (port : Nat) (p : Nat),
    port < 512 ∧ s.errs = [] ∧ s.node < 32 ∧ s.isHost port = true ∧ (s.pport port).up = true ∧ s.partOfPort port = some p ∧ s.get .PARTITION_STATE p = 2) ∧
  (∃ (s : State) (_t : Time) (port : Nat) (node p : Nat),
    port < 512 ∧ node < 32 ∧ node ≠ s.node ∧ (((s.rowsOf .HOST_PORT).keys.find? fun p => s.get .HOST_PORT p = port && s.get .HOST_NODE p = node) = some p)) ∧
  (∃ (s : State) (_t : Time) (c port : Nat),
    c < 64 ∧ s.errs = [] ∧ s.perstHosts c = [port] ∧ s.partOfPort port = none) ∧
  (∃ (s : State) (_t : Time) (c port : Nat),
    c < 64 ∧ s.errs = [] ∧ s.perstHosts c = [port] ∧ s.get .TRAIN_STATE port = 0 ∧ s.quiesced port = false) :=
  ⟨⟨(State.reset.put .PORT_ROLE 8 2).put .TRAIN_STATE 8 8 |>.put .DP_STATE 8 2, 0, 8, 8, 6, true, by decide +kernel⟩,
  ⟨(State.reset.put .PORT_ROLE 8 1).put .TRAIN_STATE 8 8 |>.put .NONFLIT_ALLOW 8 0, 0, 8, 8, 4, by decide +kernel⟩,
  ⟨{ (State.reset.put .PORT_ROLE 8 1) with pports := [(8, { up := true })] }.put .TRAIN_STATE 8 8 |>.put .L0P_ENABLE 8 1, 0, 8, 4, 6, true, by decide +kernel⟩,
  ⟨(State.reset.put .PORT_ROLE 8 2).put .DP_STATE 8 2, ms 1000000, 8, by decide +kernel⟩,
  ⟨{ (State.reset.put .PORT_ROLE 8 2).put .DP_STATE 8 4 with pports := [(8, { up := true })], perst := [(1, { asserted := false })] }, 0, 8, by decide +kernel⟩,
  ⟨{ (State.reset.put .PORT_ROLE 8 2).put .DP_STATE 8 5 with pports := [(8, { up := true })], perst := [(1, { asserted := false })] }, 0, 8, by decide +kernel⟩,
  ⟨{ (State.reset.put .PORT_ROLE 8 2).put .DP_STATE 8 4 with pports := [(8, { up := true })] }, 0, 8, by decide +kernel⟩,
  ⟨{ (State.reset.put .PORT_ROLE 8 1) with pports := [(8, { up := true })] }, 0, 8, by decide +kernel⟩,
  ⟨{ (State.reset.put .PORT_ROLE 8 1 |>.put .HOST_PORT 3 8 |>.put .HOST_NODE 3 0 |>.put .NODE_ID 0 0 |>.put .PARTITION_STATE 3 2) with pports := [(8, { up := true })] }, 0, 8, 3, by decide +kernel⟩,
  ⟨(State.reset.put .PORT_ROLE 8 1 |>.put .HOST_PORT 3 8 |>.put .HOST_NODE 3 0 |>.put .NODE_ID 0 0 |>.put .PARTITION_STATE 3 2).put .NODE_ID 0 5, 0, 8, 0, 3, by decide +kernel⟩,
  ⟨{ (State.reset.put .PORT_ROLE 8 1) with pports := [(8, { up := true })] }, 0, 8, by decide +kernel⟩,
  ⟨{ (State.reset.put .PORT_ROLE 8 1 |>.put .HOST_PORT 3 8 |>.put .HOST_NODE 3 0 |>.put .NODE_ID 0 0 |>.put .PARTITION_STATE 3 2) with pports := [(8, { up := true })] }, 0, 8, 3, by decide +kernel⟩,
  ⟨(State.reset.put .PORT_ROLE 8 1 |>.put .HOST_PORT 3 8 |>.put .HOST_NODE 3 0 |>.put .NODE_ID 0 0 |>.put .PARTITION_STATE 3 2).put .NODE_ID 0 5, 0, 8, 0, 3, by decide +kernel⟩,
  ⟨{ (State.reset.put .PORT_ROLE 8 1).put .PERST_IN_SEL 8 1 with pports := [(8, { up := true })] }, 0, 1, 8, by decide +kernel⟩,
  ⟨(State.reset.put .PORT_ROLE 8 1).put .PERST_IN_SEL 8 1, ms 1, 1, 8, by decide +kernel⟩⟩

theorem witness_LinkPowerStatesAndIdeKeys :
  (∃ (s : State) (t : Time) (port : Nat),
    port < 512 ∧ s.errs = [] ∧ s.isHost port = true ∧ (s.pport port).up = true ∧ s.hostL1 port = true ∧ s.get .ASPM_L1_ALLOW port = 1 ∧ (∀ q ∈ s.queues, s.portFor q.1 q.2 = port → q.2.isEmpty = true) ∧ (s.pport port).busyAt + us (s.get .L1_IDLE_TIME port) ≤ max s.now t ∧ s.reserved port = false) ∧
  (∃ (s : State) (_t : Time) (port : Nat),
    port < 512 ∧ s.errs = [] ∧ s.isDevice port = true ∧ (s.pport port).up = true ∧ s.get .ASPM_L1_ALLOW port = 1 ∧ s.reserved port = false) ∧
  (∃ (s : State) (_t : Time) (port : Nat),
    port < 512 ∧ s.errs = [] ∧ s.isDevice port = true ∧ (s.pport port).up = true ∧ s.get .ASPM_L1_ALLOW port = 0) ∧
  (∃ (s : State) (_t : Time) (port : Nat) (k : Nat),
    port < 512 ∧ s.errs = [] ∧ (s.isHost port = true ∨ (s.isDevice port = true ∧ k = 0)) ∧ k < 5 ∧ s.get .IDE_MODE port ≠ 0 ∧ bit (s.get .IDE_STREAMS_ACTIVE port) k = false) ∧
  (∃ (s : State) (_t : Time) (port : Nat) (k : Nat),
    port < 512 ∧ s.errs = [] ∧ (s.isHost port = true ∨ (s.isDevice port = true ∧ k = 0)) ∧ k < 5 ∧ s.get .IDE_MODE port ≠ 0 ∧ bit (s.get .IDE_STREAMS_ACTIVE port) k = true) ∧
  (∃ (s : State) (_t : Time) (port : Nat) (k : Nat),
    port < 512 ∧ s.errs = [] ∧ (s.isHost port = true ∨ (s.isDevice port = true ∧ k = 0)) ∧ k < 5 ∧ s.get .IDE_MODE port ≠ 0) ∧
  (∃ (s : State) (t : Time) (port : Nat),
    port < 512 ∧ s.errs = [] ∧ s.isDevice port = true ∧ bit (s.get .IDE_STREAMS_ACTIVE port) 0 = true ∧ s.get .IDE_REKEY_INTERVAL port ≠ 0 ∧ (s.pport port).rekeyAt + ms (1000 * s.get .IDE_REKEY_INTERVAL port) ≤ max s.now t) :=
  ⟨⟨{ (State.reset.put .PORT_ROLE 8 1 |>.put .ASPM_L1_ALLOW 8 1 |>.put .HOST_PORT 3 8 |>.put .HOST_NODE 3 0 |>.put .NODE_ID 0 0) with pports := [(8, { up := true })], cfg := [(1536, [(0x50, 2)])] }, ms 1, 8, by decide +kernel⟩,
  ⟨{ (State.reset.put .PORT_ROLE 8 2).put .ASPM_L1_ALLOW 8 1 with pports := [(8, { up := true })] }, 0, 8, by decide +kernel⟩,
  ⟨{ (State.reset.put .PORT_ROLE 8 2).put .ASPM_L1_ALLOW 8 0 with pports := [(8, { up := true })] }, 0, 8, by decide +kernel⟩,
  ⟨(State.reset.put .PORT_ROLE 8 1).put .IDE_MODE 8 1, 0, 8, 4, by decide +kernel⟩,
  ⟨(State.reset.put .PORT_ROLE 8 1).put .IDE_MODE 8 1 |>.put .IDE_STREAMS_ACTIVE 8 31, 0, 8, 4, by decide +kernel⟩,
  ⟨(State.reset.put .PORT_ROLE 8 1).put .IDE_MODE 8 1 |>.put .IDE_STREAMS_ACTIVE 8 31, 0, 8, 4, by decide +kernel⟩,
  ⟨(State.reset.put .PORT_ROLE 8 2).put .IDE_STREAMS_ACTIVE 8 1 |>.put .IDE_REKEY_INTERVAL 8 60, ms 60000, 8, by decide +kernel⟩⟩

theorem witness_PerstPulsesDelaysAndDetection :
  (∃ (s : State) (_t : Time) (req : Req) (port : Nat),
    s.errs = [] ∧ s.hears req ∧ s.mayInvoke req .FUNDAMENTAL_RESET (some port) = 0 ∧ s.isDevice port = true ∧ s.clusterFree (clusterOf port) = true) ∧
  (∃ (s : State) (_t : Time) (req : Req) (port : Nat),
    s.errs = [] ∧ s.hears req ∧ s.mayInvoke req .FUNDAMENTAL_RESET (some port) = 0 ∧ (s.isDevice port = false ∨ s.clusterFree (clusterOf port) = false)) ∧
  (∃ (s : State) (t : Time) (c b d : Nat),
    c < 64 ∧ s.errs = [] ∧ (s.perstH c).pulse = some (b, d) ∧ b + d ≤ max s.now t ∧ (s.perstH c).asserted = true) ∧
  (∃ (s : State) (t : Time) (c a port : Nat),
    c < 64 ∧ s.errs = [] ∧ s.perstCond c = false ∧ s.slotSource c = false ∧ (s.perstH c).clearAt = some a ∧ a + ms 100 ≤ max s.now t ∧ (s.perstH c).asserted = true ∧ port ∈ s.slotPorts c ∧ s.get .DP_STATE port = 1) ∧
  (∃ (s : State) (_t : Time) (port : Nat),
    port < 512 ∧ s.errs = [] ∧ s.isDevice port = true ∧ s.get .PRESENCE_SOURCE port = 1 ∧ s.get .DP_STATE port = 0 ∧ s.perstCond (clusterOf port) = true ∧ (s.perstH (clusterOf port)).asserted = true) :=
  ⟨⟨{ (State.reset.put .PORT_ROLE 8 2) with boot := .odtaku }, 0, { path := .smMailbox }, 8, by decide +kernel⟩,
  ⟨{ State.reset with boot := .odtaku }, 0, { path := .smMailbox }, 8, by decide +kernel⟩,
  ⟨{ State.reset with perst := [(1, { pulse := some (0, us 100000) })] }, ms 100, 1, 0, us 100000, by decide +kernel⟩,
  ⟨{ (State.reset.put .PORT_ROLE 8 2 |>.put .PRESENCE_SOURCE 8 1 |>.put .DP_STATE 8 1) with boot := .odtaku, perst := [(1, { clearAt := some 0 })] }, ms 100, 1, 0, 8, by decide +kernel⟩,
  ⟨(State.reset.put .PORT_ROLE 8 2).put .PRESENCE_SOURCE 8 1, 0, 8, by decide +kernel⟩⟩

theorem witness_ManagementFunctionAndDpc :
  (∃ (s : State) (_t : Time) (p : Nat),
    p < 4096 ∧ s.errs = []) ∧
  (∃ (s : State) (_t : Time) (p : Nat),
    p < 4096 ∧ s.errs = [] ∧ s.get .MF_STATE p = 1 ∧ s.odtakuUp = true) ∧
  (∃ (s : State) (_t : Time) (p : Nat),
    p < 4096 ∧ s.errs = [] ∧ s.get .MF_STATE p = 1 ∧ s.odtakuUp = false) ∧
  (∃ (s : State) (_t : Time) (p : Nat) (off _rid _tag : Nat) (bytes : List Nat),
    p < 4096 ∧ s.errs = [] ∧ s.get .MF_STATE p ≠ 1 ∧ s.mfUncovered p (off % 65536) = false ∧ s.get .MB_IN_STATE p ≠ 2 ∧ off ≤ 255 ∧ 255 < off + bytes.length) ∧
  (∃ (s : State) (t : Time) (p : Nat) (_write : Bool) (off _rid _tag : Nat) (_bytes : List Nat),
    p < 4096 ∧ (s.get .MF_STATE p = 1 ∨ (s.at t).mfUncovered p (off % 65536) = true)) ∧
  (∃ (s : State) (_t : Time) (p : Nat) (off _rid _tag : Nat) (_bytes : List Nat),
    p < 4096 ∧ s.errs = [] ∧ s.get .MF_STATE p ≠ 1 ∧ s.mfUncovered p (off % 65536) = false) ∧
  (∃ (s : State) (_t : Time) (p : Nat) (_v : Nat),
    p < 4096 ∧ s.errs = [] ∧ s.get .MF_STATE p ≠ 1) ∧
  (∃ (s : State) (_t : Time) (p : Nat) (k : Nat),
    p < 4096 ∧ k < 256 ∧ s.errs = [] ∧ s.presents p = true ∧ k < s.get .VDSB_COUNT p ∧ s.graftsAt p k = []) ∧
  (∃ (s : State) (_t : Time) (p : Nat) (_off _v : Nat),
    p < 4096 ∧ s.get .MF_STATE p = 1) ∧
  (∃ (s : State) (_t : Time) (p : Nat) (k : Nat),
    p < 4096 ∧ k < 256 ∧ s.errs = [] ∧ (s.bridge p k).dpcTrig = true) :=
  ⟨⟨State.reset, 0, 7, by decide +kernel⟩,
  ⟨({ State.reset with boot := .odtaku }).put .MF_STATE 7 1, 0, 7, by decide +kernel⟩,
  ⟨State.reset.put .MF_STATE 7 1, 0, 7, by decide +kernel⟩,
  ⟨State.reset, 0, 7, 0xFC, 256, 9, [1, 2, 3, 4], by decide +kernel⟩,
  ⟨State.reset.put .MF_STATE 7 1, 0, 7, false, 0xFC, 256, 9, [1, 2, 3, 4], by decide +kernel⟩,
  ⟨State.reset, 0, 7, 0x3800, 256, 9, [0, 0, 0, 0], by decide +kernel⟩,
  ⟨State.reset, 0, 7, 5, by decide +kernel⟩,
  ⟨(State.reset.put .PARTITION_STATE 7 2).put .VDSB_COUNT 7 4, 0, 7, 3, by decide +kernel⟩,
  ⟨State.reset.put .MF_STATE 7 1, 0, 7, 0x210, 5, by decide +kernel⟩,
  ⟨{ State.reset with bridges := [(1795, { dpcTrig := true, dpcReason := 3 })] }, 0, 7, 3, by decide +kernel⟩⟩

theorem witness_TrainingStagesOfFabricPorts :
  (∃ (s : State) (_t : Time) (port : Nat) (a b : Bool),
    port < 512 ∧ s.errs = [] ∧ s.isFabric port = true ∧ s.get .TRAIN_STATE port = 1 ∧ (a || b) = true) ∧
  (∃ (s : State) (_t : Time) (lane port : Nat) (b : TBlock),
    lane < 512 ∧ blockFits b = true ∧ s.errs = [] ∧ s.portOfLane lane = some port ∧ s.isFabric port = true ∧ s.get .TRAIN_STATE port = 2 ∧ s.laneFailed port (s.logLane port lane) = false ∧ b.sync = 0x2A3C5E69) ∧
  (∃ (s : State) (_t : Time) (lane port : Nat) (b : TBlock),
    lane < 512 ∧ blockFits b = true ∧ s.errs = [] ∧ s.portOfLane lane = some port ∧ s.isFabric port = true ∧ s.get .TRAIN_STATE port = 2 ∧ s.laneFailed port (s.logLane port lane) = false ∧ blockOk b = true ∧ 0 < b.stage ∧ b.stage ≤ 5 ∧ b.sync = 0xD5C3A196) ∧
  (∃ (s : State) (t : Time) (port : Nat) (errs : List Nat),
    port < 512 ∧ s.errs = [] ∧ s.isFabric port = true ∧ s.get .TRAIN_STATE port = 5 ∧ s.spareOf port = none ∧ (s.train port).stageAt + ms 1 ≤ max s.now t ∧ (∀ e ∈ errs, e ≤ 100)) ∧
  (∃ (s : State) (t : Time) (port : Nat) (errs : List Nat) (i : Nat),
    port < 512 ∧ s.errs = [] ∧ s.isFabric port = true ∧ s.get .TRAIN_STATE port = 5 ∧ s.spareOf port = none ∧ (s.train port).stageAt + ms 1 ≤ max s.now t ∧ i < (s.trainLanes port).length ∧ 100 < errs.getD i 0) ∧
  (∃ (s : State) (t : Time) (port : Nat) (st : Nat),
    port < 512 ∧ s.errs = [] ∧ s.isFabric port = true ∧ s.get .TRAIN_STATE port = st ∧ (st = 2 ∨ st = 3 ∨ st = 6) ∧ s.spareOf port = none ∧ (s.train port).stageAt + stageLimit st ≤ max s.now t) ∧
  (∃ (s : State) (t : Time) (port : Nat) (a : Time),
    port < 512 ∧ s.errs = [] ∧ s.isFabric port = true ∧ s.get .TRAIN_STATE port = 0 ∧ (s.train port).failedAt = some a ∧ a + us (s.get .RETRAIN_INTERVAL port) ≤ max s.now t) :=
  ⟨⟨(State.reset.put .PORT_ROLE 8 3).put .TRAIN_STATE 8 1, ms 1, 8, true, false, by decide +kernel⟩,
  ⟨(State.reset.put .PORT_ROLE 8 3).put .TRAIN_STATE 8 2, ms 1, 9, 8, withCheck { sync := 0x2A3C5E69, laneIndex := 1, width := 3, rate := 0, node := 1, stage := 2, eqOp := 0, eqArg := 0, eqNum := 0, echoNum := 0, echoStatus := 0}, by decide +kernel⟩,
  ⟨(State.reset.put .PORT_ROLE 8 3).put .TRAIN_STATE 8 2, ms 1, 9, 8, withCheck { sync := 0xD5C3A196, laneIndex := 1, width := 3, rate := 0, node := 1, stage := 2, eqOp := 0, eqArg := 0, eqNum := 0, echoNum := 0, echoStatus := 0}, by decide +kernel⟩,
  ⟨(State.reset.put .PORT_ROLE 8 3).put .TRAIN_STATE 8 5, ms 1, 8, [100, 0, 3, 0, 0, 0, 0, 0], by decide +kernel⟩,
  ⟨{ (State.reset.put .TRAIN_STATE 8 5).put .PORT_ROLE 8 3 with trains := [(8, { width := 8 })] }, ms 1, 8, [100, 0, 3, 0, 101, 0, 0, 0], 4, by decide +kernel⟩,
  ⟨(State.reset.put .PORT_ROLE 8 3).put .TRAIN_STATE 8 2, ms 2, 8, 2, by decide +kernel⟩,
  ⟨{ (State.reset.put .PORT_ROLE 8 3) with trains := [(8, { failedAt := some 0 })] }, ms 100000, 8, 0, by decide +kernel⟩⟩

theorem witness_LanesAreMeasuredAndSpared :
  (∃ (s : State) (t : Time) (lane : Nat) (h _w : Nat),
    lane < 544 ∧ s.errs = [] ∧ s.get .LANE_STATE lane = 2 ∧ s.pausedIn 3 (laneTile lane) = false ∧ s.get .MARGIN_THRESHOLD lane ≤ h ∧ (s.at t).xFull (.tileCtl (laneTile lane) true) = false ∧ max s.now t < (s.laneH lane).winAt + ms 1 ∧ (s.laneH lane).rateRun < 2) ∧
  (∃ (s : State) (t : Time) (lane : Nat) (h _w : Nat),
    lane < 544 ∧ s.errs = [] ∧ s.get .LANE_STATE lane = 2 ∧ s.pausedIn 3 (laneTile lane) = false ∧ s.get .MARGIN_THRESHOLD lane ≤ h ∧ (s.at t).xFull (.tileCtl (laneTile lane) true) = false ∧ (s.laneH lane).winAt + ms 1 ≤ max s.now t ∧ (s.laneH lane).rateRun = 0) ∧
  (∃ (s : State) (t : Time) (lane : Nat) (h _w _n port : Nat),
    lane < 512 ∧ s.errs = [] ∧ s.get .LANE_STATE lane = 2 ∧ s.pausedIn 3 (laneTile lane) = false ∧ s.get .MARGIN_THRESHOLD lane ≤ h ∧ (s.at t).xFull (.tileCtl (laneTile lane) true) = false ∧ max s.now t < (s.laneH lane).winAt + ms 1 ∧ (s.laneH lane).rateRun < 2 ∧ s.portAtLane lane = some port ∧ s.isFabric port = false) ∧
  (∃ (s : State) (t : Time) (lane : Nat) (h _w : Nat),
    lane < 544 ∧ s.get .LANE_STATE lane = 2 ∧ s.pausedIn 3 (laneTile lane) = false ∧ h < s.get .MARGIN_THRESHOLD lane ∧ (s.at t).xFull (.tileCtl (laneTile lane) true) = false ∧ (s.laneH lane).lowRun = 2 ∧ max s.now t < (s.laneH lane).winAt + ms 1 ∧ s.portAtLane lane = none) ∧
  (∃ (s : State) (_t : Time) (lane : Nat) (bits : List Bool),
    lane < 544 ∧ s.errs = [] ∧ s.get .PRBS_CHECK lane ≠ 0 ∧ s.get .PRBS_LOCK lane = 0 ∧ (checkBits (prbsTaps (s.get .PRBS_CHECK lane)).1 (prbsTaps (s.get .PRBS_CHECK lane)).2 false (s.laneH lane) bits).1.all (! ·) = true) ∧
  (∃ (code _reg : Nat) (h : LaneH),
    1 ≤ code ∧ code ≤ 5 ∧ h.seeded = 0) ∧
  (∃ (s : State) (_t : Time) (lane : Nat) (_bits : List Bool),
    lane < 544 ∧ s.errs = [] ∧ s.get .PRBS_CHECK lane ≠ 0 ∧ s.get .PRBS_LOCK lane = 1) ∧
  (∃ (s : State) (_t : Time) (req : Req) (lane : Nat),
    s.errs = [] ∧ s.hears req ∧ s.mayInvoke req .COUNTER_CLEAR (some lane) = 0) ∧
  (∃ (s : State) (_t : Time) (req : Req) (k port j : Nat),
    s.errs = [] ∧ s.hears req ∧ s.mayInvoke req .SPARE_COMMAND (some k) = 0 ∧ s.get .SPARE_PORT k = port ∧ port < 512 ∧ s.get .SPARE_STATE k = 0 ∧ (s.logLanes port).contains j = true ∧ s.get .OL_STATE port = 2 ∧ s.noRequest port = true) ∧
  (∃ (s : State) (_t : Time) (req : Req) (k _j : Nat),
    s.errs = [] ∧ s.hears req ∧ s.mayInvoke req .SPARE_COMMAND (some k) = 0 ∧ s.get .SPARE_STATE k ≠ 0) ∧
  (∃ (s : State) (_t : Time) (k port : Nat),
    k < 32 ∧ s.errs = [] ∧ s.get .SPARE_STATE k = 1 ∧ s.get .SPARE_PORT k = port ∧ port < 512 ∧ s.get .TRAIN_STATE port = 7 ∧ (s.spareH k).ownDone = true ∧ (s.spareH k).peerDone = true) ∧
  (∃ (s : State) (t : Time) (k port : Nat),
    k < 32 ∧ s.errs = [] ∧ s.get .SPARE_STATE k = 2 ∧ s.get .SPARE_PORT k = port ∧ s.spareOf port = some k ∧ (s.spareH k).readyAt + ms 100 ≤ max s.now t ∧ (s.link port).swaps = false) ∧
  (∃ (s : State) (_t : Time) (port : Nat) (f k : Nat),
    port < 512 ∧ s.errs = [] ∧ (s.link port).swapRx = some f ∧ s.get .OL_STATE port = 2 ∧ countPast (s.link port).rxCount f = true ∧ (s.link port).rxOnSpare = false ∧ (s.link port).toDone = none ∧ s.spareOf port = some k) ∧
  (∃ (s : State) (_t : Time) (req : Req) (port : Nat),
    s.errs = [] ∧ s.hears req ∧ s.mayInvoke req .RETRAIN (some port) = 0 ∧ s.isFabric port = true ∧ s.get .OL_STATE port = 0) ∧
  (∃ (s : State) (_t : Time) (req : Req) (port : Nat),
    s.errs = [] ∧ s.hears req ∧ s.mayInvoke req .RETRAIN (some port) = 0 ∧ (s.isHost port = true ∨ s.isDevice port = true)) ∧
  (∃ (s : State) (_t : Time) (req : Req) (port : Nat),
    s.errs = [] ∧ s.hears req ∧ s.mayInvoke req .RETRAIN (some port) = 0 ∧ s.isFabric port = true ∧ s.get .OL_STATE port = 1) ∧
  (∃ (s : State) (_t : Time) (req : Req) (port : Nat),
    s.errs = [] ∧ s.hears req ∧ s.mayInvoke req .RETRAIN (some port) = 0 ∧ s.isFabric port = true ∧ 2 ≤ s.get .OL_STATE port) :=
  ⟨⟨State.reset.put .LANE_STATE 9 2, 0, 9, 200, 90, by decide +kernel⟩,
  ⟨{ (State.reset.put .LANE_STATE 9 2 |>.put .ERROR_RATE_THRESHOLD 9 100) with lanes := [(9, { winCount := 170 })] }, ms 1, 9, 200, 90, by decide +kernel⟩,
  ⟨(State.reset.put .LANE_STATE 9 2).put .PORT_ROLE 8 1, 0, 9, 200, 90, 5, 8, by decide +kernel⟩,
  ⟨{ (State.reset.put .LANE_STATE 520 2 |>.put .MARGIN_THRESHOLD 520 20) with lanes := [(520, { lowRun := 2 })] }, 0, 520, 3, 90, by decide +kernel⟩,
  ⟨State.reset.put .PRBS_CHECK 9 1, 0, 9, prbsRun 7 6 5 71, by decide +kernel⟩,
  ⟨1, 5, {}, by decide +kernel⟩,
  ⟨(State.reset.put .PRBS_CHECK 9 1).put .PRBS_LOCK 9 1, 0, 9, List.replicate 40 true, by decide +kernel⟩,
  ⟨{ State.reset with boot := .odtaku }, 0, { path := .smMailbox }, 9, by decide +kernel⟩,
  ⟨{ (State.reset.put .SPARE_PORT 3 8 |>.put .LINK_WIDTH 8 8 |>.put .OL_STATE 8 2) with boot := .odtaku, trains := [(8, { width := 8 })] }, 0, { path := .smMailbox }, 3, 8, 7, by decide +kernel⟩,
  ⟨{ (State.reset.put .SPARE_STATE 3 2) with boot := .odtaku }, 0, { path := .smMailbox }, 3, 7, by decide +kernel⟩,
  ⟨{ (State.reset.put .SPARE_STATE 3 1 |>.put .SPARE_PORT 3 8 |>.put .TRAIN_STATE 8 7) with spares := [(3, { ownDone := true, peerDone := true })] }, ms 1, 3, 8, by decide +kernel⟩,
  ⟨(State.reset.put .SPARE_STATE 3 2 |>.put .SPARE_PORT 3 8 |>.put .SPARE_LANE 3 5), ms 100, 3, 8, by decide +kernel⟩,
  ⟨{ State.reset.put .OL_STATE 8 2 |>.put .SPARE_PORT 3 8 |>.put .SPARE_STATE 3 2 with links := [(8, { swapRx := some 70, rxCount := 71 })] }, 0, 8, 70, 3, by decide +kernel⟩,
  ⟨{ (State.reset.put .PORT_ROLE 8 3) with boot := .odtaku }, 0, { path := .smMailbox }, 8, by decide +kernel⟩,
  ⟨{ State.reset.put .PORT_ROLE 8 1 with boot := .odtaku }, 0, { path := .smMailbox }, 8, by decide +kernel⟩,
  ⟨{ (State.reset.put .PORT_ROLE 8 3).put .OL_STATE 8 1 with boot := .odtaku }, 0, { path := .smMailbox }, 8, by decide +kernel⟩,
  ⟨{ (State.reset.put .PORT_ROLE 8 3).put .OL_STATE 8 2 with boot := .odtaku }, 0, { path := .smMailbox }, 8, by decide +kernel⟩⟩

theorem witness_FlitsKeepTheirSequence :
  (∃ (s : State) (_t : Time) (port : Nat) (m : Ctl) (ms : List Ctl),
    port < 512 ∧ s.errs = [] ∧ s.isFabric port = true ∧ s.get .OL_STATE port = 2 ∧ (s.link port).trailing = 0 ∧ (s.link port).replay = none ∧ (s.link port).parityOk = true ∧ (s.link port).ctlq = m :: ms ∧ s.roomForFlit port = true ∧ (s.link port).toDone = none) ∧
  (∃ (s : State) (_t : Time) (port : Nat),
    port < 512 ∧ s.errs = [] ∧ s.isFabric port = true ∧ s.get .OL_STATE port = 2 ∧ (s.link port).trailing = 0 ∧ (s.link port).replay = none ∧ (s.link port).parityOk = true ∧ (s.link port).ctlq = [] ∧ (s.link port).txq = [] ∧ (s.link port).toDone = none) ∧
  (∃ (s : State) (_t : Time) (port : Nat) (b : Nat) (v : Nat),
    port < 512 ∧ s.errs = [] ∧ s.isFabric port = true ∧ s.get .OL_STATE port = 2 ∧ v < 8 ∧ b < 22 ∧ (s.link port).parityOk = true) ∧
  (∃ (s : State) (t : Time) (port : Nat) (f : Flit),
    port < 512 ∧ (Instr.flitReceive t port f).wf = true ∧ s.errs = [] ∧ s.hearsFlits port = true ∧ s.get .OL_STATE port = 2 ∧ flitTaken f = none ∧ (s.link port).bad < 7 ∧ (s.link port).nakOpen = false) ∧
  (∃ (s : State) (t : Time) (port : Nat) (f g : Flit),
    port < 512 ∧ (Instr.flitReceive t port f).wf = true ∧ s.errs = [] ∧ s.hearsFlits port = true ∧ s.get .OL_STATE port = 2 ∧ flitTaken f = some g ∧ (lhType g.header = 1 ∨ lhType g.header = 2) ∧ lhAckKind g.header = 0 ∧ g.timing = 0 ∧ (s.link port).lock = true ∧ s.get .NEIGHBOUR_NODE port = lhNode g.header ∧ lhSeq g.header = s.get .RX_EXPECTED port ∧ s.strayPart port (s.expected port g) = false ∧ s.overflows port (s.expected port g) = false) ∧
  (∃ (s : State) (t : Time) (port : Nat) (f g : Flit),
    port < 512 ∧ (Instr.flitReceive t port f).wf = true ∧ s.errs = [] ∧ s.hearsFlits port = true ∧ s.get .OL_STATE port = 2 ∧ flitTaken f = some g ∧ (lhType g.header = 1 ∨ lhType g.header = 2) ∧ lhAckKind g.header = 0 ∧ g.timing = 0 ∧ (s.link port).lock = true ∧ s.get .NEIGHBOUR_NODE port = lhNode g.header ∧ seqDist (lhSeq g.header) (s.get .RX_EXPECTED port) ≠ 32768 ∧ seqAfter (lhSeq g.header) (s.get .RX_EXPECTED port) = true ∧ (s.link port).nakOpen = false ∧ s.unitsHeld port ≤ s.poolUnits port) ∧
  (∃ (s : State) (t : Time) (port : Nat) (f g : Flit),
    port < 512 ∧ (Instr.flitReceive t port f).wf = true ∧ s.errs = [] ∧ s.hearsFlits port = true ∧ s.get .OL_STATE port = 2 ∧ flitTaken f = some g ∧ (lhType g.header = 1 ∨ lhType g.header = 2) ∧ lhAckKind g.header = 0 ∧ g.timing = 0 ∧ (s.link port).lock = true ∧ s.get .NEIGHBOUR_NODE port = lhNode g.header ∧ seqDist (lhSeq g.header) (s.get .RX_EXPECTED port) ≠ 32768 ∧ seqBefore (lhSeq g.header) (s.get .RX_EXPECTED port) = true ∧ s.unitsHeld port ≤ s.poolUnits port) ∧
  (∃ (s : State) (t : Time) (port : Nat),
    port < 512 ∧ s.errs = [] ∧ s.get .OL_STATE port = 2 ∧ (s.link port).owed ≠ 0 ∧ (s.link port).ackFrom + ns (s.get .ACK_TIMER port) ≤ max s.now t) ∧
  (∃ (s : State) (t : Time) (port : Nat),
    port < 512 ∧ s.errs = [] ∧ s.get .OL_STATE port = 2 ∧ (s.link port).nakOpen = true ∧ (s.link port).nakAt + us 1 ≤ max s.now t) ∧
  (∃ (s : State) (t : Time) (port : Nat),
    port < 512 ∧ s.errs = [] ∧ s.get .OL_STATE port = 2 ∧ s.unacked port ≠ 0 ∧ (s.link port).advAt + ns (s.link port).timeout ≤ max s.now t ∧ seqAfter (s.link port).oldest (seqPrev (s.get .TX_NEXT_SEQ port)) = false ∧ (s.link port).replayRow.2 + 1 < s.get .REPLAY_LIMIT port ∧ 1 < s.get .REPLAY_LIMIT port) :=
  ⟨⟨{ (State.reset.put .PORT_ROLE 8 3 |>.put .TRAIN_STATE 8 7 |>.put .OL_STATE 8 2 |>.put .LINK_WIDTH 8 8) with links := [(8, { ctlq := [{ op := 3 }] })] }, 0, 8, { op := 3 }, [], by decide +kernel⟩,
  ⟨{ (State.reset.put .PORT_ROLE 8 3 |>.put .TRAIN_STATE 8 7 |>.put .OL_STATE 8 2 |>.put .LINK_WIDTH 8 8) with links := [(8, { oldest := 0 })] }, 0, 8, by decide +kernel⟩,
  ⟨{ (State.reset.put .PORT_ROLE 8 3 |>.put .TRAIN_STATE 8 7 |>.put .OL_STATE 8 2 |>.put .LINK_WIDTH 8 8) with links := [(8, { oldest := 0 })] }, 0, 8, 3, 4, by decide +kernel⟩,
  ⟨{ (State.reset.put .PORT_ROLE 8 3 |>.put .TRAIN_STATE 8 7 |>.put .OL_STATE 8 2 |>.put .LINK_WIDTH 8 8) with links := [(8, { oldest := 0 })] }, 0, 8, { header := 0, payload := .idle, noise := [(0, 1), (3, 1), (6, 1), (9, 1)] }, by decide +kernel⟩,
  ⟨({ (State.reset.put .PORT_ROLE 8 3 |>.put .TRAIN_STATE 8 7 |>.put .OL_STATE 8 2 |>.put .LINK_WIDTH 8 8).put .NEIGHBOUR_NODE 8 5 with links := [(8, { lock := true })] }), 0, 8, { header := linkHeader 0 0 0 2 3 0 63 4 false 5, payload := .control { op := 3 } }, { header := linkHeader 0 0 0 2 3 0 63 4 false 5, payload := .control { op := 3 } }, by decide +kernel⟩,
  ⟨({ (State.reset.put .PORT_ROLE 8 3 |>.put .TRAIN_STATE 8 7 |>.put .OL_STATE 8 2 |>.put .LINK_WIDTH 8 8).put .NEIGHBOUR_NODE 8 5 with links := [(8, { lock := true })] }), 0, 8, { header := linkHeader 3 0 0 2 3 0 63 4 false 5, payload := .control { op := 3 } }, { header := linkHeader 3 0 0 2 3 0 63 4 false 5, payload := .control { op := 3 } }, by decide +kernel⟩,
  ⟨({ (State.reset.put .PORT_ROLE 8 3 |>.put .TRAIN_STATE 8 7 |>.put .OL_STATE 8 2 |>.put .LINK_WIDTH 8 8).put .NEIGHBOUR_NODE 8 5 with links := [(8, { lock := true })] }).put .RX_EXPECTED 8 9, 0, 8, { header := linkHeader 0 0 0 2 3 0 63 4 false 5, payload := .control { op := 3 } }, { header := linkHeader 0 0 0 2 3 0 63 4 false 5, payload := .control { op := 3 } }, by decide +kernel⟩,
  ⟨{ (State.reset.put .PORT_ROLE 8 3 |>.put .TRAIN_STATE 8 7 |>.put .OL_STATE 8 2 |>.put .LINK_WIDTH 8 8) with links := [(8, { owed := 3 })] }, ms 1, 8, by decide +kernel⟩,
  ⟨{ (State.reset.put .PORT_ROLE 8 3 |>.put .TRAIN_STATE 8 7 |>.put .OL_STATE 8 2 |>.put .LINK_WIDTH 8 8) with links := [(8, { nakOpen := true })] }, us 1, 8, by decide +kernel⟩,
  ⟨{ (State.reset.put .PORT_ROLE 8 3 |>.put .TRAIN_STATE 8 7 |>.put .OL_STATE 8 2 |>.put .LINK_WIDTH 8 8).put .TX_NEXT_SEQ 8 6 with links := [(8, { oldest := 4 })] }, ms 1, 8, by decide +kernel⟩⟩

theorem witness_LinksInitialiseAndGoDown :
  (∃ (s : State) (_t : Time) (port : Nat) (i : Init),
    port < 512 ∧ s.errs = [] ∧ s.isFabric port = true ∧ s.get .OL_STATE port = 1 ∧ i.peerSeen = true ∧ (s.link port).salvage = [] ∧ (s.link port).seqKept = false) ∧
  (∃ (s : State) (_t : Time) (port : Nat) (i : Init),
    port < 512 ∧ s.errs = [] ∧ s.isFabric port = true ∧ s.get .OL_STATE port = 2 ∧ i.gen ≠ (s.link port).peerGen) ∧
  (∃ (s : State) (t : Time) (port : Nat),
    port < 512 ∧ s.errs = [] ∧ s.get .OL_STATE port = 1 ∧ (s.link port).since + ms 10 ≤ max s.now t) ∧
  (∃ (s : State) (t : Time) (port : Nat),
    port < 512 ∧ s.errs = [] ∧ s.get .OL_STATE port = 3 ∧ (s.link port).since + us 100 ≤ max s.now t ∧ (s.link port).mem = [] ∧ (s.link port).txq = [] ∧ (s.link port).salvage = []) ∧
  (∃ (s : State) (t : Time) (port : Nat) (b : Time),
    port < 512 ∧ s.errs = [] ∧ s.get .OL_STATE port ≠ 0 ∧ (s.link port).lock = false ∧ (s.link port).lockLostAt = some b ∧ b + ns (s.get .LINK_DOWN_TIME port) ≤ max s.now t ∧ (s.link port).mem = [] ∧ (s.link port).txq = [] ∧ (s.link port).salvage = []) ∧
  (∃ (s : State) (_t : Time) (port : Nat),
    port < 512 ∧ s.errs = [] ∧ s.isFabric port = true ∧ (s.link port).lock = true ∧ s.spareOf port = none) ∧
  (∃ (s : State) (_t : Time) (port : Nat),
    port < 512 ∧ (s.link port).peer = none) :=
  ⟨⟨(State.reset.put .PORT_ROLE 8 3 |>.put .TRAIN_STATE 8 7 |>.put .OL_STATE 8 2 |>.put .LINK_WIDTH 8 8).put .OL_STATE 8 1, 0, 8, { node := 5, width := 8, port := 9, gen := 3, peerSeen := true, seqKept := false, serial := 77, poolUnits := 4096, mins := [1, 2], held := [], rxLastGood := 0, txNextSeq := 0, ackCoalesce := 4, resumeGranule := 0, ackTimer := 500 }, by decide +kernel⟩,
  ⟨(State.reset.put .PORT_ROLE 8 3 |>.put .TRAIN_STATE 8 7 |>.put .OL_STATE 8 2 |>.put .LINK_WIDTH 8 8), 0, 8, { node := 5, width := 8, port := 9, gen := 3, peerSeen := true, seqKept := false, serial := 77, poolUnits := 4096, mins := [1, 2], held := [], rxLastGood := 0, txNextSeq := 0, ackCoalesce := 4, resumeGranule := 0, ackTimer := 500 }, by decide +kernel⟩,
  ⟨(State.reset.put .PORT_ROLE 8 3 |>.put .TRAIN_STATE 8 7 |>.put .OL_STATE 8 2 |>.put .LINK_WIDTH 8 8).put .OL_STATE 8 1, ms 10, 8, by decide +kernel⟩,
  ⟨(State.reset.put .PORT_ROLE 8 3 |>.put .TRAIN_STATE 8 7 |>.put .OL_STATE 8 2 |>.put .LINK_WIDTH 8 8).put .OL_STATE 8 3, ms 10, 8, by decide +kernel⟩,
  ⟨{ (State.reset.put .PORT_ROLE 8 3 |>.put .TRAIN_STATE 8 7 |>.put .OL_STATE 8 2 |>.put .LINK_WIDTH 8 8) with links := [(8, { lockLostAt := some 0 })] }, ms 1000, 8, 0, by decide +kernel⟩,
  ⟨{ (State.reset.put .PORT_ROLE 8 3 |>.put .TRAIN_STATE 8 7 |>.put .OL_STATE 8 2 |>.put .LINK_WIDTH 8 8) with links := [(8, { lock := true })] }, ms 1, 8, by decide +kernel⟩,
  ⟨{ (State.reset.put .PORT_ROLE 8 3 |>.put .TRAIN_STATE 8 7 |>.put .OL_STATE 8 2 |>.put .LINK_WIDTH 8 8) with links := [(8, { salvage := [{ dest := 3 }] })] }, 0, 8, by decide +kernel⟩⟩

theorem witness_CreditsAreAuditedAndNeighboursAsk :
  (∃ (s : State) (_t : Time) (port : Nat),
    port < 512 ∧ s.errs = [] ∧ s.get .OL_STATE port = 2 ∧ s.pausedIn 5 (quadRegion port) = false ∧ (∀ v ∈ List.range 8, ((s.link port).arrived.getD 0 v + 2 ^ 21 - s.get .VC_RETURNED (port * 8 + v)) % 2 ^ 21 < 2 ^ 20) ∧ 0 < s.get .LEAK_THRESHOLD port ∧ 0 < s.poolUnits port) ∧
  (∃ (s : State) (_t : Time) (req : Req) (port : Nat),
    s.errs = [] ∧ s.hears req ∧ s.mayInvoke req .WITHDRAW (some port) = 0 ∧ s.get .WITHDRAWN port = 0) ∧
  (∃ (s : State) (_t : Time) (req : Req) (port : Nat),
    s.errs = [] ∧ s.hears req ∧ s.mayInvoke req .WITHDRAW (some port) = 0 ∧ s.get .WITHDRAWN port = 1) ∧
  (∃ (s : State) (_t : Time) (port : Nat) (m : Ctl),
    port < 512 ∧ s.errs = [] ∧ s.get .OL_STATE port = 2 ∧ (s.link port).wanted = some m ∧ m ≠ parkMsg ∧ s.get .WITHDRAWN port = 1 ∧ (s.link port).pushed = true ∧ s.linkDrained port = true ∧ s.noRequest port = true) ∧
  (∃ (s : State) (_t : Time) (port : Nat) (_mins : List Nat),
    port < 512 ∧ s.errs = [] ∧ s.get .OL_STATE port = 2) ∧
  (∃ (s : State) (_t : Time) (port : Nat) (_m x : Ctl),
    port < 512 ∧ s.errs = [] ∧ s.get .OL_STATE port = 2 ∧ (s.link port).own = none ∧ (s.link port).theirs = some x) ∧
  (∃ (s : State) (_t : Time) (port : Nat) (m : Ctl),
    port < 512 ∧ s.errs = [] ∧ s.get .OL_STATE port = 2 ∧ (s.link port).own = none ∧ (s.link port).theirs = none ∧ m.kind = 3 ∧ m.phase = 2 ∧ s.spareIn port 2 = true ∧ swapRule ((s.link port).rxCount - 1) m.swapFlit = true) ∧
  (∃ (s : State) (_t : Time) (port : Nat) (m o : Ctl),
    port < 512 ∧ s.errs = [] ∧ s.get .OL_STATE port = 2 ∧ (s.link port).own = some o ∧ (s.link port).answers m = true ∧ (s.link port).granted = false ∧ o.kind = 3 ∧ o.phase = 2) ∧
  (∃ (s : State) (_t : Time) (port : Nat) (m o : Ctl),
    port < 512 ∧ s.errs = [] ∧ s.get .OL_STATE port = 2 ∧ (s.link port).own = some o ∧ (s.link port).answers m = true) ∧
  (∃ (s : State) (_t : Time) (port : Nat) (m o : Ctl),
    port < 512 ∧ s.errs = [] ∧ s.get .OL_STATE port = 2 ∧ (s.link port).own = some o ∧ (s.link port).answers m = true ∧ o.kind = 1 ∧ (s.link port).deferred = none) ∧
  (∃ (s : State) (_t : Time) (port : Nat) (m : Ctl),
    port < 512 ∧ s.errs = [] ∧ s.get .OL_STATE port = 2 ∧ (s.link port).own = none ∧ (s.link port).theirs = none ∧ m.kind = 1) ∧
  (∃ (s : State) (_t : Time) (port : Nat) (_m o : Ctl),
    port < 512 ∧ s.errs = [] ∧ s.get .OL_STATE port = 2 ∧ (s.link port).own = some o ∧ (s.link port).granted = false ∧ s.node < s.get .NEIGHBOUR_NODE port) ∧
  (∃ (s : State) (_t : Time) (port : Nat) (m o : Ctl) (k : Nat),
    port < 512 ∧ s.errs = [] ∧ s.get .OL_STATE port = 2 ∧ (s.link port).own = some o ∧ (s.link port).answers m = true ∧ (s.link port).granted = false ∧ o.kind = 3 ∧ o.phase = 1 ∧ s.spareOf port = some k) ∧
  (∃ (s : State) (_t : Time) (port : Nat) (m o : Ctl),
    port < 512 ∧ s.errs = [] ∧ s.get .OL_STATE port = 2 ∧ (s.link port).own = some o ∧ (s.link port).answers m = true ∧ o.kind = 3 ∧ o.phase = 1 ∧ (s.link port).deferred = none) :=
  ⟨⟨{ (State.reset.put .PORT_ROLE 8 3 |>.put .TRAIN_STATE 8 7 |>.put .OL_STATE 8 2 |>.put .LINK_WIDTH 8 8) with links := [(8, { arrived := [(0, 5), (3, 9)] })] }, 0, 8, by decide +kernel⟩,
  ⟨{ (State.reset.put .PORT_ROLE 8 3 |>.put .TRAIN_STATE 8 7 |>.put .OL_STATE 8 2 |>.put .LINK_WIDTH 8 8) with boot := .odtaku }, 0, { path := .smMailbox }, 8, by decide +kernel⟩,
  ⟨{ (State.reset.put .PORT_ROLE 8 3 |>.put .TRAIN_STATE 8 7 |>.put .OL_STATE 8 2 |>.put .LINK_WIDTH 8 8).put .WITHDRAWN 8 1 with boot := .odtaku }, 0, { path := .smMailbox }, 8, by decide +kernel⟩,
  ⟨{ (State.reset.put .PORT_ROLE 8 3 |>.put .TRAIN_STATE 8 7 |>.put .OL_STATE 8 2 |>.put .LINK_WIDTH 8 8).put .WITHDRAWN 8 1 with links := [(8, { wanted := some { op := 1, kind := 1 }, pushed := true })] }, 0, 8, { op := 1, kind := 1 }, by decide +kernel⟩,
  ⟨(State.reset.put .PORT_ROLE 8 3 |>.put .TRAIN_STATE 8 7 |>.put .OL_STATE 8 2 |>.put .LINK_WIDTH 8 8), 0, 8, [4, 4, 4, 4, 4, 4, 4, 4], by decide +kernel⟩,
  ⟨{ (State.reset.put .PORT_ROLE 8 3 |>.put .TRAIN_STATE 8 7 |>.put .OL_STATE 8 2 |>.put .LINK_WIDTH 8 8) with links := [(8, { theirs := some { op := 1, kind := 2 } })] }, 0, 8, { op := 1, kind := 5, reqId := 4 }, { op := 1, kind := 2 }, by decide +kernel⟩,
  ⟨(State.reset.put .PORT_ROLE 8 3 |>.put .TRAIN_STATE 8 7 |>.put .OL_STATE 8 2 |>.put .LINK_WIDTH 8 8).put .SPARE_PORT 3 8 |>.put .SPARE_STATE 3 2, 0, 8, { op := 1, kind := 3, phase := 2, swapFlit := 4000 }, by decide +kernel⟩,
  ⟨{ (State.reset.put .PORT_ROLE 8 3 |>.put .TRAIN_STATE 8 7 |>.put .OL_STATE 8 2 |>.put .LINK_WIDTH 8 8) with links := [(8, { own := some { op := 1, kind := 3, phase := 2, reqId := 7, swapFlit := 9 } })] }, 0, 8, { op := 2, kind := 3, phase := 2, reqId := 7, swapFlit := 8 }, { op := 1, kind := 3, phase := 2, reqId := 7, swapFlit := 9 }, by decide +kernel⟩,
  ⟨{ (State.reset.put .PORT_ROLE 8 3 |>.put .TRAIN_STATE 8 7 |>.put .OL_STATE 8 2 |>.put .LINK_WIDTH 8 8) with links := [(8, { own := some { op := 1, kind := 1, reqId := 7 } })] }, 0, 8, { op := 3, kind := 1, reqId := 7, reason := 3 }, { op := 1, kind := 1, reqId := 7 }, by decide +kernel⟩,
  ⟨{ (State.reset.put .PORT_ROLE 8 3 |>.put .TRAIN_STATE 8 7 |>.put .OL_STATE 8 2 |>.put .LINK_WIDTH 8 8) with links := [(8, { own := some { op := 1, kind := 1, reqId := 7 } })] }, 0, 8, { op := 4, kind := 1, reqId := 7 }, { op := 1, kind := 1, reqId := 7 }, by decide +kernel⟩,
  ⟨(State.reset.put .PORT_ROLE 8 3 |>.put .TRAIN_STATE 8 7 |>.put .OL_STATE 8 2 |>.put .LINK_WIDTH 8 8), 0, 8, { op := 1, kind := 1, reqId := 4 }, by decide +kernel⟩,
  ⟨{ (State.reset.put .PORT_ROLE 8 3 |>.put .TRAIN_STATE 8 7 |>.put .OL_STATE 8 2 |>.put .LINK_WIDTH 8 8).put .NEIGHBOUR_NODE 8 5 |>.put .NODE_ID 0 0 with links := [(8, { own := some { op := 1, kind := 2 } })] }, 0, 8, { op := 1, kind := 5, reqId := 4 }, { op := 1, kind := 2 }, by decide +kernel⟩,
  ⟨{ (State.reset.put .PORT_ROLE 8 3 |>.put .TRAIN_STATE 8 7 |>.put .OL_STATE 8 2 |>.put .LINK_WIDTH 8 8).put .SPARE_PORT 3 8 with links := [(8, { own := some { op := 1, kind := 3, phase := 1, lane := 2, reqId := 7 } })] }, 0, 8, { op := 2, kind := 3, phase := 1, reqId := 7 }, { op := 1, kind := 3, phase := 1, lane := 2, reqId := 7 }, 3, by decide +kernel⟩,
  ⟨{ (State.reset.put .PORT_ROLE 8 3 |>.put .TRAIN_STATE 8 7 |>.put .OL_STATE 8 2 |>.put .LINK_WIDTH 8 8) with links := [(8, { own := some { op := 1, kind := 3, phase := 1, lane := 2, reqId := 7 } })] }, 0, 8, { op := 4, kind := 3, phase := 1, reqId := 7 }, { op := 1, kind := 3, phase := 1, lane := 2, reqId := 7 }, by decide +kernel⟩⟩

theorem witness_TimeIsRootedMarkedAndStepped :
  (∃ (s : State) (_t : Time),
    s.errs = [] ∧ s.time.lastPps = 0 ∧ s.get .ACTIVE_SOURCE ≠ 0) ∧
  (∃ (s : State) (t : Time),
    s.errs = [] ∧ s.time.lastPps ≠ 0 ∧ ppsOnTime s.time.lastPps (max s.now t) = true ∧ s.get .ACTIVE_SOURCE ≠ 0) ∧
  (∃ (s : State) (_t : Time),
    s.errs = [] ∧ s.get .TIME_CLASS ≠ 1 ∧ s.get .ACTIVE_SOURCE ≠ 0) ∧
  (∃ (s : State) (t : Time),
    s.errs = [] ∧ s.time.lastPps ≠ 0 ∧ ppsOnTime s.time.lastPps (max s.now t) = true ∧ s.get .ACTIVE_SOURCE = 0 ∧ 1000000 ≤ (((s.at t).ppsLabel : Int) * 1000000000 - (max s.now t : Nat) / 65536).natAbs) ∧
  (∃ (s : State) (_t : Time),
    s.errs = [] ∧ s.get .TIME_CLASS ≠ 1) ∧
  (∃ (s : State) (_t : Time),
    s.errs = [] ∧ s.get .TIME_CLASS = 1) ∧
  (∃ (s : State) (t : Time) (off : Int) (a : Time),
    s.errs = [] ∧ -1000 < off ∧ off < 1000 ∧ s.time.ptpGoodSince = some a ∧ a + ms 16000 ≤ max s.now t ∧ s.get .ACTIVE_SOURCE ≠ 1) ∧
  (∃ (s : State) (_t : Time) (off : Int),
    s.errs = [] ∧ (1000 ≤ off ∨ off ≤ -1000) ∧ s.get .TIME_CLASS ≠ 2 ∧ s.get .ACTIVE_SOURCE ≠ 1) ∧
  (∃ (s : State) (_t : Time) (d : Nat) (_off : Int),
    s.errs = [] ∧ d ≠ s.get .PTP_DOMAIN) ∧
  (∃ (s : State) (t : Time) (a : Time),
    s.errs = [] ∧ s.time.ptpGoodSince = some a ∧ a + ms 16000 ≤ max s.now t ∧ bit (s.get .SOURCE_ENABLE) 1 = false) ∧
  (∃ (s : State) (_t : Time),
    s.errs = [] ∧ s.time.clkPresent = true ∧ 8 ≤ s.time.ppsRun ∧ bit (s.get .SOURCE_ENABLE) 0 = true ∧ s.get .PAIR_B_STATE = 0) ∧
  (∃ (s : State) (t : Time) (b : Time),
    s.errs = [] ∧ s.time.betterSince = some b ∧ b + ms 10000 ≤ max s.now t ∧ s.outranks s.time.rootClass (s.get .TIME_ROOT) = true) ∧
  (∃ (s : State) (_t : Time) (port : Nat),
    port < 512 ∧ s.errs = [] ∧ s.isFabric port = true ∧ s.get .OL_STATE port = 2) ∧
  (∃ (s : State) (_t : Time) (port : Nat),
    port < 512 ∧ s.errs = [] ∧ s.isDevice port = true ∧ (s.pport port).up = true) ∧
  (∃ (s : State) (t : Time) (req : Req) (offers : List Time) (step : Int),
    s.errs = [] ∧ s.hears req ∧ s.mayInvoke req .TIME_STEP none = 0 ∧ step ≠ 0 ∧ step % 1000000 = 0 ∧ (∀ e ∈ offers, 0 ≤ (e : Int) + step * 65536) ∧ s.anyGranted = false ∧ s.epochsRefused = false ∧ (s.at t).checkOffers offers = 0 ∧ s.unitsBusy s.allUnits = false) ∧
  (∃ (s : State) (_t : Time) (req : Req) (_offers : List Time) (step : Int),
    s.errs = [] ∧ s.hears req ∧ s.mayInvoke req .TIME_STEP none = 0 ∧ step % 1000000 ≠ 0) ∧
  (∃ (s : State) (t : Time) (req : Req) (offers : List Time) (v : Nat),
    s.errs = [] ∧ s.hears req ∧ s.resolve (s.principal req.path) 2 (entryOf .PIP_PERIOD none v).addr = .obj .PIP_PERIOD 0 ∧ v ≤ 4 ∧ s.epochsRefused = false ∧ ((s.at t).checkOffers offers (fun e => codeIf (e % ms 1 ≠ 0) 0x0301) = 0) ∧ s.anyGranted = false ∧ s.gatesTooLong v = false ∧ s.switching = false ∧ s.unitsBusy s.allUnits = false) :=
  ⟨⟨State.reset.put .ACTIVE_SOURCE 0 3, ms 1000, by decide +kernel⟩,
  ⟨{ State.reset.put .ACTIVE_SOURCE 0 3 with time := { lastPps := ms 1000, ppsRun := 7 } }, ms 2000, by decide +kernel⟩,
  ⟨{ State.reset.put .ACTIVE_SOURCE 0 3 with time := { lastPps := ms 1000, ppsRun := 7 } }, ms 2000, by decide +kernel⟩,
  ⟨{ State.reset.put .ACTIVE_SOURCE 0 0 with time := { lastPps := ms 1000, ppsRun := 7, label := some 5 } }, ms 2000, by decide +kernel⟩,
  ⟨State.reset.put .TIME_CLASS 0 3, 0, by decide +kernel⟩,
  ⟨State.reset.put .TIME_CLASS 0 1, 0, by decide +kernel⟩,
  ⟨{ State.reset.put .ACTIVE_SOURCE 0 3 with time := { ptpGoodSince := some 0 } }, ms 16000, 999, 0, by decide +kernel⟩,
  ⟨{ State.reset.put .ACTIVE_SOURCE 0 3 with time := { ptpGoodSince := some 0 } }, ms 16000, -1000, by decide +kernel⟩,
  ⟨State.reset, 0, 9, 5, by decide +kernel⟩,
  ⟨{ State.reset.put .SOURCE_ENABLE 0 1 with time := { ptpGoodSince := some 0 } }, ms 16000, 0, by decide +kernel⟩,
  ⟨{ State.reset.put .SOURCE_ENABLE 0 1 with time := { clkPresent := true, ppsRun := 8, label := some 5 } }, ms 16000, by decide +kernel⟩,
  ⟨{ State.reset.put .TIME_CLASS 0 1 with time := { betterSince := some 0, rootClass := 3 } }, ms 10000, 0, by decide +kernel⟩,
  ⟨(State.reset.put .PORT_ROLE 8 3).put .OL_STATE 8 2, ms 1, 8, by decide +kernel⟩,
  ⟨{ State.reset.put .PORT_ROLE 8 2 with pports := [(8, { up := true })] }, ms 1, 8, by decide +kernel⟩,
  ⟨{ (State.reset.put .KEEPER_ROLE 0 1) with boot := .odtaku }, 0, { path := .smMailbox }, [ns 125000 * 8], 1000000, by decide +kernel⟩,
  ⟨{ State.reset with boot := .odtaku }, 0, { path := .smMailbox }, [ns 125000 * 8], 5, by decide +kernel⟩,
  ⟨{ (State.reset.put .KEEPER_ROLE 0 1) with boot := .odtaku }, 0, { path := .smMailbox }, [ms 1], 2, by decide +kernel⟩⟩

theorem witness_EpochRequestsAreDecided :
  (∃ (s : State) (t : Time) (k node region : Nat) (r : EpochReq),
    node < 32 ∧ region < 15 ∧ s.errs = [] ∧ s.req k = some r ∧ r.decided = false ∧ s.reqOver k = false ∧ max s.now t < s.guardOf r ∧ (node, region) ∈ r.units ∧ s.reports node = true) ∧
  (∃ (s : State) (t : Time) (k node region : Nat) (r : EpochReq),
    node < 32 ∧ region < 15 ∧ s.errs = [] ∧ s.req k = some r ∧ r.decided = false ∧ s.reqOver k = false ∧ max s.now t < s.guardOf r ∧ (node, region) ∈ r.units ∧ s.reports node = true) ∧
  (∃ (s : State) (_t : Time) (k node region : Nat) (_p : Machine.Prep),
    node < 32 ∧ region < 15 ∧ s.errs = [] ∧ s.get .KEEPER_ROLE ≠ 1 ∧ s.req k = none ∧ s.reqs.length < 64) ∧
  (∃ (s : State) (t : Time) (k : Nat) (r : EpochReq),
    s.errs = [] ∧ s.req k = some r ∧ s.pairStopped = false ∧ r.prep = false ∧ r.decided = false ∧ s.reqOver r.num = false ∧ s.guardOf r ≤ max s.now t ∧ s.firstLate r = none) ∧
  (∃ (s : State) (t : Time) (k : Nat) (r : EpochReq) (u : Nat × Nat),
    s.req k = some r ∧ s.pairStopped = false ∧ r.prep = false ∧ r.decided = false ∧ s.reqOver r.num = false ∧ s.guardOf r ≤ max s.now t ∧ s.firstLate r = some u ∧ r.cur + 1 < r.offers.length) ∧
  (∃ (s : State) (_t : Time) (k : Nat) (r : EpochReq) (acks : List Nat) (n : Nat),
    s.errs = [] ∧ s.req k = some r ∧ r.prep = false ∧ r.decided = true ∧ s.reqOver k = false ∧ n ∈ r.units.map (·.1) ∧ n ∉ r.acks ∧ n ∉ acks) ∧
  (∃ (s : State) (_t : Time) (k : Nat) (r : EpochReq) (_acks : List Nat),
    s.errs = [] ∧ s.req k = some r ∧ r.prep = true ∧ r.decided = false ∧ s.reqOver k = false) ∧
  (∃ (s : State) (t : Time) (k : Nat) (r : EpochReq) (region : Nat),
    region < 15 ∧ s.errs = [] ∧ s.req k = some r ∧ (s.at t).mayQuery r region = true) ∧
  (∃ (s : State) (t : Time) (k : Nat) (r : EpochReq) (region : Nat),
    region < 15 ∧ s.errs = [] ∧ s.req k = some r ∧ (s.at t).mayQuery r region = true) ∧
  (∃ (s : State) (k v : Nat) (r : EpochReq),
    s.errs = [] ∧ s.req k = some r ∧ s.reqOver k = false ∧ r.decided = true ∧ r.lacking = [] ∧ r.work = .period v) ∧
  (∃ (s : State) (k region : Nat) (r : EpochReq),
    s.req k = some r ∧ s.reqOver k = false ∧ r.decided = false ∧ r.lacking = [region]) :=
  ⟨⟨{ State.reset.put .REGION_STATE 14 0 with reqs := [{ num := 4, kind := 2, offers := [ns 125000 * 10], units := [(0, 8)], work := .gates [] }] }, 0, 4, 0, 8, { num := 4, kind := 2, offers := [ns 125000 * 10], units := [(0, 8)], work := .gates [] }, by decide +kernel⟩,
  ⟨{ State.reset with reqs := [{ num := 4, kind := 2, offers := [ns 125000 * 10], units := [(1, 8)], work := .gates [] }] }, 0, 4, 1, 8, { num := 4, kind := 2, offers := [ns 125000 * 10], units := [(1, 8)], work := .gates [] }, by decide +kernel⟩,
  ⟨{ State.reset with reqs := [] }, 0, 4, 1, 8, { kind := 2, offers := [ms 1], units := [(1, 8)], work := .gates [] }, by decide +kernel⟩,
  ⟨{ State.reset.put .REGION_STATE 14 0 with reqs := [{ num := 4, kind := 2, offers := [ns 125000 * 10], units := [(0, 8)], ready := [(0, 8)], work := .gates [] }] }, ns 125000 * 9, 4, { num := 4, kind := 2, offers := [ns 125000 * 10], units := [(0, 8)], ready := [(0, 8)], work := .gates [] }, by decide +kernel⟩,
  ⟨{ State.reset.put .REGION_STATE 8 0 with reqs := [{ num := 4, kind := 2, offers := [ns 125000 * 10, ns 125000 * 20], units := [(0, 8)], work := .gates [] }] }, ns 125000 * 9, 4, { num := 4, kind := 2, offers := [ns 125000 * 10, ns 125000 * 20], units := [(0, 8)], work := .gates [] }, (0, 8), by decide +kernel⟩,
  ⟨{ State.reset with reqs := [{ num := 4, kind := 2, offers := [ns 125000 * 10], units := [(0, 8), (1, 8)], decided := true, work := .gates [] }] }, 0, 4, { num := 4, kind := 2, offers := [ns 125000 * 10], units := [(0, 8), (1, 8)], decided := true, work := .gates [] }, [0], 1, by decide +kernel⟩,
  ⟨{ State.reset with reqs := [{ num := 4, kind := 2, offers := [ns 125000 * 10], units := [(0, 8), (1, 8)], prep := true, work := .gates [] }] }, 0, 4, { num := 4, kind := 2, offers := [ns 125000 * 10], units := [(0, 8), (1, 8)], prep := true, work := .gates [] }, [], by decide +kernel⟩,
  ⟨{ State.reset.put .NODE_ID 0 0 with reqs := [{ num := 4, kind := 2, offers := [ns 125000 * 10], units := [(0, 8)], ready := [(0, 8)], work := .gates [] }] }, ns 125000 * 9, 4, { num := 4, kind := 2, offers := [ns 125000 * 10], units := [(0, 8)], ready := [(0, 8)], work := .gates [] }, 8, by decide +kernel⟩,
  ⟨{ State.reset.put .NODE_ID 0 0 with reqs := [{ num := 4, kind := 2, offers := [ns 125000 * 10], units := [(0, 8)], ready := [(0, 8)], work := .gates [] }] }, ns 125000 * 9, 4, { num := 4, kind := 2, offers := [ns 125000 * 10], units := [(0, 8)], ready := [(0, 8)], work := .gates [] }, 8, by decide +kernel⟩,
  ⟨{ State.reset with reqs := [{ num := 4, kind := 5, offers := [ms 10], units := [(0, 8)], decided := true, work := .period 2 }] }, 4, 2, { num := 4, kind := 5, offers := [ms 10], units := [(0, 8)], decided := true, work := .period 2 }, by decide +kernel⟩,
  ⟨{ State.reset with reqs := [{ num := 4, kind := 2, offers := [ms 10], units := [(0, 8)], lacking := [8], work := .gates [] }] }, 4, 8, { num := 4, kind := 2, offers := [ms 10], units := [(0, 8)], lacking := [8], work := .gates [] }, by decide +kernel⟩⟩

theorem witness_HellosAndTheKeeper :
  (∃ (s : State) (_t : Time) (port : Nat),
    port < 512 ∧ s.errs = [] ∧ s.isFabric port = true ∧ s.get .OL_STATE port = 2) ∧
  (∃ (s : State) (_t : Time) (port : Nat) (h : Hello),
    port < 512 ∧ s.errs = [] ∧ s.isFabric port = true ∧ s.get .OL_STATE port = 2 ∧ s.nbrCheck h.orchard h.node h.plane = 0 ∧ s.dupPorts.filter (· ≠ port) = [] ∧ (s.hello port).count = 0 ∧ s.get .NEIGHBOUR_STATE port = 0) ∧
  (∃ (s : State) (t : Time) (port : Nat) (h : Hello),
    port < 512 ∧ s.errs = [] ∧ s.isFabric port = true ∧ s.get .OL_STATE port = 2 ∧ s.nbrCheck h.orchard h.node h.plane = 0 ∧ s.dupPorts.filter (· ≠ port) = [] ∧ (s.hello port).count = 1 ∧ s.get .NEIGHBOUR_STATE port = 1 ∧ max s.now t ≤ (s.hello port).last + us 300) ∧
  (∃ (s : State) (t : Time) (port : Nat),
    port < 512 ∧ s.errs = [] ∧ s.get .NEIGHBOUR_STATE port ≠ 0 ∧ (s.hello port).last + us 300 ≤ max s.now t) ∧
  (∃ (s : State) (_t : Time) (n p m q : Nat) (_wd : Bool),
    n < 32 ∧ p < 512 ∧ m < 32 ∧ q < 512 ∧ s.errs = []) ∧
  (∃ (s : State) (_t : Time) (n p m q : Nat) (_wd : Bool),
    n < 32 ∧ p < 512 ∧ m < 32 ∧ q < 512 ∧ s.errs = []) ∧
  (∃ (s : State) (t : Time),
    s.errs = [] ∧ s.get .KEEPER_ROLE = 2 ∧ s.selfHealthy = true ∧ s.isEdge (max s.now t) = true ∧ s.reqs = []) ∧
  (∃ (s : State) (t : Time) (n : Nat),
    n < 32 ∧ s.errs = [] ∧ (s.at t).mayHandOver n = true) ∧
  (∃ (s : State) (t : Time) (n : Nat),
    s.errs = [] ∧ (s.at t).healthyHere.head? = some n ∧ s.majority (s.at t).healthyHere = true ∧ s.get .KEEPER_CHANGES = 0 ∧ s.get .KEEPER_NODE = 0xFF ∧ s.get .KEEPER_ROLE ≠ 4) :=
  ⟨⟨(State.reset.put .PORT_ROLE 8 3 |>.put .OL_STATE 8 2 |>.put .ORCHARD_MEMBERS 0 0xFFFFFFFF |>.put .NODE_ID 0 2 |>.put .PLANE 0 0 |>.put .ORCHARD_ID 0 0), 0, 8, by decide +kernel⟩,
  ⟨(State.reset.put .PORT_ROLE 8 3 |>.put .OL_STATE 8 2 |>.put .ORCHARD_MEMBERS 0 0xFFFFFFFF |>.put .NODE_ID 0 2 |>.put .PLANE 0 0 |>.put .ORCHARD_ID 0 0), 0, 8, { node := 5, serial := 99, plane := 0, orchard := 0, healthy := true, rootClass := 3, rootNode := 5, hops := 0, keeper := 0xFF, port := 9 }, by decide +kernel⟩,
  ⟨{ (State.reset.put .PORT_ROLE 8 3 |>.put .OL_STATE 8 2 |>.put .ORCHARD_MEMBERS 0 0xFFFFFFFF |>.put .NODE_ID 0 2 |>.put .PLANE 0 0 |>.put .ORCHARD_ID 0 0).put .NEIGHBOUR_STATE 8 1 with hellos := [(8, { count := 1 })] }, us 100, 8, { node := 5, serial := 99, plane := 0, orchard := 0, healthy := true, rootClass := 3, rootNode := 5, hops := 0, keeper := 0xFF, port := 9 }, by decide +kernel⟩,
  ⟨(State.reset.put .PORT_ROLE 8 3 |>.put .OL_STATE 8 2 |>.put .ORCHARD_MEMBERS 0 0xFFFFFFFF |>.put .NODE_ID 0 2 |>.put .PLANE 0 0 |>.put .ORCHARD_ID 0 0).put .NEIGHBOUR_STATE 8 2, us 300, 8, by decide +kernel⟩,
  ⟨(State.reset.put .PORT_ROLE 8 3 |>.put .OL_STATE 8 2 |>.put .ORCHARD_MEMBERS 0 0xFFFFFFFF |>.put .NODE_ID 0 2 |>.put .PLANE 0 0 |>.put .ORCHARD_ID 0 0).put .KEEPER_ROLE 0 1, 0, 3, 8, 4, 16, false, by decide +kernel⟩,
  ⟨{ (State.reset.put .PORT_ROLE 8 3 |>.put .OL_STATE 8 2 |>.put .ORCHARD_MEMBERS 0 0xFFFFFFFF |>.put .NODE_ID 0 2 |>.put .PLANE 0 0 |>.put .ORCHARD_ID 0 0) with topo := [⟨3, 8, 4, 16, false⟩] }, 0, 3, 8, 4, 16, false, by decide +kernel⟩,
  ⟨(State.reset.put .PORT_ROLE 8 3 |>.put .OL_STATE 8 2 |>.put .ORCHARD_MEMBERS 0 0xFFFFFFFF |>.put .NODE_ID 0 2 |>.put .PLANE 0 0 |>.put .ORCHARD_ID 0 0).put .KEEPER_ROLE 0 2 |>.put .REGION_STATE 14 0 |>.put .NEIGHBOUR_STATE 8 2, 0, by decide +kernel⟩,
  ⟨{ (State.reset.put .NODE_ID 0 2 |>.put .KEEPER_NODE 0 2 |>.put .NEIGHBOUR_STATE 8 2 |>.put .NEIGHBOUR_NODE 8 1 |>.put .ORCHARD_MEMBERS 0 6) with members := [(1, { healthy := true })], topo := [⟨2, 8, 1, 9, false⟩, ⟨1, 9, 2, 8, false⟩] }, ms 10000, 1, by decide +kernel⟩,
  ⟨{ (State.reset.put .NODE_ID 0 2 |>.put .ORCHARD_MEMBERS 0 4 |>.put .REGION_STATE 14 0) with boot := .odtaku, members := [(2, { healthy := true })] }, 0, 2, by decide +kernel⟩⟩

theorem witness_EdgesShadowsAndEngines :
  (∃ (s : State),
    s.errs = [] ∧ s.nothingDue ∧ s.pendP = []) ∧
  (∃ (s : State) (c v n : Nat),
    s.errs = [] ∧ s.nothingDue ∧ s.pendP = [{ obj := .SP_LIMIT, row := c, val := v, pip := n }]) ∧
  (∃ (s : State) (_t : Time),
    s.errs = []) ∧
  (∃ (s : State) (_t : Time) (e r : Nat),
    0 < e ∧ e < 8 ∧ r < 15 ∧ s.errs = [] ∧ engineRuns e r = true ∧ s.pausedIn e r = false) ∧
  (∃ (s : State) (_t : Time) (c n : Nat) (x : Bool × Nat × List (List Nat)) (l : List (Bool × Nat × List (List Nat))),
    c < 4 ∧ s.errs = [] ∧ (s.ipfix.getD {} c).session = some n ∧ (s.ipfix.getD {} c).queue = x :: l ∧ s.odtakuUp = true ∧ s.pathOpen (.udp n) = true ∧ s.pausedIn 6 14 = false) ∧
  (∃ (s : State) (_t : Time) (p n : Nat) (e : Nat),
    p < 4096 ∧ ((s.mf p).ring n).staged = [e] ∧ ((s.mf p).ring n).head < (s.mf p).ringSize n ∧ s.get .MF_STATE p = 0 ∧ s.get .PARTITION_STATE p = 2 ∧ bit ((s.mf p).ringCtrl n) 0 = true ∧ bit ((s.mf p).ringCtrl n) 2 = false ∧ s.pausedIn 6 (quadRegion (s.get .HOST_PORT p)) = false) :=
  ⟨⟨{ State.reset with paused := [(1, 0)] }, by decide +kernel⟩,
  ⟨{ State.reset with pendP := [{ obj := .SP_LIMIT, row := 3, val := 900, pip := 1 }] }, 3, 900, 1, by decide +kernel⟩,
  ⟨State.reset, 0, by decide +kernel⟩,
  ⟨State.reset, 0, 3, 7, by decide +kernel⟩,
  ⟨{ (State.reset.put .SESSION_STATE 1 2).put .HEXSUM_ENABLE 0 7 with boot := .odtaku, ipfix := [(2, { session := some 1, queue := [(true, 256, [[1, 2]])] })] }, 0, 2, 1, (true, 256, [[1, 2]]), [], by decide +kernel⟩,
  ⟨{ (State.reset.put .PARTITION_STATE 7 2).put .HOST_PORT 7 8 with mfs := [(7, { regs := [(0x408, 4), (0x40C, 1)], rings := [(0, { staged := [5] })] })] }, 0, 7, 0, 5, by decide +kernel⟩⟩

theorem witness_TlpsAreParsedAtTheirIngress :
  (∃ (s : State) (_t : Time) (port : Nat) (tlp : Tlp),
    port < 512 ∧ s.errs = [] ∧ s.pciUp port = true ∧ s.husked port = true ∧ s.holdsCredit port tlp.sub = false) ∧
  (∃ (s : State) (_t : Time) (port : Nat) (tlp : Tlp),
    port < 512 ∧ s.errs = [] ∧ s.pciUp port = true ∧ s.husked port = false ∧ s.rx.getD [] (clusterOf port) = [] ∧ s.holdsCredit port tlp.sub = false ∧ tlp.fault = none ∧ parseErrors tlp = [] ∧ tlp.kind ≠ .cpl ∧ s.sourceOf port tlp.rid = none) ∧
  (∃ (s : State) (_t : Time) (port : Nat) (tlp : Tlp),
    port < 512 ∧ s.pciUp port = true ∧ s.husked port = false ∧ s.rx.getD [] (clusterOf port) = [] ∧ (tlp.fault.isSome = true ∨ parseErrors tlp ≠ [])) ∧
  (∃ (s : State) (_t : Time) (port part src : Nat) (tlp : Tlp),
    port < 512 ∧ s.pciUp port = true ∧ s.husked port = false ∧ s.rx.getD [] (clusterOf port) = [] ∧ tlp.fault = none ∧ parseErrors tlp = [] ∧ tlp.poisoned = false ∧ tlp.kind ≠ .cpl ∧ tlp.kind ≠ .msgRoot ∧ s.sourceOf port tlp.rid = some (part, src) ∧ s.husked (partRow part) = false ∧ ((if isHostGfid src then s.decodeHost part { tlp with ecrc := none } else s.decodeAcs part src { tlp with ecrc := none }) = none)) ∧
  (∃ (s : State) (_t : Time) (port part src : Nat) (tlp : Tlp) (dests : List (Nat × Nat × Bool)),
    port < 512 ∧ s.pciUp port = true ∧ s.husked port = false ∧ s.rx.getD [] (clusterOf port) = [] ∧ tlp.fault = none ∧ parseErrors tlp = [] ∧ tlp.poisoned = false ∧ tlp.kind ≠ .cpl ∧ tlp.kind ≠ .msgRoot ∧ s.ideRefuses port tlp = false ∧ s.sourceOf port tlp.rid = some (part, src) ∧ s.husked (partRow part) = false ∧ ((if isHostGfid src then s.decodeHost part { tlp with ecrc := none } else s.decodeAcs part src { tlp with ecrc := none }) = some dests) ∧ dests ≠ [] ∧ (∀ x ∈ dests, s.reqCut part src x.1 = false ∧ x.1 ≠ chipGfid s.node ∧ (s.targetOf x.1).isSome)) ∧
  (∃ (s : State) (_t : Time) (port : Nat) (tlp : Tlp),
    port < 512 ∧ s.pciUp port = true ∧ s.husked port = false ∧ s.rx.getD [] (clusterOf port) = [] ∧ tlp.fault = none ∧ parseErrors tlp = [] ∧ tlp.kind = .cpl ∧ s.ideRefuses port tlp = false) ∧
  (∃ (s : State) (_t : Time) (port part src : Nat) (tlp : Tlp),
    port < 512 ∧ s.pciUp port = true ∧ s.husked port = false ∧ s.rx.getD [] (clusterOf port) = [] ∧ tlp.fault = none ∧ parseErrors tlp = [] ∧ tlp.kind = .cpl ∧ s.ideRefuses port tlp = true ∧ s.sourceOf port tlp.cplId = some (part, src)) ∧
  (∃ (s : State) (_t : Time) (port part src : Nat) (tlp : Tlp),
    port < 512 ∧ s.pciUp port = true ∧ s.husked port = false ∧ s.rx.getD [] (clusterOf port) = [] ∧ tlp.fault = none ∧ parseErrors tlp = [] ∧ tlp.poisoned = false ∧ tlp.kind ≠ .cpl ∧ tlp.kind ≠ .msgRoot ∧ s.sourceOf port tlp.rid = some (part, src) ∧ s.husked (partRow part) = true) ∧
  (∃ (s : State) (_t : Time) (port part src : Nat) (tlp : Tlp),
    port < 512 ∧ s.pciUp port = true ∧ s.husked port = false ∧ s.rx.getD [] (clusterOf port) = [] ∧ tlp.fault = none ∧ parseErrors tlp = [] ∧ (tlp.poisoned = true ∨ tlp.kind = .msgRoot) ∧ tlp.kind ≠ .cpl ∧ s.sourceOf port tlp.rid = some (part, src) ∧ s.husked (partRow part) = false) ∧
  (∃ (s : State) (_t : Time) (port : Nat) (_tlp : Tlp),
    port < 512 ∧ s.pciUp port = true ∧ s.husked port = false ∧ ((s.rx.getD [] (clusterOf port)).any (fun i => i.port = port && i.why = .parse) = true)) ∧
  (∃ (s : State) (_t : Time) (port : Nat) (_tlp : Tlp),
    port < 512 ∧ s.pciUp port = false) :=
  ⟨⟨{ State.reset.put .PORT_ROLE 8 1 |>.put .HUSK_STATE 8 1 with pports := [(8, { up := true })] }, 0, 8, { kind := .memWrite, addr := 4096, data := 64 }, by decide +kernel⟩,
  ⟨{ State.reset.put .PORT_ROLE 8 1 with pports := [(8, { up := true })] }, 0, 8, { kind := .memWrite, addr := 4096, data := 64 }, by decide +kernel⟩,
  ⟨{ State.reset.put .PORT_ROLE 8 1 with pports := [(8, { up := true })] }, 0, 8, { kind := .memWrite, addr := 4096, data := 64, ecrc := some false }, by decide +kernel⟩,
  ⟨{ (State.reset.put .PORT_ROLE 8 1 |>.put .HOST_PORT 3 8 |>.put .HOST_NODE 3 0 |>.put .NODE_ID 0 0) with pports := [(8, { up := true })] }, 0, 8, 3, 0xF003, { kind := .memWrite, addr := 4096, data := 64 }, by decide +kernel⟩,
  ⟨{ (State.reset.put .PORT_ROLE 8 1 |>.put .HOST_PORT 3 8 |>.put .HOST_NODE 3 0 |>.put .NODE_ID 0 0 |>.put .AP_PARTITION 0 3 |>.put .AP_BASE 0 4096 |>.put .AP_SIZE_LOG2 0 12 |>.put .AP_TARGET 0 700 |>.put .AP_STATE 0 1 |>.put .LOC_NODE 700 0 |>.put .LOC_PORT 700 16) with pports := [(8, { up := true })] }, 0, 8, 3, 0xF003, { kind := .memWrite, addr := 4096, data := 64 }, [(700, 0, false)], by decide +kernel⟩,
  ⟨{ State.reset.put .PORT_ROLE 8 1 with pports := [(8, { up := true })] }, 0, 8, { kind := .cpl }, by decide +kernel⟩,
  ⟨{ (State.reset.put .PORT_ROLE 8 1 |>.put .HOST_PORT 3 8 |>.put .HOST_NODE 3 0 |>.put .NODE_ID 0 0) |>.put .IDE_MODE 8 2 with pports := [(8, { up := true })] }, 0, 8, 3, 0xF003, { kind := .cpl }, by decide +kernel⟩,
  ⟨{ (State.reset.put .PORT_ROLE 8 1 |>.put .HOST_PORT 3 8 |>.put .HOST_NODE 3 0 |>.put .NODE_ID 0 0) |>.put .HUSK_STATE (partRow 3) 1 with pports := [(8, { up := true })] }, 0, 8, 3, 0xF003, { kind := .memWrite, addr := 4096, data := 64 }, by decide +kernel⟩,
  ⟨{ (State.reset.put .PORT_ROLE 8 1 |>.put .HOST_PORT 3 8 |>.put .HOST_NODE 3 0 |>.put .NODE_ID 0 0) with pports := [(8, { up := true })] }, 0, 8, 3, 0xF003, { kind := .memWrite, addr := 4096, data := 64, poisoned := true }, by decide +kernel⟩,
  ⟨{ (State.reset.put .PORT_ROLE 8 1 |>.put .HOST_PORT 3 8 |>.put .HOST_NODE 3 0 |>.put .NODE_ID 0 0) with pports := [(8, { up := true })], rx := [(1, [{ port := 8, pkt := { tlp := { kind := .memWrite } }, why := .parse }])] }, 0, 8, { kind := .memWrite, addr := 4096, data := 64 }, by decide +kernel⟩,
  ⟨State.reset, 0, 8, { kind := .memWrite, addr := 4096, data := 64 }, by decide +kernel⟩⟩

theorem witness_BarsAndAperturesFollowTheHost :
  (∃ (s : State) (_t : Time) (p g gfid _bar _base _rid _tag port : Nat),
    p < 4096 ∧ g < 65536 ∧ gfid < 65536 ∧ s.graftCovers p g gfid = true ∧ s.get .KIND g ≠ 2 ∧ s.ownHostPort p = some port) ∧
  (∃ (s : State) (_t : Time) (p g gfid _bar _base _rid _tag : Nat),
    p < 4096 ∧ g < 65536 ∧ gfid < 65536 ∧ s.errs = [] ∧ s.graftCovers p g gfid = true ∧ s.get .KIND g ≠ 2 ∧ s.ownHostPort p = none) ∧
  (∃ (s : State) (_t : Time) (p g gfid _bar _base _rid _tag : Nat),
    p < 4096 ∧ g < 65536 ∧ gfid < 65536 ∧ s.errs = [] ∧ (s.graftCovers p g gfid = false ∨ s.get .KIND g = 2)) ∧
  (∃ (s : State) (_t : Time) (p gfid bar : Nat) (x : ApPend) (q : Pkt),
    p < 4096 ∧ gfid < 65536 ∧ s.odtakuUp = true ∧ s.apPend.find? (s.barReady p gfid bar) = some x ∧ x.cpl = some q) ∧
  (∃ (s : State) (_t : Time) (p gfid bar : Nat),
    p < 4096 ∧ gfid < 65536 ∧ s.errs = [] ∧ (s.odtakuUp = false ∨ s.apPend.find? (s.barReady p gfid bar) = none)) ∧
  (∃ (s : State) (_t : Time) (p g port : Nat) (c : CfgReq),
    p < 4096 ∧ g < 65536 ∧ s.graftCovers p g (s.get .GFID g) = true ∧ s.get .KIND g = 2 ∧ s.odtakuUp = true ∧ s.ownHostPort p = some port ∧ c.write = true ∧ vfEmulated (c.reg / 4 * 4) = true) ∧
  (∃ (s : State) (_t : Time) (p g port : Nat) (c : CfgReq),
    p < 4096 ∧ g < 65536 ∧ s.errs = [] ∧ s.graftCovers p g (s.get .GFID g) = true ∧ s.get .KIND g = 2 ∧ s.odtakuUp = true ∧ s.ownHostPort p = some port ∧ c.write = false) ∧
  (∃ (s : State) (_t : Time) (p g port : Nat) (c : CfgReq),
    p < 4096 ∧ g < 65536 ∧ s.errs = [] ∧ s.graftCovers p g (s.get .GFID g) = true ∧ s.get .KIND g = 2 ∧ s.odtakuUp = true ∧ s.ownHostPort p = some port ∧ c.write = true ∧ vfEmulated (c.reg / 4 * 4) = false) ∧
  (∃ (s : State) (_t : Time) (p g port : Nat) (_c : CfgReq),
    p < 4096 ∧ g < 65536 ∧ s.errs = [] ∧ s.graftCovers p g (s.get .GFID g) = true ∧ s.get .KIND g = 2 ∧ s.odtakuUp = false ∧ s.ownHostPort p = some port) :=
  ⟨⟨{ (State.reset.put .HOST_PORT 3 8 |>.put .HOST_NODE 3 0 |>.put .NODE_ID 0 0 |>.put .PORT_ROLE 8 1 |>.put .PARTITION 5 3 |>.put .GFID 5 700 |>.put .LOC_NODE 700 0 |>.put .LOC_PORT 700 16) with grafts := [(5, { inForce := true })] }, 0, 3, 5, 700, 0, 65536, 0, 7, 8, by decide +kernel⟩,
  ⟨{ (State.reset.put .PARTITION 5 3 |>.put .GFID 5 700) with grafts := [(5, { inForce := true })] }, 0, 3, 5, 700, 0, 65536, 0, 7, by decide +kernel⟩,
  ⟨State.reset, 0, 3, 5, 700, 0, 65536, 0, 7, by decide +kernel⟩,
  ⟨{ State.reset.put .PARTITION 5 3 with boot := .odtaku, apPend := [{ graft := 5, gfid := 700, bar := 0, base := 8192, rid := 0, tag := 7, cpl := some {} }] }, 0, 3, 700, 0, { graft := 5, gfid := 700, bar := 0, base := 8192, rid := 0, tag := 7, cpl := some {} }, {}, by decide +kernel⟩,
  ⟨State.reset, 0, 3, 700, 0, by decide +kernel⟩,
  ⟨{ (State.reset.put .HOST_PORT 3 8 |>.put .HOST_NODE 3 0 |>.put .NODE_ID 0 0 |>.put .PORT_ROLE 8 1 |>.put .PARTITION 5 3 |>.put .GFID 5 700 |>.put .LOC_NODE 700 0 |>.put .LOC_PORT 700 16) |>.put .KIND 5 2 |>.put .PARENT_PF 700 699 |>.put .FN_POSITION 699 8 |>.put .FN_POSITION 700 10 with grafts := [(5, { inForce := true })], boot := .odtaku, fns := [(699, { pos := 8, vfBars := [(0, 65536, 14)] })] }, 0, 3, 5, 8, { bus := 0, dev := 0, fn := 0, write := true, reg := 4, value := 2 }, by decide +kernel⟩,
  ⟨{ (State.reset.put .HOST_PORT 3 8 |>.put .HOST_NODE 3 0 |>.put .NODE_ID 0 0 |>.put .PORT_ROLE 8 1 |>.put .PARTITION 5 3 |>.put .GFID 5 700 |>.put .LOC_NODE 700 0 |>.put .LOC_PORT 700 16) |>.put .KIND 5 2 |>.put .PARENT_PF 700 699 |>.put .FN_POSITION 699 8 |>.put .FN_POSITION 700 10 with grafts := [(5, { inForce := true })], boot := .odtaku, fns := [(699, { pos := 8, vfBars := [(0, 65536, 14)] })] }, 0, 3, 5, 8, { bus := 0, dev := 0, fn := 0, reg := 4 }, by decide +kernel⟩,
  ⟨{ (State.reset.put .HOST_PORT 3 8 |>.put .HOST_NODE 3 0 |>.put .NODE_ID 0 0 |>.put .PORT_ROLE 8 1 |>.put .PARTITION 5 3 |>.put .GFID 5 700 |>.put .LOC_NODE 700 0 |>.put .LOC_PORT 700 16) |>.put .KIND 5 2 |>.put .PARENT_PF 700 699 |>.put .FN_POSITION 699 8 |>.put .FN_POSITION 700 10 with grafts := [(5, { inForce := true })], boot := .odtaku, fns := [(699, { pos := 8, vfBars := [(0, 65536, 14)] })] }, 0, 3, 5, 8, { bus := 0, dev := 0, fn := 0, write := true, reg := 0 }, by decide +kernel⟩,
  ⟨{ (State.reset.put .HOST_PORT 3 8 |>.put .HOST_NODE 3 0 |>.put .NODE_ID 0 0 |>.put .PORT_ROLE 8 1 |>.put .PARTITION 5 3 |>.put .GFID 5 700 |>.put .LOC_NODE 700 0 |>.put .LOC_PORT 700 16) |>.put .KIND 5 2 |>.put .PARENT_PF 700 699 |>.put .FN_POSITION 699 8 |>.put .FN_POSITION 700 10 with grafts := [(5, { inForce := true })], boot := .rom, fns := [(699, { pos := 8, vfBars := [(0, 65536, 14)] })] }, 0, 3, 5, 8, { bus := 0, dev := 0, fn := 0, reg := 4 }, by decide +kernel⟩⟩

theorem witness_WindowsCommitAndCreditsReturn :
  (∃ (s : State) (t : Time) (req : Req) (offers : List Time),
    s.errs = [] ∧ s.hears req ∧ s.mayInvoke req .WINDOW_COMMIT none = 0 ∧ s.stagedWindows ≠ [] ∧ (∀ x ∈ s.stagedWindows, (x.1 = 0x5200 → s.windowCheck x.2 = 0) ∧ (x.1 = 0x5410 → s.memberCheck x.2 = 0) ∧ (x.1 = 0x5400 → s.groupCheck x.2 = 0)) ∧ s.epochsRefused = false ∧ (s.at t).checkOffers offers = 0 ∧ s.switching = false ∧ s.tooManyPairs = false ∧ s.unitsBusy (unitsOf s.windowNodes) = false) ∧
  (∃ (s : State) (_t : Time) (req : Req) (_offers : List Time),
    s.errs = [] ∧ s.hears req ∧ s.mayInvoke req .WINDOW_COMMIT none = 0 ∧ s.stagedWindows = []) ∧
  (∃ (s : State) (_t : Time) (req : Req),
    s.errs = [] ∧ s.hears req ∧ s.mayInvoke req .WINDOW_DISCARD none = 0 ∧ s.windowPending = false) ∧
  (∃ (s : State) (_t : Time) (req : Req),
    s.errs = [] ∧ s.hears req ∧ s.mayInvoke req .WINDOW_DISCARD none = 0 ∧ s.windowPending = true) ∧
  (∃ (s : State) (t : Time) (m port n : Nat) (u : Sub),
    m < 262144 ∧ port < 512 ∧ s.errs = [] ∧ s.meters.keys.Nodup ∧ (s.meters.getD {} m).holds = [(port, u)] ∧ (s.at t).recovered m = true ∧ (∀ x ∈ s.meters, x.1 ≠ m → x.2.holds.contains (port, u) = false) ∧ s.withheld.getD 0 (port * 4 + u.code) = n ∧ n ≠ 0) ∧
  (∃ (s : State) (_t : Time) (port : Nat) (i : RxItem),
    port < 512 ∧ s.rx.getD [] (clusterOf port) = [i] ∧ i.port = port) ∧
  (∃ (s : State) (_t : Time) (port : Nat),
    port < 512 ∧ s.errs = [] ∧ ((s.rx.getD [] (clusterOf port)).all (fun i => i.port ≠ port) = true)) ∧
  (∃ (s : State) (_t : Time) (port : Nat) (i j : RxItem),
    port < 512 ∧ s.rx.getD [] (clusterOf port) = [i, j] ∧ i.port = port ∧ j.port = port) :=
  ⟨⟨{ (State.reset.put .KEEPER_ROLE 0 1 |>.put .PARTITION_STATE 0 2 |>.put .PARTITION_STATE 2 2 |>.put .HELD_BY 700 2 |>.put .LOC_NODE 700 0) with boot := .odtaku, staged := [⟨.PW_BASE, 3, 4096, 0⟩, ⟨.PW_SIZE_LOG2, 3, 12, 0⟩, ⟨.PW_TARGET, 3, 700, 0⟩, ⟨.PW_ACCESS, 3, 15, 0⟩, ⟨.PW_GRANTOR, 3, 2, 0⟩] }, 0, { path := .smMailbox }, [ns 125000 * 8], by decide +kernel⟩,
  ⟨{ State.reset with boot := .odtaku }, 0, { path := .smMailbox }, [], by decide +kernel⟩,
  ⟨{ (State.reset.put .KEEPER_ROLE 0 1 |>.put .PARTITION_STATE 0 2 |>.put .PARTITION_STATE 2 2 |>.put .HELD_BY 700 2 |>.put .LOC_NODE 700 0) with boot := .odtaku, staged := [⟨.PW_BASE, 3, 4096, 0⟩, ⟨.PW_SIZE_LOG2, 3, 12, 0⟩, ⟨.PW_TARGET, 3, 700, 0⟩, ⟨.PW_ACCESS, 3, 15, 0⟩, ⟨.PW_GRANTOR, 3, 2, 0⟩] }, 0, { path := .smMailbox }, by decide +kernel⟩,
  ⟨{ State.reset with boot := .odtaku, reqs := [{ num := 1, kind := 3, offers := [], units := [], work := .windows [] }] }, 0, { path := .smMailbox }, by decide +kernel⟩,
  ⟨{ State.reset with meters := [(7, { holds := [(8, .posted)] })], withheld := [(32, 3)] }, 0, 7, 8, 3, .posted, by decide +kernel⟩,
  ⟨{ State.reset with rx := [(1, [{ port := 8, pkt := { tlp := { kind := .memWrite } }, why := .parse }])] }, 0, 8, { port := 8, pkt := { tlp := { kind := .memWrite } }, why := .parse }, by decide +kernel⟩,
  ⟨State.reset, 0, 8, by decide +kernel⟩,
  ⟨{ State.reset with rx := [(1, [{ port := 8, pkt := { tlp := { kind := .memWrite } }, why := .parse }, { port := 8, pkt := { tlp := { kind := .memWrite } }, why := .parse }])] }, 0, 8, { port := 8, pkt := { tlp := { kind := .memWrite } }, why := .parse }, { port := 8, pkt := { tlp := { kind := .memWrite } }, why := .parse }, by decide +kernel⟩⟩

theorem witness_GraftRowsAreStagedAndCommitted :
  (∃ (s : State) (_t : Time) (req : Req) (g v : Nat),
    s.errs = [] ∧ s.hears req ∧ s.resolve (s.principal req.path) 2 (entryOf .ACTION (some g) v).addr = .obj .ACTION g ∧ s.switching = false ∧ (s.get .GRAFT_STATE g = 0 ∨ s.get .GRAFT_STATE g = 1) ∧ (v = 1 ∨ v = 3)) ∧
  (∃ (s : State) (_t : Time) (req : Req) (g : Nat),
    s.errs = [] ∧ s.hears req ∧ s.resolve (s.principal req.path) 2 (entryOf .ACTION (some g) 0).addr = .obj .ACTION g ∧ s.switching = false ∧ (s.get .GRAFT_STATE g = 0 ∨ s.get .GRAFT_STATE g = 1)) ∧
  (∃ (s : State) (_t : Time) (req : Req) (g : Nat),
    s.errs = [] ∧ s.hears req ∧ s.resolve (s.principal req.path) 2 (entryOf .ACTION (some g) 2).addr = .obj .ACTION g ∧ s.switching = false ∧ s.get .GRAFT_STATE g = 3) ∧
  (∃ (s : State) (_t : Time) (req : Req) (g : Nat),
    s.errs = [] ∧ s.hears req ∧ s.resolve (s.principal req.path) 2 (entryOf .ACTION (some g) 3).addr = .obj .ACTION g ∧ s.switching = false ∧ s.get .GRAFT_STATE g = 3) ∧
  (∃ (s : State) (_t : Time) (req : Req) (g : Nat),
    s.errs = [] ∧ s.hears req ∧ s.resolve (s.principal req.path) 2 (entryOf .ACTION (some g) 0).addr = .obj .ACTION g ∧ s.switching = false ∧ s.get .GRAFT_STATE g = 3) ∧
  (∃ (s : State) (_t : Time) (req : Req) (g v : Nat),
    s.errs = [] ∧ s.hears req ∧ s.resolve (s.principal req.path) 2 (entryOf .ACTION (some g) v).addr = .obj .ACTION g ∧ v ≤ 3 ∧ (s.get .GRAFT_STATE g = 2 ∨ s.get .GRAFT_STATE g = 4 ∨ (s.get .GRAFT_STATE g = 3 ∧ v = 1) ∨ (s.get .GRAFT_STATE g ≤ 1 ∧ v = 2))) ∧
  (∃ (s : State) (t : Time) (req : Req) (offers : List Time),
    s.errs = [] ∧ s.hears req ∧ s.mayInvoke req .GRAFT_COMMIT none = 0 ∧ s.stagedGrafts ≠ [] ∧ s.epochsRefused = false ∧ (s.at t).checkOffers offers = 0 ∧ s.switching = false ∧ s.graftChecks s.stagedGrafts = none ∧ (s.busyGraft s.stagedGrafts).isNone = true) ∧
  (∃ (s : State) (t : Time) (req : Req) (offers : List Time) (g c : Nat),
    s.errs = [] ∧ s.hears req ∧ s.mayInvoke req .GRAFT_COMMIT none = 0 ∧ s.stagedGrafts ≠ [] ∧ s.epochsRefused = false ∧ (s.at t).checkOffers offers = 0 ∧ s.switching = false ∧ s.graftChecks s.stagedGrafts = some (g, c)) ∧
  (∃ (s : State) (t : Time) (req : Req) (offers : List Time) (g : Nat),
    s.errs = [] ∧ s.hears req ∧ s.mayInvoke req .GRAFT_COMMIT none = 0 ∧ s.stagedGrafts ≠ [] ∧ s.epochsRefused = false ∧ (s.at t).checkOffers offers = 0 ∧ s.switching = false ∧ s.graftChecks s.stagedGrafts = none ∧ s.busyGraft s.stagedGrafts = some (g, 0x0602)) ∧
  (∃ (s : State) (t : Time) (req : Req) (offers : List Time) (c : Nat),
    s.errs = [] ∧ s.hears req ∧ s.mayInvoke req .GRAFT_COMMIT none = 0 ∧ firstCode [codeIf s.stagedGrafts.isEmpty 0x0102, codeIf s.epochsRefused 0x0404, (s.at t).checkOffers offers, codeIf s.switching 0x0501] = c ∧ c ≠ 0) ∧
  (∃ (s : State) (t : Time) (g : Nat) (e : Time),
    g < 65536 ∧ s.errs = [] ∧ s.get .GRAFT_STATE g = 4 ∧ (s.grafts.getD {} g).expiry = some e ∧ e ≤ max s.now t ∧ s.unitsBusy (s.graftUnits [g]) = false) ∧
  (∃ (s : State) (t : Time) (g : Nat) (e : Time),
    g < 65536 ∧ s.errs = [] ∧ s.get .GRAFT_STATE g = 4 ∧ (s.grafts.getD {} g).expiry = some e ∧ e ≤ max s.now t ∧ s.unitsBusy (s.graftUnits [g]) = true) ∧
  (∃ (s : State) (_t : Time) (g : Nat),
    g < 65536 ∧ s.errs = [] ∧ (s.get .GRAFT_STATE g ≠ 4 ∨ (s.grafts.getD {} g).expiry = none)) :=
  ⟨⟨{ (State.reset.put .KEEPER_ROLE 0 1 |>.put .PARTITION_STATE 3 2 |>.put .HOST_NODE 3 0 |>.put .NODE_ID 0 0 |>.put .VDSB_COUNT 3 4 |>.put .FN_NODE 700 0 |>.put .FN_PORT 700 16 |>.put .GRAFT_STATE 5 0) with boot := .odtaku }, 0, { path := .smMailbox }, 5, 1, by decide +kernel⟩,
  ⟨{ (State.reset.put .KEEPER_ROLE 0 1 |>.put .PARTITION_STATE 3 2 |>.put .HOST_NODE 3 0 |>.put .NODE_ID 0 0 |>.put .VDSB_COUNT 3 4 |>.put .FN_NODE 700 0 |>.put .FN_PORT 700 16 |>.put .GRAFT_STATE 5 1) with boot := .odtaku }, 0, { path := .smMailbox }, 5, by decide +kernel⟩,
  ⟨{ (State.reset.put .KEEPER_ROLE 0 1 |>.put .PARTITION_STATE 3 2 |>.put .HOST_NODE 3 0 |>.put .NODE_ID 0 0 |>.put .VDSB_COUNT 3 4 |>.put .FN_NODE 700 0 |>.put .FN_PORT 700 16 |>.put .GRAFT_STATE 5 3 |>.put .PARTITION 5 3) with boot := .odtaku }, 0, { path := .smMailbox }, 5, by decide +kernel⟩,
  ⟨{ (State.reset.put .KEEPER_ROLE 0 1 |>.put .PARTITION_STATE 3 2 |>.put .HOST_NODE 3 0 |>.put .NODE_ID 0 0 |>.put .VDSB_COUNT 3 4 |>.put .FN_NODE 700 0 |>.put .FN_PORT 700 16 |>.put .GRAFT_STATE 5 3) with boot := .odtaku }, 0, { path := .smMailbox }, 5, by decide +kernel⟩,
  ⟨{ (State.reset.put .KEEPER_ROLE 0 1 |>.put .PARTITION_STATE 3 2 |>.put .HOST_NODE 3 0 |>.put .NODE_ID 0 0 |>.put .VDSB_COUNT 3 4 |>.put .FN_NODE 700 0 |>.put .FN_PORT 700 16 |>.put .GRAFT_STATE 5 3) with boot := .odtaku }, 0, { path := .smMailbox }, 5, by decide +kernel⟩,
  ⟨{ (State.reset.put .KEEPER_ROLE 0 1 |>.put .PARTITION_STATE 3 2 |>.put .HOST_NODE 3 0 |>.put .NODE_ID 0 0 |>.put .VDSB_COUNT 3 4 |>.put .FN_NODE 700 0 |>.put .FN_PORT 700 16 |>.put .GRAFT_STATE 5 2) with boot := .odtaku }, 0, { path := .smMailbox }, 5, 3, by decide +kernel⟩,
  ⟨{ (State.reset.put .KEEPER_ROLE 0 1 |>.put .PARTITION_STATE 3 2 |>.put .HOST_NODE 3 0 |>.put .NODE_ID 0 0 |>.put .VDSB_COUNT 3 4 |>.put .FN_NODE 700 0 |>.put .FN_PORT 700 16 |>.put .GRAFT_STATE 5 1) with boot := .odtaku, staged := [{ obj := .PARTITION, row := 5, val := 3 }, { obj := .GFID, row := 5, val := 700 }, { obj := .ACTION, row := 5, val := 1 }] }, 0, { path := .smMailbox }, [ns 125000 * 8], by decide +kernel⟩,
  ⟨{ (State.reset.put .KEEPER_ROLE 0 1 |>.put .PARTITION_STATE 3 2 |>.put .HOST_NODE 3 0 |>.put .NODE_ID 0 0 |>.put .VDSB_COUNT 3 4 |>.put .FN_NODE 700 255 |>.put .FN_PORT 700 16 |>.put .GRAFT_STATE 5 1) with boot := .odtaku, staged := [{ obj := .PARTITION, row := 5, val := 3 }, { obj := .GFID, row := 5, val := 700 }, { obj := .ACTION, row := 5, val := 1 }] }, 0, { path := .smMailbox }, [ns 125000 * 8], 5, 0x0102, by decide +kernel⟩,
  ⟨{ (State.reset.put .KEEPER_ROLE 0 1 |>.put .PARTITION_STATE 3 2 |>.put .HOST_NODE 3 0 |>.put .NODE_ID 0 0 |>.put .VDSB_COUNT 3 4 |>.put .FN_NODE 700 0 |>.put .FN_PORT 700 16 |>.put .GRAFT_STATE 5 1) with boot := .odtaku, staged := [{ obj := .PARTITION, row := 5, val := 3 }, { obj := .GFID, row := 5, val := 700 }, { obj := .ACTION, row := 5, val := 1 }], reqs := [{ num := 1, kind := 3, offers := [], units := [(0, 0), (0, 1)], work := .windows [] }] }, 0, { path := .smMailbox }, [ns 125000 * 8], 5, by decide +kernel⟩,
  ⟨{ (State.reset.put .KEEPER_ROLE 0 1 |>.put .PARTITION_STATE 3 2 |>.put .HOST_NODE 3 0 |>.put .NODE_ID 0 0 |>.put .VDSB_COUNT 3 4 |>.put .FN_NODE 700 0 |>.put .FN_PORT 700 16 |>.put .GRAFT_STATE 5 1) with boot := .odtaku, staged := [{ obj := .PARTITION, row := 5, val := 3 }, { obj := .GFID, row := 5, val := 700 }, { obj := .ACTION, row := 5, val := 1 }] }, 0, { path := .smMailbox }, [], 0x0301, by decide +kernel⟩,
  ⟨{ (State.reset.put .KEEPER_ROLE 0 1 |>.put .PARTITION_STATE 3 2 |>.put .HOST_NODE 3 0 |>.put .NODE_ID 0 0 |>.put .VDSB_COUNT 3 4 |>.put .FN_NODE 700 0 |>.put .FN_PORT 700 16 |>.put .GRAFT_STATE 5 4) with boot := .odtaku, grafts := [(5, { inForce := true, expiry := some 9 })] }, 9, 5, 9, by decide +kernel⟩,
  ⟨{ (State.reset.put .KEEPER_ROLE 0 1 |>.put .PARTITION_STATE 3 2 |>.put .HOST_NODE 3 0 |>.put .NODE_ID 0 0 |>.put .VDSB_COUNT 3 4 |>.put .FN_NODE 700 0 |>.put .FN_PORT 700 16 |>.put .GRAFT_STATE 5 4 |>.put .GFID 5 700 |>.put .PARTITION 5 3) with boot := .odtaku, grafts := [(5, { inForce := true, expiry := some 9 })], reqs := [{ num := 1, kind := 3, offers := [], units := [(0, 0), (0, 1)], work := .windows [] }] }, 9, 5, 9, by decide +kernel⟩,
  ⟨{ (State.reset.put .KEEPER_ROLE 0 1 |>.put .PARTITION_STATE 3 2 |>.put .HOST_NODE 3 0 |>.put .NODE_ID 0 0 |>.put .VDSB_COUNT 3 4 |>.put .FN_NODE 700 0 |>.put .FN_PORT 700 16 |>.put .GRAFT_STATE 5 3) with boot := .odtaku }, 9, 5, by decide +kernel⟩⟩

theorem witness_HostsPowerResetAndConfigureSlots :
  (∃ (s : State) (_t : Time) (p k : Nat),
    p < 4096 ∧ k < 256 ∧ s.errs = [] ∧ s.presents p = true ∧ k < s.get .VDSB_COUNT p ∧ (s.bridge p k).powerOff = false ∧ (s.bridge p k).linkDis = false) ∧
  (∃ (s : State) (_t : Time) (p k g : Nat),
    p < 4096 ∧ k < 256 ∧ s.errs = [] ∧ s.presents p = true ∧ k < s.get .VDSB_COUNT p ∧ (s.bridge p k).powerOff = false ∧ (s.bridge p k).linkDis = false ∧ s.graftsAt p k = [g] ∧ s.get .GRAFT_STATE g = 4 ∧ s.unitsBusy (s.graftUnits [g]) = false) ∧
  (∃ (s : State) (_t : Time) (p k g : Nat),
    p < 4096 ∧ k < 256 ∧ s.errs = [] ∧ s.presents p = true ∧ k < s.get .VDSB_COUNT p ∧ (s.bridge p k).powerOff = false ∧ (s.bridge p k).linkDis = true ∧ s.graftsAt p k = [g] ∧ s.get .KIND g = 0) ∧
  (∃ (s : State) (_t : Time) (p k : Nat) (_off _dis : Bool),
    p < 4096 ∧ k < 256 ∧ s.presents p = true ∧ k < s.get .VDSB_COUNT p) ∧
  (∃ (s : State) (_t : Time) (p k : Nat) (_off _dis : Bool),
    p < 4096 ∧ k < 256 ∧ s.errs = [] ∧ (s.presents p = false ∨ s.get .VDSB_COUNT p ≤ k)) ∧
  (∃ (s : State) (_t : Time) (p k : Nat),
    p < 4096 ∧ k < 256 ∧ s.errs = [] ∧ (s.presents p = false ∨ s.get .VDSB_COUNT p ≤ k ∨ s.graftsAt p k = [])) ∧
  (∃ (s : State) (_t : Time) (p k : Nat),
    p < 4096 ∧ k < 256 ∧ s.presents p = true ∧ k < s.get .VDSB_COUNT p) ∧
  (∃ (s : State) (_t : Time) (p k g : Nat),
    p < 4096 ∧ k < 256 ∧ s.errs = [] ∧ s.presents p = true ∧ k < s.get .VDSB_COUNT p ∧ s.graftsAt p k = [g] ∧ s.get .KIND g = 0) ∧
  (∃ (s : State) (_t : Time) (p k g : Nat),
    p < 4096 ∧ k < 256 ∧ s.errs = [] ∧ s.presents p = true ∧ k < s.get .VDSB_COUNT p ∧ s.graftsAt p k = [g] ∧ s.get .KIND g ≠ 0 ∧ (∀ v ∈ (s.rowsOf .PARENT_PF).keys, s.get .PARENT_PF v = s.get .GFID g → ¬(s.get .HELD_BY v < 4096 ∧ s.get .HELD_BY v ≠ p))) ∧
  (∃ (s : State) (_t : Time) (p g : Nat),
    p < 4096 ∧ g < 65536 ∧ s.errs = [] ∧ s.graftHere p g = true ∧ (∀ v ∈ (s.rowsOf .PARENT_PF).keys, s.get .PARENT_PF v = s.get .GFID g → ¬(s.get .HELD_BY v < 4096 ∧ s.get .HELD_BY v ≠ p))) ∧
  (∃ (s : State) (_t : Time) (p g v : Nat),
    p < 4096 ∧ g < 65536 ∧ s.errs = [] ∧ s.graftHere p g = true ∧ v ∈ (s.rowsOf .PARENT_PF).keys ∧ s.get .PARENT_PF v = s.get .GFID g ∧ s.get .HELD_BY v < 4096 ∧ s.get .HELD_BY v ≠ p) ∧
  (∃ (s : State) (_t : Time) (p g : Nat),
    p < 4096 ∧ g < 65536 ∧ s.errs = [] ∧ s.graftHere p g = false) ∧
  (∃ (s : State) (_t : Time) (p g _v _rid _tag port : Nat),
    p < 4096 ∧ g < 65536 ∧ s.errs = [] ∧ s.graftHere p g = true ∧ s.ownHostPort p = some port) ∧
  (∃ (s : State) (_t : Time) (p g _v _rid _tag port : Nat) (r : ShadowReg),
    p < 4096 ∧ g < 65536 ∧ s.errs = [] ∧ s.graftHere p g = true ∧ s.ownHostPort p = some port ∧ (r = .linkControl ∨ r = .sriovControl)) ∧
  (∃ (s : State) (_t : Time) (p g _v _rid _tag port : Nat) (r : ShadowReg),
    p < 4096 ∧ g < 65536 ∧ s.errs = [] ∧ s.graftHere p g = true ∧ s.ownHostPort p = some port ∧ s.sharedDevice p (s.get .GFID g) = true ∧ (r = .aerMask ∨ r = .aerSeverity ∨ r = .aerCorMask)) ∧
  (∃ (s : State) (_t : Time) (p g _v _rid _tag port : Nat),
    p < 4096 ∧ g < 65536 ∧ s.graftHere p g = true ∧ s.ownHostPort p = some port ∧ s.sharedDevice p (s.get .GFID g) = false) ∧
  (∃ (s : State) (_t : Time) (p g _v _rid _tag port : Nat),
    p < 4096 ∧ g < 65536 ∧ s.graftHere p g = true ∧ s.ownHostPort p = some port ∧ s.sharedDevice p (s.get .GFID g) = false) ∧
  (∃ (s : State) (_t : Time) (p g _v _rid _tag port : Nat),
    p < 4096 ∧ g < 65536 ∧ s.graftHere p g = true ∧ s.ownHostPort p = some port ∧ s.sharedDevice p (s.get .GFID g) = false) ∧
  (∃ (s : State) (_t : Time) (p g _v _rid _tag port : Nat),
    p < 4096 ∧ g < 65536 ∧ s.graftHere p g = true ∧ s.ownHostPort p = some port) ∧
  (∃ (s : State) (_t : Time) (p g _v _rid _tag : Nat) (_r : ShadowReg),
    p < 4096 ∧ g < 65536 ∧ s.errs = [] ∧ s.graftHere p g = false) :=
  ⟨⟨{ (State.reset.put .PARTITION_STATE 3 2 |>.put .PARTITION 5 3 |>.put .GFID 5 700 |>.put .VDSB_COUNT 3 4 |>.put .VDSB 5 1 |>.put .GRAFT_STATE 5 3 |>.put .KIND 5 1 |>.put .FN_NODE 700 0 |>.put .FN_PORT 700 16 |>.put .HOST_NODE 3 0 |>.put .HOST_PORT 3 8 |>.put .PORT_ROLE 8 1 |>.put .NODE_ID 0 0) with grafts := [(5, { inForce := true })] }, 0, 3, 1, by decide +kernel⟩,
  ⟨{ (State.reset.put .PARTITION_STATE 3 2 |>.put .PARTITION 5 3 |>.put .GFID 5 700 |>.put .VDSB_COUNT 3 4 |>.put .VDSB 5 1 |>.put .GRAFT_STATE 5 3 |>.put .KIND 5 1 |>.put .FN_NODE 700 0 |>.put .FN_PORT 700 16 |>.put .HOST_NODE 3 0 |>.put .HOST_PORT 3 8 |>.put .PORT_ROLE 8 1 |>.put .NODE_ID 0 0 |>.put .GRAFT_STATE 5 4) with grafts := [(5, { inForce := true })] }, 0, 3, 1, 5, by decide +kernel⟩,
  ⟨{ (State.reset.put .PARTITION_STATE 3 2 |>.put .PARTITION 5 3 |>.put .GFID 5 700 |>.put .VDSB_COUNT 3 4 |>.put .VDSB 5 1 |>.put .GRAFT_STATE 5 3 |>.put .KIND 5 1 |>.put .FN_NODE 700 0 |>.put .FN_PORT 700 16 |>.put .HOST_NODE 3 0 |>.put .HOST_PORT 3 8 |>.put .PORT_ROLE 8 1 |>.put .NODE_ID 0 0 |>.put .KIND 5 0) with grafts := [(5, { inForce := true })], bridges := [(769, { linkDis := true })] }, 0, 3, 1, 5, by decide +kernel⟩,
  ⟨{ (State.reset.put .PARTITION_STATE 3 2 |>.put .PARTITION 5 3 |>.put .GFID 5 700 |>.put .VDSB_COUNT 3 4 |>.put .VDSB 5 1 |>.put .GRAFT_STATE 5 3 |>.put .KIND 5 1 |>.put .FN_NODE 700 0 |>.put .FN_PORT 700 16 |>.put .HOST_NODE 3 0 |>.put .HOST_PORT 3 8 |>.put .PORT_ROLE 8 1 |>.put .NODE_ID 0 0) with grafts := [(5, { inForce := true })] }, 0, 3, 1, true, true, by decide +kernel⟩,
  ⟨State.reset, 0, 3, 1, true, true, by decide +kernel⟩,
  ⟨State.reset, 0, 3, 1, by decide +kernel⟩,
  ⟨{ (State.reset.put .PARTITION_STATE 3 2 |>.put .PARTITION 5 3 |>.put .GFID 5 700 |>.put .VDSB_COUNT 3 4 |>.put .VDSB 5 1 |>.put .GRAFT_STATE 5 3 |>.put .KIND 5 1 |>.put .FN_NODE 700 0 |>.put .FN_PORT 700 16 |>.put .HOST_NODE 3 0 |>.put .HOST_PORT 3 8 |>.put .PORT_ROLE 8 1 |>.put .NODE_ID 0 0) with grafts := [(5, { inForce := true })] }, 0, 3, 1, by decide +kernel⟩,
  ⟨{ (State.reset.put .PARTITION_STATE 3 2 |>.put .PARTITION 5 3 |>.put .GFID 5 700 |>.put .VDSB_COUNT 3 4 |>.put .VDSB 5 1 |>.put .GRAFT_STATE 5 3 |>.put .KIND 5 1 |>.put .FN_NODE 700 0 |>.put .FN_PORT 700 16 |>.put .HOST_NODE 3 0 |>.put .HOST_PORT 3 8 |>.put .PORT_ROLE 8 1 |>.put .NODE_ID 0 0 |>.put .KIND 5 0) with grafts := [(5, { inForce := true })] }, 0, 3, 1, 5, by decide +kernel⟩,
  ⟨{ (State.reset.put .PARTITION_STATE 3 2 |>.put .PARTITION 5 3 |>.put .GFID 5 700 |>.put .VDSB_COUNT 3 4 |>.put .VDSB 5 1 |>.put .GRAFT_STATE 5 3 |>.put .KIND 5 1 |>.put .FN_NODE 700 0 |>.put .FN_PORT 700 16 |>.put .HOST_NODE 3 0 |>.put .HOST_PORT 3 8 |>.put .PORT_ROLE 8 1 |>.put .NODE_ID 0 0) with grafts := [(5, { inForce := true })] }, 0, 3, 1, 5, by decide +kernel⟩,
  ⟨{ (State.reset.put .PARTITION_STATE 3 2 |>.put .PARTITION 5 3 |>.put .GFID 5 700 |>.put .VDSB_COUNT 3 4 |>.put .VDSB 5 1 |>.put .GRAFT_STATE 5 3 |>.put .KIND 5 1 |>.put .FN_NODE 700 0 |>.put .FN_PORT 700 16 |>.put .HOST_NODE 3 0 |>.put .HOST_PORT 3 8 |>.put .PORT_ROLE 8 1 |>.put .NODE_ID 0 0) with grafts := [(5, { inForce := true })] }, 0, 3, 5, by decide +kernel⟩,
  ⟨{ (State.reset.put .PARTITION_STATE 3 2 |>.put .PARTITION 5 3 |>.put .GFID 5 700 |>.put .VDSB_COUNT 3 4 |>.put .VDSB 5 1 |>.put .GRAFT_STATE 5 3 |>.put .KIND 5 1 |>.put .FN_NODE 700 0 |>.put .FN_PORT 700 16 |>.put .HOST_NODE 3 0 |>.put .HOST_PORT 3 8 |>.put .PORT_ROLE 8 1 |>.put .NODE_ID 0 0 |>.put .PARENT_PF 701 700 |>.put .HELD_BY 701 9) with grafts := [(5, { inForce := true })] }, 0, 3, 5, 701, by decide +kernel⟩,
  ⟨State.reset, 0, 3, 5, by decide +kernel⟩,
  ⟨{ (State.reset.put .PARTITION_STATE 3 2 |>.put .PARTITION 5 3 |>.put .GFID 5 700 |>.put .VDSB_COUNT 3 4 |>.put .VDSB 5 1 |>.put .GRAFT_STATE 5 3 |>.put .KIND 5 1 |>.put .FN_NODE 700 0 |>.put .FN_PORT 700 16 |>.put .HOST_NODE 3 0 |>.put .HOST_PORT 3 8 |>.put .PORT_ROLE 8 1 |>.put .NODE_ID 0 0) with grafts := [(5, { inForce := true })] }, 0, 3, 5, 2, 0, 7, 8, by decide +kernel⟩,
  ⟨{ (State.reset.put .PARTITION_STATE 3 2 |>.put .PARTITION 5 3 |>.put .GFID 5 700 |>.put .VDSB_COUNT 3 4 |>.put .VDSB 5 1 |>.put .GRAFT_STATE 5 3 |>.put .KIND 5 1 |>.put .FN_NODE 700 0 |>.put .FN_PORT 700 16 |>.put .HOST_NODE 3 0 |>.put .HOST_PORT 3 8 |>.put .PORT_ROLE 8 1 |>.put .NODE_ID 0 0) with grafts := [(5, { inForce := true })] }, 0, 3, 5, 2, 0, 7, 8, .linkControl, by decide +kernel⟩,
  ⟨{ (State.reset.put .PARTITION_STATE 3 2 |>.put .PARTITION 5 3 |>.put .GFID 5 700 |>.put .VDSB_COUNT 3 4 |>.put .VDSB 5 1 |>.put .GRAFT_STATE 5 3 |>.put .KIND 5 1 |>.put .FN_NODE 700 0 |>.put .FN_PORT 700 16 |>.put .HOST_NODE 3 0 |>.put .HOST_PORT 3 8 |>.put .PORT_ROLE 8 1 |>.put .NODE_ID 0 0 |>.put .PARTITION 6 4 |>.put .GFID 6 701 |>.put .FN_NODE 701 0 |>.put .FN_PORT 701 16 |>.put .GRAFT_STATE 6 3) with grafts := [(5, { inForce := true }), (6, { inForce := true })] }, 0, 3, 5, 2, 0, 7, 8, .aerMask, by decide +kernel⟩,
  ⟨{ (State.reset.put .PARTITION_STATE 3 2 |>.put .PARTITION 5 3 |>.put .GFID 5 700 |>.put .VDSB_COUNT 3 4 |>.put .VDSB 5 1 |>.put .GRAFT_STATE 5 3 |>.put .KIND 5 1 |>.put .FN_NODE 700 0 |>.put .FN_PORT 700 16 |>.put .HOST_NODE 3 0 |>.put .HOST_PORT 3 8 |>.put .PORT_ROLE 8 1 |>.put .NODE_ID 0 0) with grafts := [(5, { inForce := true })] }, 0, 3, 5, 2, 0, 7, 8, by decide +kernel⟩,
  ⟨{ (State.reset.put .PARTITION_STATE 3 2 |>.put .PARTITION 5 3 |>.put .GFID 5 700 |>.put .VDSB_COUNT 3 4 |>.put .VDSB 5 1 |>.put .GRAFT_STATE 5 3 |>.put .KIND 5 1 |>.put .FN_NODE 700 0 |>.put .FN_PORT 700 16 |>.put .HOST_NODE 3 0 |>.put .HOST_PORT 3 8 |>.put .PORT_ROLE 8 1 |>.put .NODE_ID 0 0) with grafts := [(5, { inForce := true })] }, 0, 3, 5, 2, 0, 7, 8, by decide +kernel⟩,
  ⟨{ (State.reset.put .PARTITION_STATE 3 2 |>.put .PARTITION 5 3 |>.put .GFID 5 700 |>.put .VDSB_COUNT 3 4 |>.put .VDSB 5 1 |>.put .GRAFT_STATE 5 3 |>.put .KIND 5 1 |>.put .FN_NODE 700 0 |>.put .FN_PORT 700 16 |>.put .HOST_NODE 3 0 |>.put .HOST_PORT 3 8 |>.put .PORT_ROLE 8 1 |>.put .NODE_ID 0 0) with grafts := [(5, { inForce := true })] }, 0, 3, 5, 2, 0, 7, 8, by decide +kernel⟩,
  ⟨{ (State.reset.put .PARTITION_STATE 3 2 |>.put .PARTITION 5 3 |>.put .GFID 5 700 |>.put .VDSB_COUNT 3 4 |>.put .VDSB 5 1 |>.put .GRAFT_STATE 5 3 |>.put .KIND 5 1 |>.put .FN_NODE 700 0 |>.put .FN_PORT 700 16 |>.put .HOST_NODE 3 0 |>.put .HOST_PORT 3 8 |>.put .PORT_ROLE 8 1 |>.put .NODE_ID 0 0) with grafts := [(5, { inForce := true })] }, 0, 3, 5, 1, 0, 7, 8, by decide +kernel⟩,
  ⟨State.reset, 0, 3, 5, 2, 0, 7, .linkControl, by decide +kernel⟩⟩

theorem witness_HostConfigurationRequestsAreCompleted :
  (∃ (s : State) (_t : Time) (port : Nat) (_c : CfgReq),
    port < 512 ∧ s.errs = [] ∧ s.isHost port = true ∧ (s.pport port).up = true ∧ s.husked port = false ∧ s.partOfPort port = none) ∧
  (∃ (s : State) (_t : Time) (port p : Nat) (_c : CfgReq),
    port < 512 ∧ s.errs = [] ∧ s.isHost port = true ∧ (s.pport port).up = true ∧ s.husked port = false ∧ s.partOfPort port = some p ∧ s.presents p = false) ∧
  (∃ (s : State) (_t : Time) (port p : Nat) (c : CfgReq),
    port < 512 ∧ s.errs = [] ∧ s.isHost port = true ∧ (s.pport port).up = true ∧ s.husked port = false ∧ s.partOfPort port = some p ∧ s.presents p = true ∧ s.cfgBelow p c = false ∧ s.cfgElem p c = none ∧ s.keyOf { dest := hostGfid p, src := chipGfid s.node, part := p, ur := true, tlp := { cfgCpl c 1 0 with target := cfgId c, hdr := 16 } } = none) ∧
  (∃ (s : State) (_t : Time) (port p e : Nat) (c : CfgReq),
    port < 512 ∧ s.errs = [] ∧ s.isHost port = true ∧ (s.pport port).up = true ∧ s.husked port = false ∧ s.partOfPort port = some p ∧ s.presents p = true ∧ s.cfgBelow p c = false ∧ s.cfgElem p c = some e ∧ c.write = false ∧ c.reg < 256 ∧ ¬(e = 1 ∧ s.get .MF_STATE p = 1)) ∧
  (∃ (s : State) (_t : Time) (port p e : Nat) (c : CfgReq),
    port < 512 ∧ s.errs = [] ∧ s.isHost port = true ∧ (s.pport port).up = true ∧ s.husked port = false ∧ s.partOfPort port = some p ∧ s.presents p = true ∧ s.cfgBelow p c = false ∧ s.cfgElem p c = some e ∧ 256 ≤ c.reg ∧ s.odtakuUp = true) ∧
  (∃ (s : State) (_t : Time) (port p e : Nat) (c : CfgReq),
    port < 512 ∧ s.errs = [] ∧ s.isHost port = true ∧ (s.pport port).up = true ∧ s.husked port = false ∧ s.partOfPort port = some p ∧ s.presents p = true ∧ s.cfgBelow p c = false ∧ s.cfgElem p c = some e ∧ 256 ≤ c.reg ∧ s.odtakuUp = false) ∧
  (∃ (s : State) (_t : Time) (port p : Nat) (c : CfgReq),
    port < 512 ∧ s.errs = [] ∧ s.isHost port = true ∧ (s.pport port).up = true ∧ s.husked port = false ∧ s.partOfPort port = some p ∧ s.presents p = true ∧ s.cfgBelow p c = false ∧ s.cfgElem p c = some 1 ∧ c.reg < 256 ∧ s.get .MF_STATE p = 1) ∧
  (∃ (s : State) (_t : Time) (port p e : Nat) (c : CfgReq),
    port < 512 ∧ s.isHost port = true ∧ (s.pport port).up = true ∧ s.husked port = false ∧ s.partOfPort port = some p ∧ s.presents p = true ∧ s.cfgBelow p c = false ∧ s.cfgElem p c = some e ∧ c.write = true ∧ c.reg < 256 ∧ ¬(e = 1 ∧ s.get .MF_STATE p = 1)) ∧
  (∃ (s : State) (_t : Time) (port p : Nat) (c : CfgReq),
    port < 512 ∧ s.isHost port = true ∧ (s.pport port).up = true ∧ s.husked port = false ∧ s.partOfPort port = some p ∧ s.presents p = true ∧ s.cfgBelow p c = false ∧ s.cfgElem p c = none) ∧
  (∃ (s : State) (_t : Time) (port p : Nat) (c : CfgReq),
    port < 512 ∧ s.isHost port = true ∧ (s.pport port).up = true ∧ s.husked port = false ∧ s.partOfPort port = some p ∧ s.presents p = true ∧ s.cfgBelow p c = true ∧ s.husked (partRow p) = true) ∧
  (∃ (s : State) (_t : Time) (port p k : Nat) (c : CfgReq),
    port < 512 ∧ s.isHost port = true ∧ (s.pport port).up = true ∧ s.husked port = false ∧ s.partOfPort port = some p ∧ s.presents p = true ∧ s.cfgBelow p c = true ∧ s.bridgeOfBus p c.bus = some (k, true) ∧ s.graftsAt p k = []) ∧
  (∃ (s : State) (_t : Time) (port p k : Nat) (c : CfgReq),
    port < 512 ∧ s.isHost port = true ∧ (s.pport port).up = true ∧ s.husked port = false ∧ s.partOfPort port = some p ∧ s.presents p = true ∧ s.cfgBelow p c = true ∧ s.husked (partRow p) = false ∧ (s.bridgeOfBus p c.bus = some (k, false) ∨ (s.bridgeOfBus p c.bus = some (k, true) ∧ (s.graftsAt p k).any (fun g => s.get .VFUNC g = 0) = true)) ∧ s.cfgGraft p (cfgId c) = none) ∧
  (∃ (s : State) (_t : Time) (port p g f k : Nat) (c : CfgReq),
    port < 512 ∧ s.isHost port = true ∧ (s.pport port).up = true ∧ s.husked port = false ∧ s.partOfPort port = some p ∧ s.presents p = true ∧ s.cfgBelow p c = true ∧ s.husked (partRow p) = false ∧ s.bridgeOfBus p c.bus = some (k, true) ∧ ((s.graftsAt p k).any (fun g => s.get .VFUNC g = 0) = true) ∧ s.cfgGraft p (cfgId c) = some (g, f) ∧ s.get .KIND g ≠ 2 ∧ c.write = false) ∧
  (∃ (s : State) (_t : Time) (port p g f k : Nat) (c : CfgReq),
    port < 512 ∧ s.isHost port = true ∧ (s.pport port).up = true ∧ s.husked port = false ∧ s.partOfPort port = some p ∧ s.presents p = true ∧ s.cfgBelow p c = true ∧ s.husked (partRow p) = false ∧ s.bridgeOfBus p c.bus = some (k, true) ∧ ((s.graftsAt p k).any (fun g => s.get .VFUNC g = 0) = true) ∧ s.cfgGraft p (cfgId c) = some (g, f)) ∧
  (∃ (s : State) (_t : Time) (port : Nat) (_c : CfgReq),
    port < 512 ∧ s.errs = [] ∧ (s.isHost port = false ∨ (s.pport port).up = false)) ∧
  (∃ (s : State) (_t : Time) (port : Nat) (_c : CfgReq),
    port < 512 ∧ s.errs = [] ∧ s.isHost port = true ∧ (s.pport port).up = true ∧ s.husked port = true) ∧
  (∃ (s : State) (_t : Time) (p e : Nat) (c : CfgReq) (cs : List CfgReq),
    p < 4096 ∧ s.errs = [] ∧ s.cfgWait.getD [] p = c :: cs ∧ s.odtakuUp = true ∧ s.cfgBelow p c = false ∧ s.cfgElem p c = some e ∧ c.write = false ∧ ¬(e = 1 ∧ s.get .MF_STATE p = 1)) ∧
  (∃ (s : State) (_t : Time) (p : Nat) (c : CfgReq) (cs : List CfgReq),
    p < 4096 ∧ s.errs = [] ∧ s.cfgWait.getD [] p = c :: cs ∧ s.odtakuUp = true ∧ s.cfgBelow p c = false ∧ s.cfgElem p c = some 1 ∧ s.get .MF_STATE p = 1) ∧
  (∃ (s : State) (_t : Time) (p e : Nat) (c : CfgReq) (cs : List CfgReq),
    p < 4096 ∧ s.cfgWait.getD [] p = c :: cs ∧ s.odtakuUp = true ∧ s.cfgBelow p c = false ∧ s.cfgElem p c = some e ∧ c.write = true ∧ ¬(e = 1 ∧ s.get .MF_STATE p = 1)) ∧
  (∃ (s : State) (_t : Time) (p : Nat) (c : CfgReq) (cs : List CfgReq),
    p < 4096 ∧ s.cfgWait.getD [] p = c :: cs ∧ s.odtakuUp = true ∧ ((s.cfgBelow p c = false ∧ s.cfgElem p c = none) ∨ (s.cfgBelow p c = true ∧ s.cfgGraft p (cfgId c) = none))) ∧
  (∃ (s : State) (_t : Time) (p g f : Nat) (c : CfgReq) (cs : List CfgReq),
    p < 4096 ∧ s.cfgWait.getD [] p = c :: cs ∧ s.odtakuUp = true ∧ s.cfgBelow p c = true ∧ s.cfgGraft p (cfgId c) = some (g, f)) ∧
  (∃ (s : State) (_t : Time) (p : Nat),
    p < 4096 ∧ s.errs = [] ∧ (s.cfgWait.getD [] p = [] ∨ s.odtakuUp = false)) :=
  ⟨⟨{ (State.reset.put .PARTITION_STATE 3 2 |>.put .PARTITION 5 3 |>.put .GFID 5 700 |>.put .VDSB_COUNT 3 4 |>.put .VDSB 5 1 |>.put .GRAFT_STATE 5 3 |>.put .KIND 5 1 |>.put .FN_NODE 700 0 |>.put .FN_PORT 700 16 |>.put .HOST_NODE 3 0 |>.put .HOST_PORT 3 8 |>.put .PORT_ROLE 8 1 |>.put .NODE_ID 0 0 |>.put .HOST_PORT 3 16) with pports := [(8, { up := true })] }, 0, 8, { rid := 0, tag := 7, bus := 5, dev := 0, fn := 0, reg := 0, write := false, value := 0 }, by decide +kernel⟩,
  ⟨{ (State.reset.put .PARTITION_STATE 3 2 |>.put .PARTITION 5 3 |>.put .GFID 5 700 |>.put .VDSB_COUNT 3 4 |>.put .VDSB 5 1 |>.put .GRAFT_STATE 5 3 |>.put .KIND 5 1 |>.put .FN_NODE 700 0 |>.put .FN_PORT 700 16 |>.put .HOST_NODE 3 0 |>.put .HOST_PORT 3 8 |>.put .PORT_ROLE 8 1 |>.put .NODE_ID 0 0 |>.put .PARTITION_STATE 3 1) with pports := [(8, { up := true })] }, 0, 8, 3, { rid := 0, tag := 7, bus := 5, dev := 0, fn := 0, reg := 0, write := false, value := 0 }, by decide +kernel⟩,
  ⟨{ (State.reset.put .PARTITION_STATE 3 2 |>.put .PARTITION 5 3 |>.put .GFID 5 700 |>.put .VDSB_COUNT 3 4 |>.put .VDSB 5 1 |>.put .GRAFT_STATE 5 3 |>.put .KIND 5 1 |>.put .FN_NODE 700 0 |>.put .FN_PORT 700 16 |>.put .HOST_NODE 3 0 |>.put .HOST_PORT 3 8 |>.put .PORT_ROLE 8 1 |>.put .NODE_ID 0 0) with pports := [(8, { up := true })] }, 0, 8, 3, { rid := 0, tag := 7, bus := 5, dev := 0, fn := 5, reg := 0, write := false, value := 0 }, by decide +kernel⟩,
  ⟨{ (State.reset.put .PARTITION_STATE 3 2 |>.put .PARTITION 5 3 |>.put .GFID 5 700 |>.put .VDSB_COUNT 3 4 |>.put .VDSB 5 1 |>.put .GRAFT_STATE 5 3 |>.put .KIND 5 1 |>.put .FN_NODE 700 0 |>.put .FN_PORT 700 16 |>.put .HOST_NODE 3 0 |>.put .HOST_PORT 3 8 |>.put .PORT_ROLE 8 1 |>.put .NODE_ID 0 0) with pports := [(8, { up := true })] }, 0, 8, 3, 0, { rid := 0, tag := 7, bus := 5, dev := 0, fn := 0, reg := 0, write := false, value := 0 }, by decide +kernel⟩,
  ⟨{ (State.reset.put .PARTITION_STATE 3 2 |>.put .PARTITION 5 3 |>.put .GFID 5 700 |>.put .VDSB_COUNT 3 4 |>.put .VDSB 5 1 |>.put .GRAFT_STATE 5 3 |>.put .KIND 5 1 |>.put .FN_NODE 700 0 |>.put .FN_PORT 700 16 |>.put .HOST_NODE 3 0 |>.put .HOST_PORT 3 8 |>.put .PORT_ROLE 8 1 |>.put .NODE_ID 0 0) with pports := [(8, { up := true })], boot := .odtaku }, 0, 8, 3, 0, { rid := 0, tag := 7, bus := 5, dev := 0, fn := 0, reg := 0x104, write := false, value := 0 }, by decide +kernel⟩,
  ⟨{ (State.reset.put .PARTITION_STATE 3 2 |>.put .PARTITION 5 3 |>.put .GFID 5 700 |>.put .VDSB_COUNT 3 4 |>.put .VDSB 5 1 |>.put .GRAFT_STATE 5 3 |>.put .KIND 5 1 |>.put .FN_NODE 700 0 |>.put .FN_PORT 700 16 |>.put .HOST_NODE 3 0 |>.put .HOST_PORT 3 8 |>.put .PORT_ROLE 8 1 |>.put .NODE_ID 0 0) with pports := [(8, { up := true })] }, 0, 8, 3, 0, { rid := 0, tag := 7, bus := 5, dev := 0, fn := 0, reg := 0x104, write := false, value := 0 }, by decide +kernel⟩,
  ⟨{ (State.reset.put .PARTITION_STATE 3 2 |>.put .PARTITION 5 3 |>.put .GFID 5 700 |>.put .VDSB_COUNT 3 4 |>.put .VDSB 5 1 |>.put .GRAFT_STATE 5 3 |>.put .KIND 5 1 |>.put .FN_NODE 700 0 |>.put .FN_PORT 700 16 |>.put .HOST_NODE 3 0 |>.put .HOST_PORT 3 8 |>.put .PORT_ROLE 8 1 |>.put .NODE_ID 0 0 |>.put .MF_STATE 3 1) with pports := [(8, { up := true })] }, 0, 8, 3, { rid := 0, tag := 7, bus := 5, dev := 0, fn := 1, reg := 0, write := false, value := 0 }, by decide +kernel⟩,
  ⟨{ (State.reset.put .PARTITION_STATE 3 2 |>.put .PARTITION 5 3 |>.put .GFID 5 700 |>.put .VDSB_COUNT 3 4 |>.put .VDSB 5 1 |>.put .GRAFT_STATE 5 3 |>.put .KIND 5 1 |>.put .FN_NODE 700 0 |>.put .FN_PORT 700 16 |>.put .HOST_NODE 3 0 |>.put .HOST_PORT 3 8 |>.put .PORT_ROLE 8 1 |>.put .NODE_ID 0 0) with pports := [(8, { up := true })] }, 0, 8, 3, 0, { rid := 0, tag := 7, bus := 5, dev := 0, fn := 0, reg := 0, write := true, value := 0 }, by decide +kernel⟩,
  ⟨{ (State.reset.put .PARTITION_STATE 3 2 |>.put .PARTITION 5 3 |>.put .GFID 5 700 |>.put .VDSB_COUNT 3 4 |>.put .VDSB 5 1 |>.put .GRAFT_STATE 5 3 |>.put .KIND 5 1 |>.put .FN_NODE 700 0 |>.put .FN_PORT 700 16 |>.put .HOST_NODE 3 0 |>.put .HOST_PORT 3 8 |>.put .PORT_ROLE 8 1 |>.put .NODE_ID 0 0) with pports := [(8, { up := true })] }, 0, 8, 3, { rid := 0, tag := 7, bus := 5, dev := 0, fn := 5, reg := 0, write := false, value := 0 }, by decide +kernel⟩,
  ⟨{ (State.reset.put .PARTITION_STATE 3 2 |>.put .PARTITION 5 3 |>.put .GFID 5 700 |>.put .VDSB_COUNT 3 4 |>.put .VDSB 5 1 |>.put .GRAFT_STATE 5 3 |>.put .KIND 5 1 |>.put .FN_NODE 700 0 |>.put .FN_PORT 700 16 |>.put .HOST_NODE 3 0 |>.put .HOST_PORT 3 8 |>.put .PORT_ROLE 8 1 |>.put .NODE_ID 0 0 |>.put .HUSK_STATE (partRow 3) 1) with pports := [(8, { up := true })], grafts := [(5, { inForce := true })], ups := [(3, { secBus := 2, subBus := 9 })] }, 0, 8, 3, { rid := 0, tag := 7, bus := 5, dev := 0, fn := 0, reg := 0, write := false, value := 0 }, by decide +kernel⟩,
  ⟨{ (State.reset.put .PARTITION_STATE 3 2 |>.put .PARTITION 5 3 |>.put .GFID 5 700 |>.put .VDSB_COUNT 3 4 |>.put .VDSB 5 1 |>.put .GRAFT_STATE 5 3 |>.put .KIND 5 1 |>.put .FN_NODE 700 0 |>.put .FN_PORT 700 16 |>.put .HOST_NODE 3 0 |>.put .HOST_PORT 3 8 |>.put .PORT_ROLE 8 1 |>.put .NODE_ID 0 0) with pports := [(8, { up := true })], grafts := [], ups := [(3, { secBus := 2, subBus := 9 })], bridges := [(769, { secBus := 5 })] }, 0, 8, 3, 1, { rid := 0, tag := 7, bus := 5, dev := 0, fn := 0, reg := 0, write := false, value := 0 }, by decide +kernel⟩,
  ⟨{ (State.reset.put .PARTITION_STATE 3 2 |>.put .PARTITION 5 3 |>.put .GFID 5 700 |>.put .VDSB_COUNT 3 4 |>.put .VDSB 5 1 |>.put .GRAFT_STATE 5 3 |>.put .KIND 5 1 |>.put .FN_NODE 700 0 |>.put .FN_PORT 700 16 |>.put .HOST_NODE 3 0 |>.put .HOST_PORT 3 8 |>.put .PORT_ROLE 8 1 |>.put .NODE_ID 0 0 |>.put .VFUNC 5 0) with pports := [(8, { up := true })], grafts := [(5, { inForce := true })], ups := [(3, { secBus := 2, subBus := 9 })], bridges := [(769, { secBus := 5 })] }, 0, 8, 3, 1, { rid := 0, tag := 7, bus := 5, dev := 0, fn := 3, reg := 0, write := false, value := 0 }, by decide +kernel⟩,
  ⟨{ (State.reset.put .PARTITION_STATE 3 2 |>.put .PARTITION 5 3 |>.put .GFID 5 700 |>.put .VDSB_COUNT 3 4 |>.put .VDSB 5 1 |>.put .GRAFT_STATE 5 3 |>.put .KIND 5 1 |>.put .FN_NODE 700 0 |>.put .FN_PORT 700 16 |>.put .HOST_NODE 3 0 |>.put .HOST_PORT 3 8 |>.put .PORT_ROLE 8 1 |>.put .NODE_ID 0 0) with pports := [(8, { up := true })], grafts := [(5, { inForce := true })], ups := [(3, { secBus := 2, subBus := 9 })], bridges := [(769, { secBus := 5 })] }, 0, 8, 3, 5, 700, 1, { rid := 0, tag := 7, bus := 5, dev := 0, fn := 0, reg := 0, write := false, value := 0 }, by decide +kernel⟩,
  ⟨{ (State.reset.put .PARTITION_STATE 3 2 |>.put .PARTITION 5 3 |>.put .GFID 5 700 |>.put .VDSB_COUNT 3 4 |>.put .VDSB 5 1 |>.put .GRAFT_STATE 5 3 |>.put .KIND 5 1 |>.put .FN_NODE 700 0 |>.put .FN_PORT 700 16 |>.put .HOST_NODE 3 0 |>.put .HOST_PORT 3 8 |>.put .PORT_ROLE 8 1 |>.put .NODE_ID 0 0) with pports := [(8, { up := true })], grafts := [(5, { inForce := true })], ups := [(3, { secBus := 2, subBus := 9 })], bridges := [(769, { secBus := 5 })] }, 0, 8, 3, 5, 700, 1, { rid := 0, tag := 7, bus := 5, dev := 0, fn := 0, reg := 0, write := true, value := 0 }, by decide +kernel⟩,
  ⟨State.reset, 0, 8, { rid := 0, tag := 7, bus := 5, dev := 0, fn := 0, reg := 0, write := false, value := 0 }, by decide +kernel⟩,
  ⟨{ (State.reset.put .PARTITION_STATE 3 2 |>.put .PARTITION 5 3 |>.put .GFID 5 700 |>.put .VDSB_COUNT 3 4 |>.put .VDSB 5 1 |>.put .GRAFT_STATE 5 3 |>.put .KIND 5 1 |>.put .FN_NODE 700 0 |>.put .FN_PORT 700 16 |>.put .HOST_NODE 3 0 |>.put .HOST_PORT 3 8 |>.put .PORT_ROLE 8 1 |>.put .NODE_ID 0 0 |>.put .HUSK_STATE 8 1) with pports := [(8, { up := true })] }, 0, 8, { rid := 0, tag := 7, bus := 5, dev := 0, fn := 0, reg := 0, write := false, value := 0 }, by decide +kernel⟩,
  ⟨{ (State.reset.put .PARTITION_STATE 3 2 |>.put .PARTITION 5 3 |>.put .GFID 5 700 |>.put .VDSB_COUNT 3 4 |>.put .VDSB 5 1 |>.put .GRAFT_STATE 5 3 |>.put .KIND 5 1 |>.put .FN_NODE 700 0 |>.put .FN_PORT 700 16 |>.put .HOST_NODE 3 0 |>.put .HOST_PORT 3 8 |>.put .PORT_ROLE 8 1 |>.put .NODE_ID 0 0) with pports := [(8, { up := true })], boot := .odtaku, cfgWait := [(3, [{ rid := 0, tag := 7, bus := 5, dev := 0, fn := 0, reg := 0, write := false, value := 0 }])] }, 0, 3, 0, { rid := 0, tag := 7, bus := 5, dev := 0, fn := 0, reg := 0, write := false, value := 0 }, [], by decide +kernel⟩,
  ⟨{ (State.reset.put .PARTITION_STATE 3 2 |>.put .PARTITION 5 3 |>.put .GFID 5 700 |>.put .VDSB_COUNT 3 4 |>.put .VDSB 5 1 |>.put .GRAFT_STATE 5 3 |>.put .KIND 5 1 |>.put .FN_NODE 700 0 |>.put .FN_PORT 700 16 |>.put .HOST_NODE 3 0 |>.put .HOST_PORT 3 8 |>.put .PORT_ROLE 8 1 |>.put .NODE_ID 0 0 |>.put .MF_STATE 3 1) with pports := [(8, { up := true })], boot := .odtaku, cfgWait := [(3, [{ rid := 0, tag := 7, bus := 5, dev := 0, fn := 1, reg := 0, write := false, value := 0 }])] }, 0, 3, { rid := 0, tag := 7, bus := 5, dev := 0, fn := 1, reg := 0, write := false, value := 0 }, [], by decide +kernel⟩,
  ⟨{ (State.reset.put .PARTITION_STATE 3 2 |>.put .PARTITION 5 3 |>.put .GFID 5 700 |>.put .VDSB_COUNT 3 4 |>.put .VDSB 5 1 |>.put .GRAFT_STATE 5 3 |>.put .KIND 5 1 |>.put .FN_NODE 700 0 |>.put .FN_PORT 700 16 |>.put .HOST_NODE 3 0 |>.put .HOST_PORT 3 8 |>.put .PORT_ROLE 8 1 |>.put .NODE_ID 0 0) with pports := [(8, { up := true })], boot := .odtaku, cfgWait := [(3, [{ rid := 0, tag := 7, bus := 5, dev := 0, fn := 0, reg := 0, write := true, value := 0 }])] }, 0, 3, 0, { rid := 0, tag := 7, bus := 5, dev := 0, fn := 0, reg := 0, write := true, value := 0 }, [], by decide +kernel⟩,
  ⟨{ (State.reset.put .PARTITION_STATE 3 2 |>.put .PARTITION 5 3 |>.put .GFID 5 700 |>.put .VDSB_COUNT 3 4 |>.put .VDSB 5 1 |>.put .GRAFT_STATE 5 3 |>.put .KIND 5 1 |>.put .FN_NODE 700 0 |>.put .FN_PORT 700 16 |>.put .HOST_NODE 3 0 |>.put .HOST_PORT 3 8 |>.put .PORT_ROLE 8 1 |>.put .NODE_ID 0 0) with pports := [(8, { up := true })], boot := .odtaku, cfgWait := [(3, [{ rid := 0, tag := 7, bus := 5, dev := 0, fn := 5, reg := 0, write := false, value := 0 }])] }, 0, 3, { rid := 0, tag := 7, bus := 5, dev := 0, fn := 5, reg := 0, write := false, value := 0 }, [], by decide +kernel⟩,
  ⟨{ (State.reset.put .PARTITION_STATE 3 2 |>.put .PARTITION 5 3 |>.put .GFID 5 700 |>.put .VDSB_COUNT 3 4 |>.put .VDSB 5 1 |>.put .GRAFT_STATE 5 3 |>.put .KIND 5 1 |>.put .FN_NODE 700 0 |>.put .FN_PORT 700 16 |>.put .HOST_NODE 3 0 |>.put .HOST_PORT 3 8 |>.put .PORT_ROLE 8 1 |>.put .NODE_ID 0 0) with pports := [(8, { up := true })], grafts := [(5, { inForce := true })], ups := [(3, { secBus := 2, subBus := 9 })], bridges := [(769, { secBus := 5 })], boot := .odtaku, cfgWait := [(3, [{ rid := 0, tag := 7, bus := 5, dev := 0, fn := 0, reg := 0, write := false, value := 0 }])] }, 0, 3, 5, 700, { rid := 0, tag := 7, bus := 5, dev := 0, fn := 0, reg := 0, write := false, value := 0 }, [], by decide +kernel⟩,
  ⟨State.reset, 0, 3, by decide +kernel⟩⟩

theorem witness_DevicesAreEnumerated :
  (∃ (s : State) (_t : Time) (port g : Nat) (f : FnInfo),
    port < 512 ∧ s.errs = [] ∧ s.isDevice port = true ∧ s.get .DP_STATE port = 3 ∧ (s.pport port).up = true ∧ s.get .KEEPER_NODE < 32 ∧ s.odtakuUp = true ∧ s.get .IDE_MODE port ≠ 2 ∧ f.ide = false ∧ f.kind ≠ 2 ∧ s.fnAt s.node port f.pos = some g ∧ s.get .FN_IDS g = f.ids ∧ s.get .SRIOV_NUMVFS g = 0 ∧ (∀ x ∈ s.vfsOf g, x ∈ s.fnsOfPort port) ∧ s.pendingReqs = [] ∧ s.get .KEEPER_ROLE ≠ 1) ∧
  (∃ (s : State) (_t : Time) (port : Nat) (f : FnInfo),
    port < 512 ∧ s.errs = [] ∧ s.isDevice port = true ∧ s.get .DP_STATE port = 3 ∧ (s.pport port).up = true ∧ s.get .KEEPER_NODE < 32 ∧ s.odtakuUp = true ∧ s.get .IDE_MODE port ≠ 2 ∧ f.ide = false ∧ f.kind ≠ 2 ∧ s.fnAt s.node port f.pos = none ∧ s.rowsOf .SRIOV_NUMVFS = [] ∧ s.node < 32 ∧ s.get .KEEPER_ROLE ≠ 1) ∧
  (∃ (s : State) (_t : Time) (port : Nat) (fns : List FnInfo),
    port < 512 ∧ s.errs = [] ∧ s.isDevice port = true ∧ s.get .DP_STATE port = 3 ∧ (s.pport port).up = true ∧ s.get .KEEPER_NODE < 32 ∧ s.odtakuUp = true ∧ s.get .IDE_MODE port = 2 ∧ (∀ f ∈ fns, f.ide = false)) ∧
  (∃ (s : State) (_t : Time) (port : Nat) (fns : List FnInfo),
    port < 512 ∧ s.isDevice port = true ∧ s.get .DP_STATE port = 3 ∧ (s.pport port).up = true ∧ s.get .KEEPER_NODE < 32 ∧ s.odtakuUp = true ∧ (s.get .IDE_MODE port ≠ 2 ∨ fns.any (·.ide) = true)) ∧
  (∃ (s : State) (_t : Time) (port : Nat) (_fns : List FnInfo),
    port < 512 ∧ s.errs = [] ∧ (s.isDevice port = false ∨ s.get .DP_STATE port ≠ 3 ∨ (s.pport port).up = false ∨ 32 ≤ s.get .KEEPER_NODE ∨ s.odtakuUp = false)) ∧
  (∃ (s : State) (_t : Time) (req : Req) (gfid v : Nat),
    s.errs = [] ∧ s.hears req ∧ s.resolve (s.principal req.path) 2 (entryOf .SRIOV_NUMVFS (some gfid) v).addr = .obj .SRIOV_NUMVFS gfid ∧ v < 2 ^ 16 ∧ v ≤ (s.fnInfo gfid).totalVfs ∧ (∀ g ∈ s.activeGrafts, ∀ f ∈ s.graftFns g, ¬(s.get .PARENT_PF f = gfid ∧ s.get .FN_KIND f = 2)) ∧ s.switching = false) ∧
  (∃ (s : State) (_t : Time) (req : Req) (gfid v g f : Nat),
    s.errs = [] ∧ s.hears req ∧ s.resolve (s.principal req.path) 2 (entryOf .SRIOV_NUMVFS (some gfid) v).addr = .obj .SRIOV_NUMVFS gfid ∧ v < 2 ^ 16 ∧ v ≤ (s.fnInfo gfid).totalVfs ∧ g ∈ s.activeGrafts ∧ f ∈ s.graftFns g ∧ s.get .PARENT_PF f = gfid ∧ s.get .FN_KIND f = 2) ∧
  (∃ (s : State) (_t : Time) (req : Req) (gfid : Nat),
    s.errs = [] ∧ s.hears req ∧ s.resolve (s.principal req.path) 2 (entryOf .SRIOV_NUMVFS (some gfid) 0).addr = .obj .SRIOV_NUMVFS gfid ∧ s.pendingReqs = [] ∧ (∀ g ∈ s.activeGrafts, ∀ f ∈ s.graftFns g, ¬(s.get .PARENT_PF f = gfid ∧ s.get .FN_KIND f = 2))) ∧
  (∃ (s : State) (_t : Time) (req : Req) (gfid v : Nat),
    s.errs = [] ∧ s.hears req ∧ s.resolve (s.principal req.path) 2 (entryOf .SRIOV_NUMVFS (some gfid) v).addr = .obj .SRIOV_NUMVFS gfid ∧ v < 2 ^ 16 ∧ (s.fnInfo gfid).totalVfs < v) :=
  ⟨⟨{ (State.reset.put .PORT_ROLE 16 2 |>.put .DP_STATE 16 3 |>.put .KEEPER_NODE 0 1 |>.put .NODE_ID 0 0 |>.put .FN_PORT 700 16 |>.put .FN_NODE 700 0 |>.put .FN_POSITION 700 8 |>.put .FN_IDS 700 77) with boot := .odtaku, pports := [(16, { up := true })] }, 0, 16, 700, { pos := 8, ids := 77 }, by decide +kernel⟩,
  ⟨{ (State.reset.put .PORT_ROLE 16 2 |>.put .DP_STATE 16 3 |>.put .KEEPER_NODE 0 1 |>.put .NODE_ID 0 0) with boot := .odtaku, pports := [(16, { up := true })] }, 0, 16, { pos := 8, ids := 77 }, by decide +kernel⟩,
  ⟨{ (State.reset.put .PORT_ROLE 16 2 |>.put .DP_STATE 16 3 |>.put .KEEPER_NODE 0 1 |>.put .NODE_ID 0 0 |>.put .IDE_MODE 16 2) with boot := .odtaku, pports := [(16, { up := true })] }, 0, 16, [{ pos := 8, ids := 77 }], by decide +kernel⟩,
  ⟨{ (State.reset.put .PORT_ROLE 16 2 |>.put .DP_STATE 16 3 |>.put .KEEPER_NODE 0 1 |>.put .NODE_ID 0 0) with boot := .odtaku, pports := [(16, { up := true })] }, 0, 16, [{ pos := 8, ids := 77 }], by decide +kernel⟩,
  ⟨State.reset, 0, 16, [{ pos := 8, ids := 77 }], by decide +kernel⟩,
  ⟨{ (State.reset.put .PORT_ROLE 16 2 |>.put .DP_STATE 16 3 |>.put .KEEPER_NODE 0 1 |>.put .NODE_ID 0 0 |>.put .FN_PORT 700 16 |>.put .FN_NODE 700 0) with boot := .odtaku, pports := [(16, { up := true })], fns := [(700, { pos := 8, kind := 1, totalVfs := 4 })] }, 0, { path := .smMailbox }, 700, 2, by decide +kernel⟩,
  ⟨{ (State.reset.put .PORT_ROLE 16 2 |>.put .DP_STATE 16 3 |>.put .KEEPER_NODE 0 1 |>.put .NODE_ID 0 0 |>.put .PARENT_PF 701 700 |>.put .FN_KIND 701 2 |>.put .KIND 5 2 |>.put .GFID 5 701) with boot := .odtaku, pports := [(16, { up := true })], grafts := [(5, { inForce := true })] }, 0, { path := .smMailbox }, 700, 0, 5, 701, by decide +kernel⟩,
  ⟨{ (State.reset.put .PORT_ROLE 16 2 |>.put .DP_STATE 16 3 |>.put .KEEPER_NODE 0 1 |>.put .NODE_ID 0 0 |>.put .PARENT_PF 701 700 |>.put .FN_KIND 701 2 |>.put .PRESENT 701 1 |>.put .SRIOV_NUMVFS 700 1) with boot := .odtaku, pports := [(16, { up := true })] }, 0, { path := .smMailbox }, 700, by decide +kernel⟩,
  ⟨{ (State.reset.put .PORT_ROLE 16 2 |>.put .DP_STATE 16 3 |>.put .KEEPER_NODE 0 1 |>.put .NODE_ID 0 0) with boot := .odtaku, pports := [(16, { up := true })] }, 0, { path := .smMailbox }, 700, 4, by decide +kernel⟩⟩

theorem witness_PartitionsBindWaitAndQuiesce :
  (∃ (s : State) (_t : Time) (req : Req) (p n q : Nat),
    s.errs = [] ∧ s.hears req ∧ s.resolve (s.principal req.path) 2 (entryOf .HOST_NODE (some p) n).addr = .obj .HOST_NODE p ∧ s.resolve (s.principal req.path) 2 (entryOf .HOST_PORT (some p) q).addr = .obj .HOST_PORT p ∧ n < 32 ∧ q < 512 ∧ s.get .PARTITION_STATE p = 0 ∧ s.switching = false ∧ s.badBinding p n (s.newest .HOST_PORT p) = false ∧ s.badBinding p n q = false ∧ (s.put .HOST_NODE p n).breaksCapture s = false ∧ ((s.put .HOST_NODE p n).put .HOST_PORT p q).breaksCapture s = false) ∧
  (∃ (s : State) (_t : Time) (req : Req) (p n q : Nat),
    s.errs = [] ∧ s.hears req ∧ s.resolve (s.principal req.path) 2 (entryOf .HOST_NODE (some p) n).addr = .obj .HOST_NODE p ∧ s.resolve (s.principal req.path) 2 (entryOf .HOST_PORT (some p) q).addr = .obj .HOST_PORT p ∧ n < 32 ∧ q < 512 ∧ s.get .PARTITION_STATE p = 2 ∧ s.badBinding p n (s.newest .HOST_PORT p) = false ∧ (s.put .HOST_NODE p n).breaksCapture s = false) ∧
  (∃ (s : State) (_t : Time) (req : Req) (p : Nat),
    s.errs = [] ∧ s.hears req ∧ s.resolve (s.principal req.path) 2 (entryOf .HOST_NODE (some p) 0xFF).addr = .obj .HOST_NODE p ∧ s.get .PARTITION_STATE p = 4 ∧ s.switching = false ∧ (s.put .HOST_NODE p 0xFF).breaksCapture s = false) ∧
  (∃ (s : State) (_t : Time) (req : Req) (p n : Nat),
    s.errs = [] ∧ s.hears req ∧ s.resolve (s.principal req.path) 2 (entryOf .HOST_NODE (some p) n).addr = .obj .HOST_NODE p ∧ n < 32 ∧ s.get .PARTITION_STATE p = 0 ∧ s.switching = false ∧ s.badBinding p n (s.newest .HOST_PORT p) = false ∧ (s.put .HOST_NODE p n).breaksCapture s = false) ∧
  (∃ (s : State) (_t : Time) (req : Req) (p q : Nat),
    s.errs = [] ∧ s.hears req ∧ s.resolve (s.principal req.path) 2 (entryOf .HOST_PORT (some p) q).addr = .obj .HOST_PORT p ∧ q < 512 ∧ s.get .PARTITION_STATE p = 0 ∧ s.switching = false ∧ s.badBinding p (s.newest .HOST_NODE p) q = false ∧ (s.put .HOST_PORT p q).breaksCapture s = false) ∧
  (∃ (s : State) (_t : Time) (req : Req) (p n : Nat),
    s.errs = [] ∧ s.hears req ∧ s.resolve (s.principal req.path) 2 (entryOf .HOST_NODE (some p) n).addr = .obj .HOST_NODE p ∧ n < 32 ∧ s.badBinding p n (s.newest .HOST_PORT p) = true) ∧
  (∃ (s : State) (_t : Time) (req : Req) (p q : Nat),
    s.errs = [] ∧ s.hears req ∧ s.resolve (s.principal req.path) 2 (entryOf .HOST_PORT (some p) q).addr = .obj .HOST_PORT p ∧ q < 512 ∧ s.badBinding p (s.newest .HOST_NODE p) q = true) ∧
  (∃ (s : State) (t : Time) (p : Nat),
    p < 4096 ∧ s.errs = [] ∧ (s.get .PARTITION_STATE p ≠ 1 ∨ (s.parts.getD {} p).from0 = false ∨ max s.now t < max s.resetEnd (s.parts.getD {} p).boundAt + ms 900)) ∧
  (∃ (s : State) (t : Time) (p : Nat),
    p < 4096 ∧ s.errs = [] ∧ s.get .PARTITION_STATE p = 1 ∧ (s.parts.getD {} p).from0 = true ∧ max s.resetEnd (s.parts.getD {} p).boundAt + ms 900 ≤ max s.now t) ∧
  (∃ (s : State) (_t : Time) (req : Req) (p : Nat),
    s.errs = [] ∧ s.hears req ∧ s.mayInvoke req .PARTITION_QUIESCE (some p) = 0 ∧ s.get .PARTITION_STATE p = 2 ∧ s.ownHostPort p = none) ∧
  (∃ (s : State) (_t : Time) (req : Req) (p port : Nat),
    s.errs = [] ∧ s.hears req ∧ s.mayInvoke req .PARTITION_QUIESCE (some p) = 0 ∧ s.get .PARTITION_STATE p = 2 ∧ s.ownHostPort p = some port) ∧
  (∃ (s : State) (_t : Time) (req : Req) (p port : Nat),
    s.errs = [] ∧ s.hears req ∧ s.mayInvoke req .PARTITION_QUIESCE (some p) = 0 ∧ s.get .PARTITION_STATE p = 4 ∧ s.ownHostPort p = some port ∧ s.hostHeld port = false) ∧
  (∃ (s : State) (_t : Time) (req : Req) (p arg : Nat),
    s.errs = [] ∧ s.hears req ∧ s.mayInvoke req .PARTITION_QUIESCE (some p) = 0 ∧ arg ≤ 1 ∧ (s.get .PARTITION_STATE p ≠ (if arg = 1 then 2 else 4))) ∧
  (∃ (s : State) (_t : Time) (req : Req) (p arg : Nat),
    s.errs = [] ∧ s.hears req ∧ s.mayInvoke req .PARTITION_QUIESCE (some p) = 0 ∧ 1 < arg) ∧
  (∃ (s : State) (_t : Time) (req : Req) (p : Nat),
    s.errs = [] ∧ s.hears req ∧ s.mayInvoke req .PARTITION_QUIESCE (some p) = 0 ∧ s.get .PARTITION_STATE p = 4 ∧ s.ownHostPort p = none) ∧
  (∃ (s : State) (_t : Time) (req : Req) (p port : Nat),
    s.errs = [] ∧ s.hears req ∧ s.mayInvoke req .PARTITION_QUIESCE (some p) = 0 ∧ s.get .PARTITION_STATE p = 4 ∧ s.ownHostPort p = some port ∧ s.hostHeld port = true) :=
  ⟨⟨{ (State.reset.put .PORT_ROLE 8 1 |>.put .NODE_ID 0 0) with boot := .odtaku }, 0, { path := .smMailbox }, 3, 0, 8, by decide +kernel⟩,
  ⟨{ (State.reset.put .PORT_ROLE 8 1 |>.put .NODE_ID 0 0 |>.put .HOST_NODE 3 0 |>.put .HOST_PORT 3 8 |>.put .PARTITION_STATE 3 2) with boot := .odtaku }, 0, { path := .smMailbox }, 3, 0, 8, by decide +kernel⟩,
  ⟨{ (State.reset.put .PORT_ROLE 8 1 |>.put .NODE_ID 0 0 |>.put .HOST_NODE 3 0 |>.put .HOST_PORT 3 8 |>.put .PARTITION_STATE 3 4) with boot := .odtaku }, 0, { path := .smMailbox }, 3, by decide +kernel⟩,
  ⟨{ (State.reset.put .PORT_ROLE 8 1 |>.put .NODE_ID 0 0) with boot := .odtaku }, 0, { path := .smMailbox }, 3, 0, by decide +kernel⟩,
  ⟨{ (State.reset.put .PORT_ROLE 8 1 |>.put .NODE_ID 0 0 |>.put .HOST_NODE 3 0) with boot := .odtaku }, 0, { path := .smMailbox }, 3, 8, by decide +kernel⟩,
  ⟨{ (State.reset.put .PORT_ROLE 8 1 |>.put .NODE_ID 0 0 |>.put .HOST_PORT 3 9) with boot := .odtaku }, 0, { path := .smMailbox }, 3, 0, by decide +kernel⟩,
  ⟨{ (State.reset.put .PORT_ROLE 8 1 |>.put .NODE_ID 0 0 |>.put .HOST_NODE 3 0) with boot := .odtaku }, 0, { path := .smMailbox }, 3, 9, by decide +kernel⟩,
  ⟨State.reset, 0, 3, by decide +kernel⟩,
  ⟨{ (State.reset.put .PORT_ROLE 8 1 |>.put .NODE_ID 0 0 |>.put .HOST_NODE 3 0 |>.put .HOST_PORT 3 8 |>.put .PARTITION_STATE 3 1) with boot := .odtaku, parts := [(3, { from0 := true })] }, ms 900, 3, by decide +kernel⟩,
  ⟨{ (State.reset.put .PORT_ROLE 8 1 |>.put .NODE_ID 0 0 |>.put .PARTITION_STATE 3 2) with boot := .odtaku }, 0, { path := .smMailbox }, 3, by decide +kernel⟩,
  ⟨{ (State.reset.put .PORT_ROLE 8 1 |>.put .NODE_ID 0 0 |>.put .HOST_NODE 3 0 |>.put .HOST_PORT 3 8 |>.put .PARTITION_STATE 3 2) with boot := .odtaku }, 0, { path := .smMailbox }, 3, 8, by decide +kernel⟩,
  ⟨{ (State.reset.put .PORT_ROLE 8 1 |>.put .NODE_ID 0 0 |>.put .HOST_NODE 3 0 |>.put .HOST_PORT 3 8 |>.put .PARTITION_STATE 3 4) with boot := .odtaku }, 0, { path := .smMailbox }, 3, 8, by decide +kernel⟩,
  ⟨{ (State.reset.put .PORT_ROLE 8 1 |>.put .NODE_ID 0 0) with boot := .odtaku }, 0, { path := .smMailbox }, 3, 0, by decide +kernel⟩,
  ⟨{ (State.reset.put .PORT_ROLE 8 1 |>.put .NODE_ID 0 0) with boot := .odtaku }, 0, { path := .smMailbox }, 3, 2, by decide +kernel⟩,
  ⟨{ (State.reset.put .PORT_ROLE 8 1 |>.put .NODE_ID 0 0 |>.put .PARTITION_STATE 3 4) with boot := .odtaku }, 0, { path := .smMailbox }, 3, by decide +kernel⟩,
  ⟨{ (State.reset.put .PORT_ROLE 8 1 |>.put .NODE_ID 0 0 |>.put .HOST_NODE 3 0 |>.put .HOST_PORT 3 8 |>.put .PARTITION_STATE 3 4 |>.put .PERST_IN_SEL 8 1) with boot := .odtaku, perst := [(1, { hostLow := true })] }, 0, { path := .smMailbox }, 3, 8, by decide +kernel⟩⟩

theorem witness_PortsSelectTheTlpToSend :
  (∃ (s : State) (t : Time) (port : Nat),
    port < 512 ∧ s.errs = [] ∧ ((s.at t).reshape port).xFull (.tileQuad (clusterOf port) false) = false ∧ ((s.at t).reshape port).candidates port = []) ∧
  (∃ (s : State) (t : Time) (port k : Nat) (q : Queue),
    port < 512 ∧ s.errs = [] ∧ ((s.at t).reshape port).xFull (.tileQuad (clusterOf port) false) = false ∧ ((s.at t).reshape port).candidates port = [(k, q)] ∧ ((s.at t).reshape port).queues.find k = some q ∧ dequeueLoop q (((s.at t).reshape port).sendable port k) q.heads [] = none) ∧
  (∃ (s : State) (t : Time) (port k : Nat) (q : Queue) (rest : List (Nat × Queue)) (u : Sub) (p : Pkt),
    port < 512 ∧ ((s.at t).reshape port).xFull (.tileQuad (clusterOf port) false) = false ∧ ((s.at t).reshape port).candidates port = (k, q) :: rest ∧ ((s.at t).reshape port).queues.find k = some q ∧ dequeueLoop q (((s.at t).reshape port).sendable port k) q.heads [] = some (u, p) ∧ s.isFabric port = false ∧ s.doomed port k p = false ∧ s.reqCut p.part p.src p.dest = false ∧ (p.tlp.kind = .cpl ∨ (p.tlp.sub = .posted ∧ (p.internal = true ∨ s.egressOk p.part p.dest = true)))) ∧
  (∃ (s : State) (t : Time) (port k : Nat) (q : Queue) (rest : List (Nat × Queue)) (u : Sub) (p : Pkt),
    port < 512 ∧ ((s.at t).reshape port).xFull (.tileQuad (clusterOf port) false) = false ∧ ((s.at t).reshape port).candidates port = (k, q) :: rest ∧ ((s.at t).reshape port).queues.find k = some q ∧ dequeueLoop q (((s.at t).reshape port).sendable port k) q.heads [] = some (u, p) ∧ s.isFabric port = false ∧ s.doomed port k p = false ∧ s.reqCut p.part p.src p.dest = false ∧ p.tlp.kind ≠ .cpl ∧ p.tlp.sub = .nonPosted ∧ (p.internal = true ∨ s.egressOk p.part p.dest = true)) ∧
  (∃ (s : State) (t : Time) (port k : Nat) (q : Queue) (rest : List (Nat × Queue)) (u : Sub) (p : Pkt),
    port < 512 ∧ ((s.at t).reshape port).xFull (.tileQuad (clusterOf port) false) = false ∧ ((s.at t).reshape port).candidates port = (k, q) :: rest ∧ ((s.at t).reshape port).queues.find k = some q ∧ dequeueLoop q (((s.at t).reshape port).sendable port k) q.heads [] = some (u, p) ∧ s.isFabric port = false ∧ s.doomed port k p = false ∧ s.reqCut p.part p.src p.dest = false ∧ p.tlp.kind ≠ .cpl ∧ p.internal = false ∧ s.egressOk p.part p.dest = false) ∧
  (∃ (s : State) (t : Time) (port k : Nat) (q : Queue) (rest : List (Nat × Queue)) (u : Sub) (p : Pkt),
    port < 512 ∧ ((s.at t).reshape port).xFull (.tileQuad (clusterOf port) false) = false ∧ ((s.at t).reshape port).candidates port = (k, q) :: rest ∧ ((s.at t).reshape port).queues.find k = some q ∧ dequeueLoop q (((s.at t).reshape port).sendable port k) q.heads [] = some (u, p) ∧ s.isFabric port = false ∧ s.doomed port k p = false ∧ s.reqCut p.part p.src p.dest = true) ∧
  (∃ (s : State) (t : Time) (port k : Nat) (q : Queue) (rest : List (Nat × Queue)) (u : Sub) (p : Pkt),
    port < 512 ∧ ((s.at t).reshape port).xFull (.tileQuad (clusterOf port) false) = false ∧ ((s.at t).reshape port).candidates port = (k, q) :: rest ∧ ((s.at t).reshape port).queues.find k = some q ∧ dequeueLoop q (((s.at t).reshape port).sendable port k) q.heads [] = some (u, p) ∧ s.doomed port k p = true) ∧
  (∃ (s : State) (t : Time) (port k : Nat) (q : Queue) (rest : List (Nat × Queue)) (u : Sub) (p : Pkt),
    port < 512 ∧ ((s.at t).reshape port).xFull (.tileQuad (clusterOf port) false) = false ∧ ((s.at t).reshape port).candidates port = (k, q) :: rest ∧ ((s.at t).reshape port).queues.find k = some q ∧ dequeueLoop q (((s.at t).reshape port).sendable port k) q.heads [] = some (u, p) ∧ s.isFabric port = true ∧ s.doomed port k p = false) ∧
  (∃ (s : State) (t : Time) (port : Nat),
    port < 512 ∧ ((s.at t).reshape port).xFull (.tileQuad (clusterOf port) false) = false) ∧
  (∃ (s : State) (t : Time) (port : Nat),
    port < 512 ∧ s.errs = [] ∧ ((s.at t).reshape port).xFull (.tileQuad (clusterOf port) false) = true) ∧
  (∃ (s : State) (_port k _L : Nat) (_u : Sub) (q : Queue),
    s.queues.find k = some q) :=
  ⟨⟨State.reset, 0, 8, by decide +kernel⟩,
  ⟨{ (State.reset.put .PORT_ROLE 8 1 |>.put .HOST_PORT 3 8 |>.put .HOST_NODE 3 0 |>.put .NODE_ID 0 0) with pports := [(8, { up := true, fc := [] })], cells := [(5, 0)], queues := [((fqKey 3 8 0 0), { num := 1, port := 8, posted := { head := [{ idx := 5, first := true, last := true, stamp := 0, pkt := some { dest := 0xF003, src := 0xF003, part := 3, cls := 0, inPort := 8, tlp := { kind := .memWrite, data := 64 } } }] }, weight := 256 })] }, 0, 8, (fqKey 3 8 0 0), { num := 1, port := 8, posted := { head := [{ idx := 5, first := true, last := true, stamp := 0, pkt := some { dest := 0xF003, src := 0xF003, part := 3, cls := 0, inPort := 8, tlp := { kind := .memWrite, data := 64 } } }] }, weight := 256 }, by decide +kernel⟩,
  ⟨{ (State.reset.put .PORT_ROLE 8 1 |>.put .HOST_PORT 3 8 |>.put .HOST_NODE 3 0 |>.put .NODE_ID 0 0) with pports := [(8, { up := true, fc := [(0, 2), (3, 9)] })], cells := [(5, 0)], queues := [((fqKey 3 8 0 0), { num := 1, port := 8, posted := { head := [{ idx := 5, first := true, last := true, stamp := 0, pkt := some { dest := 0xF003, src := 0xF003, part := 3, cls := 0, inPort := 8, tlp := { kind := .memWrite, data := 64 } } }] }, weight := 256 })] }, 0, 8, (fqKey 3 8 0 0), { num := 1, port := 8, posted := { head := [{ idx := 5, first := true, last := true, stamp := 0, pkt := some { dest := 0xF003, src := 0xF003, part := 3, cls := 0, inPort := 8, tlp := { kind := .memWrite, data := 64 } } }] }, weight := 256 }, [], .posted, { dest := 0xF003, src := 0xF003, part := 3, cls := 0, inPort := 8, tlp := { kind := .memWrite, data := 64 } }, by decide +kernel⟩,
  ⟨{ (State.reset.put .PORT_ROLE 8 2 |>.put .HELD_BY 700 3 |>.put .LOC_NODE 700 0 |>.put .LOC_PORT 700 8 |>.put .HOST_PORT 3 8 |>.put .HOST_NODE 3 0 |>.put .NODE_ID 0 0) with pports := [(8, { up := true, fc := [(1, 2), (4, 9)] })], cells := [(5, 0)], queues := [((fqKey 3 8 0 0), { num := 1, port := 8, nonPosted := { head := [{ idx := 5, first := true, last := true, stamp := 0, pkt := some { dest := 700, src := 0xF003, part := 3, cls := 0, inPort := 8, tlp := { kind := .memRead } } }] }, weight := 256 })] }, 0, 8, (fqKey 3 8 0 0), { num := 1, port := 8, nonPosted := { head := [{ idx := 5, first := true, last := true, stamp := 0, pkt := some { dest := 700, src := 0xF003, part := 3, cls := 0, inPort := 8, tlp := { kind := .memRead } } }] }, weight := 256 }, [], .nonPosted, { dest := 700, src := 0xF003, part := 3, cls := 0, inPort := 8, tlp := { kind := .memRead } }, by decide +kernel⟩,
  ⟨{ (State.reset.put .PORT_ROLE 8 1 |>.put .HOST_PORT 3 8 |>.put .HOST_NODE 3 0 |>.put .NODE_ID 0 0) with pports := [(8, { up := true, fc := [(0, 2), (3, 9)] })], cells := [(5, 0)], queues := [((fqKey 3 8 0 0), { num := 1, port := 8, posted := { head := [{ idx := 5, first := true, last := true, stamp := 0, pkt := some { dest := 0xF004, src := 0xF003, part := 3, cls := 0, inPort := 8, tlp := { kind := .memWrite, data := 64 } } }] }, weight := 256 })] }, 0, 8, (fqKey 3 8 0 0), { num := 1, port := 8, posted := { head := [{ idx := 5, first := true, last := true, stamp := 0, pkt := some { dest := 0xF004, src := 0xF003, part := 3, cls := 0, inPort := 8, tlp := { kind := .memWrite, data := 64 } } }] }, weight := 256 }, [], .posted, { dest := 0xF004, src := 0xF003, part := 3, cls := 0, inPort := 8, tlp := { kind := .memWrite, data := 64 } }, by decide +kernel⟩,
  ⟨{ (State.reset.put .PORT_ROLE 8 1 |>.put .HOST_PORT 3 8 |>.put .HOST_NODE 3 0 |>.put .NODE_ID 0 0 |>.put .PARTITION 5 3 |>.put .GFID 5 700 |>.put .GRAFT_STATE 5 3) with grafts := [(5, { inForce := true })], bridges := [(768, { linkDis := true })], pports := [(8, { up := true, fc := [(0, 2), (3, 9)] })], cells := [(5, 0)], queues := [((fqKey 3 8 0 0), { num := 1, port := 8, posted := { head := [{ idx := 5, first := true, last := true, stamp := 0, pkt := some { dest := 0xF003, src := 700, part := 3, cls := 0, inPort := 8, tlp := { kind := .memWrite, data := 64 } } }] }, weight := 256 })] }, 0, 8, (fqKey 3 8 0 0), { num := 1, port := 8, posted := { head := [{ idx := 5, first := true, last := true, stamp := 0, pkt := some { dest := 0xF003, src := 700, part := 3, cls := 0, inPort := 8, tlp := { kind := .memWrite, data := 64 } } }] }, weight := 256 }, [], .posted, { dest := 0xF003, src := 700, part := 3, cls := 0, inPort := 8, tlp := { kind := .memWrite, data := 64 } }, by decide +kernel⟩,
  ⟨{ (State.reset.put .PORT_ROLE 8 1 |>.put .HOST_PORT 3 8 |>.put .HOST_NODE 3 0 |>.put .NODE_ID 0 0 |>.put .HUSK_STATE 8 1) with pports := [(8, { up := true, fc := [(0, 2), (3, 9)] })], cells := [(5, 0)], queues := [((fqKey 3 8 0 0), { num := 1, port := 8, posted := { head := [{ idx := 5, first := true, last := true, stamp := 0, pkt := some { dest := 0xF003, src := 0xF003, part := 3, cls := 0, inPort := 8, tlp := { kind := .memWrite, data := 64 } } }] }, weight := 256 })] }, 0, 8, (fqKey 3 8 0 0), { num := 1, port := 8, posted := { head := [{ idx := 5, first := true, last := true, stamp := 0, pkt := some { dest := 0xF003, src := 0xF003, part := 3, cls := 0, inPort := 8, tlp := { kind := .memWrite, data := 64 } } }] }, weight := 256 }, [], .posted, { dest := 0xF003, src := 0xF003, part := 3, cls := 0, inPort := 8, tlp := { kind := .memWrite, data := 64 } }, by decide +kernel⟩,
  ⟨{ (State.reset.put .PORT_ROLE 8 3 |>.put .OL_STATE 8 2 |>.put .LINK_RATE 8 6 |>.put .HOST_PORT 3 8 |>.put .HOST_NODE 3 0 |>.put .NODE_ID 0 0) with pports := [(8, { up := true, fc := [(0, 2), (3, 9)] })], cells := [(5, 0)], links := [(8, { peerPool := 100 })], queues := [((fqKey 3 8 0 0), { num := 1, port := 8, posted := { head := [{ idx := 5, first := true, last := true, stamp := 0, pkt := some { dest := 0xF003, src := 0xF003, part := 3, cls := 0, inPort := 9, tlp := { kind := .memWrite, data := 64 } } }] }, weight := 256 })] }, 0, 8, (fqKey 3 8 0 0), { num := 1, port := 8, posted := { head := [{ idx := 5, first := true, last := true, stamp := 0, pkt := some { dest := 0xF003, src := 0xF003, part := 3, cls := 0, inPort := 9, tlp := { kind := .memWrite, data := 64 } } }] }, weight := 256 }, [], .posted, { dest := 0xF003, src := 0xF003, part := 3, cls := 0, inPort := 9, tlp := { kind := .memWrite, data := 64 } }, by decide +kernel⟩,
  ⟨{ (State.reset.put .PORT_ROLE 8 1 |>.put .HOST_PORT 3 8 |>.put .HOST_NODE 3 0 |>.put .NODE_ID 0 0) with pports := [(8, { up := true, fc := [(0, 2), (3, 9)] })], cells := [(5, 0)], queues := [((fqKey 3 8 0 0), { num := 1, port := 8, posted := { head := [{ idx := 5, first := true, last := true, stamp := 0, pkt := some { dest := 0xF003, src := 0xF003, part := 3, cls := 0, inPort := 8, tlp := { kind := .memWrite, data := 64 } } }] }, weight := 256 })] }, 0, 8, by decide +kernel⟩,
  ⟨{ (State.reset.put .PORT_ROLE 8 1 |>.put .HOST_PORT 3 8 |>.put .HOST_NODE 3 0 |>.put .NODE_ID 0 0) with pports := [(8, { up := true, fc := [(0, 2), (3, 9)] })], cells := [(5, 0)], queues := [((fqKey 3 8 0 0), { num := 1, port := 8, posted := { head := [{ idx := 5, first := true, last := true, stamp := 0, pkt := some { dest := 0xF003, src := 0xF003, part := 3, cls := 0, inPort := 8, tlp := { kind := .memWrite, data := 64 } } }] }, weight := 256 })], xings := [(2, { fill := 32 })] }, 0, 8, by decide +kernel⟩,
  ⟨{ (State.reset.put .PORT_ROLE 8 1 |>.put .HOST_PORT 3 8 |>.put .HOST_NODE 3 0 |>.put .NODE_ID 0 0) with pports := [(8, { up := true, fc := [(0, 2), (3, 9)] })], cells := [(5, 0)], queues := [((fqKey 3 8 0 0), { num := 1, port := 8, posted := { head := [{ idx := 5, first := true, last := true, stamp := 0, pkt := some { dest := 0xF003, src := 0xF003, part := 3, cls := 0, inPort := 8, tlp := { kind := .memWrite, data := 64 } } }] }, weight := 256 })] }, 8, (fqKey 3 8 0 0), 64, .posted, { num := 1, port := 8, posted := { head := [{ idx := 5, first := true, last := true, stamp := 0, pkt := some { dest := 0xF003, src := 0xF003, part := 3, cls := 0, inPort := 8, tlp := { kind := .memWrite, data := 64 } } }] }, weight := 256 }, by decide +kernel⟩⟩

theorem witness_CreditsTokensAndGatesMoveOn :
  (∃ (s : State) (_t : Time) (port : Nat) (_a _b _c : Nat × Nat),
    port < 512 ∧ s.errs = [] ∧ s.isFabric port = false ∧ (s.pport port).up = true) ∧
  (∃ (s : State) (_t : Time) (port : Nat) (_a _b _c : Nat × Nat),
    port < 512 ∧ s.errs = [] ∧ (s.isFabric port = true ∨ (s.pport port).up = false)) ∧
  (∃ (s : State) (t : Time) (port cls k : Nat) (q : Queue),
    port < 512 ∧ cls < 8 ∧ s.errs = [] ∧ s.portNow k = port ∧ keyClass k = cls ∧ s.queues.find k = some q ∧ (s.at t).queueConforms k q = true) ∧
  (∃ (s : State) (t : Time) (port cls k : Nat) (q : Queue),
    port < 512 ∧ cls < 8 ∧ s.errs = [] ∧ s.queues.find k = some q ∧ (s.at t).queueConforms k q = false) ∧
  (∃ (s : State) (_t : Time) (port cls k : Nat),
    port < 512 ∧ cls < 8 ∧ s.errs = [] ∧ (s.portNow k ≠ port ∨ keyClass k ≠ cls)) ∧
  (∃ (s : State) (_t : Time) (port cls : Nat),
    port < 512 ∧ cls < 8 ∧ s.errs = []) ∧
  (∃ (s : State) (_t : Time) (port : Nat),
    port < 512 ∧ s.errs = [] ∧ s.activeBank port = none) ∧
  (∃ (s : State) (t : Time) (port b d m : Nat),
    port < 512 ∧ s.errs = [] ∧ s.activeBank port = some b ∧ (s.timeline port b)[(s.gates.getD {} port).entry]? = some (d, m) ∧ max s.now t < (s.gates.getD {} port).start + ns d) ∧
  (∃ (s : State) (_t : Time) (port b : Nat),
    port < 512 ∧ s.errs = [] ∧ s.activeBank port = some b ∧ (s.timeline port b).length ≤ (s.gates.getD {} port).entry) ∧
  (∃ (s : State) (t : Time) (port b d m : Nat),
    port < 512 ∧ s.errs = [] ∧ s.activeBank port = some b ∧ (s.timeline port b)[(s.gates.getD {} port).entry]? = some (d, m) ∧ (s.gates.getD {} port).start + ns d ≤ max s.now t) :=
  ⟨⟨{ (State.reset.put .PORT_ROLE 8 1 |>.put .HOST_PORT 3 8 |>.put .HOST_NODE 3 0 |>.put .NODE_ID 0 0) with pports := [(8, { up := true, fc := [(0, 2), (3, 9)] })], cells := [(5, 0)], queues := [((fqKey 3 8 0 0), { num := 1, port := 8, posted := { head := [{ idx := 5, first := true, last := true, stamp := 0, pkt := some { dest := 0xF003, src := 0xF003, part := 3, cls := 0, inPort := 8, tlp := { kind := .memWrite, data := 64 } } }] }, weight := 256 })] }, 0, 8, (1, 4), (2, 0), (3, 0), by decide +kernel⟩,
  ⟨State.reset, 0, 8, (1, 4), (2, 0), (3, 0), by decide +kernel⟩,
  ⟨{ (State.reset.put .PORT_ROLE 8 1 |>.put .HOST_PORT 3 8 |>.put .HOST_NODE 3 0 |>.put .NODE_ID 0 0 |>.put .SC_VIRTUAL_TIME 64 9) with pports := [(8, { up := true, fc := [(0, 2), (3, 9)] })], cells := [(5, 0)], queues := [((fqKey 3 8 0 0), { num := 1, port := 8, posted := { head := [{ idx := 5, first := true, last := true, stamp := 0, pkt := some { dest := 0xF003, src := 0xF003, part := 3, cls := 0, inPort := 8, tlp := { kind := .memWrite, data := 64 } } }] }, weight := 256 })] }, 0, 8, 0, (fqKey 3 8 0 0), { num := 1, port := 8, posted := { head := [{ idx := 5, first := true, last := true, stamp := 0, pkt := some { dest := 0xF003, src := 0xF003, part := 3, cls := 0, inPort := 8, tlp := { kind := .memWrite, data := 64 } } }] }, weight := 256 }, by decide +kernel⟩,
  ⟨{ (State.reset.put .PORT_ROLE 8 1 |>.put .HOST_PORT 3 8 |>.put .HOST_NODE 3 0 |>.put .NODE_ID 0 0 |>.put .FQS_RATE 24 1) with pports := [(8, { up := true, fc := [(0, 2), (3, 9)] })], cells := [(5, 0)], queues := [((fqKey 3 8 0 0), { num := 1, port := 8, posted := { head := [{ idx := 5, first := true, last := true, stamp := 0, pkt := some { dest := 0xF003, src := 0xF003, part := 3, cls := 0, inPort := 8, tlp := { kind := .memWrite, data := 64 } } }] }, tokens := -5, weight := 256 })] }, 0, 8, 0, (fqKey 3 8 0 0), { num := 1, port := 8, posted := { head := [{ idx := 5, first := true, last := true, stamp := 0, pkt := some { dest := 0xF003, src := 0xF003, part := 3, cls := 0, inPort := 8, tlp := { kind := .memWrite, data := 64 } } }] }, tokens := -5, weight := 256 }, by decide +kernel⟩,
  ⟨{ (State.reset.put .PORT_ROLE 8 1 |>.put .HOST_PORT 3 8 |>.put .HOST_NODE 3 0 |>.put .NODE_ID 0 0) with pports := [(8, { up := true, fc := [(0, 2), (3, 9)] })], cells := [(5, 0)], queues := [((fqKey 3 8 0 0), { num := 1, port := 8, posted := { head := [{ idx := 5, first := true, last := true, stamp := 0, pkt := some { dest := 0xF003, src := 0xF003, part := 3, cls := 0, inPort := 8, tlp := { kind := .memWrite, data := 64 } } }] }, weight := 256 })] }, 0, 9, 0, (fqKey 3 8 0 0), by decide +kernel⟩,
  ⟨{ (State.reset.put .PORT_ROLE 8 1 |>.put .HOST_PORT 3 8 |>.put .HOST_NODE 3 0 |>.put .NODE_ID 0 0) with pports := [(8, { up := true, fc := [(0, 2), (3, 9)] })], cells := [(5, 0)], queues := [((fqKey 3 8 0 0), { num := 1, port := 8, posted := { head := [{ idx := 5, first := true, last := true, stamp := 0, pkt := some { dest := 0xF003, src := 0xF003, part := 3, cls := 0, inPort := 8, tlp := { kind := .memWrite, data := 64 } } }] }, weight := 256 })] }, 0, 8, 0, by decide +kernel⟩,
  ⟨State.reset, 0, 8, by decide +kernel⟩,
  ⟨{ (State.reset.put .GL_LENGTH 16 2 |>.put .GL_ENTRY 16384 0x2801 |>.put .GL_ENTRY 16385 0x3003 |>.put .GL_ACTIVE_BANK 8 0) with gates := [(8, { mask := 1, entry := 0, start := 0 })] }, 0, 8, 0, 40, 1, by decide +kernel⟩,
  ⟨{ (State.reset.put .GL_LENGTH 16 2 |>.put .GL_ENTRY 16384 0x2801 |>.put .GL_ENTRY 16385 0x3003 |>.put .GL_ACTIVE_BANK 8 0) with gates := [(8, { mask := 1, entry := 9, start := 0 })] }, 0, 8, 0, by decide +kernel⟩,
  ⟨{ (State.reset.put .GL_LENGTH 16 2 |>.put .GL_ENTRY 16384 0x2801 |>.put .GL_ENTRY 16385 0x3003 |>.put .GL_ACTIVE_BANK 8 0) with gates := [(8, { mask := 1, entry := 0, start := 0 })] }, us 1000, 8, 0, 40, 1, by decide +kernel⟩⟩

theorem witness_TagsTimeOutAndAreFreed :
  (∃ (s : State) (t : Time) (port tag n : Nat) (e : TagEntry),
    port < 512 ∧ tag < 16384 ∧ s.errs = [] ∧ s.tagLookup port tag = some (n, e) ∧ s.tags.find n = some e ∧ e.quarantined = false ∧ before40 (s.at t).now40 e.deadline = false ∧ s.storm.getD 0 port + 1 ≠ s.get .TO_STORM_LIMIT) ∧
  (∃ (s : State) (t : Time) (port tag n : Nat) (e : TagEntry),
    port < 512 ∧ tag < 16384 ∧ s.errs = [] ∧ s.tagLookup port tag = some (n, e) ∧ (e.quarantined = true ∨ before40 (s.at t).now40 e.deadline = true)) ∧
  (∃ (s : State) (t : Time) (port tag n : Nat) (e : TagEntry),
    port < 512 ∧ tag < 16384 ∧ s.errs = [] ∧ s.tagLookup port tag = some (n, e) ∧ s.tags.find n = some e ∧ e.quarantined = true ∧ before40 (s.at t).now40 e.qend = false) ∧
  (∃ (s : State) (t : Time) (port tag n : Nat) (e : TagEntry),
    port < 512 ∧ tag < 16384 ∧ s.errs = [] ∧ s.tagLookup port tag = some (n, e) ∧ (e.quarantined = false ∨ before40 (s.at t).now40 e.qend = true)) ∧
  (∃ (s : State) (_t : Time) (port tag : Nat),
    port < 512 ∧ tag < 16384 ∧ s.errs = [] ∧ s.tagLookup port tag = none) ∧
  (∃ (s : State) (_t : Time) (port tag : Nat),
    port < 512 ∧ tag < 16384 ∧ s.errs = [] ∧ s.tagLookup port tag = none) ∧
  (∃ (s : State) (t : Time) (port tag n : Nat) (e : TagEntry),
    port < 512 ∧ tag < 16384 ∧ s.tagLookup port tag = some (n, e) ∧ e.quarantined = false ∧ before40 (s.at t).now40 e.deadline = false ∧ s.storm.getD 0 e.port + 1 = s.get .TO_STORM_LIMIT) ∧
  (∃ (s : State) (_t : Time) (port : Nat),
    port < 512 ∧ s.get .TO_STORM_LIMIT ≠ 0 ∧ s.get .TO_STORM_LIMIT ≤ s.storm.getD 0 port) ∧
  (∃ (s : State) (_t : Time) (port : Nat),
    port < 512 ∧ s.errs = [] ∧ (s.get .TO_STORM_LIMIT = 0 ∨ s.storm.getD 0 port < s.get .TO_STORM_LIMIT)) :=
  ⟨⟨{ State.reset with tags := [(4, { tag := 7, port := 8, part := 3, reqG := 0xF003, cplG := 700, rid := 256, origTag := 9, remaining := 64, lower := 0, issued := 0, deadline := 100, qend := 300 })] }, ns 100, 8, 7, 4, { tag := 7, port := 8, part := 3, reqG := 0xF003, cplG := 700, rid := 256, origTag := 9, remaining := 64, lower := 0, issued := 0, deadline := 100, qend := 300 }, by decide +kernel⟩,
  ⟨{ State.reset with tags := [(4, { tag := 7, port := 8, part := 3, reqG := 0xF003, cplG := 700, rid := 256, origTag := 9, remaining := 64, lower := 0, issued := 0, deadline := 100, qend := 300 })] }, ns 99, 8, 7, 4, { tag := 7, port := 8, part := 3, reqG := 0xF003, cplG := 700, rid := 256, origTag := 9, remaining := 64, lower := 0, issued := 0, deadline := 100, qend := 300 }, by decide +kernel⟩,
  ⟨{ State.reset with tags := [(4, { tag := 7, port := 8, part := 3, reqG := 0xF003, cplG := 700, rid := 256, origTag := 9, remaining := 64, lower := 0, issued := 0, deadline := 100, qend := 300, quarantined := true })] }, ns 300, 8, 7, 4, { tag := 7, port := 8, part := 3, reqG := 0xF003, cplG := 700, rid := 256, origTag := 9, remaining := 64, lower := 0, issued := 0, deadline := 100, qend := 300, quarantined := true }, by decide +kernel⟩,
  ⟨{ State.reset with tags := [(4, { tag := 7, port := 8, part := 3, reqG := 0xF003, cplG := 700, rid := 256, origTag := 9, remaining := 64, lower := 0, issued := 0, deadline := 100, qend := 300, quarantined := true })] }, ns 299, 8, 7, 4, { tag := 7, port := 8, part := 3, reqG := 0xF003, cplG := 700, rid := 256, origTag := 9, remaining := 64, lower := 0, issued := 0, deadline := 100, qend := 300, quarantined := true }, by decide +kernel⟩,
  ⟨State.reset, 0, 8, 7, by decide +kernel⟩,
  ⟨State.reset, 0, 8, 7, by decide +kernel⟩,
  ⟨{ State.reset.put .TO_STORM_LIMIT 0 1 with tags := [(4, { tag := 7, port := 8, part := 3, reqG := 0xF003, cplG := 700, rid := 256, origTag := 9, remaining := 64, lower := 0, issued := 0, deadline := 100, qend := 300 })] }, ns 100, 8, 7, 4, { tag := 7, port := 8, part := 3, reqG := 0xF003, cplG := 700, rid := 256, origTag := 9, remaining := 64, lower := 0, issued := 0, deadline := 100, qend := 300 }, by decide +kernel⟩,
  ⟨{ State.reset.put .TO_STORM_LIMIT 0 3 with storm := [(8, 3)] }, 0, 8, by decide +kernel⟩,
  ⟨State.reset.put .TO_STORM_LIMIT 0 3, 0, 8, by decide +kernel⟩⟩

theorem witness_FabricPacketsKeepTheirOrder :
  (∃ (s : State) (_t : Time) (port : Nat) (p : Pkt),
    port < 512 ∧ s.fabricOpen port = true ∧ s.husked port = false ∧ s.nbrRefused port = false ∧ p.tlp.fault = none ∧ (p.internal = true ∨ p.ur = true ∨ s.husked (partRow p.part) = false) ∧ p.twin = 0 ∧ s.locNode p.dest = s.node) ∧
  (∃ (s : State) (_t : Time) (port : Nat) (p : Pkt),
    port < 512 ∧ s.fabricOpen port = true ∧ s.husked port = false ∧ s.nbrRefused port = false ∧ p.tlp.fault = none ∧ (p.internal = true ∨ p.ur = true ∨ s.husked (partRow p.part) = false) ∧ p.twin = 0 ∧ s.locNode p.dest ≠ s.node) ∧
  (∃ (s : State) (_t : Time) (port : Nat) (p : Pkt),
    port < 512 ∧ s.fabricOpen port = true ∧ s.husked port = false ∧ s.nbrRefused port = true ∧ p.twin = 0) ∧
  (∃ (s : State) (_t : Time) (port : Nat) (p : Pkt),
    port < 512 ∧ s.fabricOpen port = true ∧ s.husked port = false ∧ s.nbrRefused port = false ∧ p.tlp.fault.isSome = true ∧ p.twin = 0) ∧
  (∃ (s : State) (_t : Time) (port : Nat) (p : Pkt),
    port < 512 ∧ s.fabricOpen port = true ∧ s.husked port = false ∧ s.nbrRefused port = false ∧ p.tlp.fault = none ∧ p.internal = false ∧ p.ur = false ∧ s.husked (partRow p.part) = true ∧ p.twin = 0) ∧
  (∃ (s : State) (_t : Time) (port : Nat) (p : Pkt),
    port < 512 ∧ s.fabricOpen port = true ∧ s.husked port = true ∧ p.twin = 0) ∧
  (∃ (s : State) (_t : Time) (port : Nat) (p : Pkt),
    port < 512 ∧ s.errs = [] ∧ (s.fabricOpen port = false ∨ p.twin ≠ 0)) ∧
  (∃ (s : State) (_t : Time) (port : Nat) (p : Pkt),
    port < 512 ∧ s.errs = [] ∧ (s.fabricOpen port = false ∨ p.twin = 0)) ∧
  (∃ (s : State) (_t : Time) (port : Nat) (p : Pkt),
    port < 512 ∧ s.fabricOpen port = true ∧ s.husked port = false ∧ s.nbrRefused port = true ∧ p.twin ≠ 0) ∧
  (∃ (s : State) (_t : Time) (port : Nat) (p : Pkt),
    port < 512 ∧ s.fabricOpen port = true ∧ s.husked port = false ∧ s.nbrRefused port = false ∧ p.tlp.fault.isSome = true ∧ p.twin ≠ 0) ∧
  (∃ (s : State) (_t : Time) (port : Nat) (p : Pkt),
    port < 512 ∧ s.fabricOpen port = true ∧ s.husked port = false ∧ s.nbrRefused port = false ∧ p.tlp.fault = none ∧ p.internal = false ∧ p.ur = false ∧ s.husked (partRow p.part) = true ∧ p.twin ≠ 0) ∧
  (∃ (s : State) (_t : Time) (port : Nat) (p : Pkt),
    port < 512 ∧ s.fabricOpen port = true ∧ s.husked port = true ∧ p.twin ≠ 0) ∧
  (∃ (s : State) (_t : Time) (port : Nat) (p : Pkt),
    port < 512 ∧ s.fabricOpen port = true ∧ s.husked port = false ∧ s.nbrRefused port = false ∧ p.tlp.fault = none ∧ (p.internal = true ∨ p.ur = true ∨ s.husked (partRow p.part) = false) ∧ p.twin ≠ 0 ∧ s.locNode p.dest ≠ s.node ∧ s.get .PLANE ≠ 2) ∧
  (∃ (s : State) (_t : Time) (port : Nat) (p : Pkt),
    port < 512 ∧ s.fabricOpen port = true ∧ s.husked port = false ∧ s.nbrRefused port = false ∧ p.tlp.fault = none ∧ (p.internal = true ∨ p.ur = true ∨ s.husked (partRow p.part) = false) ∧ p.twin ≠ 0 ∧ s.locNode p.dest ≠ s.node ∧ s.get .PLANE = 2 ∧ s.get .ACTIVE_PORT (s.locNode p.dest) ≠ s.get .PRIMARY_PORT (s.locNode p.dest)) ∧
  (∃ (s : State) (_t : Time) (port : Nat) (p : Pkt),
    port < 512 ∧ s.fabricOpen port = true ∧ s.husked port = false ∧ s.nbrRefused port = false ∧ p.tlp.fault = none ∧ (p.internal = true ∨ p.ur = true ∨ s.husked (partRow p.part) = false) ∧ p.twin ≠ 0 ∧ s.locNode p.dest ≠ s.node ∧ s.get .PLANE = 2 ∧ s.get .ACTIVE_PORT (s.locNode p.dest) = s.get .PRIMARY_PORT (s.locNode p.dest)) ∧
  (∃ (s : State) (_t : Time) (port : Nat) (p : Pkt),
    port < 512 ∧ s.fabricOpen port = true ∧ s.husked port = false ∧ s.nbrRefused port = false ∧ p.tlp.fault = none ∧ (p.internal = true ∨ p.ur = true ∨ s.husked (partRow p.part) = false) ∧ p.twin ≠ 0 ∧ s.locNode p.dest = s.node ∧ s.behind port p.cls = true) ∧
  (∃ (s : State) (_t : Time) (port : Nat) (p : Pkt),
    port < 512 ∧ s.fabricOpen port = true ∧ s.husked port = false ∧ s.nbrRefused port = false ∧ p.tlp.fault = none ∧ (p.internal = true ∨ p.ur = true ∨ s.husked (partRow p.part) = false) ∧ p.twin ≠ 0 ∧ s.locNode p.dest = s.node ∧ s.rx.getD [] (clusterOf port) = []) ∧
  (∃ (s : State) (n : Nat) (p : Pkt),
    s.streamOf p = n ∧ (s.stream n).held = [] ∧ (s.stream n).count = p.seq ∧ p.seq < 2 ^ 24) ∧
  (∃ (s : State) (n : Nat) (p : Pkt),
    s.streamOf p = n ∧ behind24 (s.stream n).count p.seq = true) ∧
  (∃ (s : State) (n : Nat) (p : Pkt),
    s.streamOf p = n ∧ (s.stream n).held = [] ∧ dist24 (s.stream n).count p.seq ≠ 0 ∧ dist24 (s.stream n).count p.seq < 2 ^ 23 ∧ (p.pseqValid = true ∨ p.salvage = true) ∧ p.seq < 2 ^ 24 ∧ (s.stream n).count < 2 ^ 24 ∧ p.internal = false) ∧
  (∃ (s : State) (n : Nat) (p : Pkt),
    s.streamOf p = n ∧ (s.stream n).held = [] ∧ dist24 (s.stream n).count p.seq ≠ 0 ∧ dist24 (s.stream n).count p.seq < 2 ^ 23 ∧ p.pseqValid = false ∧ p.salvage = false) ∧
  (∃ (s : State) (n : Nat) (p : Pkt),
    s.streamOf p = n ∧ (s.stream n).held ≠ [] ∧ behind24 (s.stream n).count p.seq = false) ∧
  (∃ (s : State) (t : Time) (n : Nat),
    s.errs = [] ∧ (s.at t).heldTooLong n = false) ∧
  (∃ (s : State) (t : Time) (n : Nat) (p : Pkt),
    (s.at t).heldTooLong n = true ∧ (s.stream n).held.head? = some p) ∧
  (∃ (s : State) (t : Time) (n : Nat) (p : Pkt),
    (s.stream n).held = [p] ∧ p.inTime + us (s.get .ORDER_HOLD_TIMEOUT) ≤ max s.now t ∧ behind24 (s.stream n).count p.seq = false) ∧
  (∃ (s : State) (t : Time) (node : Nat),
    node < 32 ∧ s.errs = [] ∧ s.flagUntil.getD 0 node ≤ max s.now t) ∧
  (∃ (s : State) (t : Time) (node : Nat),
    node < 32 ∧ s.errs = [] ∧ max s.now t < s.flagUntil.getD 0 node) ∧
  (∃ (s : State) (p : Pkt),
    s.rsvOf p = none) ∧
  (∃ (s : State) (r : Nat) (p : Pkt),
    s.rsvOf p = some r ∧ dist24 (s.rsv r).x p.seq < 4096 ∧ ((s.rsv r).slots.any (fun (x : Nat × Pkt × List Nat) => x.1 = p.seq) = true)) ∧
  (∃ (s : State) (t : Time) (r : Nat),
    r < 16384 ∧ s.errs = [] ∧ ((s.rsv r).timer.all (fun x => max s.now t < x) = true)) ∧
  (∃ (s : State) (t : Time) (r : Nat) (x : Time),
    r < 16384 ∧ s.errs = [] ∧ (s.rsv r).timer = some x ∧ x ≤ max s.now t ∧ (s.rsv r).slots = []) ∧
  (∃ (s : State) (r : Nat) (p : Pkt),
    s.rsvOf p = some r ∧ 2 ^ 23 ≤ dist24 (s.rsv r).x p.seq) ∧
  (∃ (s : State) (r : Nat) (p : Pkt),
    s.rsvOf p = some r ∧ 4096 ≤ dist24 (s.rsv r).x p.seq ∧ dist24 (s.rsv r).x p.seq < 2 ^ 23) ∧
  (∃ (s : State) (t : Time) (r n : Nat) (x : Time),
    r < 16384 ∧ (s.rsv r).timer = some x ∧ x ≤ max s.now t ∧ (((s.rsv r).slots.map fun (x : Nat × Pkt × List Nat) => dist24 (s.rsv r).x x.1).min? = some n)) :=
  ⟨⟨(State.reset.put .PORT_ROLE 8 3 |>.put .OL_STATE 8 2 |>.put .NODE_ID 0 0 |>.put .LOC_NODE 700 0 |>.put .LOC_PORT 700 16 |>.put .PORT_ROLE 16 2 |>.put .LOC_NODE 0xF003 0), 0, 8, { dest := 700, src := 0xF003, part := 3, cls := 0, inPort := 0, seq := 5, tlp := { kind := .memWrite, data := 64 } }, by decide +kernel⟩,
  ⟨(State.reset.put .PORT_ROLE 8 3 |>.put .OL_STATE 8 2 |>.put .NODE_ID 0 0 |>.put .LOC_NODE 700 0 |>.put .LOC_PORT 700 16 |>.put .PORT_ROLE 16 2 |>.put .LOC_NODE 0xF003 0).put .LOC_NODE 700 4, 0, 8, { dest := 700, src := 0xF003, part := 3, cls := 0, inPort := 0, seq := 5, tlp := { kind := .memWrite, data := 64 } }, by decide +kernel⟩,
  ⟨(State.reset.put .PORT_ROLE 8 3 |>.put .OL_STATE 8 2 |>.put .NODE_ID 0 0 |>.put .LOC_NODE 700 0 |>.put .LOC_PORT 700 16 |>.put .PORT_ROLE 16 2 |>.put .LOC_NODE 0xF003 0).put .NEIGHBOUR_STATE 8 3, 0, 8, { dest := 700, src := 0xF003, part := 3, cls := 0, inPort := 0, seq := 5, tlp := { kind := .memWrite, data := 64 } }, by decide +kernel⟩,
  ⟨(State.reset.put .PORT_ROLE 8 3 |>.put .OL_STATE 8 2 |>.put .NODE_ID 0 0 |>.put .LOC_NODE 700 0 |>.put .LOC_PORT 700 16 |>.put .PORT_ROLE 16 2 |>.put .LOC_NODE 0xF003 0), 0, 8, { dest := 700, src := 0xF003, part := 3, cls := 0, inPort := 0, seq := 5, tlp := { kind := .memWrite, data := 64, fault := some .crossing } }, by decide +kernel⟩,
  ⟨(State.reset.put .PORT_ROLE 8 3 |>.put .OL_STATE 8 2 |>.put .NODE_ID 0 0 |>.put .LOC_NODE 700 0 |>.put .LOC_PORT 700 16 |>.put .PORT_ROLE 16 2 |>.put .LOC_NODE 0xF003 0).put .HUSK_STATE (partRow 3) 1, 0, 8, { dest := 700, src := 0xF003, part := 3, cls := 0, inPort := 0, seq := 5, tlp := { kind := .memWrite, data := 64 } }, by decide +kernel⟩,
  ⟨(State.reset.put .PORT_ROLE 8 3 |>.put .OL_STATE 8 2 |>.put .NODE_ID 0 0 |>.put .LOC_NODE 700 0 |>.put .LOC_PORT 700 16 |>.put .PORT_ROLE 16 2 |>.put .LOC_NODE 0xF003 0).put .HUSK_STATE 8 1, 0, 8, { dest := 700, src := 0xF003, part := 3, cls := 0, inPort := 0, seq := 5, tlp := { kind := .memWrite, data := 64 } }, by decide +kernel⟩,
  ⟨State.reset, 0, 8, { dest := 700, src := 0xF003, part := 3, cls := 0, inPort := 0, seq := 5, tlp := { kind := .memWrite, data := 64 } }, by decide +kernel⟩,
  ⟨State.reset, 0, 8, { dest := 700, src := 0xF003, part := 3, cls := 0, inPort := 0, seq := 5, tlp := { kind := .memWrite, data := 64 } }, by decide +kernel⟩,
  ⟨(State.reset.put .PORT_ROLE 8 3 |>.put .OL_STATE 8 2 |>.put .NODE_ID 0 0 |>.put .LOC_NODE 700 0 |>.put .LOC_PORT 700 16 |>.put .PORT_ROLE 16 2 |>.put .LOC_NODE 0xF003 0).put .NEIGHBOUR_STATE 8 3, 0, 8, { dest := 700, src := 0xF003, part := 3, cls := 0, inPort := 0, seq := 5, twin := 1, tlp := { kind := .memWrite, data := 64 } }, by decide +kernel⟩,
  ⟨(State.reset.put .PORT_ROLE 8 3 |>.put .OL_STATE 8 2 |>.put .NODE_ID 0 0 |>.put .LOC_NODE 700 0 |>.put .LOC_PORT 700 16 |>.put .PORT_ROLE 16 2 |>.put .LOC_NODE 0xF003 0), 0, 8, { dest := 700, src := 0xF003, part := 3, cls := 0, inPort := 0, seq := 5, twin := 1, tlp := { kind := .memWrite, data := 64, fault := some .crossing } }, by decide +kernel⟩,
  ⟨(State.reset.put .PORT_ROLE 8 3 |>.put .OL_STATE 8 2 |>.put .NODE_ID 0 0 |>.put .LOC_NODE 700 0 |>.put .LOC_PORT 700 16 |>.put .PORT_ROLE 16 2 |>.put .LOC_NODE 0xF003 0).put .HUSK_STATE (partRow 3) 1, 0, 8, { dest := 700, src := 0xF003, part := 3, cls := 0, inPort := 0, seq := 5, twin := 1, tlp := { kind := .memWrite, data := 64 } }, by decide +kernel⟩,
  ⟨(State.reset.put .PORT_ROLE 8 3 |>.put .OL_STATE 8 2 |>.put .NODE_ID 0 0 |>.put .LOC_NODE 700 0 |>.put .LOC_PORT 700 16 |>.put .PORT_ROLE 16 2 |>.put .LOC_NODE 0xF003 0).put .HUSK_STATE 8 1, 0, 8, { dest := 700, src := 0xF003, part := 3, cls := 0, inPort := 0, seq := 5, twin := 1, tlp := { kind := .memWrite, data := 64 } }, by decide +kernel⟩,
  ⟨(State.reset.put .PORT_ROLE 8 3 |>.put .OL_STATE 8 2 |>.put .NODE_ID 0 0 |>.put .LOC_NODE 700 0 |>.put .LOC_PORT 700 16 |>.put .PORT_ROLE 16 2 |>.put .LOC_NODE 0xF003 0).put .LOC_NODE 700 4 |>.put .PLANE 0 0, 0, 8, { dest := 700, src := 0xF003, part := 3, cls := 0, inPort := 0, seq := 5, twin := 1, tlp := { kind := .memWrite, data := 64 } }, by decide +kernel⟩,
  ⟨(State.reset.put .PORT_ROLE 8 3 |>.put .OL_STATE 8 2 |>.put .NODE_ID 0 0 |>.put .LOC_NODE 700 0 |>.put .LOC_PORT 700 16 |>.put .PORT_ROLE 16 2 |>.put .LOC_NODE 0xF003 0).put .LOC_NODE 700 4 |>.put .PLANE 0 2 |>.put .ACTIVE_PORT 4 9 |>.put .PRIMARY_PORT 4 10, 0, 8, { dest := 700, src := 0xF003, part := 3, cls := 0, inPort := 0, seq := 5, twin := 1, tlp := { kind := .memWrite, data := 64 } }, by decide +kernel⟩,
  ⟨(State.reset.put .PORT_ROLE 8 3 |>.put .OL_STATE 8 2 |>.put .NODE_ID 0 0 |>.put .LOC_NODE 700 0 |>.put .LOC_PORT 700 16 |>.put .PORT_ROLE 16 2 |>.put .LOC_NODE 0xF003 0).put .LOC_NODE 700 4 |>.put .PLANE 0 2, 0, 8, { dest := 700, src := 0xF003, part := 3, cls := 0, inPort := 0, seq := 5, twin := 1, tlp := { kind := .memWrite, data := 64 } }, by decide +kernel⟩,
  ⟨{ (State.reset.put .PORT_ROLE 8 3 |>.put .OL_STATE 8 2 |>.put .NODE_ID 0 0 |>.put .LOC_NODE 700 0 |>.put .LOC_PORT 700 16 |>.put .PORT_ROLE 16 2 |>.put .LOC_NODE 0xF003 0) with rx := [(1, [{ port := 8, pkt := { cls := 0, tlp := { kind := .memWrite } }, why := .scheduled }])] }, 0, 8, { dest := 700, src := 0xF003, part := 3, cls := 0, inPort := 0, seq := 5, twin := 1, tlp := { kind := .memWrite, data := 64 } }, by decide +kernel⟩,
  ⟨(State.reset.put .PORT_ROLE 8 3 |>.put .OL_STATE 8 2 |>.put .NODE_ID 0 0 |>.put .LOC_NODE 700 0 |>.put .LOC_PORT 700 16 |>.put .PORT_ROLE 16 2 |>.put .LOC_NODE 0xF003 0), 0, 8, { dest := 700, src := 0xF003, part := 3, cls := 0, inPort := 0, seq := 5, twin := 1, tlp := { kind := .memWrite, data := 64 } }, by decide +kernel⟩,
  ⟨{ (State.reset.put .PORT_ROLE 8 3 |>.put .OL_STATE 8 2 |>.put .NODE_ID 0 0 |>.put .LOC_NODE 700 0 |>.put .LOC_PORT 700 16 |>.put .PORT_ROLE 16 2 |>.put .LOC_NODE 0xF003 0) with streams := [(24576, { count := 5 })] }, 24576, { dest := 700, src := 0xF003, part := 3, cls := 0, inPort := 0, seq := 5, tlp := { kind := .memWrite, data := 64 } }, by decide +kernel⟩,
  ⟨{ (State.reset.put .PORT_ROLE 8 3 |>.put .OL_STATE 8 2 |>.put .NODE_ID 0 0 |>.put .LOC_NODE 700 0 |>.put .LOC_PORT 700 16 |>.put .PORT_ROLE 16 2 |>.put .LOC_NODE 0xF003 0) with streams := [(24576, { count := 9 })] }, 24576, { dest := 700, src := 0xF003, part := 3, cls := 0, inPort := 0, seq := 5, tlp := { kind := .memWrite, data := 64 } }, by decide +kernel⟩,
  ⟨(State.reset.put .PORT_ROLE 8 3 |>.put .OL_STATE 8 2 |>.put .NODE_ID 0 0 |>.put .LOC_NODE 700 0 |>.put .LOC_PORT 700 16 |>.put .PORT_ROLE 16 2 |>.put .LOC_NODE 0xF003 0), 24576, { dest := 700, src := 0xF003, part := 3, cls := 0, inPort := 0, seq := 5, pseqValid := true, tlp := { kind := .memWrite, data := 64 } }, by decide +kernel⟩,
  ⟨(State.reset.put .PORT_ROLE 8 3 |>.put .OL_STATE 8 2 |>.put .NODE_ID 0 0 |>.put .LOC_NODE 700 0 |>.put .LOC_PORT 700 16 |>.put .PORT_ROLE 16 2 |>.put .LOC_NODE 0xF003 0), 24576, { dest := 700, src := 0xF003, part := 3, cls := 0, inPort := 0, seq := 5, tlp := { kind := .memWrite, data := 64 } }, by decide +kernel⟩,
  ⟨{ (State.reset.put .PORT_ROLE 8 3 |>.put .OL_STATE 8 2 |>.put .NODE_ID 0 0 |>.put .LOC_NODE 700 0 |>.put .LOC_PORT 700 16 |>.put .PORT_ROLE 16 2 |>.put .LOC_NODE 0xF003 0) with streams := [(24576, { count := 4, held := [{ dest := 700, src := 0xF003, part := 3, cls := 0, inPort := 0, seq := 5, tlp := { kind := .memWrite, data := 64 } }] })] }, 24576, { dest := 700, src := 0xF003, part := 3, cls := 0, inPort := 0, seq := 4, tlp := { kind := .memWrite, data := 64 } }, by decide +kernel⟩,
  ⟨State.reset, 0, 7, by decide +kernel⟩,
  ⟨{ (State.reset.put .PORT_ROLE 8 3 |>.put .OL_STATE 8 2 |>.put .NODE_ID 0 0 |>.put .LOC_NODE 700 0 |>.put .LOC_PORT 700 16 |>.put .PORT_ROLE 16 2 |>.put .LOC_NODE 0xF003 0) with streams := [(7, { count := 3, held := [{ dest := 700, src := 0xF003, part := 3, cls := 0, inPort := 0, seq := 5, tlp := { kind := .memWrite, data := 64 } }] })] }, us 1000000, 7, { dest := 700, src := 0xF003, part := 3, cls := 0, inPort := 0, seq := 5, tlp := { kind := .memWrite, data := 64 } }, by decide +kernel⟩,
  ⟨{ (State.reset.put .PORT_ROLE 8 3 |>.put .OL_STATE 8 2 |>.put .NODE_ID 0 0 |>.put .LOC_NODE 700 0 |>.put .LOC_PORT 700 16 |>.put .PORT_ROLE 16 2 |>.put .LOC_NODE 0xF003 0) with streams := [(7, { count := 3, held := [{ dest := 700, src := 0xF003, part := 3, cls := 0, inPort := 0, seq := 5, tlp := { kind := .memWrite, data := 64 } }] })] }, us 1000000, 7, { dest := 700, src := 0xF003, part := 3, cls := 0, inPort := 0, seq := 5, tlp := { kind := .memWrite, data := 64 } }, by decide +kernel⟩,
  ⟨{ State.reset with flagUntil := [(4, 9)] }, 9, 4, by decide +kernel⟩,
  ⟨{ State.reset with flagUntil := [(4, 9)] }, 8, 4, by decide +kernel⟩,
  ⟨State.reset, { dest := 700, src := 0xF003, part := 3, cls := 0, inPort := 0, seq := 5, twin := 1, tlp := { kind := .memWrite, data := 64 } }, by decide +kernel⟩,
  ⟨{ State.reset with rsvs := [(4, { x := 3, slots := [(5, { dest := 700, src := 0xF003, part := 3, cls := 0, inPort := 0, seq := 5, tlp := { kind := .memWrite, data := 64 } }, [])] })] }, 4, { dest := 700, src := 0xF003, part := 3, cls := 0, inPort := 0, seq := 5, rsv := 5, twin := 1, tlp := { kind := .memWrite, data := 64 } }, by decide +kernel⟩,
  ⟨State.reset, 0, 4, by decide +kernel⟩,
  ⟨{ State.reset with rsvs := [(4, { x := 3, timer := some 9 })] }, 9, 4, 9, by decide +kernel⟩,
  ⟨{ State.reset with rsvs := [(4, { x := 9 })] }, 4, { dest := 700, src := 0xF003, part := 3, cls := 0, inPort := 0, seq := 5, rsv := 5, twin := 1, tlp := { kind := .memWrite, data := 64 } }, by decide +kernel⟩,
  ⟨State.reset, 4, { dest := 700, src := 0xF003, part := 3, cls := 0, inPort := 0, seq := 5000, rsv := 5, twin := 1, tlp := { kind := .memWrite, data := 64 } }, by decide +kernel⟩,
  ⟨{ (State.reset.put .PORT_ROLE 8 3 |>.put .OL_STATE 8 2 |>.put .NODE_ID 0 0 |>.put .LOC_NODE 700 0 |>.put .LOC_PORT 700 16 |>.put .PORT_ROLE 16 2 |>.put .LOC_NODE 0xF003 0) with rsvs := [(4, { x := 3, slots := [(5, { dest := 700, src := 0xF003, part := 3, cls := 0, inPort := 0, seq := 5, tlp := { kind := .memWrite, data := 64 } }, [])], timer := some 9 })] }, 9, 4, 2, 9, by decide +kernel⟩⟩

theorem witness_BlocksSpillAndLeaksAreFound :
  (∃ (s : State) (t : Time) (k : Nat) (u : Sub) (q : Queue) (b : Block),
    s.errs = [] ∧ s.queues.find k = some q ∧ (q.sub u).stage = [] ∧ (q.sub u).seg = [b] ∧ b.state = .filling ∧ (b.cells.length = 16 ∨ (b.cells ≠ [] ∧ (q.sub u).lastStage + us 1 ≤ max s.now t))) ∧
  (∃ (s : State) (t : Time) (k : Nat) (u : Sub),
    ((s.at t).fillStage k u |>.subOf k u).openCells.length ≠ 16 ∧ (((s.at t).fillStage k u |>.subOf k u).openCells = [] ∨ max s.now t < ((s.at t).fillStage k u |>.subOf k u).lastStage + us 1)) ∧
  (∃ (s : State) (t : Time) (k : Nat) (u : Sub),
    (((s.at t).fillStage k u |>.subOf k u).openCells.length = 16 ∨ (((s.at t).fillStage k u |>.subOf k u).openCells ≠ [] ∧ ((s.at t).fillStage k u |>.subOf k u).lastStage + us 1 ≤ max s.now t))) ∧
  (∃ (s : State) (_t : Time) (k : Nat) (u : Sub) (q : Queue) (b : Block),
    s.errs = [] ∧ s.queues.find k = some q ∧ ((q.sub u).seg.find? (fun x => x.state = .writing) = some b) ∧ s.stackOk b.stack = true) ∧
  (∃ (s : State) (_t : Time) (k : Nat) (u : Sub) (q : Queue),
    s.errs = [] ∧ s.queues.find k = some q ∧ ((q.sub u).seg.all (fun b => b.state ≠ .writing || !s.stackOk b.stack) = true)) ∧
  (∃ (s : State) (t : Time) (k : Nat) (u : Sub) (q : Queue) (b : Block) (rest : List Block),
    s.errs = [] ∧ s.queues.find k = some q ∧ (q.sub u).seg = b :: rest ∧ b.state = .stored ∧ (q.sub u).head.length < s.get .DRAIN_WINDOW ∧ s.spillDue.2 ≤ max s.now t) ∧
  (∃ (s : State) (t : Time) (k : Nat) (u : Sub) (q : Queue),
    s.errs = [] ∧ s.queues.find k = some q ∧ ((q.sub u).seg.head?.all (fun b => b.state ≠ .stored) = true ∨ s.get .DRAIN_WINDOW ≤ (q.sub u).head.length ∨ max s.now t < s.spillDue.2)) ∧
  (∃ (s : State) (t : Time) (k : Nat) (u : Sub) (q : Queue) (b : Block) (rest : List Block) (cs : List Nat),
    s.errs = [] ∧ s.queues.find k = some q ∧ (q.sub u).seg = b :: rest ∧ b.state = .reading ∧ b.cells.length ≤ s.reserveFree ∧ s.stackOk b.stack = true ∧ b.lost = false ∧ (q.sub u).reached b.cells = [] ∧ (s.at t).xFull (.quadHbm (s.portNow k % 512 / 128) b.stack false) = false ∧ ((s.at t).allocCells (clusterOf (s.portNow k % 512)) (chargeWord 3 (s.portNow k % 512) (keyClass k)) b.cells.length).map (·.1) = some cs) ∧
  (∃ (s : State) (t : Time) (k : Nat) (u : Sub) (q : Queue) (b : Block) (rest : List Block) (ok : Bool),
    s.errs = [] ∧ s.queues.find k = some q ∧ (q.sub u).seg = b :: rest ∧ (b.state ≠ .reading ∨ (ok = true ∧ s.stackOk b.stack = true ∧ b.lost = false ∧ (q.sub u).reached b.cells = [] ∧ (s.reserveFree < b.cells.length ∨ ((s.at t).allocCells (clusterOf (s.portNow k % 512)) (chargeWord 3 (s.portNow k % 512) (keyClass k)) b.cells.length).isNone = true)) ∨ (s.at t).xFull (.quadHbm (s.portNow k % 512 / 128) b.stack false) = true)) ∧
  (∃ (s : State) (_t : Time) (k : Nat) (u : Sub) (q : Queue) (_ok : Bool),
    s.errs = [] ∧ s.queues.find k = some q ∧ (q.sub u).seg = []) ∧
  (∃ (s : State) (k : Nat) (u : Sub) (q : Queue) (b : Block) (rest : List Block) (ok : Bool) (c : Cel) (p : Pkt),
    s.queues.find k = some q ∧ (q.sub u).seg = b :: rest ∧ b.state = .reading ∧ (ok = false ∨ b.lost = true ∨ s.stackOk b.stack = false) ∧ c ∈ b.cells ∧ c.pkt = some p ∧ p.lost ≤ 2 ∧ b.cells.length ≤ s.reserveFree ∧ ((List.range (b.cells.length + 1)).all (fun n => (s.allocCells (clusterOf (s.portNow k % 512)) (chargeWord 3 (s.portNow k % 512) (keyClass k)) n).isSome) = true) ∧ s.xFull (.quadHbm (s.portNow k % 512 / 128) b.stack false) = false) ∧
  (∃ (s : State) (_t : Time) (k : Nat) (q : Queue),
    s.errs = [] ∧ s.queues.find k = some q ∧ q.canExit = true ∧ s.spillWaits k = false) ∧
  (∃ (s : State) (_t : Time) (k : Nat),
    s.errs = [] ∧ s.queues.find k = none) ∧
  (∃ (s : State) (_t : Time) (k : Nat) (q : Queue),
    s.errs = [] ∧ s.queues.find k = some q ∧ (q.canExit = false ∨ s.spillWaits k = true)) ∧
  (∃ (s : State) (_t : Time),
    s.errs = [] ∧ (∀ x ∈ s.paused, x.1 ≠ 7) ∧ s.strayCells = []) ∧
  (∃ (s : State) (_t : Time) (c : Nat),
    s.errs = [] ∧ (∀ x ∈ s.paused, x.1 ≠ 7) ∧ s.strayCells = [c] ∧ s.leaks.getD 0 c < 2) ∧
  (∃ (s : State) (_t : Time) (c : Nat),
    (∀ x ∈ s.paused, x.1 ≠ 7) ∧ s.strayCells = [c] ∧ s.leaks.getD 0 c = 2 ∧ s.get .BRAMBLE_POLICY = 1) ∧
  (∃ (s : State) (_t : Time) (c : Nat),
    (∀ x ∈ s.paused, x.1 ≠ 7) ∧ s.strayCells = [c] ∧ s.leaks.getD 0 c = 2 ∧ s.get .BRAMBLE_POLICY ≠ 1) ∧
  (∃ (s : State) (_t : Time),
    (∀ x ∈ s.paused, x.1 ≠ 7)) ∧
  (∃ (s : State) (_t : Time) (x : Nat × Nat),
    s.errs = [] ∧ x ∈ s.paused ∧ x.1 = 7) :=
  ⟨⟨{ (State.reset.put .REGION_STATE 12 0 |>.put .REGION_STATE 13 0 |>.put .REGION_STATE 8 0 |>.put .REGION_STATE 9 0 |>.put .REGION_STATE 10 0 |>.put .REGION_STATE 11 0) with cells := [(5, 49152)], queues := [((fqKey 3 8 0 0), { num := 1, port := 8, spill := true, posted := { seg := [{ cells := [{ idx := 5, first := true, last := true, stamp := 3, pkt := some { tlp := { kind := .memWrite } } }], stack := 0, state := .filling }] } })] }, us 1, (fqKey 3 8 0 0), .posted, { num := 1, port := 8, spill := true, posted := { seg := [{ cells := [{ idx := 5, first := true, last := true, stamp := 3, pkt := some { tlp := { kind := .memWrite } } }], stack := 0, state := .filling }] } }, { cells := [{ idx := 5, first := true, last := true, stamp := 3, pkt := some { tlp := { kind := .memWrite } } }], stack := 0, state := .filling }, by decide +kernel⟩,
  ⟨{ (State.reset.put .REGION_STATE 12 0 |>.put .REGION_STATE 13 0 |>.put .REGION_STATE 8 0 |>.put .REGION_STATE 9 0 |>.put .REGION_STATE 10 0 |>.put .REGION_STATE 11 0) with cells := [(5, 49152)], queues := [((fqKey 3 8 0 0), { num := 1, port := 8, spill := true, posted := { seg := [{ cells := [{ idx := 5, first := true, last := true, stamp := 3, pkt := some { tlp := { kind := .memWrite } } }], stack := 0, state := .filling }] } })] }, 0, (fqKey 3 8 0 0), .posted, by decide +kernel⟩,
  ⟨{ (State.reset.put .REGION_STATE 12 0 |>.put .REGION_STATE 13 0 |>.put .REGION_STATE 8 0 |>.put .REGION_STATE 9 0 |>.put .REGION_STATE 10 0 |>.put .REGION_STATE 11 0) with cells := [(5, 49152)], queues := [((fqKey 3 8 0 0), { num := 1, port := 8, spill := true, posted := { seg := [{ cells := [{ idx := 5, first := true, last := true, stamp := 3, pkt := some { tlp := { kind := .memWrite } } }], stack := 0, state := .filling }] } })] }, us 1, (fqKey 3 8 0 0), .posted, by decide +kernel⟩,
  ⟨{ (State.reset.put .REGION_STATE 12 0 |>.put .REGION_STATE 13 0 |>.put .REGION_STATE 8 0 |>.put .REGION_STATE 9 0 |>.put .REGION_STATE 10 0 |>.put .REGION_STATE 11 0) with cells := [(5, 49152)], queues := [((fqKey 3 8 0 0), { num := 1, port := 8, spill := true, posted := { seg := [{ cells := [{ idx := 5, first := true, last := true, stamp := 3, pkt := some { tlp := { kind := .memWrite } } }], stack := 0, state := .writing }] } })] }, 0, (fqKey 3 8 0 0), .posted, { num := 1, port := 8, spill := true, posted := { seg := [{ cells := [{ idx := 5, first := true, last := true, stamp := 3, pkt := some { tlp := { kind := .memWrite } } }], stack := 0, state := .writing }] } }, { cells := [{ idx := 5, first := true, last := true, stamp := 3, pkt := some { tlp := { kind := .memWrite } } }], stack := 0, state := .writing }, by decide +kernel⟩,
  ⟨{ (State.reset.put .REGION_STATE 12 0 |>.put .REGION_STATE 13 0 |>.put .REGION_STATE 8 0 |>.put .REGION_STATE 9 0 |>.put .REGION_STATE 10 0 |>.put .REGION_STATE 11 0) with cells := [(5, 49152)], queues := [((fqKey 3 8 0 0), { num := 1, port := 8, spill := true, posted := { seg := [{ cells := [{ idx := 5, first := true, last := true, stamp := 3, pkt := some { tlp := { kind := .memWrite } } }], stack := 0, state := .stored }] } })] }, 0, (fqKey 3 8 0 0), .posted, { num := 1, port := 8, spill := true, posted := { seg := [{ cells := [{ idx := 5, first := true, last := true, stamp := 3, pkt := some { tlp := { kind := .memWrite } } }], stack := 0, state := .stored }] } }, by decide +kernel⟩,
  ⟨{ (State.reset.put .REGION_STATE 12 0 |>.put .REGION_STATE 13 0 |>.put .REGION_STATE 8 0 |>.put .REGION_STATE 9 0 |>.put .REGION_STATE 10 0 |>.put .REGION_STATE 11 0) with cells := [(5, 49152)], queues := [((fqKey 3 8 0 0), { num := 1, port := 8, spill := true, posted := { seg := [{ cells := [{ idx := 5, first := true, last := true, stamp := 3, pkt := some { tlp := { kind := .memWrite } } }], stack := 0, state := .stored }] } })] }, 0, (fqKey 3 8 0 0), .posted, { num := 1, port := 8, spill := true, posted := { seg := [{ cells := [{ idx := 5, first := true, last := true, stamp := 3, pkt := some { tlp := { kind := .memWrite } } }], stack := 0, state := .stored }] } }, { cells := [{ idx := 5, first := true, last := true, stamp := 3, pkt := some { tlp := { kind := .memWrite } } }], stack := 0, state := .stored }, [], by decide +kernel⟩,
  ⟨{ (State.reset.put .REGION_STATE 12 0 |>.put .REGION_STATE 13 0 |>.put .REGION_STATE 8 0 |>.put .REGION_STATE 9 0 |>.put .REGION_STATE 10 0 |>.put .REGION_STATE 11 0) with cells := [(5, 49152)], queues := [((fqKey 3 8 0 0), { num := 1, port := 8, spill := true, posted := { seg := [{ cells := [{ idx := 5, first := true, last := true, stamp := 3, pkt := some { tlp := { kind := .memWrite } } }], stack := 0, state := .reading }] } })] }, 0, (fqKey 3 8 0 0), .posted, { num := 1, port := 8, spill := true, posted := { seg := [{ cells := [{ idx := 5, first := true, last := true, stamp := 3, pkt := some { tlp := { kind := .memWrite } } }], stack := 0, state := .reading }] } }, by decide +kernel⟩,
  ⟨{ (State.reset.put .REGION_STATE 12 0 |>.put .REGION_STATE 13 0 |>.put .REGION_STATE 8 0 |>.put .REGION_STATE 9 0 |>.put .REGION_STATE 10 0 |>.put .REGION_STATE 11 0) with cells := [(5, 49152)], queues := [((fqKey 3 8 0 0), { num := 1, port := 8, spill := true, posted := { seg := [{ cells := [{ idx := 5, first := true, last := true, stamp := 3, pkt := some { tlp := { kind := .memWrite } } }], stack := 0, state := .reading }] } })] }, 0, (fqKey 3 8 0 0), .posted, { num := 1, port := 8, spill := true, posted := { seg := [{ cells := [{ idx := 5, first := true, last := true, stamp := 3, pkt := some { tlp := { kind := .memWrite } } }], stack := 0, state := .reading }] } }, { cells := [{ idx := 5, first := true, last := true, stamp := 3, pkt := some { tlp := { kind := .memWrite } } }], stack := 0, state := .reading }, [], [0], by decide +kernel⟩,
  ⟨{ (State.reset.put .REGION_STATE 12 0 |>.put .REGION_STATE 13 0 |>.put .REGION_STATE 8 0 |>.put .REGION_STATE 9 0 |>.put .REGION_STATE 10 0 |>.put .REGION_STATE 11 0 |>.put .SPILL_RESERVE_CELLS 0 0) with cells := [(5, 49152)], queues := [((fqKey 3 8 0 0), { num := 1, port := 8, spill := true, posted := { seg := [{ cells := [{ idx := 5, first := true, last := true, stamp := 3, pkt := some { tlp := { kind := .memWrite } } }], stack := 0, state := .reading }] } })] }, 0, (fqKey 3 8 0 0), .posted, { num := 1, port := 8, spill := true, posted := { seg := [{ cells := [{ idx := 5, first := true, last := true, stamp := 3, pkt := some { tlp := { kind := .memWrite } } }], stack := 0, state := .reading }] } }, { cells := [{ idx := 5, first := true, last := true, stamp := 3, pkt := some { tlp := { kind := .memWrite } } }], stack := 0, state := .reading }, [], true, by decide +kernel⟩,
  ⟨{ (State.reset.put .REGION_STATE 12 0 |>.put .REGION_STATE 13 0 |>.put .REGION_STATE 8 0 |>.put .REGION_STATE 9 0 |>.put .REGION_STATE 10 0 |>.put .REGION_STATE 11 0) with cells := [(5, 49152)], queues := [((fqKey 3 8 0 0), { num := 1, port := 8, spill := true, posted := {  } })] }, 0, (fqKey 3 8 0 0), .posted, { num := 1, port := 8, spill := true, posted := {  } }, true, by decide +kernel⟩,
  ⟨{ (State.reset.put .REGION_STATE 12 0 |>.put .REGION_STATE 13 0 |>.put .REGION_STATE 8 0 |>.put .REGION_STATE 9 0 |>.put .REGION_STATE 10 0 |>.put .REGION_STATE 11 0) with cells := [(5, 49152)], queues := [((fqKey 3 8 0 0), { num := 1, port := 8, spill := true, posted := { seg := [{ cells := [{ idx := 5, first := true, last := true, stamp := 3, pkt := some { tlp := { kind := .memWrite } } }], stack := 0, state := .reading }] } })] }, (fqKey 3 8 0 0), .posted, { num := 1, port := 8, spill := true, posted := { seg := [{ cells := [{ idx := 5, first := true, last := true, stamp := 3, pkt := some { tlp := { kind := .memWrite } } }], stack := 0, state := .reading }] } }, { cells := [{ idx := 5, first := true, last := true, stamp := 3, pkt := some { tlp := { kind := .memWrite } } }], stack := 0, state := .reading }, [], false, { idx := 5, first := true, last := true, stamp := 3, pkt := some { tlp := { kind := .memWrite } } }, { tlp := { kind := .memWrite } }, by decide +kernel⟩,
  ⟨{ (State.reset.put .REGION_STATE 12 0 |>.put .REGION_STATE 13 0 |>.put .REGION_STATE 8 0 |>.put .REGION_STATE 9 0 |>.put .REGION_STATE 10 0 |>.put .REGION_STATE 11 0) with cells := [(5, 49152)], queues := [((fqKey 3 8 0 0), { num := 1, port := 8, spill := true, posted := {  } })] }, 0, (fqKey 3 8 0 0), { num := 1, port := 8, spill := true, posted := {  } }, by decide +kernel⟩,
  ⟨State.reset, 0, (fqKey 3 8 0 0), by decide +kernel⟩,
  ⟨{ (State.reset.put .REGION_STATE 12 0 |>.put .REGION_STATE 13 0 |>.put .REGION_STATE 8 0 |>.put .REGION_STATE 9 0 |>.put .REGION_STATE 10 0 |>.put .REGION_STATE 11 0) with cells := [(5, 49152)], queues := [((fqKey 3 8 0 0), { num := 1, port := 8, spill := true, posted := { seg := [{ cells := [{ idx := 5, first := true, last := true, stamp := 3, pkt := some { tlp := { kind := .memWrite } } }], stack := 0, state := .stored }] } })] }, 0, (fqKey 3 8 0 0), { num := 1, port := 8, spill := true, posted := { seg := [{ cells := [{ idx := 5, first := true, last := true, stamp := 3, pkt := some { tlp := { kind := .memWrite } } }], stack := 0, state := .stored }] } }, by decide +kernel⟩,
  ⟨State.reset, 0, by decide +kernel⟩,
  ⟨{ State.reset with cells := [(9, 0)] }, 0, 9, by decide +kernel⟩,
  ⟨{ State.reset.put .BRAMBLE_POLICY 0 1 with cells := [(9, 0)], leaks := [(9, 2)] }, 0, 9, by decide +kernel⟩,
  ⟨{ State.reset.put .BRAMBLE_POLICY 0 0 with cells := [(9, 0)], leaks := [(9, 2)] }, 0, 9, by decide +kernel⟩,
  ⟨{ State.reset with cells := [(9, 0)], leaks := [(9, 2)] }, 0, by decide +kernel⟩,
  ⟨{ State.reset with paused := [(7, 3)] }, 0, (7, 3), by decide +kernel⟩⟩

theorem witness_ReservationsAreStagedAdmittedAndKept :
  (∃ (s : State) (_t : Time) (req : Req) (r : Nat),
    s.errs = [] ∧ s.hears req ∧ s.resolve (s.principal req.path) 2 (entryOf .RSV_ACTION (some r) 1).addr = .obj .RSV_ACTION r ∧ s.switching = false) ∧
  (∃ (s : State) (_t : Time) (req : Req) (r : Nat),
    s.errs = [] ∧ s.hears req ∧ s.resolve (s.principal req.path) 2 (entryOf .RSV_ACTION (some r) 2).addr = .obj .RSV_ACTION r ∧ s.rsvGranted r = false) ∧
  (∃ (s : State) (_t : Time) (req : Req) (r : Nat),
    s.errs = [] ∧ s.hears req ∧ s.resolve (s.principal req.path) 2 (entryOf .RSV_ACTION (some r) 2).addr = .obj .RSV_ACTION r ∧ s.rsvGranted r = true ∧ s.switching = false) ∧
  (∃ (s : State) (_t : Time) (req : Req) (r : Nat),
    s.errs = [] ∧ s.hears req ∧ s.resolve (s.principal req.path) 2 (entryOf .RSV_ACTION (some r) 0).addr = .obj .RSV_ACTION r ∧ s.switching = false) ∧
  (∃ (s : State) (_t : Time) (req : Req) (r v : Nat),
    s.errs = [] ∧ s.hears req ∧ s.resolve (s.principal req.path) 2 (entryOf .RSV_ACTION (some r) v).addr = .obj .RSV_ACTION r ∧ 2 < v ∧ v < 256) ∧
  (∃ (s : State) (t : Time) (req : Req) (offers : List Time) (c : Nat),
    s.errs = [] ∧ s.hears req ∧ firstCode [s.mayInvoke req .RSV_COMMIT none, codeIf s.stagedRsvs.isEmpty 0x0102, codeIf (s.epochsRefused || s.get .PAIR_B_STATE ≠ 0) 0x0404, (s.at t).checkOffers offers, codeIf s.rsvJob.isSome 0x0501] = c ∧ c ≠ 0) ∧
  (∃ (s : State) (t : Time) (req : Req) (offers : List Time),
    s.errs = [] ∧ s.hears req ∧ s.mayInvoke req .RSV_COMMIT none = 0 ∧ s.stagedRsvs ≠ [] ∧ s.epochsRefused = false ∧ s.get .PAIR_B_STATE = 0 ∧ (s.at t).checkOffers offers = 0 ∧ s.rsvJob = none) ∧
  (∃ (s : State) (_t : Time) (req : Req) (_offers : List Time),
    s.errs = [] ∧ s.hears req ∧ s.mayInvoke req .RSV_COMMIT none = 0 ∧ s.stagedRsvs = []) ∧
  (∃ (s : State) (t : Time) (req : Req) (offers : List Time) (rows : List Nat) (r L : Nat),
    s.errs = [] ∧ s.rsvJob = some (req, offers, rows) ∧ s.get .PAIR_B_STATE = 0 ∧ rows = [r] ∧ s.get .RSV_STATE r = 1 ∧ s.admitRows s.grantedRows [r] = [(r, { bound := L })] ∧ s.unitsBusy (unitsOf (s.rsvNodes [r])) = false ∧ (∀ e ∈ offers, max s.now t + 3 * s.P ≤ e) ∧ offers ≠ []) ∧
  (∃ (s : State) (t : Time) (req : Req) (offers : List Time) (rows : List Nat) (r : Nat) (v : Verdict),
    s.errs = [] ∧ s.rsvJob = some (req, offers, rows) ∧ s.get .PAIR_B_STATE = 0 ∧ rows = [r] ∧ s.get .RSV_STATE r = 1 ∧ s.admitRows s.grantedRows [r] = [(r, v)] ∧ v.code ≠ 0 ∧ (∃ e ∈ offers, max s.now t + 3 * s.P ≤ e)) ∧
  (∃ (s : State) (t : Time) (req : Req) (offers : List Time) (rows : List Nat) (r : Nat),
    s.errs = [] ∧ s.rsvJob = some (req, offers, rows) ∧ s.get .PAIR_B_STATE = 0 ∧ rows = [r] ∧ s.get .RSV_STATE r ≠ 1 ∧ s.releaseStaged r = true ∧ s.unitsBusy (unitsOf (s.rsvNodes [r])) = false ∧ (∀ e ∈ offers, max s.now t + 3 * s.P ≤ e) ∧ offers ≠ []) ∧
  (∃ (s : State) (t : Time) (req : Req) (offers : List Time) (rows : List Nat) (r L : Nat),
    s.errs = [] ∧ s.rsvJob = some (req, offers, rows) ∧ s.get .PAIR_B_STATE = 0 ∧ rows = [r] ∧ s.get .RSV_STATE r = 1 ∧ s.admitRows s.grantedRows [r] = [(r, { bound := L })] ∧ (∀ e ∈ offers, e < max s.now t + 3 * s.P)) ∧
  (∃ (s : State) (_t : Time) (req : Req) (offers : List Time) (rows : List Nat),
    s.rsvJob = some (req, offers, rows) ∧ s.get .PAIR_B_STATE = 0) ∧
  (∃ (s : State) (_t : Time),
    s.errs = [] ∧ (s.rsvJob = none ∨ s.get .PAIR_B_STATE ≠ 0)) ∧
  (∃ (s : State) (_t : Time) (r : Nat),
    r < 16384 ∧ s.errs = [] ∧ ((s.get .RSV_STATE r ≠ 3 ∧ s.get .RSV_STATE r ≠ 4) ∨ s.get .PAIR_B_STATE ≠ 0)) ∧
  (∃ (s : State) (_t : Time) (r : Nat),
    r < 16384 ∧ (s.get .RSV_STATE r = 3 ∨ s.get .RSV_STATE r = 4) ∧ s.get .PAIR_B_STATE = 0) ∧
  (∃ (s : State) (_t : Time) (r : Nat),
    r < 16384 ∧ s.errs = [] ∧ s.get .RSV_STATE r = 3 ∧ s.get .PAIR_B_STATE = 0 ∧ s.get .RSV_TWIN r = 0 ∧ s.rsvBound s.grantedRows r s.gateWaitAt = none) ∧
  (∃ (s : State) (_t : Time) (r L : Nat),
    r < 16384 ∧ s.errs = [] ∧ (s.get .RSV_STATE r = 3 ∨ s.get .RSV_STATE r = 4) ∧ s.get .PAIR_B_STATE = 0 ∧ s.get .RSV_TWIN r = 0 ∧ s.rsvBound s.grantedRows r s.gateWaitAt = some L ∧ s.deadlineOf L ≤ s.get .RSV_DEADLINE_GRANTED r ∧ L ≤ periodNs (s.get .PIP_PERIOD) ∧ s.crossesOut r = false) :=
  ⟨⟨{ (State.reset.put .KEEPER_ROLE 0 1 |>.put .NODE_ID 0 0) with boot := .odtaku }, 0, { path := .smMailbox }, 5, by decide +kernel⟩,
  ⟨{ (State.reset.put .KEEPER_ROLE 0 1 |>.put .NODE_ID 0 0) with boot := .odtaku }, 0, { path := .smMailbox }, 5, by decide +kernel⟩,
  ⟨{ (State.reset.put .KEEPER_ROLE 0 1 |>.put .NODE_ID 0 0 |>.put .RSV_STATE 5 3) with boot := .odtaku }, 0, { path := .smMailbox }, 5, by decide +kernel⟩,
  ⟨{ (State.reset.put .KEEPER_ROLE 0 1 |>.put .NODE_ID 0 0 |>.put .RSV_STATE 5 1) with boot := .odtaku }, 0, { path := .smMailbox }, 5, by decide +kernel⟩,
  ⟨{ (State.reset.put .KEEPER_ROLE 0 1 |>.put .NODE_ID 0 0) with boot := .odtaku }, 0, { path := .smMailbox }, 5, 3, by decide +kernel⟩,
  ⟨{ (State.reset.put .KEEPER_ROLE 0 1 |>.put .NODE_ID 0 0 |>.put .PAIR_B_STATE 0 1 |>.put .RSV_STATE 5 1) with boot := .odtaku }, 0, { path := .smMailbox }, [ns 125000 * 8], 0x0404, by decide +kernel⟩,
  ⟨{ (State.reset.put .KEEPER_ROLE 0 1 |>.put .NODE_ID 0 0 |>.put .RSV_STATE 5 1) with boot := .odtaku }, 0, { path := .smMailbox }, [ns 125000 * 8], by decide +kernel⟩,
  ⟨{ (State.reset.put .KEEPER_ROLE 0 1 |>.put .NODE_ID 0 0) with boot := .odtaku }, 0, { path := .smMailbox }, [ns 125000 * 8], by decide +kernel⟩,
  ⟨{ (State.reset.put .KEEPER_ROLE 0 1 |>.put .NODE_ID 0 0 |>.put .RSV_STATE 5 1 |>.put .RSV_SRC_NODE 5 0 |>.put .RSV_DST_NODE 5 0 |>.put .RSV_SRC_PORT 5 8 |>.put .RSV_DST_PORT 5 16 |>.put .RSV_CLASS 5 6 |>.put .RSV_BYTES_PER_PIP 5 64 |>.put .RSV_TLPS_PER_PIP 5 1 |>.put .RSV_DEADLINE_REQ 5 2000000 |>.put .RSV_DEADLINE_GRANTED 5 126000) with boot := .odtaku, rsvJob := some ({ path := .smMailbox }, [ns 125000 * 8], [5]) }, 0, { path := .smMailbox }, [ns 125000 * 8], [5], 5, 561, by decide +kernel⟩,
  ⟨{ (State.reset.put .KEEPER_ROLE 0 1 |>.put .NODE_ID 0 0 |>.put .RSV_STATE 5 1 |>.put .RSV_SRC_NODE 5 0 |>.put .RSV_DST_NODE 5 0 |>.put .RSV_SRC_PORT 5 8 |>.put .RSV_DST_PORT 5 16 |>.put .RSV_CLASS 5 6 |>.put .RSV_BYTES_PER_PIP 5 64 |>.put .RSV_TLPS_PER_PIP 5 1 |>.put .RSV_DEADLINE_REQ 5 200 |>.put .RSV_DEADLINE_GRANTED 5 126000) with boot := .odtaku, rsvJob := some ({ path := .smMailbox }, [ns 125000 * 8], [5]) }, 0, { path := .smMailbox }, [ns 125000 * 8], [5], 5, { code := 0x0601, hop := 1, cause := 1, bound := 561 }, by decide +kernel⟩,
  ⟨{ (State.reset.put .KEEPER_ROLE 0 1 |>.put .NODE_ID 0 0 |>.put .RSV_SRC_NODE 5 0 |>.put .RSV_DST_NODE 5 0 |>.put .RSV_SRC_PORT 5 8 |>.put .RSV_DST_PORT 5 16 |>.put .RSV_CLASS 5 6 |>.put .RSV_BYTES_PER_PIP 5 64 |>.put .RSV_TLPS_PER_PIP 5 1 |>.put .RSV_DEADLINE_REQ 5 2000000 |>.put .RSV_DEADLINE_GRANTED 5 126000 |>.put .RSV_STATE 5 3) with boot := .odtaku, rsvJob := some ({ path := .smMailbox }, [ns 125000 * 8], [5]), staged := [{ obj := .RSV_ACTION, row := 5, val := 2 }] }, 0, { path := .smMailbox }, [ns 125000 * 8], [5], 5, by decide +kernel⟩,
  ⟨{ (State.reset.put .KEEPER_ROLE 0 1 |>.put .NODE_ID 0 0 |>.put .RSV_STATE 5 1 |>.put .RSV_SRC_NODE 5 0 |>.put .RSV_DST_NODE 5 0 |>.put .RSV_SRC_PORT 5 8 |>.put .RSV_DST_PORT 5 16 |>.put .RSV_CLASS 5 6 |>.put .RSV_BYTES_PER_PIP 5 64 |>.put .RSV_TLPS_PER_PIP 5 1 |>.put .RSV_DEADLINE_REQ 5 2000000 |>.put .RSV_DEADLINE_GRANTED 5 126000) with boot := .odtaku, rsvJob := some ({ path := .smMailbox }, [ns 125000 * 8], [5]) }, ns 125000 * 7, { path := .smMailbox }, [ns 125000 * 8], [5], 5, 561, by decide +kernel⟩,
  ⟨{ (State.reset.put .KEEPER_ROLE 0 1 |>.put .NODE_ID 0 0 |>.put .RSV_STATE 5 1) with boot := .odtaku, rsvJob := some ({ path := .smMailbox }, [ns 125000 * 8], [5]) }, 0, { path := .smMailbox }, [ns 125000 * 8], [5], by decide +kernel⟩,
  ⟨State.reset, 0, by decide +kernel⟩,
  ⟨State.reset, 0, 5, by decide +kernel⟩,
  ⟨{ (State.reset.put .KEEPER_ROLE 0 1 |>.put .NODE_ID 0 0 |>.put .RSV_STATE 5 3 |>.put .RSV_TWIN 5 1) with boot := .odtaku }, 0, 5, by decide +kernel⟩,
  ⟨{ (State.reset.put .KEEPER_ROLE 0 1 |>.put .NODE_ID 0 0 |>.put .RSV_STATE 5 3 |>.put .RSV_SRC_NODE 5 0 |>.put .RSV_DST_NODE 5 1 |>.put .RSV_SRC_PORT 5 8 |>.put .RSV_DST_PORT 5 16 |>.put .RSV_CLASS 5 6 |>.put .RSV_BYTES_PER_PIP 5 64 |>.put .RSV_TLPS_PER_PIP 5 1 |>.put .RSV_DEADLINE_REQ 5 200 |>.put .RSV_DEADLINE_GRANTED 5 126000) with boot := .odtaku }, 0, 5, by decide +kernel⟩,
  ⟨{ (State.reset.put .KEEPER_ROLE 0 1 |>.put .NODE_ID 0 0 |>.put .RSV_STATE 5 3 |>.put .RSV_SRC_NODE 5 0 |>.put .RSV_DST_NODE 5 0 |>.put .RSV_SRC_PORT 5 8 |>.put .RSV_DST_PORT 5 16 |>.put .RSV_CLASS 5 6 |>.put .RSV_BYTES_PER_PIP 5 64 |>.put .RSV_TLPS_PER_PIP 5 1 |>.put .RSV_DEADLINE_REQ 5 200 |>.put .RSV_DEADLINE_GRANTED 5 126000) with boot := .odtaku }, 0, 5, 561, by decide +kernel⟩⟩

theorem witness_GateListsAreStagedAndSwitched :
  (∃ (s : State) (_t : Time) (req : Req) (bank i v : Nat),
    s.errs = [] ∧ s.hears req ∧ s.resolve (s.principal req.path) 2 (entryOf .GL_ENTRY (some (glKey (bank / 2) (bank % 2) i)) v).addr = .obj .GL_ENTRY (glKey (bank / 2) (bank % 2) i) ∧ i < 1024 ∧ 8192 ≤ v ∧ v < 2 ^ 32 ∧ s.get .GL_BANK_STATE bank ≤ 1 ∧ s.switching = false) ∧
  (∃ (s : State) (_t : Time) (req : Req) (bank i v : Nat),
    s.errs = [] ∧ s.hears req ∧ s.resolve (s.principal req.path) 2 (entryOf .GL_ENTRY (some (glKey (bank / 2) (bank % 2) i)) v).addr = .obj .GL_ENTRY (glKey (bank / 2) (bank % 2) i) ∧ i < 1024 ∧ 8192 ≤ v ∧ v < 2 ^ 32 ∧ 2 ≤ s.get .GL_BANK_STATE bank) ∧
  (∃ (s : State) (_t : Time) (req : Req) (bank n _v : Nat),
    s.errs = [] ∧ s.hears req ∧ s.resolve (s.principal req.path) 2 (entryOf .GL_LENGTH (some bank) n).addr = .obj .GL_LENGTH bank ∧ n ≤ 1024 ∧ s.get .GL_BANK_STATE bank ≤ 1 ∧ s.switching = false) ∧
  (∃ (s : State) (_t : Time) (req : Req) (bank n _v : Nat),
    s.errs = [] ∧ s.hears req ∧ s.resolve (s.principal req.path) 2 (entryOf .GL_CYCLE_PIPS (some bank) n).addr = .obj .GL_CYCLE_PIPS bank ∧ 1 ≤ n ∧ n ≤ 16 ∧ s.get .GL_BANK_STATE bank ≤ 1 ∧ s.switching = false) ∧
  (∃ (s : State) (_t : Time) (req : Req) (bank i n m v : Nat),
    s.errs = [] ∧ s.hears req ∧ s.resolve (s.principal req.path) 2 (entryOf .GL_ENTRY (some (glKey (bank / 2) (bank % 2) i)) v).addr = .obj .GL_ENTRY (glKey (bank / 2) (bank % 2) i) ∧ s.resolve (s.principal req.path) 2 (entryOf .GL_LENGTH (some bank) n).addr = .obj .GL_LENGTH bank ∧ s.resolve (s.principal req.path) 2 (entryOf .GL_CYCLE_PIPS (some bank) m).addr = .obj .GL_CYCLE_PIPS bank ∧ i < 1024 ∧ 8192 ≤ v ∧ v < 2 ^ 32 ∧ n ≤ 1024 ∧ 1 ≤ m ∧ m ≤ 16 ∧ s.get .GL_BANK_STATE bank ≤ 1 ∧ s.switching = false) ∧
  (∃ (s : State) (_t : Time) (req : Req) (bank i v : Nat),
    s.errs = [] ∧ s.hears req ∧ s.resolve (s.principal req.path) 2 (entryOf .GL_ENTRY (some (glKey (bank / 2) (bank % 2) i)) v).addr = .obj .GL_ENTRY (glKey (bank / 2) (bank % 2) i) ∧ i < 1024 ∧ v < 8192) ∧
  (∃ (s : State) (t : Time) (req : Req) (offers : List Time),
    s.errs = [] ∧ s.hears req ∧ s.mayInvoke req .GATE_SWITCH none = 0 ∧ s.stagedBanks ≠ [] ∧ s.epochsRefused = false ∧ s.get .PAIR_B_STATE = 0 ∧ (s.at t).checkOffers offers = 0 ∧ s.stagedBanks.any s.bankTooLong = false ∧ ((s.stagedBanks.any fun b => s.misaligned b offers) = false) ∧ (s.blockedBy s.stagedBanks).isNone = true ∧ s.unitsBusy (unitsOf (nub (s.stagedBanks.map (·.1)))) = false) ∧
  (∃ (s : State) (_t : Time) (req : Req) (_offers : List Time),
    s.errs = [] ∧ s.hears req ∧ s.mayInvoke req .GATE_SWITCH none = 0 ∧ s.stagedBanks = []) ∧
  (∃ (s : State) (t : Time) (req : Req) (offers : List Time) (c : Nat),
    s.errs = [] ∧ s.hears req ∧ s.mayInvoke req .GATE_SWITCH none = 0 ∧ (firstCode [codeIf s.stagedBanks.isEmpty 0x0102, codeIf (s.epochsRefused || s.get .PAIR_B_STATE ≠ 0) 0x0404, (s.at t).checkOffers offers, codeIf (s.stagedBanks.any s.bankTooLong) 0x0301, codeIf (s.stagedBanks.any fun b => s.misaligned b offers) 0x0301, codeIf (s.blockedBy s.stagedBanks).isSome 0x0601, codeIf (s.unitsBusy (unitsOf (nub (s.stagedBanks.map (·.1))))) 0x0602] = c) ∧ c ≠ 0) :=
  ⟨⟨{ (State.reset.put .KEEPER_ROLE 0 1 |>.put .NODE_ID 0 0 |>.put .GL_BANK_STATE 16 1) with boot := .odtaku }, 0, { path := .smMailbox }, 16, 3, 0x2801, by decide +kernel⟩,
  ⟨{ (State.reset.put .KEEPER_ROLE 0 1 |>.put .NODE_ID 0 0 |>.put .GL_BANK_STATE 16 3) with boot := .odtaku }, 0, { path := .smMailbox }, 16, 3, 0x2801, by decide +kernel⟩,
  ⟨{ (State.reset.put .KEEPER_ROLE 0 1 |>.put .NODE_ID 0 0 |>.put .GL_BANK_STATE 16 1) with boot := .odtaku }, 0, { path := .smMailbox }, 16, 3, 0, by decide +kernel⟩,
  ⟨{ (State.reset.put .KEEPER_ROLE 0 1 |>.put .NODE_ID 0 0 |>.put .GL_BANK_STATE 16 1) with boot := .odtaku }, 0, { path := .smMailbox }, 16, 3, 0, by decide +kernel⟩,
  ⟨{ (State.reset.put .KEEPER_ROLE 0 1 |>.put .NODE_ID 0 0 |>.put .GL_BANK_STATE 16 1) with boot := .odtaku }, 0, { path := .smMailbox }, 16, 3, 4, 1, 0x2801, by decide +kernel⟩,
  ⟨{ (State.reset.put .KEEPER_ROLE 0 1 |>.put .NODE_ID 0 0) with boot := .odtaku }, 0, { path := .smMailbox }, 16, 3, 0x1F01, by decide +kernel⟩,
  ⟨{ (State.reset.put .KEEPER_ROLE 0 1 |>.put .NODE_ID 0 0 |>.put .GL_BANK_STATE 16 1 |>.put .GL_LENGTH 16 1 |>.put .GL_ENTRY 16384 0x2801 |>.put .GL_CYCLE_PIPS 16 1) with boot := .odtaku }, 0, { path := .smMailbox }, [ns 125000 * 8], by decide +kernel⟩,
  ⟨{ (State.reset.put .KEEPER_ROLE 0 1 |>.put .NODE_ID 0 0) with boot := .odtaku }, 0, { path := .smMailbox }, [ns 125000 * 8], by decide +kernel⟩,
  ⟨{ (State.reset.put .KEEPER_ROLE 0 1 |>.put .NODE_ID 0 0 |>.put .GL_BANK_STATE 16 1 |>.put .GL_LENGTH 16 1 |>.put .GL_ENTRY 16384 0xFFFFFF01 |>.put .GL_CYCLE_PIPS 16 1) with boot := .odtaku }, 0, { path := .smMailbox }, [ns 125000 * 8], 0x0301, by decide +kernel⟩⟩

theorem witness_ErrorsAreRecordedAndHusksReleased :
  (∃ (s : State) (_t : Time) (req : Req) (row : Nat),
    s.errs = [] ∧ s.hears req ∧ s.mayInvoke req .HUSK_COMMAND (some row) = 0 ∧ 0x1000 ≤ row ∧ s.get .HUSK_STATE row = 0 ∧ s.openRec (huskErr row) = none ∧ s.log.length < 4096 ∧ s.get .PARTITION_STATE (row - 0x1000) ≠ 0) ∧
  (∃ (s : State) (_t : Time) (req : Req) (row : Nat),
    s.hears req ∧ s.mayInvoke req .HUSK_COMMAND (some row) = 0 ∧ s.get .HUSK_STATE row = 0) ∧
  (∃ (s : State) (_t : Time) (req : Req) (row : Nat),
    s.errs = [] ∧ s.hears req ∧ s.mayInvoke req .HUSK_COMMAND (some row) = 0 ∧ s.get .HUSK_STATE row ≠ 0) ∧
  (∃ (s : State) (_t : Time) (row : Nat),
    (row < 512 ∨ 4096 ≤ row) ∧ row < 8192 ∧ s.errs = [] ∧ s.husked row = true ∧ s.drained row = true) ∧
  (∃ (s : State) (_t : Time) (row : Nat),
    (row < 512 ∨ 4096 ≤ row) ∧ row < 8192 ∧ s.errs = [] ∧ (s.husked row = false ∨ s.drained row = false)) ∧
  (∃ (s : State) (t : Time) (req : Req) (row : Nat),
    s.errs = [] ∧ s.hears req ∧ s.mayInvoke req .HUSK_RELEASE (some row) = 0 ∧ s.releasable row = true ∧ (row < 512 ∨ (((s.at t).arrive req).othersDrained).1 = true)) ∧
  (∃ (s : State) (t : Time) (req : Req) (row : Nat),
    s.errs = [] ∧ s.hears req ∧ s.mayInvoke req .HUSK_RELEASE (some row) = 0 ∧ (s.releasable row = false ∨ (512 ≤ row ∧ (((s.at t).arrive req).othersDrained).1 = false))) ∧
  (∃ (s : State) (e : Err),
    s.actionOf e = 0 ∧ s.openRec e = none ∧ s.log.length < 4096) ∧
  (∃ (s : State) (e : Err) (r : Rec),
    s.actionOf e = 0 ∧ s.openRec e = some r ∧ e.cls ≤ r.cls ∧ (sameClock r.time s.now = false ∨ e.before r.err = false ∨ e.code = r.err.code) ∧ (∀ x ∈ s.log, x ≠ r → ¬(x.seq = r.seq ∧ x.time = r.time))) ∧
  (∃ (s : State) (e : Err) (r : Rec),
    s.actionOf e = 0 ∧ s.openRec e = some r ∧ r.cls < e.cls ∧ sameClock r.time s.now = false ∧ s.log.length < 4096 ∧ (∀ x ∈ s.log, x ≠ r → ¬(x.seq = r.seq ∧ x.time = r.time))) ∧
  (∃ (s : State) (e : Err) (r : Rec),
    s.actionOf e = 0 ∧ s.openRec e = some r ∧ sameClock r.time s.now = true ∧ e.before r.err = true ∧ e.code ≠ r.err.code ∧ (∀ x ∈ s.log, x ≠ r → ¬(x.seq = r.seq ∧ x.time = r.time))) :=
  ⟨⟨{ (State.reset.put .PARTITION_STATE 3 2) with boot := .odtaku }, 0, { path := .smMailbox }, 4099, by decide +kernel⟩,
  ⟨{ (State.reset) with boot := .odtaku }, 0, { path := .smMailbox }, 9, by decide +kernel⟩,
  ⟨{ (State.reset.put .HUSK_STATE 4099 1 |>.put .HUSK_DRAINED 4099 1 |>.put .HUSK_CAUSE 4099 0x2006) with boot := .odtaku }, 0, { path := .smMailbox }, 4099, by decide +kernel⟩,
  ⟨State.reset.put .HUSK_STATE 9 1, 0, 9, by decide +kernel⟩,
  ⟨State.reset, 0, 9, by decide +kernel⟩,
  ⟨{ (State.reset.put .HUSK_STATE 4099 1 |>.put .HUSK_DRAINED 4099 1 |>.put .HUSK_CAUSE 4099 0x2006) with boot := .odtaku }, 0, { path := .smMailbox }, 4099, by decide +kernel⟩,
  ⟨{ (State.reset) with boot := .odtaku }, 0, { path := .smMailbox }, 4099, by decide +kernel⟩,
  ⟨State.reset, { code := 0x1001, kind := 2, idx := 9 }, by decide +kernel⟩,
  ⟨{ State.reset with log := [{ entry := 0, seq := 4, time := 3, err := { code := 0x1001, kind := 2, idx := 9 }, cls := 0, action := 0, node := 0 }] }, { code := 0x1002, kind := 2, idx := 9 }, { entry := 0, seq := 4, time := 3, err := { code := 0x1001, kind := 2, idx := 9 }, cls := 0, action := 0, node := 0 }, by decide +kernel⟩,
  ⟨{ State.reset.put .ERR_POLICY 0x2009 0 with log := [{ entry := 0, seq := 4, time := 70000, err := { code := 0x1001, kind := 2, idx := 9 }, cls := 0, action := 0, node := 0 }] }, { code := 0x2009, kind := 2, idx := 9 }, { entry := 0, seq := 4, time := 70000, err := { code := 0x1001, kind := 2, idx := 9 }, cls := 0, action := 0, node := 0 }, by decide +kernel⟩,
  ⟨{ State.reset.put .ERR_POLICY 0x2009 0 with log := [{ entry := 0, seq := 4, time := 3, err := { code := 0x1001, kind := 2, idx := 9 }, cls := 0, action := 0, node := 0 }] }, { code := 0x2009, kind := 2, idx := 9 }, { entry := 0, seq := 4, time := 3, err := { code := 0x1001, kind := 2, idx := 9 }, cls := 0, action := 0, node := 0 }, by decide +kernel⟩⟩

theorem witness_RegionsRestartAfterBist :
  (∃ (s : State) (_t : Time) (req : Req) (r : Nat),
    s.errs = [] ∧ s.hears req ∧ s.mayInvoke req .REGION_RESTART none = 0 ∧ r < 14 ∧ s.get .REGION_STATE r = 2) ∧
  (∃ (s : State) (_t : Time) (req : Req) (r : Nat),
    s.errs = [] ∧ s.hears req ∧ s.mayInvoke req .REGION_RESTART none = 0 ∧ (14 ≤ r ∨ s.get .REGION_STATE r ≠ 2)) ∧
  (∃ (s : State) (t : Time) (r : Nat),
    r < 15 ∧ s.errs = [] ∧ s.get .REGION_STATE r = 3 ∧ (s.regions.getD {} r).heldAt + ms 10 ≤ max s.now t ∧ (s.regions.getD {} r).overLimit = []) ∧
  (∃ (s : State) (t : Time) (r : Nat),
    r < 15 ∧ s.errs = [] ∧ (s.get .REGION_STATE r ≠ 3 ∨ max s.now t < (s.regions.getD {} r).heldAt + ms 10 ∨ (s.regions.getD {} r).overLimit ≠ [])) ∧
  (∃ (s : State) (_t : Time) (r : Nat) (_l : List (Nat × Nat)),
    r < 15 ∧ s.errs = [] ∧ s.inBist r = false) ∧
  (∃ (s : State) (_t : Time) (r : Nat) (_l : List (Nat × Nat)),
    r < 15 ∧ s.inBist r = true) ∧
  (∃ (s : State) (_t : Time) (r : Nat),
    r < 15 ∧ s.errs = [] ∧ (r < 8 ∨ 12 ≤ r ∨ (s.get .REGION_STATE r ≠ 2 ∧ s.get .REGION_STATE r ≠ 3))) ∧
  (∃ (s : State) (_t : Time) (r : Nat),
    r < 15 ∧ s.errs = [] ∧ s.inBist r = true ∧ s.get .REGION_STATE r = 4 ∧ s.boot = .rom ∧ (∀ x ∈ s.log, x.old = false) ∧ (s.regions.getD {} r).sweep = [] ∧ capLevel (s.get .CAP_STEP) = 8) ∧
  (∃ (s : State) (_t : Time) (r m _row : Nat),
    r < 15 ∧ s.errs = [] ∧ s.inBist r = true ∧ s.get .REGION_STATE r = 4 ∧ s.boot = .rom ∧ (s.regions.getD {} r).sweep = [] ∧ capLevel (s.get .CAP_STEP) = 8 ∧ s.remaps.getD 0 (r * 256 + m % 256) < 64) ∧
  (∃ (s : State) (_t : Time) (r m _row : Nat),
    r < 15 ∧ s.errs = [] ∧ s.inBist r = true ∧ s.get .REGION_STATE r = 4 ∧ s.boot = .rom ∧ (s.regions.getD {} r).sweep = [] ∧ capLevel (s.get .CAP_STEP) = 8 ∧ s.remaps.getD 0 (r * 256 + m % 256) = 64 ∧ bankMemory r m = true) ∧
  (∃ (s : State) (_t : Time) (r m _row : Nat),
    r < 14 ∧ (r < 8 ∨ 12 ≤ r) ∧ s.inBist r = true ∧ s.get .REGION_STATE r = 4 ∧ s.remaps.getD 0 (r * 256 + m % 256) = 64 ∧ s.badCells.Nodup ∧ s.badCells.Pairwise (· < ·)) ∧
  (∃ (s : State) (_t : Time) (r : Nat),
    8 ≤ r ∧ r < 12 ∧ s.errs = [] ∧ (s.get .REGION_STATE r = 2 ∨ s.get .REGION_STATE r = 3)) ∧
  (∃ (_s : State) (_t : Time) (k : Nat),
    k < 2) :=
  ⟨⟨{ (State.reset.put .REGION_STATE 5 2) with boot := .odtaku }, 0, { path := .smMailbox }, 5, by decide +kernel⟩,
  ⟨{ (State.reset) with boot := .odtaku }, 0, { path := .smMailbox }, 5, by decide +kernel⟩,
  ⟨State.reset.put .REGION_STATE 5 3, ms 10, 5, by decide +kernel⟩,
  ⟨State.reset, 0, 5, by decide +kernel⟩,
  ⟨State.reset.put .REGION_STATE 5 0, 0, 5, [], by decide +kernel⟩,
  ⟨{ State.reset with boot := .rom }, 0, 5, [(3, 77), (4, 9)], by decide +kernel⟩,
  ⟨State.reset.put .REGION_STATE 9 0, 0, 9, by decide +kernel⟩,
  ⟨{ State.reset with boot := .rom }, 0, 5, by decide +kernel⟩,
  ⟨{ State.reset with boot := .rom }, 0, 9, 3, 77, by decide +kernel⟩,
  ⟨{ State.reset with boot := .rom, remaps := [(2307, 64)] }, 0, 9, 3, 77, by decide +kernel⟩,
  ⟨{ State.reset with boot := .rom, remaps := [(1283, 64)] }, 0, 5, 3, 77, by decide +kernel⟩,
  ⟨{ State.reset.put .REGION_STATE 9 2 with cells := [(20, 0)], regions := [(9, { sweep := [20] })] }, 0, 9, by decide +kernel⟩,
  ⟨State.reset, 0, 1, by decide +kernel⟩⟩

theorem witness_RequestsAreHeardOnceAndInVersionOne :
  (∃ (s : State) (_t : Time) (req : Req) (_l : List ObjAddr),
    s.errs = [] ∧ (s.odtakuUp = false ∨ s.pathOpen req.path = false)) ∧
  (∃ (s : State) (_t : Time) (req : Req) (_offers : List Time) (_l : List WEntry),
    s.errs = [] ∧ (s.odtakuUp = false ∨ s.pathOpen req.path = false)) ∧
  (∃ (s : State) (_t : Time) (req : Req) (_offers : List Time) (_l : List WEntry) (a : Answer),
    s.errs = [] ∧ s.odtakuUp = true ∧ s.pathOpen req.path = true ∧ s.cached req = some a) ∧
  (∃ (s : State) (_t : Time) (req : Req) (_l : List ObjAddr),
    s.errs = [] ∧ s.odtakuUp = true ∧ s.pathOpen req.path = true ∧ s.cached req = none ∧ (req.path.limit < req.size ∨ req.version ≠ 1)) ∧
  (∃ (s : State) (c : Instr) (t : Time) (req : Req),
    c.message = some (t, req) ∧ c.wf = true ∧ (s.odtakuUp = false ∨ s.pathOpen req.path = false)) ∧
  (∃ (s : State) (c : Instr) (t : Time) (req : Req) (a : Answer),
    c.message = some (t, req) ∧ c.wf = true ∧ s.odtakuUp = true ∧ s.pathOpen req.path = true ∧ s.cached req = some a) ∧
  (∃ (s : State) (c : Instr) (t : Time) (req : Req),
    c.message = some (t, req) ∧ c.wf = true ∧ s.odtakuUp = true ∧ s.pathOpen req.path = true ∧ s.cached req = none ∧ (req.path.limit < req.size ∨ req.version ≠ 1)) ∧
  (∃ (s : State) (c : Instr) (t : Time) (req : Req) (o : Obj) (row : Option Nat) (code : Nat),
    c.message = some (t, req) ∧ c.invocation = some (o, row) ∧ c.wf = true ∧ s.hears req ∧ s.mayInvoke req o row = code ∧ code ≠ 0) :=
  ⟨⟨State.reset, 0, { path := .smMailbox }, [], by decide +kernel⟩,
  ⟨State.reset, 0, { path := .smMailbox }, [], [], by decide +kernel⟩,
  ⟨{ (State.reset) with boot := .odtaku, cache := [{ path := .smMailbox, tag := 7, code := 0, body := [1] }] }, 0, { path := .smMailbox, tag := 7 }, [], [], { path := .smMailbox, tag := 7, code := 0, body := [1] }, by decide +kernel⟩,
  ⟨{ (State.reset) with boot := .odtaku }, 0, { path := .smMailbox, version := 2 }, [], by decide +kernel⟩,
  ⟨State.reset, .read 0 { path := .smMailbox } [], 0, { path := .smMailbox }, by decide +kernel⟩,
  ⟨{ (State.reset) with boot := .odtaku, cache := [{ path := .smMailbox, tag := 7, code := 0, body := [1] }] }, .read 0 { path := .smMailbox, tag := 7 } [], 0, { path := .smMailbox, tag := 7 }, { path := .smMailbox, tag := 7, code := 0, body := [1] }, by decide +kernel⟩,
  ⟨{ (State.reset) with boot := .odtaku }, .read 0 { path := .smMailbox, version := 2 } [], 0, { path := .smMailbox, version := 2 }, by decide +kernel⟩,
  ⟨{ (State.reset) with boot := .odtaku }, .acuFence 0 { path := .mailbox 3 }, 0, { path := .mailbox 3 }, .ACU_FENCE, none, 0x0201, by decide +kernel⟩⟩

theorem witness_ReadsReturnEntriesAndChangeNothing :
  (∃ (s : State) (_t : Time) (req : Req) (l : List ObjAddr),
    s.errs = [] ∧ s.hears req ∧ l.length ≤ 32) ∧
  (∃ (s : State) (_t : Time) (req : Req) (l : List ObjAddr),
    s.errs = [] ∧ s.hears req ∧ 32 < l.length) ∧
  (∃ (s : State) (_t : Time) (req : Req) (a : ObjAddr) (subs : List Nat),
    s.errs = [] ∧ s.hears req ∧ subs.length ≤ 32 ∧ a.row.isSome = true) ∧
  (∃ (s : State) (_t : Time) (req : Req) (a : ObjAddr) (_n mode : Nat),
    s.errs = [] ∧ s.hears req ∧ mode ≤ 2 ∧ (mode = 0 ∨ ((Dict.rows a.idx).isSome = true ∧ a.row.isSome = true)) ∧ Dict.atIndex a.idx ≠ []) ∧
  (∃ (s : State) (_t : Time) (req : Req) (_a : ObjAddr) (_n mode : Nat),
    s.errs = [] ∧ s.hears req ∧ 2 < mode) ∧
  (∃ (s : State) (_t : Time) (req : Req) (l : List ObjAddr),
    s.hears req ∧ l.length ≤ 32) ∧
  (∃ (s : State) (_t : Time) (req : Req) (a : ObjAddr) (subs : List Nat),
    s.hears req ∧ subs.length ≤ 32 ∧ a.row.isSome = true) ∧
  (∃ (s : State) (_t : Time) (req : Req) (a : ObjAddr) (subs : List Nat),
    s.errs = [] ∧ s.hears req ∧ (32 < subs.length ∨ a.row.isNone = true)) ∧
  (∃ (s : State) (_t : Time) (req : Req) (a : ObjAddr) (_n mode : Nat),
    s.errs = [] ∧ s.hears req ∧ mode ≤ 2 ∧ ((mode ≠ 0 ∧ ¬((Dict.rows a.idx).isSome = true ∧ a.row.isSome = true)) ∨ Dict.atIndex a.idx = [])) :=
  ⟨⟨{ (State.reset) with boot := .odtaku }, 0, { path := .smMailbox }, [{ idx := 0x1000, sub := 1 }], by decide +kernel⟩,
  ⟨{ (State.reset) with boot := .odtaku }, 0, { path := .smMailbox }, List.replicate 33 { idx := 0x1000, sub := 1 }, by decide +kernel⟩,
  ⟨{ (State.reset) with boot := .odtaku }, 0, { path := .smMailbox }, { idx := 0x8000, sub := 1, row := some 3 }, [1, 2], by decide +kernel⟩,
  ⟨{ (State.reset) with boot := .odtaku }, 0, { path := .smMailbox }, { idx := 0x8000, sub := 1, row := some 3 }, 4, 0, by decide +kernel⟩,
  ⟨{ (State.reset) with boot := .odtaku }, 0, { path := .smMailbox }, { idx := 0x8000, sub := 1 }, 4, 3, by decide +kernel⟩,
  ⟨{ (State.reset) with boot := .odtaku }, 0, { path := .smMailbox }, [{ idx := 0x1000, sub := 1 }], by decide +kernel⟩,
  ⟨{ (State.reset) with boot := .odtaku }, 0, { path := .smMailbox }, { idx := 0x8000, sub := 1, row := some 3 }, [1, 2], by decide +kernel⟩,
  ⟨{ (State.reset) with boot := .odtaku }, 0, { path := .smMailbox }, { idx := 0x8000, sub := 1 }, [1, 2], by decide +kernel⟩,
  ⟨{ (State.reset) with boot := .odtaku }, 0, { path := .smMailbox }, { idx := 0x8000, sub := 1 }, 4, 1, by decide +kernel⟩⟩

theorem witness_WriteSetsAreTakenWholeOrNotAtAll :
  (∃ (s : State) (t : Time) (req : Req) (l : List WEntry) (c i : Nat),
    s.errs = [] ∧ s.hears req ∧ l.length ≤ 32 ∧ ((s.at t).arrive req).firstFailure req l = some (c, i) ∧ c ≠ 0) ∧
  (∃ (s : State) (t : Time) (req : Req) (a : ObjAddr) (l : List WEntry) (c i : Nat),
    s.errs = [] ∧ s.hears req ∧ l.length ≤ 32 ∧ a.row.isSome = true ∧ (∀ e ∈ l, e.addr.idx = a.idx ∧ e.addr.row = a.row) ∧ ((s.at t).arrive req).firstFailure req l = some (c, i) ∧ c ≠ 0) ∧
  (∃ (s : State) (t : Time) (req : Req) (l : List WEntry) (u : State),
    s.hears req ∧ l.length ≤ 32 ∧ ((s.at t).arrive req).allTaken req l = some u) ∧
  (∃ (s : State) (t : Time) (req : Req) (a : ObjAddr) (l : List WEntry) (u : State),
    s.hears req ∧ l.length ≤ 32 ∧ a.row.isSome = true ∧ (∀ e ∈ l, e.addr.idx = a.idx ∧ e.addr.row = a.row) ∧ ((s.at t).arrive req).allTaken req l = some u) ∧
  (∃ (s : State) (_t : Time) (req : Req) (_offers : List Time) (_l : List WEntry),
    s.hears req) ∧
  (∃ (s : State) (_t : Time) (req : Req) (a : ObjAddr) (_l : List WEntry),
    s.errs = [] ∧ s.hears req ∧ a.row = none) ∧
  (∃ (s : State) (t : Time) (req : Req) (offers : List Time) (l : List WEntry) (c i : Nat),
    s.errs = [] ∧ s.hears req ∧ offers ≠ [] ∧ l.length ≤ 32 ∧ (match ((s.at t).arrive req).writeAll ((s.at t).arrive req) (s.principal req.path) offers 0 l with
      | .error x => some x
      | .ok _ => none) = some (c, i) ∧ c ≠ 0) ∧
  (∃ (s : State) (_t : Time) (req : Req) (p v : Nat),
    s.errs = [] ∧ s.hears req ∧ s.resolve (s.principal req.path) 2 (entryOf .CPL_TIMEOUT (some p) v).addr = .obj .CPL_TIMEOUT p ∧ 40 ≤ v ∧ v ≤ 64000000 ∧ s.switching = false) ∧
  (∃ (s : State) (_t : Time) (req : Req) (p v : Nat),
    s.errs = [] ∧ s.hears req ∧ s.resolve (s.principal req.path) 2 (entryOf .CPL_TIMEOUT (some p) v).addr = .obj .CPL_TIMEOUT p ∧ 40 ≤ v ∧ v ≤ 64000000 ∧ s.switching = true) ∧
  (∃ (s : State) (_t : Time) (req : Req) (l : List WEntry),
    s.errs = [] ∧ s.hears req ∧ 32 < l.length) ∧
  (∃ (s : State) (_t : Time) (req : Req) (a : ObjAddr) (l : List WEntry) (e : WEntry),
    s.errs = [] ∧ s.hears req ∧ e ∈ l ∧ e.addr.row ≠ a.row) :=
  ⟨⟨{ (State.reset) with boot := .odtaku }, 0, { path := .smMailbox }, [(entryOf .CPL_TIMEOUT (some 3) 9000), (entryOf .CPL_TIMEOUT (some 3) 1)], 0x0301, 1, by decide +kernel⟩,
  ⟨{ (State.reset) with boot := .odtaku }, 0, { path := .smMailbox }, { idx := 0x5500, sub := 1, row := some 3 }, [(entryOf .CPL_TIMEOUT (some 3) 1)], 0x0301, 0, by decide +kernel⟩,
  ⟨{ State.reset with boot := .odtaku }, 0, { path := .smMailbox }, [entryOf .CPL_TIMEOUT (some 3) 9000], ((({ State.reset with boot := .odtaku }.at 0).arrive { path := .smMailbox }).allTaken { path := .smMailbox } [entryOf .CPL_TIMEOUT (some 3) 9000]).get (by decide +kernel), by decide +kernel, by decide +kernel, (Option.some_get _).symm⟩,
  ⟨{ State.reset with boot := .odtaku }, 0, { path := .smMailbox }, { idx := 0x5500, sub := 1, row := some 3 }, [], ((({ State.reset with boot := .odtaku }.at 0).arrive { path := .smMailbox }).allTaken { path := .smMailbox } []).get (by decide +kernel), by decide +kernel, by decide +kernel, by decide +kernel, by decide +kernel, (Option.some_get _).symm⟩,
  ⟨{ (State.reset) with boot := .odtaku }, 0, { path := .smMailbox }, [ns 125000 * 8], [], by decide +kernel⟩,
  ⟨{ (State.reset) with boot := .odtaku }, 0, { path := .smMailbox }, { idx := 0x5500, sub := 1 }, [], by decide +kernel⟩,
  ⟨{ (State.reset) with boot := .odtaku }, 0, { path := .smMailbox }, [ns 125000 * 8], [(entryOf .CPL_TIMEOUT (some 3) 1)], 0x0301, 0, by decide +kernel⟩,
  ⟨{ (State.reset) with boot := .odtaku }, 0, { path := .smMailbox }, 3, 9000, by decide +kernel⟩,
  ⟨{ (State.reset.put .NODE_ID 0 0) with boot := .odtaku, reqs := [{ num := 1, kind := 1, offers := [], units := [], work := .profile 1 0 1 }] }, 0, { path := .smMailbox }, 3, 9000, by decide +kernel⟩,
  ⟨{ (State.reset) with boot := .odtaku }, 0, { path := .smMailbox }, List.replicate 33 (entryOf .CPL_TIMEOUT (some 3) 9000), by decide +kernel⟩,
  ⟨{ (State.reset) with boot := .odtaku }, 0, { path := .smMailbox }, { idx := 0x5500, sub := 1, row := some 4 }, [(entryOf .CPL_TIMEOUT (some 3) 9000)], (entryOf .CPL_TIMEOUT (some 3) 9000), by decide +kernel⟩⟩

theorem witness_SessionsOpenCloseAndSubscribe :
  (∃ (s : State) (_t : Time) (hash chain peer a : Nat),
    s.errs = [] ∧ s.anchorOf hash = some a ∧ s.handshakeOk chain true true true peer = true ∧ s.freeSessions 0 ≠ []) ∧
  (∃ (s : State) (_t : Time) (hash chain peer : Nat) (b c d : Bool),
    s.errs = [] ∧ (s.anchorOf hash = none ∨ s.handshakeOk chain b c d peer = false)) ∧
  (∃ (s : State) (_t : Time) (_hash _chain _peer : Nat) (_b _c _d : Bool),
    s.errs = [] ∧ s.freeSessions 0 = []) ∧
  (∃ (s : State) (t : Time) (n : Nat),
    n < 16 ∧ s.errs = [] ∧ (s.get .SESSION_STATE n = 0 ∨ max s.now t < (s.sessions.getD {} n).last + ms (1000 * s.get .HEXSUM_IDLE_TIMEOUT))) ∧
  (∃ (s : State) (t : Time) (n : Nat),
    n < 16 ∧ s.errs = [] ∧ s.get .SESSION_STATE n ≠ 0 ∧ (s.sessions.getD {} n).last + ms (1000 * s.get .HEXSUM_IDLE_TIMEOUT) ≤ max s.now t) ∧
  (∃ (s : State) (_t : Time) (req : Req) (n : Nat),
    s.errs = [] ∧ s.hears req ∧ s.mayInvoke req .SESSION_CLOSE (some n) = 0) ∧
  (∃ (s : State) (_t : Time) (req : Req) (a v : Nat),
    s.errs = [] ∧ s.hears req ∧ s.resolve (s.principal req.path) 2 { idx := 0x1810, sub := 3, row := some a } = .obj .TRUST_VALID a ∧ v ≤ 1) ∧
  (∃ (s : State) (_t : Time) (req : Req) (v : Nat),
    s.errs = [] ∧ s.hears req ∧ s.resolve (s.principal req.path) 2 { idx := 0x1802, sub := 2 } = .obj .MGMT_IPV4_ADDR 0 ∧ v < 2 ^ 32 ∧ v ≠ s.get .MGMT_IPV4_ADDR) ∧
  (∃ (s : State) (_t : Time) (req : Req) (_a _sub _ty _len _v : Nat),
    s.hears req) ∧
  (∃ (s : State) (_t : Time) (req : Req) (_sub _ty _len _v : Nat),
    s.hears req) ∧
  (∃ (s : State) (_t : Time) (req : Req) (_n _period : Nat) (_l : List ObjAddr),
    s.hears req) ∧
  (∃ (s : State) (_t : Time) (req : Req) (n period : Nat) (l : List ObjAddr),
    s.errs = [] ∧ s.hears req ∧ 0 < period ∧ period ≤ 1024 ∧ l.length ≤ 16 ∧ n ≠ 0 ∧ (∃ x ∈ s.subs, x.path = req.path ∧ x.id = n) ∧ s.addrsCode (s.principal req.path) l = 0) ∧
  (∃ (s : State) (_t : Time) (req : Req) (n period : Nat) (l : List ObjAddr) (c : Nat),
    s.errs = [] ∧ s.hears req ∧ 0 < period ∧ (firstCode [codeIf (decide (1024 < period)) 0x0301, codeIf (decide (16 < l.length)) 0x0302, codeIf (n ≠ 0 && !(s.subs.filter fun (x : SubH) => x.path = req.path).any fun (x : SubH) => x.id = n) 0x0102, s.addrsCode (s.principal req.path) l, codeIf (n = 0 && (decide (8 ≤ (s.subs.filter fun (x : SubH) => x.path = req.path).length) || decide (256 ≤ s.subs.length))) 0x0602] = c) ∧ c ≠ 0) ∧
  (∃ (s : State) (_t : Time) (req : Req) (period : Nat) (l : List ObjAddr),
    s.errs = [] ∧ s.hears req ∧ 0 < period ∧ period ≤ 1024 ∧ l.length ≤ 16 ∧ s.addrsCode (s.principal req.path) l = 0 ∧ ((s.subs.filter fun (x : SubH) => x.path = req.path).length < 8) ∧ s.subs.length < 256) ∧
  (∃ (s : State) (_t : Time) (req : Req) (n : Nat) (_l : List ObjAddr),
    s.errs = [] ∧ s.hears req ∧ (∃ x ∈ s.subs, x.path = req.path ∧ x.id = n)) ∧
  (∃ (s : State) (_t : Time) (req : Req) (n : Nat) (_l : List ObjAddr),
    s.errs = [] ∧ s.hears req ∧ (∀ x ∈ s.subs, ¬(x.path = req.path ∧ x.id = n))) ∧
  (∃ (s : State) (_t : Time) (req : Req) (n : Nat),
    s.errs = [] ∧ s.hears req ∧ (∃ x ∈ s.subs, x.path = req.path ∧ x.id = n)) ∧
  (∃ (s : State) (_t : Time) (req : Req) (_n : Nat),
    s.errs = [] ∧ s.hears req) ∧
  (∃ (s : State) (_t : Time) (req : Req) (n k : Nat),
    s.errs = [] ∧ s.hears req ∧ (1 < k ∨ (k = 1 ∧ ∀ x ∈ s.subs, ¬(x.path = req.path ∧ x.id = n)))) :=
  ⟨⟨{ (State.reset.put .TRUST_VALID 2 1 |>.put .TRUST_HASH 2 99 |>.put .MGMT_ETH_MODE 0 1 |>.put .HEXSUM_ENABLE 0 1) with boot := .odtaku }, 0, 99, 2, 0x3FA * 2 ^ 134, 2, by decide +kernel⟩,
  ⟨{ (State.reset) with boot := .odtaku }, 0, 99, 2, 5, true, true, true, by decide +kernel⟩,
  ⟨{ (State.reset.put .SESSION_STATE 0 2 |>.put .SESSION_STATE 1 2 |>.put .SESSION_STATE 2 2 |>.put .SESSION_STATE 3 2 |>.put .SESSION_STATE 4 2 |>.put .SESSION_STATE 5 2 |>.put .SESSION_STATE 6 2 |>.put .SESSION_STATE 7 2 |>.put .SESSION_STATE 8 2 |>.put .SESSION_STATE 9 2 |>.put .SESSION_STATE 10 2 |>.put .SESSION_STATE 11 2 |>.put .SESSION_STATE 12 2 |>.put .SESSION_STATE 13 2 |>.put .SESSION_STATE 14 2 |>.put .SESSION_STATE 15 2) with boot := .odtaku }, 0, 99, 2, 5, true, true, true, by decide +kernel⟩,
  ⟨{ (State.reset.put .SESSION_STATE 3 2) with boot := .odtaku }, 0, 3, by decide +kernel⟩,
  ⟨{ (State.reset.put .SESSION_STATE 3 2) with boot := .odtaku }, ms 400000, 3, by decide +kernel⟩,
  ⟨{ (State.reset.put .SESSION_STATE 3 2) with boot := .odtaku }, 0, { path := .smMailbox }, 3, by decide +kernel⟩,
  ⟨{ (State.reset.put .SESSION_STATE 3 2) with boot := .odtaku }, 0, { path := .smMailbox }, 2, 0, by decide +kernel⟩,
  ⟨{ (State.reset.put .SESSION_STATE 3 2) with boot := .odtaku }, 0, { path := .smMailbox }, 77, by decide +kernel⟩,
  ⟨{ (State.reset.put .SESSION_STATE 3 2) with boot := .odtaku }, 0, { path := .smMailbox }, 2, 1, 10, 32, 77, by decide +kernel⟩,
  ⟨{ (State.reset.put .SESSION_STATE 3 2) with boot := .odtaku }, 0, { path := .smMailbox }, 4, 10, 16, 77, by decide +kernel⟩,
  ⟨{ (State.reset) with boot := .odtaku }, 0, { path := .smMailbox }, 4, 2, [], by decide +kernel⟩,
  ⟨{ (State.reset) with boot := .odtaku, subs := [{ id := 4, path := .smMailbox, period := 8, addrs := [] }] }, 0, { path := .smMailbox }, 4, 2, [], by decide +kernel⟩,
  ⟨{ (State.reset) with boot := .odtaku }, 0, { path := .smMailbox }, 0, 1025, [], 0x0301, by decide +kernel⟩,
  ⟨{ (State.reset) with boot := .odtaku }, 0, { path := .smMailbox }, 8, [{ idx := 0x1000, sub := 1 }], by decide +kernel⟩,
  ⟨{ (State.reset) with boot := .odtaku, subs := [{ id := 4, path := .smMailbox, period := 8, addrs := [] }] }, 0, { path := .smMailbox }, 4, [], by decide +kernel⟩,
  ⟨{ (State.reset) with boot := .odtaku }, 0, { path := .smMailbox }, 4, [], by decide +kernel⟩,
  ⟨{ (State.reset) with boot := .odtaku, subs := [{ id := 4, path := .smMailbox, period := 8, addrs := [] }] }, 0, { path := .smMailbox }, 4, by decide +kernel⟩,
  ⟨{ (State.reset) with boot := .odtaku }, 0, { path := .smMailbox }, 4, by decide +kernel⟩,
  ⟨{ (State.reset) with boot := .odtaku }, 0, { path := .smMailbox }, 4, 1, by decide +kernel⟩⟩

theorem witness_PortRolesAndSlotsAreSet :
  (∃ (s : State) (_t : Time) (req : Req) (port : Nat),
    s.errs = [] ∧ s.hears req ∧ s.resolve (s.principal req.path) 2 (entryOf .PORT_ROLE (some port) 1).addr = .obj .PORT_ROLE port ∧ s.portQuiet port = true ∧ rateSuits 1 (s.newest .MAX_RATE port) = true ∧ s.switching = false ∧ s.get .PORT_ROLE port ≠ 3 ∧ s.get .PORT_ROLE port ≠ 2 ∧ (s.put .PORT_ROLE port 1).sizesSoon.poolTooSmall = false ∧ s.hostHeld port = false) ∧
  (∃ (s : State) (_t : Time) (req : Req) (port : Nat),
    s.errs = [] ∧ s.hears req ∧ s.resolve (s.principal req.path) 2 (entryOf .PORT_ROLE (some port) 0).addr = .obj .PORT_ROLE port ∧ s.portQuiet port = true ∧ s.switching = false ∧ s.get .PORT_ROLE port ≠ 3 ∧ (s.put .PORT_ROLE port 0).sizesSoon.poolTooSmall = false ∧ (s.perstH (clusterOf port)).asserted = true ∧ (∀ q ∈ s.slotPorts (clusterOf port), q = port)) ∧
  (∃ (s : State) (_t : Time) (req : Req) (port v : Nat),
    s.errs = [] ∧ s.hears req ∧ s.resolve (s.principal req.path) 2 (entryOf .MAX_RATE (some port) v).addr = .obj .MAX_RATE port ∧ s.portQuiet port = true ∧ s.switching = false ∧ s.get .PORT_ROLE port = 0 ∧ 1 ≤ v ∧ v ≤ 6) ∧
  (∃ (s : State) (_t : Time) (req : Req) (port v : Nat),
    s.errs = [] ∧ s.hears req ∧ s.resolve (s.principal req.path) 2 (entryOf .PORT_ROLE (some port) v).addr = .obj .PORT_ROLE port ∧ v ≤ 3 ∧ rateSuits v (s.newest .MAX_RATE port) = true ∧ s.get .TRAIN_STATE port ≠ 0 ∧ (v = 3 ∨ s.get .PORT_ROLE port ≠ 3)) ∧
  (∃ (s : State) (_t : Time) (req : Req) (c : Nat),
    s.errs = [] ∧ s.hears req ∧ s.resolve (s.principal req.path) 2 (entryOf .SP_ENABLE (some c) 0).addr = .obj .SP_ENABLE c ∧ s.switching = false ∧ s.get .SP_STATE c = 5 ∧ (s.perstH c).asserted = true) ∧
  (∃ (s : State) (_t : Time) (req : Req) (c : Nat),
    s.errs = [] ∧ s.hears req ∧ s.resolve (s.principal req.path) 2 (entryOf .SP_ENABLE (some c) 0).addr = .obj .SP_ENABLE c ∧ (s.get .SP_STATE c = 3 ∨ s.get .SP_STATE c = 4) ∧ s.clusterFree c = false) ∧
  (∃ (s : State) (_t : Time) (req : Req) (c : Nat),
    s.errs = [] ∧ s.hears req ∧ s.resolve (s.principal req.path) 2 (entryOf .SP_ENABLE (some c) 1).addr = .obj .SP_ENABLE c ∧ s.switching = false ∧ s.slotHeld c = false ∧ s.get .SP_STATE c = 0 ∧ (s.slot c).seated = false ∧ (s.perstH c).asserted = true) ∧
  (∃ (s : State) (_t : Time) (req : Req) (port : Nat) (_role _width _rate : Option Nat),
    port < 512 ∧ s.hears req) ∧
  (∃ (s : State) (_t : Time) (req : Req) (c _v : Nat),
    c < 64 ∧ s.hears req) :=
  ⟨⟨{ (State.reset.put .MAX_RATE 8 6) with boot := .odtaku }, 0, { path := .smMailbox }, 8, by decide +kernel⟩,
  ⟨{ (State.reset.put .PORT_ROLE 8 2 |>.put .MAX_RATE 8 6) with boot := .odtaku }, 0, { path := .smMailbox }, 8, by decide +kernel⟩,
  ⟨{ (State.reset) with boot := .odtaku }, 0, { path := .smMailbox }, 8, 5, by decide +kernel⟩,
  ⟨{ (State.reset.put .TRAIN_STATE 8 8) with boot := .odtaku }, 0, { path := .smMailbox }, 8, 0, by decide +kernel⟩,
  ⟨{ (State.reset.put .SP_ENABLE 3 1 |>.put .SP_STATE 3 5) with boot := .odtaku }, 0, { path := .smMailbox }, 3, by decide +kernel⟩,
  ⟨{ (State.reset.put .SP_STATE 3 4 |>.put .PORT_ROLE 24 2 |>.put .FN_PORT 700 24 |>.put .FN_NODE 700 0 |>.put .NODE_ID 0 0 |>.put .GFID 5 700 |>.put .KIND 5 1 |>.put .GRAFT_STATE 5 3) with boot := .odtaku, grafts := [(5, { inForce := true })] }, 0, { path := .smMailbox }, 3, by decide +kernel⟩,
  ⟨{ (State.reset) with boot := .odtaku }, 0, { path := .smMailbox }, 3, by decide +kernel⟩,
  ⟨{ (State.reset) with boot := .odtaku }, 0, { path := .smMailbox }, 8, some 2, some 8, some 5, by decide +kernel⟩,
  ⟨{ (State.reset) with boot := .odtaku }, 0, { path := .smMailbox }, 3, 1, by decide +kernel⟩⟩

theorem validOn_of (s : State) (k n : Nat) (h : k = s.node) (h1 : s.get .PROF_VALID n = 1)
    (h2 : s.get .PROF_CHECK n = (s.profiles.getD {} n).crc) : s.validOn k n = true := by
  simp [State.validOn, State.profileValid, h, h1, h2]

/-- A chip of the witnesses whose profile 1 is valid: no value, and one differing class-B value. -/
def validChip (l : List (Obj × Nat × Nat)) : State :=
  { State.reset with boot := .odtaku, profiles := [(1, { vals := l })], objs := [(.PROF_VALID, [(1, 1)]), (.PROF_CHECK, [(1, ProfileH.crc { vals := l })])] }

theorem witness_ProfilesAreSavedErasedAndSwitched :
  (∃ (s : State) (_t : Time) (req : Req) (n : Nat),
    s.errs = [] ∧ s.hears req ∧ s.mayInvoke req .PROFILE_SAVE none = 0 ∧ n < 4 ∧ s.storeBusy = false) ∧
  (∃ (s : State) (_t : Time) (req : Req) (n : Nat),
    s.errs = [] ∧ s.hears req ∧ s.mayInvoke req .PROFILE_SAVE none = 0 ∧ (4 ≤ n ∨ s.storeBusy = true)) ∧
  (∃ (s : State) (_t : Time) (req : Req) (n : Nat),
    s.errs = [] ∧ s.hears req ∧ s.mayInvoke req .PROFILE_ERASE none = 0 ∧ n < 4 ∧ n ≠ s.get .ACTIVE_PROFILE ∧ s.storeBusy = false) ∧
  (∃ (s : State) (_t : Time) (req : Req) (n : Nat),
    s.errs = [] ∧ s.hears req ∧ s.mayInvoke req .PROFILE_ERASE none = 0 ∧ (4 ≤ n ∨ n = s.get .ACTIVE_PROFILE ∨ s.storeBusy = true)) ∧
  (∃ (s : State) (_t : Time) (op : StoreOp) (p : ProfileH),
    s.errs = [] ∧ s.storeOp = some op ∧ op.save = true ∧ op.taken = some p) ∧
  (∃ (s : State) (_t : Time) (op : StoreOp),
    s.errs = [] ∧ s.storeOp = some op ∧ op.save = false) ∧
  (∃ (s : State) (_t : Time),
    s.errs = [] ∧ (s.storeOp = none ∨ s.storeOp.any (fun o => o.save && o.taken.isNone) = true)) ∧
  (∃ (s : State) (o : Obj) (r v : Nat),
    (o, r, v) ∈ s.takeProfile.vals) ∧
  (∃ (s : State) (o : Obj) (r : Nat),
    o ∈ profObjs ∧ s.saveVal o r ≠ o.default r ∧ (s.pendB.all (fun h => h.obj ≠ o || h.row ≠ r) = true)) ∧
  (∃ (s : State) (t : Time) (req : Req) (offers : List Time) (n force nodes : Nat),
    s.errs = [] ∧ s.hears req ∧ s.mayInvoke req .PROFILE_SWITCH none = 0 ∧ n < 4 ∧ force ≤ 1 ∧ (∀ k ∈ s.named nodes, k ∈ s.live ∧ s.validOn k n = true) ∧ ((s.named nodes).foldl (fun m k => m ||| s.diffClasses k n) 0 < 8 ∨ force = 1) ∧ s.epochsRefused = false ∧ s.get .PAIR_B_STATE = 0 ∧ (s.at t).checkOffers offers = 0 ∧ (s.node ∉ s.named nodes ∨ s.storeBusy = false) ∧ s.unitsBusy (unitsOf (nub (s.named nodes ++ (s.diffNodes n).filter (· < 32)))) = false) ∧
  (∃ (s : State) (_t : Time) (req : Req) (_offers : List Time) (n force nodes : Nat),
    s.errs = [] ∧ s.hears req ∧ s.mayInvoke req .PROFILE_SWITCH none = 0 ∧ (4 ≤ n ∨ 2 ≤ force ∨ ∃ k ∈ s.named nodes, k ∉ s.live ∨ s.validOn k n = false)) ∧
  (∃ (s : State) (_t : Time) (req : Req) (_offers : List Time) (n nodes : Nat),
    s.errs = [] ∧ s.hears req ∧ s.mayInvoke req .PROFILE_SWITCH none = 0 ∧ n < 4 ∧ (∀ k ∈ s.named nodes, k ∈ s.live ∧ s.validOn k n = true) ∧ (8 ≤ (s.named nodes).foldl (fun m k => m ||| s.diffClasses k n) 0)) ∧
  (∃ (s : State) (_t : Time) (req : Req) (_n : Nat),
    s.hears req ∧ s.mayInvoke req .PROFILE_SAVE none = 0) ∧
  (∃ (s : State) (_t : Time) (req : Req) (_n : Nat),
    s.hears req ∧ s.mayInvoke req .PROFILE_ERASE none = 0) ∧
  (∃ (s : State) (_t : Time) (req : Req) (_offers : List Time) (_n _force _nodes : Nat),
    s.hears req ∧ s.mayInvoke req .PROFILE_SWITCH none = 0) ∧
  (∃ (s : State) (t : Time) (req : Req) (offers : List Time) (n force nodes c : Nat),
    s.errs = [] ∧ s.hears req ∧ s.mayInvoke req .PROFILE_SWITCH none = 0 ∧ n < 4 ∧ force ≤ 1 ∧ (∀ k ∈ s.named nodes, k ∈ s.live ∧ s.validOn k n = true) ∧ (firstCode [codeIf (decide (8 ≤ (s.named nodes).foldl (fun m k => m ||| s.diffClasses k n) 0) && force = 0) 0x0401, codeIf (s.epochsRefused || s.get .PAIR_B_STATE ≠ 0) 0x0404, (s.at t).checkOffers offers,
      codeIf ((s.named nodes).contains s.node && s.storeBusy) 0x0501, codeIf (s.unitsBusy (unitsOf (nub (s.named nodes ++ (s.diffNodes n).filter (· < 32))))) 0x0602] = c) ∧ c ≠ 0) :=
  ⟨⟨{ State.reset with boot := .odtaku }, ms 3, { path := .smMailbox }, 2, by decide +kernel⟩,
  ⟨{ State.reset with boot := .odtaku, storeOp := some { n := 1, save := false } }, 0, { path := .smMailbox }, 2, by decide +kernel⟩,
  ⟨{ (State.reset.put .ACTIVE_PROFILE 0 1) with boot := .odtaku }, 0, { path := .smMailbox }, 2, by decide +kernel⟩,
  ⟨{ (State.reset.put .ACTIVE_PROFILE 0 1) with boot := .odtaku }, 0, { path := .smMailbox }, 1, by decide +kernel⟩,
  ⟨{ State.reset with storeOp := some { n := 2, save := true, taken := some { vals := [(.TREF_CLK_FREQ, 0, 1)] } } }, 7, { n := 2, save := true, taken := some { vals := [(.TREF_CLK_FREQ, 0, 1)] } }, { vals := [(.TREF_CLK_FREQ, 0, 1)] }, by decide +kernel⟩,
  ⟨{ State.reset.put .PROF_VALID 2 1 with storeOp := some { n := 2, save := false }, profiles := [(1, {}), (2, { vals := [(.TREF_CLK_FREQ, 0, 1)] })] }, 7, { n := 2, save := false }, by decide +kernel⟩,
  ⟨State.reset, 1, by decide +kernel⟩,
  ⟨State.reset.put .TREF_CLK_FREQ 0 1, .TREF_CLK_FREQ, 0, 1, by decide +kernel⟩,
  ⟨State.reset.put .TREF_CLK_FREQ 0 1, .TREF_CLK_FREQ, 0, by decide +kernel⟩,
  ⟨(validChip []), 0, { path := .smMailbox }, [ns 125000 * 8], 1, 1, 0, by
    have hv : ∀ k ∈ (validChip []).named 0, k ∈ (validChip []).live ∧ (validChip []).validOn k 1 = true := by
      intro k hk
      have h : ∀ k ∈ (validChip []).named 0, k = (validChip []).node ∧ k ∈ (validChip []).live := by decide +kernel
      exact ⟨(h k hk).2, validOn_of _ _ _ (h k hk).1 (by decide +kernel) rfl⟩
    exact ⟨by decide +kernel, by decide +kernel, by decide +kernel, by decide +kernel, by decide +kernel, hv, by decide +kernel, by decide +kernel, by decide +kernel, by decide +kernel, by decide +kernel, by decide +kernel⟩⟩,
  ⟨{ State.reset with boot := .odtaku }, 0, { path := .smMailbox }, [], 1, 0, 0x80000000, by decide +kernel⟩,
  ⟨(validChip [(.TREF_CLK_FREQ, 0, 1)]), 0, { path := .smMailbox }, [], 1, 0, by
    have hv : ∀ k ∈ (validChip [(.TREF_CLK_FREQ, 0, 1)]).named 0, k ∈ (validChip [(.TREF_CLK_FREQ, 0, 1)]).live ∧ (validChip [(.TREF_CLK_FREQ, 0, 1)]).validOn k 1 = true := by
      intro k hk
      have h : ∀ k ∈ (validChip [(.TREF_CLK_FREQ, 0, 1)]).named 0, k = (validChip [(.TREF_CLK_FREQ, 0, 1)]).node ∧ k ∈ (validChip [(.TREF_CLK_FREQ, 0, 1)]).live := by decide +kernel
      exact ⟨(h k hk).2, validOn_of _ _ _ (h k hk).1 (by decide +kernel) rfl⟩
    exact ⟨by decide +kernel, by decide +kernel, by decide +kernel, by decide +kernel, hv, by decide +kernel⟩⟩,
  ⟨{ State.reset with boot := .odtaku }, 0, { path := .smMailbox }, 2, by decide +kernel⟩,
  ⟨{ State.reset with boot := .odtaku }, 0, { path := .smMailbox }, 2, by decide +kernel⟩,
  ⟨{ State.reset with boot := .odtaku }, 0, { path := .smMailbox }, [], 1, 0, 0, by decide +kernel⟩,
  ⟨(validChip []), 0, { path := .smMailbox }, [], 1, 0, 0, 0x0301, by
    have hv : ∀ k ∈ (validChip []).named 0, k ∈ (validChip []).live ∧ (validChip []).validOn k 1 = true := by
      intro k hk
      have h : ∀ k ∈ (validChip []).named 0, k = (validChip []).node ∧ k ∈ (validChip []).live := by decide +kernel
      exact ⟨(h k hk).2, validOn_of _ _ _ (h k hk).1 (by decide +kernel) rfl⟩
    exact ⟨by decide +kernel, by decide +kernel, by decide +kernel, by decide +kernel, by decide +kernel, hv, by decide +kernel, by decide +kernel⟩⟩⟩

theorem witness_PairsStopRestartAndHalt :
  (∃ (s : State) (_t : Time) (pair : Nat),
    pair < 2 ∧ s.errs = [] ∧ s.boot = .odtaku ∧ s.get (pairObj pair) = 0 ∧ s.openRec { code := 0x3007, kind := 1, idx := 14, region := 14, detail := pair } = none ∧ s.log.length < 4096 ∧ s.fw.trialUntil = none) ∧
  (∃ (s : State) (_t : Time) (pair : Nat),
    pair < 2 ∧ s.errs = [] ∧ s.boot = .odtaku ∧ s.get (pairObj pair) = 0 ∧ s.openRec { code := 0x3007, kind := 1, idx := 14, region := 14, detail := pair } = none ∧ s.log.length < 4096 ∧ s.fw.trialUntil = none) ∧
  (∃ (s : State) (_t : Time) (pair : Nat),
    pair < 2 ∧ s.errs = [] ∧ (s.get (pairObj pair) ≠ 0 ∨ s.boot ≠ .odtaku)) ∧
  (∃ (s : State) (_t : Time) (pair : Nat),
    pair < 2 ∧ s.errs = [] ∧ (s.get (pairObj pair) ≠ 0 ∨ s.boot ≠ .odtaku)) ∧
  (∃ (_s : State) (_t : Time) (pair : Nat),
    pair < 2) ∧
  (∃ (_s : State) (_t : Time) (pair : Nat),
    pair < 2) ∧
  (∃ (s : State) (t : Time) (pair : Nat),
    pair < 2 ∧ (s.at t).get (pairObj pair) = 1 ∧ ((s.at t).pairH pair).reloading = false ∧ ((s.at t).pairH pair).stoppedAt + ms 1 ≤ max s.now t ∧ (s.at t).bankPasses (s.at t).activeFwBank ((s.at t).get .KEYSET_REVOKED) = false) ∧
  (∃ (s : State) (t : Time) (pair : Nat),
    pair < 2 ∧ (s.at t).get (pairObj pair) = 1 ∧ ((s.at t).pairH pair).reloading = false ∧ ((s.at t).pairH pair).stoppedAt + ms 1 ≤ max s.now t ∧ (s.at t).bankPasses (s.at t).activeFwBank ((s.at t).get .KEYSET_REVOKED) = true) ∧
  (∃ (s : State) (t : Time) (pair : Nat),
    pair < 2 ∧ (s.at t).debugOpen = true ∧ (s.at t).get (pairObj pair) = 0) ∧
  (∃ (s : State) (t : Time) (pair : Nat),
    pair < 2 ∧ (s.at t).get (pairObj pair) = 3) ∧
  (∃ (s : State) (_t : Time) (pair : Nat),
    pair < 2 ∧ s.errs = [] ∧ s.get (pairObj pair) ≠ 3) ∧
  (∃ (s : State) (t : Time) (pair : Nat),
    pair < 2 ∧ s.errs = [] ∧ s.get (pairObj pair) = 1 ∧ (s.pairH pair).reloading = false ∧ (s.pairH pair).stoppedAt + ms 1 ≤ max s.now t ∧ (s.at t).bankPasses (s.at t).activeFwBank ((s.at t).get .KEYSET_REVOKED) = true ∧ s.get .KEEPER_ROLE ≠ 1 ∧ (∀ r ∈ s.mboxes.keys, (s.mbox r).late = false)) ∧
  (∃ (s : State) (t : Time) (pair : Nat),
    pair < 2 ∧ s.errs = [] ∧ (s.get (pairObj pair) ≠ 1 ∨ max s.now t < (s.pairH pair).stoppedAt + ms 1 ∨ (s.pairH pair).reloading = true)) ∧
  (∃ (s : State) (_t : Time) (req : Req) (pair : Nat),
    s.errs = [] ∧ s.hears req ∧ s.mayInvoke req .PAIR_RESTART none = 0 ∧ pair < 2 ∧ s.get (pairObj pair) = 2) ∧
  (∃ (s : State) (_t : Time) (req : Req) (pair : Nat),
    s.errs = [] ∧ s.hears req ∧ s.mayInvoke req .PAIR_RESTART none = 0 ∧ (2 ≤ pair ∨ s.get (pairObj pair) ≠ 2)) ∧
  (∃ (s : State) (_t : Time) (pair : Nat),
    pair < 2 ∧ s.errs = [] ∧ s.debugOpen = true ∧ s.get (pairObj pair) = 0) ∧
  (∃ (s : State) (_t : Time) (pair : Nat),
    pair < 2 ∧ s.errs = [] ∧ (s.debugOpen = false ∨ s.get (pairObj pair) ≠ 0)) ∧
  (∃ (s : State) (_t : Time) (pair : Nat),
    pair < 2 ∧ s.errs = [] ∧ s.get (pairObj pair) = 3 ∧ s.get .KEEPER_ROLE ≠ 1 ∧ (∀ r ∈ s.mboxes.keys, (s.mbox r).late = false)) :=
  ⟨⟨{ State.reset with boot := .odtaku }, 5, 0, by decide +kernel⟩,
  ⟨{ State.reset with boot := .odtaku }, 5, 0, by decide +kernel⟩,
  ⟨State.reset.put .PAIR_B_STATE 0 3, 5, 1, by decide +kernel⟩,
  ⟨State.reset.put .PAIR_B_STATE 0 3, 5, 1, by decide +kernel⟩,
  ⟨{ State.reset with boot := .odtaku }, 5, 1, by decide +kernel⟩,
  ⟨{ State.reset with boot := .odtaku }, 5, 1, by decide +kernel⟩,
  ⟨{ State.reset with boot := .odtaku, objs := [(.PAIR_A_STATE, [(0, 1)]), (.FW_BANK_STATE, [(0, 3), (1, 3)])] }, ms 1, 0, by decide +kernel⟩,
  ⟨{ State.reset with objs := [(.PAIR_B_STATE, [(0, 1)]), (.FW_BANK_STATE, [(0, 2), (1, 0)]), (.FW_SVN, [(0, 2), (1, 2)]), (.FW_KEYSET, [(0, 0), (1, 0)]), (.ROLLBACK_FUSED, [(0, 1)]), (.ROLLBACK_MIRROR, [(0, 1)]), (.KEYSET_REVOKED, [(0, 0)])] }, ms 1, 1, by decide +kernel⟩,
  ⟨{ State.reset with objs := [(.LIFECYCLE_STATE, [(0, 2)])] }, 0, 0, by decide +kernel⟩,
  ⟨State.reset.put .PAIR_A_STATE 0 3, 0, 0, by decide +kernel⟩,
  ⟨State.reset, 0, 0, by decide +kernel⟩,
  ⟨{ State.reset with objs := [(.PAIR_A_STATE, [(0, 1)]), (.FW_BANK_STATE, [(0, 2), (1, 0)]), (.FW_SVN, [(0, 2), (1, 2)]), (.FW_KEYSET, [(0, 0), (1, 0)]), (.ROLLBACK_FUSED, [(0, 1)]), (.ROLLBACK_MIRROR, [(0, 1)]), (.KEYSET_REVOKED, [(0, 0)])], log := [{ entry := 0, seq := 4, time := 3, err := { code := 0x3007, kind := 1, idx := 14 }, cls := 2, action := 5, node := 0 }] }, ms 1, 0, by decide +kernel⟩,
  ⟨State.reset.put .PAIR_A_STATE 0 1, 5, 0, by decide +kernel⟩,
  ⟨{ State.reset.put .PAIR_B_STATE 0 2 with boot := .odtaku }, 0, { path := .smMailbox }, 1, by decide +kernel⟩,
  ⟨{ State.reset with boot := .odtaku }, 0, { path := .smMailbox }, 1, by decide +kernel⟩,
  ⟨{ State.reset with objs := [(.LIFECYCLE_STATE, [(0, 2)])] }, 0, 0, by decide +kernel⟩,
  ⟨{ State.reset with objs := [(.LIFECYCLE_STATE, [(0, 1)])] }, 0, 0, by decide +kernel⟩,
  ⟨State.reset.put .PAIR_A_STATE 0 3, 0, 0, by decide +kernel⟩⟩

theorem witness_InterruptsAreTakenByPriority :
  (∃ (s : State) (i : Nat),
    (s.irq i).high = false ∧ s.get .IRQ_SENSE i = 1 ∧ s.get .IRQ_ENABLE i ≤ 1) ∧
  (∃ (s : State) (k i : Nat),
    s.mostUrgent k = some i ∧ (s.irqWaiting k).Pairwise (· < ·)) ∧
  (∃ (s : State) (_t : Time) (pair i : Nat),
    pair < 2 ∧ s.errs = [] ∧ s.boot = .odtaku ∧ s.get (pairObj pair) = 0 ∧ s.mostUrgent pair = some i ∧ (s.pairH pair).stack.length < 16 ∧ (((s.pairH pair).stack.head?.all fun a => decide (s.groupOf pair i < s.groupOf pair a)) = true)) ∧
  (∃ (s : State) (_t : Time) (pair : Nat),
    pair < 2 ∧ s.errs = [] ∧ (s.boot ≠ .odtaku ∨ s.get (pairObj pair) ≠ 0 ∨ s.irqWaiting pair = [] ∨ (s.pairH pair).stack.length = 16 ∨ (s.mostUrgent pair).any (fun i => (s.pairH pair).stack.head?.any fun a => decide (s.groupOf pair a ≤ s.groupOf pair i)) = true)) ∧
  (∃ (s : State) (_t : Time) (pair : Nat),
    pair < 2 ∧ s.errs = [] ∧ (s.pairH pair).stack = []) ∧
  (∃ (s : State) (_t : Time) (pair i : Nat) (l : List Nat),
    pair < 2 ∧ s.errs = [] ∧ (s.pairH pair).stack = i :: l ∧ (s.irq i).held = [] ∧ s.irqWaiting pair = [] ∧ s.get .IRQ_SENSE i ≠ 0) ∧
  (∃ (s : State) (_t : Time) (pair i : Nat),
    pair < 2 ∧ s.errs = [] ∧ s.boot = .odtaku ∧ s.get (pairObj pair) = 0 ∧ (s.pairH pair).stack = [i] ∧ (s.pairH (1 - pair)).stack = [] ∧ (s.irq i).held = [] ∧ s.irqWaiting pair = [] ∧ s.get .IRQ_SENSE i = 0 ∧ (s.irq i).high = true ∧ s.get .IRQ_ENABLE i = 1 ∧ s.get .IRQ_TARGET i = pair ∧ s.get .IRQ_PRIORITY i < 0xFF) ∧
  (∃ (s : State) (_t : Time) (pair i v : Nat) (l : List Nat),
    pair < 2 ∧ s.errs = [] ∧ (s.pairH pair).stack = i :: l ∧ (s.irq i).held = [(0, v)] ∧ v < 256 ∧ s.irqWaiting pair = [] ∧ s.get .IRQ_SENSE i ≠ 0 ∧ s.get .IRQ_PENDING i = 0) ∧
  (∃ (s : State) (_t : Time) (source field _value : Nat),
    source < 2048 ∧ field < 4 ∧ s.errs = [] ∧ s.irqActive source = true) ∧
  (∃ (s : State) (_t : Time) (source value : Nat),
    source < 2048 ∧ s.errs = [] ∧ s.irqActive source = false ∧ value < 256) ∧
  (∃ (s : State) (_t : Time) (source : Nat),
    source < 2048 ∧ s.errs = []) ∧
  (∃ (s : State) (_t : Time) (source value : Nat),
    source < 2048 ∧ s.errs = [] ∧ s.irqActive source = false ∧ value < 2) ∧
  (∃ (s : State) (_t : Time) (source value : Nat),
    source < 2048 ∧ s.errs = [] ∧ s.irqActive source = false ∧ value < 4) ∧
  (∃ (s : State) (_t : Time) (source value : Nat),
    source < 2048 ∧ s.errs = [] ∧ s.irqActive source = false ∧ value ≤ 8) ∧
  (∃ (s : State) (_t : Time) (source : Nat),
    source < 2048 ∧ s.errs = [] ∧ s.get .IRQ_SENSE source ≠ 0) ∧
  (∃ (s : State) (_t : Time) (source _value : Nat),
    source < 2048 ∧ s.errs = [] ∧ (1024 ≤ source ∨ (808 ≤ source ∧ source ≤ 815)) ∧ s.get .IRQ_SENSE source = 1 ∧ (s.irq source).high = false ∧ s.get .IRQ_ENABLE source = 1) ∧
  (∃ (s : State) (_t : Time) (source field value : Nat),
    source < 2048 ∧ field < 6 ∧ s.errs = [] ∧ s.irqActive source = false ∧ (field = 0 ∧ 256 ≤ value ∨ field = 1 ∧ 4 ≤ value ∨ field = 2 ∧ 2 ≤ value ∨ field = 3 ∧ 8 < value ∨ field = 4 ∧ 2 ≤ value ∨ field = 5 ∧ source < 1024 ∧ (source < 808 ∨ 815 < source))) ∧
  (∃ (s : State) (t : Time) (source field _value : Nat),
    source < 2048 ∧ field < 6 ∧ ((s.at t).irqActive source = false ∨ 4 ≤ field)) ∧
  (∃ (_s : State) (_t : Time) (pair : Nat),
    pair < 2) ∧
  (∃ (_s : State) (_t : Time) (pair : Nat),
    pair < 2) :=
  ⟨⟨State.reset.put .IRQ_SENSE 9 1, 9, by decide +kernel⟩,
  ⟨{ State.reset with objs := [(.IRQ_PENDING, [(9, 1), (10, 1)]), (.IRQ_PRIORITY, [(9, 5), (10, 5)]), (.IRQ_TARGET, [(9, 0), (10, 0)])] }, 0, 9, by decide +kernel⟩,
  ⟨{ State.reset with boot := .odtaku, objs := [(.IRQ_PENDING, [(9, 1)]), (.IRQ_PRIORITY, [(9, 5)]), (.IRQ_TARGET, [(9, 0)])] }, 0, 0, 9, by decide +kernel⟩,
  ⟨State.reset, 0, 0, by decide +kernel⟩,
  ⟨State.reset, 0, 0, by decide +kernel⟩,
  ⟨{ State.reset.put .IRQ_SENSE 9 1 with pairs := [(0, { stack := [9, 64] })] }, 0, 0, 9, [64], by decide +kernel⟩,
  ⟨{ State.reset with objs := [(.IRQ_SENSE, [(9, 0)]), (.IRQ_ENABLE, [(9, 1)]), (.IRQ_PRIORITY, [(9, 5)]), (.IRQ_TARGET, [(9, 0)])], boot := .odtaku, irqs := [(9, { high := true })], pairs := [(0, { stack := [9] })] }, 0, 0, 9, by decide +kernel⟩,
  ⟨{ State.reset.put .IRQ_SENSE 9 1 with irqs := [(9, { held := [(0, 7)] })], pairs := [(0, { stack := [9, 64] })] }, 0, 0, 9, 7, [64], by decide +kernel⟩,
  ⟨{ State.reset with pairs := [(0, { stack := [9] })] }, 0, 9, 0, 3, by decide +kernel⟩,
  ⟨State.reset, 0, 9, 3, by decide +kernel⟩,
  ⟨State.reset, 0, 9, by decide +kernel⟩,
  ⟨State.reset, 0, 9, 1, by decide +kernel⟩,
  ⟨State.reset, 0, 9, 1, by decide +kernel⟩,
  ⟨State.reset, 0, 9, 3, by decide +kernel⟩,
  ⟨State.reset.put .IRQ_SENSE 9 1, 0, 9, by decide +kernel⟩,
  ⟨State.reset.put .IRQ_SENSE 1024 1 |>.put .IRQ_ENABLE 1024 1, 0, 1024, 1, by decide +kernel⟩,
  ⟨State.reset, 0, 9, 1, 4, by decide +kernel⟩,
  ⟨State.reset, 0, 9, 1, 4, by decide +kernel⟩,
  ⟨{ State.reset with boot := .odtaku }, 0, 0, by decide +kernel⟩,
  ⟨{ State.reset with boot := .odtaku }, 0, 0, by decide +kernel⟩⟩

theorem witness_MailboxesAndDoorbellsPassMessages :
  (∃ (s : State) (_t : Time) (row offset : Nat) (bytes : List Nat),
    row < 4097 ∧ s.errs = [] ∧ bytes ≠ [] ∧ offset + bytes.length ≤ 0xFF) ∧
  (∃ (s : State) (_t : Time) (row offset : Nat) (bytes : List Nat),
    row < 4097 ∧ s.errs = [] ∧ offset ≤ 0xFF ∧ 0xFF < offset + bytes.length) ∧
  (∃ (s : State) (_t : Time) (row : Nat),
    row < 4097 ∧ s.errs = [] ∧ s.odtakuUp = true ∧ s.get .MB_IN_STATE row = 2 ∧ (s.mbox row).running = false) ∧
  (∃ (s : State) (_t : Time) (row : Nat),
    row < 4097 ∧ s.errs = [] ∧ (s.odtakuUp = false ∨ s.get .MB_IN_STATE row ≠ 2 ∨ (s.mbox row).running = true)) ∧
  (∃ (s : State) (_t : Time) (row : Nat) (_bytes : List Nat),
    row < 4097 ∧ s.errs = [] ∧ s.odtakuUp = true ∧ s.get .MB_OUT_STATE row = 0) ∧
  (∃ (s : State) (_t : Time) (row : Nat) (_bytes : List Nat),
    row < 4097 ∧ s.errs = [] ∧ (s.odtakuUp = false ∨ s.get .MB_OUT_STATE row ≠ 0)) ∧
  (∃ (s : State) (_t : Time) (row value : Nat),
    row < 4097 ∧ s.errs = [] ∧ bit value 0 = true ∧ s.get .MB_OUT_STATE row = 1) ∧
  (∃ (s : State) (_t : Time) (row value : Nat),
    row < 4097 ∧ s.errs = [] ∧ (bit value 0 = false ∨ s.get .MB_OUT_STATE row ≠ 1)) ∧
  (∃ (s : State) (_t : Time) (row _bits : Nat),
    row < 4097 ∧ s.errs = []) ∧
  (∃ (s : State) (_t : Time) (row _bits : Nat),
    row < 4097 ∧ s.errs = []) ∧
  (∃ (s : State) (_t : Time) (row _bits _setBits : Nat),
    row < 4097 ∧ s.errs = []) ∧
  (∃ (s : State) (_t : Time) (row _bits _setBits : Nat),
    row < 4097 ∧ s.errs = []) ∧
  (∃ (s : State) (_t : Time) (row offset : Nat) (bytes : List Nat),
    row < 4097 ∧ s.errs = [] ∧ (0xFF < offset ∨ bytes = [])) ∧
  (∃ (_s : State) (_t : Time) (row _offset : Nat) (_bytes : List Nat),
    row < 4097) ∧
  (∃ (_s : State) (_t : Time) (row _value : Nat),
    row < 4097) ∧
  (∃ (_s : State) (_t : Time) (row : Nat) (_toFw : Bool) (_bits : Nat),
    row < 4097) ∧
  (∃ (_s : State) (_t : Time) (row : Nat) (_toFw : Bool) (_bits _setBits : Nat),
    row < 4097) ∧
  (∃ (s : State) (t : Time) (row : Nat),
    row < 4097 ∧ (s.at t).odtakuUp = true) ∧
  (∃ (s : State) (t : Time) (row : Nat) (_bytes : List Nat),
    row < 4097 ∧ (s.at t).odtakuUp = true) :=
  ⟨⟨State.reset, 0, 9, 4, [1, 2, 3], by decide +kernel⟩,
  ⟨State.reset, 0, 4096, 254, [1, 2, 3], by decide +kernel⟩,
  ⟨{ State.reset.put .MB_IN_STATE 9 2 with boot := .odtaku }, 0, 9, by decide +kernel⟩,
  ⟨State.reset, 0, 9, by decide +kernel⟩,
  ⟨{ State.reset with boot := .odtaku }, 0, 4096, [7, 300], by decide +kernel⟩,
  ⟨State.reset, 0, 4096, [7, 300], by decide +kernel⟩,
  ⟨State.reset.put .MB_OUT_STATE 9 1, 0, 9, 1, by decide +kernel⟩,
  ⟨State.reset, 0, 9, 1, by decide +kernel⟩,
  ⟨State.reset, 0, 9, 5, by decide +kernel⟩,
  ⟨State.reset, 0, 9, 5, by decide +kernel⟩,
  ⟨State.reset.put .MB_DB_TO_FW 9 7, 0, 9, 5, 1, by decide +kernel⟩,
  ⟨State.reset, 0, 9, 5, 1, by decide +kernel⟩,
  ⟨State.reset, 0, 9, 256, [1], by decide +kernel⟩,
  ⟨State.reset, 0, 9, 256, [1], by decide +kernel⟩,
  ⟨State.reset, 0, 9, 1, by decide +kernel⟩,
  ⟨State.reset, 0, 9, true, 1, by decide +kernel⟩,
  ⟨State.reset, 0, 9, true, 1, 3, by decide +kernel⟩,
  ⟨{ State.reset with boot := .odtaku }, 0, 9, by decide +kernel⟩,
  ⟨{ State.reset with boot := .odtaku }, 0, 9, [], by decide +kernel⟩⟩

theorem witness_SidebandPortsProtectionAndJtag :
  (∃ (s : State) (_t : Time) (_offset _count : Nat) (_bytes : List Nat),
    s.errs = []) ∧
  (∃ (s : State) (_t : Time) (offset _count : Nat) (bytes : List Nat),
    s.errs = [] ∧ bytes ≠ [] ∧ bytes.length ≤ 32 ∧ offset + bytes.length ≤ 0xFF) ∧
  (∃ (s : State) (_t : Time) (_count v : Nat),
    s.errs = [] ∧ v < 256) ∧
  (∃ (s : State) (_t : Time) (_bits : Nat),
    s.errs = []) ∧
  (∃ (s : State) (_t : Time) (i3c : Bool) (endpoint size : Nat),
    16 ≤ endpoint ∧ endpoint < 32 ∧ s.errs = [] ∧ i3c = (s.i3c.find 0).isSome ∧ (bit (s.get .HEXSUM_ENABLE) (if i3c then 2 else 1) = true) ∧ s.get .SESSION_STATE endpoint = 0 ∧ size ≤ 1024) ∧
  (∃ (s : State) (_t : Time) (_i3c : Bool) (endpoint msgType vendor _size : Nat),
    16 ≤ endpoint ∧ endpoint < 32 ∧ s.errs = [] ∧ msgType ≠ 5 ∧ (msgType ≠ 0x7E ∨ vendor ≠ 0x1FA7)) ∧
  (∃ (s : State) (_t : Time) (i3c : Bool) (endpoint msgType vendor _size : Nat),
    16 ≤ endpoint ∧ endpoint < 32 ∧ s.errs = [] ∧ (i3c ≠ (s.i3c.find 0).isSome ∨ (msgType = 0x7E ∧ vendor = 0x1FA7 ∧ bit (s.get .HEXSUM_ENABLE) (if i3c then 2 else 1) = false))) ∧
  (∃ (s : State) (_t : Time) (endpoint _vendor _size : Nat),
    16 ≤ endpoint ∧ endpoint < 32 ∧ s.errs = [] ∧ (s.i3c.find 0).isSome = false) ∧
  (∃ (s : State) (_t : Time) (endpoint size : Nat),
    16 ≤ endpoint ∧ endpoint < 32 ∧ s.errs = [] ∧ s.odtakuUp = true ∧ (s.i3c.find 0).isSome = false ∧ bit (s.get .HEXSUM_ENABLE) 1 = true ∧ 1024 < size ∧ s.get .SESSION_STATE endpoint = 2) ∧
  (∃ (_s : State) (_t : Time) (_i3c : Bool) (endpoint _msgType _vendor _size : Nat),
    16 ≤ endpoint ∧ endpoint < 32) ∧
  (∃ (s : State) (_t : Time) (sbPort _addr : Nat),
    sbPort < 2 ∧ s.errs = []) ∧
  (∃ (s : State) (_t : Time) (unit n value : Nat),
    unit < 11 ∧ (unit < 7 ∨ n < 16) ∧ n < 64 ∧ s.errs = [] ∧ value < 2 ^ 64 ∧ bitsOf value 31 27 ≤ 24 ∧ bitsOf value 63 32 % 2 ^ bitsOf value 31 27 = 0) ∧
  (∃ (s : State) (_t : Time) (unit n value : Nat),
    unit < 11 ∧ (unit < 7 ∨ n < 16) ∧ n < 64 ∧ s.errs = [] ∧ value < 2 ^ 64 ∧ (24 < bitsOf value 31 27 ∨ bitsOf value 63 32 % 2 ^ bitsOf value 31 27 ≠ 0)) ∧
  (∃ (s : State) (_t : Time) (req : Req),
    s.errs = [] ∧ s.hears req ∧ s.mayInvoke req .ACU_FENCE none = 0) ∧
  (∃ (s : State) (_t : Time) (master priv access addr _wrong : Nat),
    master < 8 ∧ priv < 3 ∧ access < 3 ∧ addr < 2 ^ 40 ∧ s.errs = [] ∧ master < 4 ∧ s.permits master priv access addr = false ∧ decide (s.permits (master / 2 * 2) priv access addr ≠ s.permits (master / 2 * 2 + 1) priv access addr) = false) ∧
  (∃ (s : State) (_t : Time) (priv access addr _wrong : Nat),
    priv < 3 ∧ access < 3 ∧ addr < 2 ^ 40 ∧ s.errs = [] ∧ s.permits 6 priv access addr = false) ∧
  (∃ (s : State) (_t : Time) (priv access addr _wrong : Nat),
    priv < 3 ∧ access < 3 ∧ addr < 2 ^ 40 ∧ s.errs = [] ∧ s.boot = .odtaku ∧ s.get .PAIR_A_STATE = 0 ∧ s.openRec { code := 0x3007, kind := 1, idx := 14, region := 14, detail := 0 } = none ∧ s.log.length < 4096 ∧ s.fw.trialUntil = none ∧ s.permits 5 priv access addr = false) ∧
  (∃ (s : State) (_t : Time) (master priv access addr : Nat),
    master < 8 ∧ priv < 3 ∧ access < 3 ∧ addr < 2 ^ 40 ∧ s.errs = [] ∧ (master = 7 ∨ s.permits master priv access addr = true) ∧ (4 ≤ master ∨ decide (s.permits (master / 2 * 2) priv access addr ≠ s.permits (master / 2 * 2 + 1) priv access addr) = false)) ∧
  (∃ (s : State) (_t : Time) (master priv addr : Nat),
    master < 8 ∧ priv < 3 ∧ inSram addr = true ∧ s.errs = [] ∧ s.boot = .odtaku ∧ s.openRec { code := 0x100C, kind := 1, idx := 14, region := 14 } = none ∧ s.log.length < 4096 ∧ (master = 7 ∨ s.permits master priv 0 addr = true) ∧ (4 ≤ master ∨ decide (s.permits (master / 2 * 2) priv 0 addr ≠ s.permits (master / 2 * 2 + 1) priv 0 addr) = false)) ∧
  (∃ (s : State) (_t : Time) (master priv addr wrong n : Nat),
    master < 8 ∧ priv < 3 ∧ addr < 2 ^ 40 ∧ sterostoWord addr = some n ∧ 3 ≤ wrong ∧ s.errs = [] ∧ (master = 7 ∨ s.permits master priv 0 addr = true) ∧ (4 ≤ master ∨ decide (s.permits (master / 2 * 2) priv 0 addr ≠ s.permits (master / 2 * 2 + 1) priv 0 addr) = false)) ∧
  (∃ (s : State) (master _priv _access a v : Nat),
    gajorAt a ≠ some .rom ∧ gajorAt a ≠ some .sramLocked ∧ gajorAt a ≠ some .sterostoLocked ∧ 4 ≤ master ∧ master < 6 ∧ (((List.range 64).map fun n => s.get (descriptorObj master) n).find? (fun v => descriptorHolds v a) = some v)) ∧
  (∃ (s : State) (master _priv _access a : Nat),
    gajorAt a ≠ some .rom ∧ gajorAt a ≠ some .sramLocked ∧ gajorAt a ≠ some .sterostoLocked ∧ 4 ≤ master ∧ master < 6 ∧ (∀ n ∈ List.range 64, descriptorHolds (s.get (descriptorObj master) n) a = false)) ∧
  (∃ (s : State) (_master _priv _access a : Nat),
    (gajorAt a = some .sramLocked ∨ gajorAt a = some .sterostoLocked) ∧ s.boot ≠ .rom) ∧
  (∃ (_s : State) (_t : Time) (master priv access addr _wrong : Nat),
    master < 8 ∧ priv < 3 ∧ access < 3 ∧ addr < 2 ^ 40) ∧
  (∃ (s : State) (_t : Time) (_code : Nat),
    s.errs = []) ∧
  (∃ (s : State) (_t : Time) (code : Nat),
    s.errs = [] ∧ code ≠ 1) :=
  ⟨⟨State.reset, 0, 0x214, 4, [], by decide +kernel⟩,
  ⟨State.reset, 0, 0x14, 4, [5, 6], by decide +kernel⟩,
  ⟨State.reset, 0, 4, 3, by decide +kernel⟩,
  ⟨State.reset, 0, 3, by decide +kernel⟩,
  ⟨State.reset, 3, false, 17, 64, by decide +kernel⟩,
  ⟨State.reset, 3, false, 17, 0, 0, 64, by decide +kernel⟩,
  ⟨State.reset, 3, true, 17, 0, 0, 64, by decide +kernel⟩,
  ⟨State.reset, 3, 17, 0, 64, by decide +kernel⟩,
  ⟨{ State.reset with boot := .odtaku, objs := [(.SESSION_STATE, [(17, 2)])] }, 3, 17, 2000, by decide +kernel⟩,
  ⟨State.reset, 3, false, 17, 0, 0, 64, by decide +kernel⟩,
  ⟨State.reset, 3, 1, 9, by decide +kernel⟩,
  ⟨State.reset, 3, 1, 9, 0x1008000000000000 + 0x60000000, by decide +kernel⟩,
  ⟨State.reset, 3, 1, 9, 0x1000000108000000, by decide +kernel⟩,
  ⟨{ State.reset with boot := .odtaku }, 0, { path := .firmware }, by decide +kernel⟩,
  ⟨State.reset, 0, 3, 1, 1, 0x12345, 0, by decide +kernel⟩,
  ⟨State.reset, 0, 1, 1, 0x12345, 0, by decide +kernel⟩,
  ⟨{ State.reset with boot := .odtaku }, 0, 1, 1, 0x12345, 0, by decide +kernel⟩,
  ⟨State.reset, 0, 7, 0, 0, 0x12345, by decide +kernel⟩,
  ⟨{ State.reset with boot := .odtaku }, 0, 7, 0, 0x10000040, by decide +kernel⟩,
  ⟨State.reset, 0, 7, 0, 0x101000040, 3, 0x200008, by decide +kernel⟩,
  ⟨State.reset.put .ACU_REGIONS_HOST 3 0x0010000F04000000, 5, 0, 0, 0x10000F40, 0x0010000F04000000, by decide +kernel⟩,
  ⟨State.reset, 5, 0, 0, 0x10000F40, by decide +kernel⟩,
  ⟨State.reset, 2, 0, 0, 0x103C0000, by decide +kernel⟩,
  ⟨State.reset, 0, 4, 0, 0, 0x12345, 0, by decide +kernel⟩,
  ⟨State.reset, 0, 1, by decide +kernel⟩,
  ⟨State.reset, 0, 5, by decide +kernel⟩⟩

theorem witness_TokensUnlockReturnAndRevoke :
  (∃ (s : State) (_t : Time) (req : Req),
    s.errs = [] ∧ s.hears req ∧ s.mayInvoke req .TOKEN_CHALLENGE none = 0) ∧
  (∃ (s : State) (_t : Time) (req : Req) (len : Nat),
    s.errs = [] ∧ s.hears req ∧ s.mayInvoke req .TOKEN_SUBMIT none = 0 ∧ (len ≠ 2089 ∨ hdrField s.tokenBytes 2 2 = 0 ∨ 3 < hdrField s.tokenBytes 2 2)) ∧
  (∃ (s : State) (_t : Time) (req : Req),
    s.errs = [] ∧ s.hears req ∧ s.mayInvoke req .TOKEN_SUBMIT none = 0 ∧ hdrField s.tokenBytes 2 2 = 1) ∧
  (∃ (s : State) (_t : Time) (req : Req),
    s.errs = [] ∧ s.hears req ∧ s.mayInvoke req .TOKEN_SUBMIT none = 0 ∧ hdrField s.tokenBytes 2 2 = 3) ∧
  (∃ (s : State) (_t : Time) (req : Req),
    s.errs = [] ∧ s.hears req ∧ s.mayInvoke req .TOKEN_SUBMIT none = 0 ∧ hdrField s.tokenBytes 2 2 = 2 ∧ s.sec.returned = false) ∧
  (∃ (s : State) (_t : Time) (req : Req),
    s.errs = [] ∧ s.hears req ∧ s.mayInvoke req .DEBUG_LOCK none = 0) :=
  ⟨⟨{ State.reset with boot := .odtaku }, 0, { path := .smMailbox }, by decide +kernel⟩,
  ⟨{ State.reset with boot := .odtaku }, 0, { path := .smMailbox }, 2000, by decide +kernel⟩,
  ⟨{ State.reset with boot := .odtaku, objs := [(.TOKEN_BUFFER, [(0, 256 ^ 509)])] }, 0, { path := .smMailbox }, by decide +kernel⟩,
  ⟨{ State.reset with boot := .odtaku, objs := [(.TOKEN_BUFFER, [(0, 3 * 256 ^ 509)])] }, 0, { path := .smMailbox }, by decide +kernel⟩,
  ⟨{ State.reset with boot := .odtaku, sec := { State.reset.sec with returned := false }, objs := [(.TOKEN_BUFFER, [(0, 2 * 256 ^ 509)])] }, 0, { path := .smMailbox }, by decide +kernel⟩,
  ⟨{ State.reset with boot := .odtaku }, 0, { path := .smMailbox }, by decide +kernel⟩⟩

theorem witness_RollbackAndAttestationAdvance :
  (∃ (s : State) (_t : Time) (req : Req) (target : Nat),
    s.errs = [] ∧ s.hears req ∧ s.mayInvoke req .SVN_COMMIT none = 0 ∧ (s.get .FW_SVN s.activeFwBank < target ∨ target < max (s.get .ROLLBACK_FUSED) (s.get .ROLLBACK_MIRROR % 128))) ∧
  (∃ (s : State) (_t : Time) (req : Req),
    s.errs = [] ∧ s.hears req ∧ s.mayInvoke req .SVN_COMMIT none = 0 ∧ max (s.get .ROLLBACK_FUSED) (s.get .ROLLBACK_MIRROR % 128) ≤ s.get .FW_SVN s.activeFwBank) ∧
  (∃ (s : State) (_t : Time) (req : Req) (target : Nat),
    s.errs = [] ∧ s.hears req ∧ s.mayInvoke req .SVN_COMMIT none = 0 ∧ max (s.get .ROLLBACK_FUSED) (s.get .ROLLBACK_MIRROR % 128) < target ∧ target ≤ s.get .FW_SVN s.activeFwBank) ∧
  (∃ (s : State) (_t : Time) (_requester _code : Nat) (_signed : Bool),
    s.errs = [] ∧ s.boot = .odtaku ∧ s.get .PAIR_B_STATE ≠ 0) ∧
  (∃ (s : State) (_t : Time) (_requester _code : Nat) (signed : Bool),
    s.errs = [] ∧ s.boot = .odtaku ∧ s.get .PAIR_B_STATE = 0 ∧ (signed = false ∨ s.get .LIFECYCLE_STATE ≠ 1)) ∧
  (∃ (s : State) (t : Time) (requester _code : Nat),
    s.errs = [] ∧ s.boot = .odtaku ∧ s.get .PAIR_B_STATE = 0 ∧ s.get .LIFECYCLE_STATE = 1 ∧ s.get .HSS_BOTTOM_Q + 1 < 2 ^ 20 ∧ (s.sec.second = max s.now t / ms 1000 → s.sec.total < 64 ∧ s.sec.by_.getD 0 requester < 4)) ∧
  (∃ (s : State) (t : Time) (requester _code : Nat),
    s.errs = [] ∧ s.boot = .odtaku ∧ s.get .PAIR_B_STATE = 0 ∧ s.get .LIFECYCLE_STATE = 1 ∧ (s.get .HSS_TOP_Q < 2 ^ 20 ∨ s.get .HSS_BOTTOM_Q < 2 ^ 20) ∧ (2 ^ 20 ≤ s.get .HSS_BOTTOM_Q ∨ (s.sec.second = max s.now t / ms 1000 ∧ (64 ≤ s.sec.total ∨ 4 ≤ s.sec.by_.getD 0 requester)))) ∧
  (∃ (s : State) (_t : Time) (_requester _code : Nat),
    s.errs = [] ∧ s.boot = .odtaku ∧ s.get .PAIR_B_STATE = 0 ∧ s.get .LIFECYCLE_STATE = 1 ∧ 2 ^ 20 ≤ s.get .HSS_TOP_Q ∧ 2 ^ 20 ≤ s.get .HSS_BOTTOM_Q) ∧
  (∃ (s : State) (_t : Time),
    s.errs = [] ∧ s.boot = .odtaku ∧ s.get .PAIR_B_STATE = 0 ∧ s.get .LIFECYCLE_STATE = 1 ∧ s.get .HSS_BOTTOM_Q < 2 ^ 20) ∧
  (∃ (s : State) (_t : Time),
    s.errs = [] ∧ s.boot = .odtaku ∧ s.get .PAIR_B_STATE = 0 ∧ s.get .LIFECYCLE_STATE = 1 ∧ 2 ^ 20 ≤ s.get .HSS_BOTTOM_Q ∧ s.get .HSS_TOP_Q < 2 ^ 20) ∧
  (∃ (s : State) (_t : Time),
    s.errs = [] ∧ (s.boot ≠ .odtaku ∨ s.get .PAIR_B_STATE ≠ 0 ∨ s.get .LIFECYCLE_STATE ≠ 1)) ∧
  (∃ (s : State) (t : Time),
    (s.at t).boot = .odtaku ∧ (s.at t).get .PAIR_B_STATE = 0 ∧ (s.at t).get .LIFECYCLE_STATE = 1) ∧
  (∃ (s : State) (_t : Time) (_requester _code : Nat) (_signed : Bool),
    s.errs = [] ∧ s.boot ≠ .odtaku) ∧
  (∃ (s : State) (t : Time) (_requester _code : Nat) (_signed : Bool),
    (s.at t).boot = .odtaku) ∧
  (∃ (s : State) (_t : Time) (req : Req) (_target : Nat),
    s.hears req ∧ s.mayInvoke req .SVN_COMMIT none = 0) :=
  ⟨⟨{ State.reset with boot := .odtaku, objs := [(.FW_BANK_STATE, [(0, 2), (1, 1)]), (.FW_SVN, [(0, 5), (1, 3)]), (.ROLLBACK_FUSED, [(0, 2)]), (.ROLLBACK_MIRROR, [(0, 2)])] }, 0, { path := .smMailbox }, 6, by decide +kernel⟩,
  ⟨{ State.reset with boot := .odtaku, objs := [(.FW_BANK_STATE, [(0, 2), (1, 1)]), (.FW_SVN, [(0, 5), (1, 3)]), (.ROLLBACK_FUSED, [(0, 2)]), (.ROLLBACK_MIRROR, [(0, 2)])] }, 0, { path := .smMailbox }, by decide +kernel⟩,
  ⟨{ State.reset with boot := .odtaku, objs := [(.FW_BANK_STATE, [(0, 2), (1, 1)]), (.FW_SVN, [(0, 5), (1, 3)]), (.ROLLBACK_FUSED, [(0, 2)]), (.ROLLBACK_MIRROR, [(0, 2)])] }, 0, { path := .smMailbox }, 4, by decide +kernel⟩,
  ⟨{ State.reset.put .PAIR_B_STATE 0 1 with boot := .odtaku }, 0, 3, 0xE0, true, by decide +kernel⟩,
  ⟨{ State.reset with boot := .odtaku }, 0, 3, 0xE0, false, by decide +kernel⟩,
  ⟨{ State.reset with boot := .odtaku, objs := [(.LIFECYCLE_STATE, [(0, 1)]), (.HSS_BOTTOM_Q, [(0, 77)])] }, 0, 3, 0xE0, by decide +kernel⟩,
  ⟨{ State.reset with boot := .odtaku, sec := { State.reset.sec with second := 0, total := 64 }, objs := [(.LIFECYCLE_STATE, [(0, 1)]), (.HSS_TOP_Q, [(0, 3)]), (.HSS_BOTTOM_Q, [(0, 77)])] }, 0, 3, 0xE0, by decide +kernel⟩,
  ⟨{ State.reset with boot := .odtaku, objs := [(.LIFECYCLE_STATE, [(0, 1)]), (.HSS_BOTTOM_Q, [(0, 2 ^ 20)]), (.HSS_TOP_Q, [(0, 2 ^ 20)])] }, 0, 3, 0xE0, by decide +kernel⟩,
  ⟨{ State.reset with boot := .odtaku, objs := [(.LIFECYCLE_STATE, [(0, 1)]), (.HSS_BOTTOM_Q, [(0, 7)])] }, 0, by decide +kernel⟩,
  ⟨{ State.reset with boot := .odtaku, objs := [(.LIFECYCLE_STATE, [(0, 1)]), (.HSS_BOTTOM_Q, [(0, 2 ^ 20)]), (.HSS_TOP_Q, [(0, 5)])] }, 0, by decide +kernel⟩,
  ⟨State.reset, 0, by decide +kernel⟩,
  ⟨{ State.reset with boot := .odtaku, objs := [(.LIFECYCLE_STATE, [(0, 1)]), (.HSS_BOTTOM_Q, [(0, 7)])] }, 0, by decide +kernel⟩,
  ⟨State.reset, 0, 3, 0xE0, false, by decide +kernel⟩,
  ⟨{ State.reset with boot := .odtaku }, 0, 3, 0xE0, false, by decide +kernel⟩,
  ⟨{ State.reset with boot := .odtaku }, 0, { path := .smMailbox }, 5, by decide +kernel⟩⟩

theorem witness_ResetsKeepWhatSurvives :
  (∃ (s : State) (_t : Time),
    s.fw.decided = false ∧ s.sec.returned = false) ∧
  (∃ (s : State) (_t : Time),
    s.fw.decided = false ∧ s.sec.returned = false) ∧
  (∃ (s : State) (_t : Time) (req : Req) (nodes keep : Nat),
    s.errs = [] ∧ s.hears req ∧ s.mayInvoke req .ORCHARD_RESET none = 0 ∧ keep ≤ 1 ∧ nodes < 2 ^ 32 ∧ s.node ∈ s.named nodes ∧ s.fw.decided = false ∧ s.sec.returned = false) ∧
  (∃ (s : State) (_t : Time) (req : Req) (nodes keep : Nat),
    s.errs = [] ∧ s.hears req ∧ s.mayInvoke req .ORCHARD_RESET none = 0 ∧ keep ≤ 1 ∧ nodes < 2 ^ 32 ∧ s.node ∉ s.named nodes) ∧
  (∃ (s : State) (_t : Time) (req : Req) (nodes keep : Nat),
    s.errs = [] ∧ s.hears req ∧ s.mayInvoke req .ORCHARD_RESET none = 0 ∧ (2 ≤ keep ∨ 2 ^ 32 ≤ nodes)) ∧
  (∃ (s : State) (_t : Time) (req : Req) (nodes keep : Nat),
    s.hears req ∧ s.mayInvoke req .ORCHARD_RESET none = 0 ∧ keep ≤ 1 ∧ nodes < 2 ^ 32 ∧ s.node ∈ s.named nodes) :=
  ⟨⟨{ State.reset with sec := { State.reset.sec with returned := false } }, 5, by decide +kernel⟩,
  ⟨{ State.reset with sec := { State.reset.sec with returned := false } }, 5, by decide +kernel⟩,
  ⟨{ State.reset with boot := .odtaku, sec := { State.reset.sec with returned := false } }, 0, { path := .smMailbox }, 0, 1, by decide +kernel⟩,
  ⟨{ State.reset with boot := .odtaku, objs := [(.NODE_ID, [(0, 0)])] }, 0, { path := .smMailbox }, 2, 1, by decide +kernel⟩,
  ⟨{ State.reset with boot := .odtaku }, 0, { path := .smMailbox }, 2, 2, by decide +kernel⟩,
  ⟨{ State.reset with boot := .odtaku, sec := { State.reset.sec with returned := false } }, 0, { path := .smMailbox }, 0, 1, by decide +kernel⟩⟩

theorem witness_ResetsEndAndFirmwareStarts :
  (∃ (s : State) (t : Time) (_pinEn _sel1 _sel0 : Bool),
    s.errs = [] ∧ s.boot = .reset ∧ (s.get .LAST_RESET ≤ 1 ∨ s.resetAt + ms 2 ≤ max s.now t)) ∧
  (∃ (s : State) (t : Time) (_pinEn _sel1 _sel0 : Bool),
    s.errs = [] ∧ (s.boot ≠ .reset ∨ (2 ≤ s.get .LAST_RESET ∧ max s.now t < s.resetAt + ms 2))) ∧
  (∃ (s : State) (_t : Time),
    s.errs = [] ∧ s.boot = .rom ∧ (∀ h ∈ s.pendB, h.obj ∈ profObjs) ∧ (s.bankPasses s.activeFwBank (s.get .KEYSET_REVOKED) = true ∨ s.bankPasses (otherBank s.activeFwBank) (s.get .KEYSET_REVOKED) = true)) ∧
  (∃ (s : State) (_t : Time),
    s.errs = [] ∧ s.boot = .rom ∧ s.bankPasses s.activeFwBank (s.get .KEYSET_REVOKED) = false ∧ s.bankPasses (otherBank s.activeFwBank) (s.get .KEYSET_REVOKED) = false) ∧
  (∃ (s : State) (_t : Time),
    s.errs = [] ∧ s.boot ≠ .rom) ∧
  (∃ (s : State) (n : Nat) (o : Obj) (r v : Nat),
    (o, r, v) ∈ (s.profiles.getD {} n).vals ∧ o ∉ heldBack ∧ (∀ x ∈ (s.profiles.getD {} n).vals, x.1 = o → x.2.1 = r → x.2.2 = v) ∧ o ≠ .GRAFT_STATE) ∧
  (∃ (s : State) (n : Nat) (o : Obj) (r : Nat),
    (∀ x ∈ (s.profiles.getD {} n).vals, x.1 ≠ o ∨ x.2.1 ≠ r) ∧ o.info.idx ≠ 0x8000 ∧ o ≠ .GRAFT_STATE) :=
  ⟨⟨State.reset, 5, true, false, true, by decide +kernel⟩,
  ⟨{ State.reset with boot := .odtaku }, 5, true, false, true, by decide +kernel⟩,
  ⟨{ State.reset with boot := .rom, objs := [(.FW_BANK_STATE, [(0, 2), (1, 1)]), (.KEYSET_REVOKED, [(0, 8)]), (.FW_KEYSET, [(0, 1), (1, 1)]), (.FW_SVN, [(0, 2), (1, 2)]), (.ROLLBACK_FUSED, [(0, 1)]), (.ROLLBACK_MIRROR, [(0, 1)]), (.LIFECYCLE_STATE, [(0, 0)])] }, 0, by decide +kernel⟩,
  ⟨{ State.reset with boot := .rom, objs := [(.FW_BANK_STATE, [(0, 3), (1, 3)]), (.KEYSET_REVOKED, [(0, 8)]), (.FW_KEYSET, [(0, 1), (1, 1)]), (.FW_SVN, [(0, 2), (1, 2)]), (.ROLLBACK_FUSED, [(0, 1)]), (.ROLLBACK_MIRROR, [(0, 1)]), (.LIFECYCLE_STATE, [(0, 0)])] }, 0, by decide +kernel⟩,
  ⟨{ State.reset with boot := .odtaku }, 5, by decide +kernel⟩,
  ⟨{ State.reset with profiles := [(2, { vals := [(.TREF_CLK_FREQ, 0, 1)] })] }, 2, .TREF_CLK_FREQ, 0, 1, by decide +kernel⟩,
  ⟨{ State.reset with profiles := [(2, { vals := [(.TREF_CLK_FREQ, 0, 1)] })] }, 2, .TREF_CLK_FREQ, 1, by decide +kernel⟩⟩

theorem witness_PortsAndPartitionsAreReset :
  (∃ (s : State) (_t : Time) (req : Req) (port : Nat),
    s.errs = [] ∧ s.hears req ∧ s.mayInvoke req .PORT_RESET none = 0 ∧ (512 ≤ port ∨ s.get .PORT_ROLE port = 0)) ∧
  (∃ (s : State) (_t : Time) (req : Req) (port : Nat),
    s.errs = [] ∧ s.hears req ∧ s.mayInvoke req .PORT_RESET none = 0 ∧ port < 512 ∧ s.get .PORT_ROLE port = 2 ∧ s.clusterFree (port / 8) = false) ∧
  (∃ (s : State) (_t : Time) (req : Req) (port : Nat),
    s.errs = [] ∧ s.hears req ∧ s.mayInvoke req .PORT_RESET none = 0 ∧ port < 512 ∧ s.get .PORT_ROLE port = 2 ∧ s.clusterFree (port / 8) = true) ∧
  (∃ (s : State) (_t : Time) (req : Req) (port : Nat),
    s.errs = [] ∧ s.hears req ∧ s.mayInvoke req .PORT_RESET none = 0 ∧ port < 512 ∧ s.get .PORT_ROLE port = 1 ∧ s.partOfPort port = none ∧ s.hostHeld port = false) ∧
  (∃ (s : State) (_t : Time) (req : Req) (port : Nat),
    s.errs = [] ∧ s.hears req ∧ s.mayInvoke req .PORT_RESET none = 0 ∧ port < 512 ∧ s.get .PORT_ROLE port = 3) ∧
  (∃ (s : State) (_t : Time) (req : Req) (p : Nat),
    s.errs = [] ∧ s.hears req ∧ s.mayInvoke req .PARTITION_RESET none = 0 ∧ p < 4096 ∧ s.get .PARTITION_STATE p = 2) ∧
  (∃ (s : State) (_t : Time) (req : Req) (p : Nat),
    s.errs = [] ∧ s.hears req ∧ s.mayInvoke req .PARTITION_RESET none = 0 ∧ 4096 ≤ p) ∧
  (∃ (s : State) (_t : Time) (req : Req) (p : Nat),
    s.errs = [] ∧ s.hears req ∧ s.mayInvoke req .PARTITION_RESET none = 0 ∧ p < 4096 ∧ s.get .PARTITION_STATE p ≠ 2 ∧ s.get .PARTITION_STATE p ≠ 3) ∧
  (∃ (s : State) (t : Time) (p : Nat),
    p < 4096 ∧ s.errs = [] ∧ s.get .PARTITION_STATE p = 1 ∧ (s.parts.getD {} p).from0 = false ∧ s.hostUp p = true ∧ (s.at t).isEdge (max s.now t) = true) ∧
  (∃ (s : State) (t : Time) (p : Nat),
    p < 4096 ∧ s.errs = [] ∧ [1, 3, 4].contains (s.get .PARTITION_STATE p) = true ∧ (s.at t).isEdge (max s.now t) = false) ∧
  (∃ (s : State) (_t : Time) (p : Nat),
    p < 4096 ∧ s.errs = [] ∧ [1, 3, 4].contains (s.get .PARTITION_STATE p) = false) ∧
  (∃ (s : State) (_t : Time) (req : Req) (_port : Nat),
    s.hears req ∧ s.mayInvoke req .PORT_RESET none = 0) ∧
  (∃ (s : State) (_t : Time) (req : Req) (p : Nat),
    s.errs = [] ∧ s.hears req ∧ s.mayInvoke req .PARTITION_RESET none = 0 ∧ p < 4096 ∧ s.get .PARTITION_STATE p = 3) ∧
  (∃ (s : State) (_t : Time) (req : Req) (p : Nat),
    s.hears req ∧ s.mayInvoke req .PARTITION_RESET none = 0 ∧ p < 4096) ∧
  (∃ (_s : State) (_t : Time) (p : Nat),
    p < 4096) :=
  ⟨⟨{ State.reset with boot := .odtaku }, 0, { path := .smMailbox }, 8, by decide +kernel⟩,
  ⟨{ State.reset.put .PORT_ROLE 8 2 |>.put .DP_STATE 8 4 |>.put .GRAFT_STATE 3 3 |>.put .GFID 3 0x1000 |>.put .FN_NODE 0x1000 0 |>.put .FN_PORT 0x1000 8 with boot := .odtaku, grafts := [(3, { inForce := true })] }, 0, { path := .smMailbox }, 8, by decide +kernel⟩,
  ⟨{ State.reset.put .PORT_ROLE 8 2 with boot := .odtaku }, 0, { path := .smMailbox }, 8, by decide +kernel⟩,
  ⟨{ State.reset.put .PORT_ROLE 8 1 with boot := .odtaku }, 0, { path := .smMailbox }, 8, by decide +kernel⟩,
  ⟨{ State.reset.put .PORT_ROLE 8 3 with boot := .odtaku }, 0, { path := .smMailbox }, 8, by decide +kernel⟩,
  ⟨{ State.reset.put .PARTITION_STATE 3 2 with boot := .odtaku }, 0, { path := .smMailbox }, 3, by decide +kernel⟩,
  ⟨{ State.reset with boot := .odtaku }, 0, { path := .smMailbox }, 5000, by decide +kernel⟩,
  ⟨{ State.reset with boot := .odtaku }, 0, { path := .smMailbox }, 3, by decide +kernel⟩,
  ⟨{ State.reset.put .PARTITION_STATE 3 1 |>.put .HOST_NODE 3 0 |>.put .HOST_PORT 3 8 with parts := [(3, { resets := true })], pports := [(8, { up := true })] }, 0, 3, by decide +kernel⟩,
  ⟨State.reset.put .PARTITION_STATE 3 1, 1, 3, by decide +kernel⟩,
  ⟨State.reset, 1, 3, by decide +kernel⟩,
  ⟨{ State.reset with boot := .odtaku }, 0, { path := .smMailbox }, 8, by decide +kernel⟩,
  ⟨{ State.reset.put .PARTITION_STATE 3 3 with boot := .odtaku }, 0, { path := .smMailbox }, 3, by decide +kernel⟩,
  ⟨{ State.reset with boot := .odtaku }, 0, { path := .smMailbox }, 3, by decide +kernel⟩,
  ⟨State.reset, 0, 3, by decide +kernel⟩⟩

theorem witness_FirmwareBanksAreErasedWrittenAndVerified :
  (∃ (s : State) (_t : Time) (req : Req) (bank : Nat),
    s.errs = [] ∧ s.hears req ∧ s.mayInvoke req .FW_ERASE none = 0 ∧ bank < 2 ∧ s.get .FW_OP_STATE = 0 ∧ bank ≠ s.activeFwBank) ∧
  (∃ (s : State) (_t : Time) (req : Req) (bank : Nat),
    s.errs = [] ∧ s.hears req ∧ s.mayInvoke req .FW_ERASE none = 0 ∧ (2 ≤ bank ∨ s.get .FW_OP_STATE ≠ 0 ∨ bank = s.activeFwBank)) ∧
  (∃ (s : State) (_t : Time) (req : Req) (bank offset : Nat) (bytes : List Nat),
    s.errs = [] ∧ s.hears req ∧ s.mayInvoke req .FW_WRITE none = 0 ∧ s.flash.wf = true ∧ bank < 2 ∧ s.get .FW_OP_STATE = 0 ∧ bank ≠ s.activeFwBank ∧ bytes ≠ [] ∧ bytes.length ≤ 1016 ∧ offset + bytes.length ≤ 0x400000) ∧
  (∃ (s : State) (_t : Time) (req : Req) (_bank _offset : Nat) (bytes : List Nat),
    s.errs = [] ∧ s.hears req ∧ s.mayInvoke req .FW_WRITE none = 0 ∧ (bytes = [] ∨ 1016 < bytes.length)) ∧
  (∃ (s : State) (_t : Time) (req : Req) (bank offset : Nat) (bytes : List Nat),
    s.errs = [] ∧ s.hears req ∧ s.mayInvoke req .FW_WRITE none = 0 ∧ bytes ≠ [] ∧ bytes.length ≤ 1016 ∧ (2 ≤ bank ∨ s.get .FW_OP_STATE ≠ 0 ∨ bank = s.activeFwBank ∨ 0x400000 < offset + bytes.length)) ∧
  (∃ (s : State) (_t : Time) (req : Req) (bank : Nat),
    s.errs = [] ∧ s.hears req ∧ s.mayInvoke req .FW_VERIFY none = 0 ∧ bank < 2 ∧ s.get .FW_OP_STATE = 0 ∧ bank ≠ s.activeFwBank) ∧
  (∃ (s : State) (_t : Time) (req : Req) (bank : Nat),
    s.errs = [] ∧ s.hears req ∧ s.mayInvoke req .FW_VERIFY none = 0 ∧ (2 ≤ bank ∨ s.get .FW_OP_STATE ≠ 0 ∨ bank = s.activeFwBank)) ∧
  (∃ (s : State) (_t : Time),
    s.errs = [] ∧ s.get .FW_OP_STATE = 1 ∧ s.flash.wf = true) ∧
  (∃ (s : State) (_t : Time),
    s.errs = [] ∧ s.get .FW_OP_STATE = 2) ∧
  (∃ (s : State) (_t : Time),
    s.errs = [] ∧ s.get .FW_OP_STATE = 3 ∧ s.get .PAIR_B_STATE = 0) ∧
  (∃ (s : State) (_t : Time),
    s.errs = [] ∧ (s.get .FW_OP_STATE = 0 ∨ (s.get .FW_OP_STATE = 3 ∧ s.get .PAIR_B_STATE ≠ 0))) ∧
  (∃ (s : State) (_t : Time) (req : Req) (_bank : Nat),
    s.hears req ∧ s.mayInvoke req .FW_ERASE none = 0) ∧
  (∃ (s : State) (_t : Time) (req : Req) (_bank : Nat),
    s.hears req ∧ s.mayInvoke req .FW_VERIFY none = 0) :=
  ⟨⟨{ State.reset with boot := .odtaku, objs := [(.FW_BANK_STATE, [(0, 2), (1, 1)])] }, 0, { path := .smMailbox }, 1, by decide +kernel⟩,
  ⟨{ State.reset with boot := .odtaku, objs := [(.FW_BANK_STATE, [(0, 2), (1, 1)])] }, 0, { path := .smMailbox }, 0, by decide +kernel⟩,
  ⟨{ State.reset with boot := .odtaku, objs := [(.FW_BANK_STATE, [(0, 2), (1, 1)])] }, 0, { path := .smMailbox }, 1, 5, [1, 2, 255], by decide +kernel⟩,
  ⟨{ State.reset with boot := .odtaku, objs := [(.FW_BANK_STATE, [(0, 2), (1, 1)])] }, 0, { path := .smMailbox }, 1, 5, [], by decide +kernel⟩,
  ⟨{ State.reset with boot := .odtaku, objs := [(.FW_BANK_STATE, [(0, 2), (1, 1)])] }, 0, { path := .smMailbox }, 1, 0x3FFFFF, [7, 8], by decide +kernel⟩,
  ⟨{ State.reset with boot := .odtaku, objs := [(.FW_BANK_STATE, [(0, 2), (1, 1)])] }, 0, { path := .smMailbox }, 1, by decide +kernel⟩,
  ⟨{ State.reset with boot := .odtaku, objs := [(.FW_BANK_STATE, [(0, 2), (1, 1)]), (.FW_OP_STATE, [(0, 1)])] }, 0, { path := .smMailbox }, 1, by decide +kernel⟩,
  ⟨{ State.reset with flash := [(0x400000, 5#8)], fw := { bank := 1 }, objs := [(.FW_OP_STATE, [(0, 1)])] }, 0, by decide +kernel⟩,
  ⟨State.reset.put .FW_OP_STATE 0 2, 0, by decide +kernel⟩,
  ⟨State.reset.put .FW_OP_STATE 0 3, 0, by decide +kernel⟩,
  ⟨State.reset, 0, by decide +kernel⟩,
  ⟨{ State.reset with boot := .odtaku, objs := [(.FW_BANK_STATE, [(0, 2), (1, 1)])] }, 0, { path := .smMailbox }, 1, by decide +kernel⟩,
  ⟨{ State.reset with boot := .odtaku, objs := [(.FW_BANK_STATE, [(0, 2), (1, 1)])] }, 0, { path := .smMailbox }, 1, by decide +kernel⟩⟩

theorem witness_FirmwareSwitchesAndFallsBack :
  (∃ (s : State) (t : Time) (req : Req) (offers : List Time) (nodes : Nat),
    s.errs = [] ∧ s.hears req ∧ s.mayInvoke req .FW_SWITCH none = 0 ∧ s.get .FW_OP_STATE = 0 ∧ (∀ k ∈ s.named nodes, s.standbyOk k = true ∧ s.orchGet .PAIR_A_STATE k 0 = 0 ∧ s.orchGet .PAIR_B_STATE k 0 = 0) ∧ s.epochsRefused = false ∧ (s.at t).checkOffers offers = 0 ∧ (s.unitsBusy ((s.named nodes).map fun (n : Nat) => (n, 14)) = false)) ∧
  (∃ (s : State) (_t : Time) (req : Req) (_offers : List Time) (nodes : Nat),
    s.errs = [] ∧ s.hears req ∧ s.mayInvoke req .FW_SWITCH none = 0 ∧ (s.get .FW_OP_STATE ≠ 0 ∨ ∃ k ∈ s.named nodes, s.standbyOk k = false)) ∧
  (∃ (s : State) (_t : Time),
    s.errs = [] ∧ (s.pairH 0).reloading = true ∧ s.get .PAIR_A_STATE = 1 ∧ s.fw.trialUntil.isSome = true ∧ s.get .KEEPER_ROLE ≠ 1 ∧ (∀ r ∈ s.mboxes.keys, (s.mbox r).late = false)) ∧
  (∃ (s : State) (_t : Time),
    s.errs = [] ∧ (s.pairH 1).reloading = true ∧ s.get .PAIR_B_STATE = 1 ∧ s.fw.trialUntil.isSome = true ∧ s.get .KEEPER_ROLE ≠ 1 ∧ s.fw.old < 2) ∧
  (∃ (s : State) (_t : Time) (pair : Nat),
    pair < 2 ∧ s.errs = [] ∧ ((s.pairH pair).reloading = false ∨ s.get (pairObj pair) ≠ 1)) ∧
  (∃ (s : State) (t : Time) (pair : Nat) (u : Time),
    pair < 2 ∧ s.errs = [] ∧ s.boot = .odtaku ∧ s.get (pairObj pair) = 0 ∧ s.openRec { code := 0x3007, kind := 1, idx := 14, region := 14, detail := pair } = none ∧ s.log.length < 4096 ∧ s.fw.trialUntil = some u ∧ max s.now t < u ∧ s.fw.old < 2) ∧
  (∃ (s : State) (_t : Time) (u : Time),
    s.errs = [] ∧ s.fw.trialUntil = some u) ∧
  (∃ (s : State) (_t : Time),
    s.errs = [] ∧ s.fw.trialUntil = none) ∧
  (∃ (s : State) (t : Time) (req : Req) (offers : List Time) (nodes c : Nat),
    s.errs = [] ∧ s.hears req ∧ s.mayInvoke req .FW_SWITCH none = 0 ∧ (firstCode [codeIf (s.get .FW_OP_STATE ≠ 0) 0x0501, codeIf (!(s.named nodes).all s.standbyOk) 0x0401,
      codeIf (s.epochsRefused || (s.named nodes).any fun n => s.orchGet .PAIR_A_STATE n 0 ≠ 0 || s.orchGet .PAIR_B_STATE n 0 ≠ 0) 0x0404, (s.at t).checkOffers offers, codeIf (s.unitsBusy ((s.named nodes).map fun (n : Nat) => (n, 14))) 0x0602] = c) ∧ c ≠ 0) ∧
  (∃ (s : State) (_t : Time) (req : Req) (_offers : List Time) (_nodes : Nat),
    s.hears req ∧ s.mayInvoke req .FW_SWITCH none = 0) ∧
  (∃ (_s : State) (_t : Time) (pair : Nat),
    pair < 2) :=
  ⟨⟨{ State.reset with boot := .odtaku, objs := [(.FW_BANK_STATE, [(0, 2), (1, 1)]), (.KEEPER_ROLE, [(0, 1)])] }, 0, { path := .smMailbox }, [ns 125000 * 8], 0, by decide +kernel⟩,
  ⟨{ State.reset with boot := .odtaku, objs := [(.FW_OP_STATE, [(0, 1)])] }, 0, { path := .smMailbox }, [], 0, by decide +kernel⟩,
  ⟨{ State.reset.put .PAIR_A_STATE 0 1 with fw := { trialUntil := some (ms 9) }, pairs := [(0, { reloading := true })] }, 0, by decide +kernel⟩,
  ⟨{ State.reset.put .PAIR_B_STATE 0 1 with fw := { trialUntil := some (ms 9), decided := true }, pairs := [(1, { reloading := true })] }, 0, by decide +kernel⟩,
  ⟨State.reset, 0, 1, by decide +kernel⟩,
  ⟨{ State.reset with boot := .odtaku, fw := { trialUntil := some (ms 9) } }, 0, 1, ms 9, by decide +kernel⟩,
  ⟨{ State.reset with fw := { trialUntil := some (ms 9) } }, ms 9, ms 9, by decide +kernel⟩,
  ⟨State.reset, 0, by decide +kernel⟩,
  ⟨{ State.reset with boot := .odtaku, objs := [(.FW_OP_STATE, [(0, 1)])] }, 0, { path := .smMailbox }, [], 0, 0x0501, by decide +kernel⟩,
  ⟨{ State.reset with boot := .odtaku }, 0, { path := .smMailbox }, [], 0, by decide +kernel⟩,
  ⟨State.reset, 0, 1, by decide +kernel⟩⟩

theorem witness_CountersWrapAndClear :
  (∃ (s : State) (_t : Time) (req : Req) (key : Nat),
    s.errs = [] ∧ s.hears req ∧ s.mayInvoke req .CTR_CLEAR (some key) = 0 ∧ key < 768 ∧ s.get .CTR_EVENT key % 1024 ≠ 0xC3 ∧ req.path = .smMailbox) ∧
  (∃ (s : State) (_t : Time) (key : Nat),
    key < 768 ∧ s.errs = [] ∧ s.get .CTR_VALUE key = 2 ^ 48 - 1 ∧ s.get .CTR_EVENT key % 1024 ≠ 1) ∧
  (∃ (s : State) (_t : Time) (key : Nat),
    key < 768 ∧ s.errs = [] ∧ s.get .CTR_VALUE key < 2 ^ 48 - 1 ∧ s.get .CTR_EVENT key % 1024 ≠ 1) ∧
  (∃ (s : State) (_t : Time) (req : Req),
    s.errs = [] ∧ s.hears req ∧ s.mayInvoke req .SAMPLE_CLEAR none = 0) ∧
  (∃ (s : State) (_t : Time) (req : Req) (region : Nat),
    s.errs = [] ∧ s.hears req ∧ s.mayInvoke req .PEAK_CLEAR (some region) = 0) ∧
  (∃ (s : State) (_t : Time) (req : Req) (key : Nat),
    s.hears req ∧ s.mayInvoke req .CTR_CLEAR (some key) = 0) ∧
  (∃ (_s : State) (_t : Time) (key : Nat),
    key < 768) ∧
  (∃ (s : State) (_t : Time) (req : Req),
    s.hears req ∧ s.mayInvoke req .SAMPLE_CLEAR none = 0) ∧
  (∃ (s : State) (_t : Time) (req : Req) (region : Nat),
    s.hears req ∧ s.mayInvoke req .PEAK_CLEAR (some region) = 0) :=
  ⟨⟨{ State.reset with boot := .odtaku }, ms 1, { path := .smMailbox }, 80, by decide +kernel⟩,
  ⟨State.reset.put .CTR_VALUE 80 (2 ^ 48 - 1), 0, 80, by decide +kernel⟩,
  ⟨State.reset, 0, 80, by decide +kernel⟩,
  ⟨{ State.reset with boot := .odtaku }, 0, { path := .smMailbox }, by decide +kernel⟩,
  ⟨{ State.reset with boot := .odtaku }, 0, { path := .smMailbox }, 3, by decide +kernel⟩,
  ⟨{ State.reset with boot := .odtaku }, ms 1, { path := .smMailbox }, 80, by decide +kernel⟩,
  ⟨State.reset, 0, 80, by decide +kernel⟩,
  ⟨{ State.reset with boot := .odtaku }, 0, { path := .smMailbox }, by decide +kernel⟩,
  ⟨{ State.reset with boot := .odtaku }, 0, { path := .smMailbox }, 3, by decide +kernel⟩⟩

end
end

section
/-! SUPPORT. The outcome of a command: every meaning ends in `unit`, or in `unitFlash` for the two commands that write
the flash, over the check of its operands; and the statements that follow from that alone. -/

namespace Sys2Proof.Machine

open Sys2Proof

/-! ## The outcome of a command -/

/-- Where the operands pass, a command's outcome is its next state. -/
theorem unit_next {s e : State} {ok : Bool} (h : ok = true) : unit s ok e = .next (e.finish s) := by
  rw [h, unit_true]

theorem unitFlash_next {s e : State} {ok : Bool} (h : ok = true) : unitFlash s ok e = .next (e.finishFlash s) := by
  rw [h, unitFlash_true]

/-- A command that may write the flash (R398). -/
@[reducible] def WritesFlash (c : Instr) : Prop :=
  (∃ t, c = .fwOperationComplete t) ∨ ∃ t req bank offset bytes, c = .fwWrite t req bank offset bytes

/-- What a command can do: it ends over its operands' check, and only a command that writes the flash keeps what it
wrote there. -/
theorem exec_outcome (c : Instr) (s : State) :
    (∃ e, exec c s = unit s c.wf e) ∨ (WritesFlash c ∧ ∃ e, exec c s = unitFlash s c.wf e) := by
  cases c
  case fwOperationComplete t => exact .inr ⟨.inl ⟨t, rfl⟩, _, rfl⟩
  case fwWrite t req bank offset bytes => exact .inr ⟨.inr ⟨t, req, bank, offset, bytes, rfl⟩, _, rfl⟩
  all_goals exact .inl ⟨_, rfl⟩

/-- The next state of a command is one. -/
theorem next_inj {s s' : State} {c : Instr} {e : State} (h : exec c s = .next s') (he : exec c s = .next e) : s' = e :=
  Host.Outcome.next.inj (h.symm.trans he)

/-- Both outcomes at once: what stands under the operands' check is the next state. -/
theorem next_of_pass {ok : Bool} {e : State} (h : ok = true) :
    (if ok then .next e else .fault .noSuchUnit : Res) = .next e := if_pos h

/-- A command that has raised errors ends in what their capture leaves, booked objects apart. -/
theorem finish_get_settled (e s : State) {o : Obj} (ho : o.booked = false) (r : Nat) :
    (e.finish s).get o r = e.settle.get o r := by
  have hirqs := (e.settle.irqsOf_eq s).2 o r ho
  show (e.done s).get o r = _
  unfold State.done
  dsimp only
  split
  · rfl
  · split
    · exact (((e.settle.irqsOf s).measured_booked s).2 o r ho).trans hirqs
    · exact hirqs

/-! ## The statements -/

/-- Settles O1: a step takes the front of the queue off and runs it. -/
theorem stepRunsTheFrontCommand : Obligations.StepRunsTheFrontCommand := by
  refine ⟨fun c s => rfl, fun s h => ?_⟩
  simp only [step, h]

/-- Settles O4, by the outcome of a command. -/
theorem commandsStopOnlyOutsideThePart : Obligations.CommandsStopOnlyOutsideThePart := by
  intro c s
  obtain ⟨e, h⟩ | ⟨hc, e, h⟩ := exec_outcome c s
  · exact ⟨fun hw => ⟨e.finish s, h.trans (unit_next hw), e.finish_errs s, e.finish_pending s, .inl (e.finish_flash s)⟩,
      fun hw => by rw [h, hw, unit_false]⟩
  · exact ⟨fun hw => ⟨e.finishFlash s, h.trans (unitFlash_next hw), e.finishFlash_errs s, e.finishFlash_pending s, .inr hc⟩,
      fun hw => by rw [h, hw, unitFlash_false]⟩

/-- Settles O8: each command's meaning is its own effect under `unit` or `unitFlash`, so that with its operands in the
part the next state is that effect, finished. -/
theorem everyCommandCompletesWithItsEffect : Obligations.EveryCommandCompletesWithItsEffect := by
  unfold Obligations.EveryCommandCompletesWithItsEffect
  and_intros
  all_goals
    intros
    exact next_of_pass ‹_›

end Sys2Proof.Machine
end

section
/-! SUPPORT. Statements that fail, each with a state in which the model does otherwise. -/

namespace Sys2Proof.Machine

open Sys2Proof

/-! ## A TLP under IDE whose stream is not active fails its check before the parse stage (R258) -/

/-- A chip whose host port 8 is up, with no IDE stream active. -/
def hostPortUp : State := { State.reset.put .PORT_ROLE 8 1 with pports := [(8, { up := true })] }

/-- A write under IDE, from a requester that belongs to no partition. -/
def secureWrite : Tlp := { kind := .memWrite, addr := 4096, data := 64, ide := .secure }

/-- The stream of the write is not active, so the port counts a failed check. -/
theorem secureWrite_countsFailedCheck :
    ((if (hostPortUp.at 0).pciUp 8 then (hostPortUp.at 0).receive 8 secureWrite else hostPortUp.at 0).finish hostPortUp).get
      .IDE_CHECK_FAILS 8 = 1 := by
  decide +kernel

/-- Refutes O26: a TLP whose ID belongs to no partition is not dropped with event 83 where IDE checks it and its stream
is not active (R258): it fails before the parse stage, and IDE_CHECK_FAILS counts it. -/
theorem not_tlpsAreParsedAtTheirIngress : ¬ Obligations.TlpsAreParsedAtTheirIngress := by
  intro h
  obtain ⟨-, dropped, -⟩ := h
  obtain ⟨s', hs', -, same, -⟩ := dropped hostPortUp 0 8 secureWrite (by decide) rfl (by decide +kernel) (by decide +kernel)
    rfl rfl rfl rfl (by decide) (by decide +kernel)
  have hfails := same .IDE_CHECK_FAILS 8 rfl (by simp)
  rw [next_inj hs' (unit_next rfl), secureWrite_countsFailedCheck] at hfails
  exact absurd hfails (by decide +kernel)

/-! ## An empty list held for a cluster's receive FIFO -/

/-- A chip whose table of receive FIFOs lists an empty FIFO for cluster 1. -/
def emptyFifoListed : State := { State.reset with rx := [(1, [])] }

/-- The entry goes when the FIFO is taken up, since an empty FIFO is the default. -/
theorem emptyFifoListed_resumed : (((emptyFifoListed.at 0).resume 8).finish emptyFifoListed).rx = [] := by
  decide +kernel

/-- Refutes O28: the table of receive FIFOs is not as before where it listed an empty FIFO for the port's cluster, which
RECEIVE_FIFO_RESUME takes out of the table. -/
theorem not_windowsCommitAndCreditsReturn : ¬ Obligations.WindowsCommitAndCreditsReturn := by
  intro h
  obtain ⟨-, -, -, -, -, -, nothingWaits, -⟩ := h
  obtain ⟨s', hs', -, -, -, -, hrx, -⟩ := nothingWaits emptyFifoListed 0 8 (by decide) rfl rfl
  rw [next_inj hs' (unit_next rfl), emptyFifoListed_resumed] at hrx
  exact absurd hrx (by decide)

/-! ## A configuration request that waits for firmware when pair A stops (R349) -/

/-- A chip on which one configuration request of partition 3 waits for firmware. -/
def requestWaits : State :=
  { State.reset.put .CFG_FW_PENDING 3 1 with boot := .odtaku, cfgWait := [(3, [{ bus := 0, dev := 0, fn := 0, reg := 4 }])] }

/-- Hardware completes it with Retry Status when the pair stops, and none is pending. -/
theorem requestWaits_answered : (((requestWaits.at 0).stopPair 0).finish requestWaits).get .CFG_FW_PENDING 3 = 0 := by
  rw [finish_get_settled _ _ rfl]
  decide +kernel

/-- Refutes O49: more than the pair's state, its stops and the log's number change when pair A stops: the configuration
requests that wait for firmware are completed with Retry Status, and CFG_FW_PENDING of their partitions is 0 (R349). -/
theorem not_pairsStopRestartAndHalt : ¬ Obligations.PairsStopRestartAndHalt := by
  intro h
  obtain ⟨stops, -⟩ := h
  obtain ⟨s', hs', -, -, -, -, same, -⟩ := stops requestWaits 0 0 (by decide) rfl rfl (by decide +kernel) (by decide +kernel)
    (by decide) rfl
  have hpending := same rfl .CFG_FW_PENDING 3 rfl (by decide)
  rw [next_inj hs' (unit_next rfl), requestWaits_answered] at hpending
  exact absurd hpending (by decide +kernel)

end Sys2Proof.Machine
end

section
/-! SUPPORT. The cell buffer and the flow queues: what each shared operation on them leaves (R126 to R146). -/

namespace Sys2Proof.Machine

open Sys2Proof

/-! ## Sub-lists and queues -/

@[simp] theorem Queue.sub_setSub (q : Queue) (l : SubQ) (u : Sub) : (q.setSub l u).sub u = l := by
  cases u <;> rfl

@[simp] theorem Queue.sub_retagged (q : Queue) (p : Bool) (n : Nat) (u : Sub) :
    ({ q with parked := p, tag := n } : Queue).sub u = q.sub u := by
  cases u <;> rfl

theorem State.updQ_eq (s : State) (k : Nat) (f : Queue → Queue) :
    s.updQ k f = { s with queues := (s.updQ k f).queues } := by
  unfold State.updQ
  cases s.queues.find k <;> rfl

@[simp] theorem State.updQ_get (s : State) (k : Nat) (f : Queue → Queue) (o : Obj) (r : Nat) :
    (s.updQ k f).get o r = s.get o r := State.get_congr (by rw [State.updQ_eq]) o r

/-- A queue found after one is changed. -/
theorem State.find_updQ (s : State) (k : Nat) (f : Queue → Queue) (j : Nat) :
    (s.updQ k f).queues.find j = if k = j then (s.queues.find k).map f else s.queues.find j := by
  unfold State.updQ
  cases h : s.queues.find k with
  | none => by_cases hj : k = j <;> simp [hj] ; simpa [hj] using h
  | some q => simp [Tab.find_set]

theorem State.find_updQ_ne {k j : Nat} (h : j ≠ k) (s : State) (f : Queue → Queue) :
    (s.updQ k f).queues.find j = s.queues.find j := by rw [State.find_updQ, if_neg h.symm]

theorem State.subOf_of_find {s : State} {k : Nat} {q : Queue} (h : s.queues.find k = some q) (u : Sub) :
    s.subOf k u = q.sub u := by rw [State.subOf, h, Option.getD_some]

theorem State.subOf_congr {s s' : State} (h : s'.queues = s.queues) (k : Nat) (u : Sub) : s'.subOf k u = s.subOf k u := by
  rw [State.subOf, h, State.subOf]

/-- A sub-list of an allocated queue after it is changed. -/
theorem State.subOf_updSub {s : State} {k : Nat} {q : Queue} (h : s.queues.find k = some q) (u : Sub) (f : SubQ → SubQ) :
    (s.updSub k u f).subOf k u = f (q.sub u) := by
  have hk : (s.updSub k u f).queues.find k = some (q.setSub (f (q.sub u)) u) := by
    rw [State.updSub, State.find_updQ, if_pos rfl, h, Option.map_some]
  rw [State.subOf_of_find hk, Queue.sub_setSub]

/-- A queue that is unparked keeps its sub-lists. -/
theorem State.find_unpark {s : State} {k : Nat} {q : Queue} (h : s.queues.find k = some q) :
    ∃ p, (s.unpark k).queues.find k = some p ∧ p.parked = false ∧ ∀ u, p.sub u = q.sub u := by
  rw [State.unpark, State.find_updQ, if_pos rfl, h, Option.map_some]
  refine ⟨_, rfl, ?_⟩
  by_cases hp : q.parked = true
  · rw [if_pos hp]
    exact ⟨rfl, q.sub_retagged false _⟩
  · rw [if_neg hp]
    exact ⟨by simpa using hp, fun u => rfl⟩

/-! ## Cells taken and freed -/

/-- `s'` differs from `s` in the cells of the buffer alone, with their rotation, marks and the clock's count. -/
def OnlyCells (s' s : State) : Prop :=
  ∃ c r l t f, s' = { s with cells := c, bankRot := r, leaks := l, touched := t, clockF := f }

theorem OnlyCells.refl (s : State) : OnlyCells s s := ⟨_, _, _, _, _, rfl⟩

theorem OnlyCells.trans {a b c : State} (h : OnlyCells c b) (g : OnlyCells b a) : OnlyCells c a := by
  obtain ⟨_, _, _, _, _, rfl⟩ := g
  obtain ⟨_, _, _, _, _, rfl⟩ := h
  exact ⟨_, _, _, _, _, rfl⟩

theorem OnlyCells.queues {s' s : State} (h : OnlyCells s' s) : s'.queues = s.queues := by
  obtain ⟨_, _, _, _, _, rfl⟩ := h; rfl

theorem OnlyCells.get {s' s : State} (h : OnlyCells s' s) (o : Obj) (r : Nat) : s'.get o r = s.get o r := by
  obtain ⟨_, _, _, _, _, rfl⟩ := h; rfl

theorem State.noteClock_eq (s : State) : ∃ f, s.noteClock = { s with clockF := f } := by
  unfold State.noteClock
  split
  · exact ⟨s.clockF, rfl⟩
  · exact ⟨_, rfl⟩

theorem OnlyCells.freeCells (s : State) (cs : List Nat) : OnlyCells (s.freeCells cs) s := by
  obtain ⟨f, h⟩ := s.noteClock_eq
  unfold State.freeCells
  rw [h]
  exact ⟨_, _, _, _, _, rfl⟩

@[simp] theorem State.freeCells_cells (s : State) (cs : List Nat) :
    (s.freeCells cs).cells = cs.foldl (fun t c => t.erase c) s.cells := by
  obtain ⟨f, h⟩ := s.noteClock_eq
  unfold State.freeCells
  rw [h]

/-- Keys erased one after another are found no more, others as before. -/
theorem Tab.find_foldl_erase {α : Type} (cs : List Nat) (t : Tab α) (i : Nat) :
    (cs.foldl (fun t c => t.erase c) t).find i = if i ∈ cs then none else t.find i := by
  induction cs generalizing t with
  | nil => simp
  | cons c cs ih =>
    rw [List.foldl_cons, ih, Tab.find_erase]
    by_cases hi : i ∈ cs
    · simp [hi]
    · by_cases hc : c = i
      · simp [hc]
      · simp [hi, hc, Ne.symm hc]

/-- A cell freed is in use no more (R128). -/
theorem State.find_freeCells {cs : List Nat} {c : Nat} (h : c ∈ cs) (s : State) : (s.freeCells cs).cells.find c = none := by
  rw [State.freeCells_cells, Tab.find_foldl_erase, if_pos h]

theorem State.allocCell_eq {s a : State} {cl w c : Nat} (h : s.allocCell cl w = some (c, a)) :
    OnlyCells a s ∧ a.cells = s.cells.set c w := by
  obtain ⟨f, hf⟩ := s.noteClock_eq
  unfold State.allocCell at h
  rw [hf] at h
  dsimp only at h
  split at h
  · cases h
  · obtain ⟨rfl, rfl⟩ := Prod.mk.inj (Option.some.inj h)
    exact ⟨⟨_, _, _, _, _, rfl⟩, rfl⟩

/-- Cells taken change the buffer alone; each of them, and each cell that held the charge word, holds it (R128). -/
theorem State.allocCells_eq {n : Nat} {s a : State} {cl w : Nat} {cs : List Nat} (h : s.allocCells cl w n = some (cs, a)) :
    OnlyCells a s ∧ ∀ c, c ∈ cs ∨ s.cells.find c = some w → a.cells.find c = some w := by
  induction n generalizing s cs with
  | zero =>
    obtain ⟨rfl, rfl⟩ := Prod.mk.inj (Option.some.inj h)
    exact ⟨.refl s, fun c hc => by simpa using hc⟩
  | succ n ih =>
    unfold State.allocCells at h
    split at h
    · cases h
    · next c s1 h1 =>
      obtain ⟨only, hcells⟩ := State.allocCell_eq h1
      split at h
      · cases h
      · next cs1 s2 h2 =>
        obtain ⟨rfl, rfl⟩ := Prod.mk.inj (Option.some.inj h)
        obtain ⟨only', hfind⟩ := ih h2
        refine ⟨only'.trans only, fun d hd => hfind d ?_⟩
        rw [hcells, Tab.find_set]
        by_cases hdc : c = d
        · simp [hdc]
        · simpa [hdc, eq_comm] using hd

/-! ## Counting -/

theorem OnlyBooked.countQuad (s : State) (q code n : Nat) (p : Pkt) : OnlyBooked (s.countQuad q code n p) s :=
  OnlyBooked.foldl _ (fun s _ => .countAt s ..) _ _

theorem OnlyBooked.countStack (s : State) (stack code n : Nat) : OnlyBooked (s.countStack stack code n) s :=
  OnlyBooked.countAt s ..

/-! ## The frame of an operation on one queue -/

/-- `s'` is `s` but for the queue of key k, the buffer's cells and the rows listed, as the commands of the spill path
leave it. -/
structure OnQueue (k : Nat) (l : List (Obj × Nat)) (s' s : State) : Prop where
  others : ∀ j, j ≠ k → s'.queues.find j = s.queues.find j
  dict : s'.SameBut s l
  rx : s'.rx = s.rx
  tags : s'.tags = s.tags
  errs : s'.errs = s.errs

namespace OnQueue

variable {k : Nat} {l : List (Obj × Nat)} {a b c s : State}

theorem refl (s : State) : OnQueue k l s s := ⟨fun _ _ => rfl, SameBut.refl s l, rfl, rfl, rfl⟩

theorem trans (h : OnQueue k l c b) (g : OnQueue k l b a) : OnQueue k l c a :=
  ⟨fun j hj => (h.others j hj).trans (g.others j hj), SameBut.trans h.dict g.dict, h.rx.trans g.rx, h.tags.trans g.tags,
    h.errs.trans g.errs⟩

theorem later (s : State) (t : Time) : OnQueue k l (s.at t) s :=
  ⟨fun _ _ => by rw [State.at_queues], SameBut.at s t l, s.at_rx t, s.at_tags t, s.at_errs t⟩

theorem finish (h : OnQueue k l b a) (hs : a.errs = []) : OnQueue k l (b.finish a) a :=
  have hb : b.errs = [] := h.errs.trans hs
  ⟨fun j hj => by rw [State.finish_queues hb]; exact h.others j hj, SameBut.trans (SameBut.finish hb a l) h.dict,
    (State.finish_rx hb a).trans h.rx, (State.finish_tags hb a).trans h.tags, by rw [State.finish_errs, hs]⟩

theorem updQ (s : State) (f : Queue → Queue) : OnQueue k l (s.updQ k f) s := by
  have h := s.updQ_eq k f
  exact ⟨fun j hj => State.find_updQ_ne hj s f, SameBut.of_objs (by rw [h]) l, by rw [h], by rw [h], by rw [h]⟩

theorem booked (h : OnlyBooked b a) : OnQueue k l b a := by
  have dict := SameBut.booked h l
  obtain ⟨⟨_, rfl⟩, -⟩ := h
  exact ⟨fun _ _ => rfl, dict, rfl, rfl, rfl⟩

theorem cells (h : OnlyCells b a) : OnQueue k l b a := by
  obtain ⟨_, _, _, _, _, rfl⟩ := h
  exact ⟨fun _ _ => rfl, SameBut.of_objs rfl l, rfl, rfl, rfl⟩

theorem bump (s : State) {o : Obj} {i : Nat} (n : Nat) (h : (o, i) ∈ l) : OnQueue k l (s.bump o i n) s :=
  ⟨fun _ _ => rfl, SameBut.bump s n h, rfl, rfl, rfl⟩

theorem xPut (s : State) (x : Xing) (n : Nat) : OnQueue k l (s.xPut x n) s :=
  ⟨fun _ _ => rfl, SameBut.of_objs rfl l, rfl, rfl, rfl⟩

end OnQueue

/-! ## Time goes on -/

@[simp] theorem State.at_subOf (s : State) (t : Time) (k : Nat) (u : Sub) : (s.at t).subOf k u = s.subOf k u :=
  State.subOf_congr (s.at_queues t) k u

@[simp] theorem State.at_stackOk (s : State) (t : Time) (h : Nat) : (s.at t).stackOk h = s.stackOk h := by
  simp only [State.stackOk, State.runs, State.at_get s t (o := .REGION_STATE) rfl]

@[simp] theorem State.at_reserveFree (s : State) (t : Time) : (s.at t).reserveFree = s.reserveFree := by
  simp only [State.reserveFree, State.poolUsed, State.charged, State.at_cells,
    State.at_get s t (o := .SPILL_RESERVE_CELLS) rfl]

@[simp] theorem State.at_portNow (s : State) (t : Time) (k : Nat) : (s.at t).portNow k = s.portNow k := by
  simp only [State.portNow, State.portFor, State.routeLost, State.portOfKey, State.at_queues,
    State.at_get s t (o := .ROUTE_VALID) rfl, State.at_get s t (o := .TWIN_A_PORT) rfl,
    State.at_get s t (o := .TWIN_B_PORT) rfl, State.at_get s t (o := .ACTIVE_PORT) rfl,
    State.at_get s t (o := .PRIMARY_PORT) rfl]

@[simp] theorem State.at_node (s : State) (t : Time) : (s.at t).node = s.node := s.at_get t (o := .NODE_ID) rfl 0

@[simp] theorem State.at_locNode (s : State) (t : Time) (g : Nat) : (s.at t).locNode g = s.locNode g := by
  simp only [State.locNode, State.at_get s t (o := .LOC_NODE) rfl]

@[simp] theorem State.at_targetOf (s : State) (t : Time) (g : Nat) : (s.at t).targetOf g = s.targetOf g := by
  simp only [State.targetOf, State.at_locNode, State.at_node, State.at_get s t (o := .LOC_PORT) rfl,
    State.at_get s t (o := .ROUTE_VALID) rfl]

@[simp] theorem State.at_routeField (s : State) (t : Time) (p : Pkt) : (s.at t).routeField p = s.routeField p := by
  simp only [State.routeField, State.at_get s t (o := .PORT_ROLE) rfl, State.at_get s t (o := .PLANE) rfl]

@[simp] theorem State.at_keyOf (s : State) (t : Time) (p : Pkt) : (s.at t).keyOf p = s.keyOf p := by
  simp only [State.keyOf, State.at_targetOf, State.at_routeField]

@[simp] theorem State.at_spillWaits (s : State) (t : Time) (k : Nat) : (s.at t).spillWaits k = s.spillWaits k := by
  simp only [State.spillWaits, State.at_rx, State.at_keyOf]

@[simp] theorem State.at_strayCells (s : State) (t : Time) : (s.at t).strayCells = s.strayCells := by
  simp only [State.strayCells, State.at_queues, State.at_rsvs, State.at_cells, State.at_touched]

theorem State.finish_subOf {e : State} (h : e.errs = []) (s : State) (k : Nat) (u : Sub) :
    (e.finish s).subOf k u = e.subOf k u := State.subOf_congr (State.finish_queues h s) k u

end Sys2Proof.Machine
end

section
/-! SUPPORT. The spill path and Bramble: what each operation of theirs does where its condition holds, and that it does
nothing where it does not (R140 to R146, R307); and the statement about them. -/

namespace Sys2Proof.Machine

open Sys2Proof

/-! ## Closing a block (R141) -/

theorem State.fillStage_of_empty {s : State} {k : Nat} {u : Sub} (h : (s.subOf k u).stage = []) : s.fillStage k u = s := by
  simp [State.fillStage, h]

/-- The open block of a sub-list is due: it holds 16 cells, or its last arrival is 1 us old. -/
def State.closeDue (s : State) (k : Nat) (u : Sub) : Prop :=
  (s.subOf k u).openCells.length = 16 ∨ ((s.subOf k u).openCells ≠ [] ∧ (s.subOf k u).lastStage + us 1 ≤ s.now)

theorem State.spillClose_of_due {s : State} {k : Nat} {u : Sub} (h : (s.fillStage k u).closeDue k u) :
    s.spillClose k u = ((s.fillStage k u).updSub k u SubQ.close).fillStage k u := by
  unfold State.spillClose
  exact if_pos (h.imp_right fun ⟨hn, ht⟩ => ⟨fun h0 => hn (List.length_eq_zero_iff.1 h0), ht⟩)

theorem State.spillClose_of_open {s : State} {k : Nat} {u : Sub} (h : ¬(s.fillStage k u).closeDue k u) :
    s.spillClose k u = s.fillStage k u := by
  unfold State.spillClose
  exact if_neg fun hd => h (hd.imp_right fun ⟨hn, ht⟩ => ⟨fun h0 => hn (List.length_eq_zero_iff.2 h0), ht⟩)

theorem State.xPut_now (s : State) (x : Xing) (n : Nat) : (s.xPut x n).now = s.now := rfl

theorem State.updQ_now (s : State) (k : Nat) (f : Queue → Queue) : (s.updQ k f).now = s.now := by rw [State.updQ_eq]

@[simp] theorem State.fillStage_now (s : State) (k : Nat) (u : Sub) : (s.fillStage k u).now = s.now := by
  have hstack : ∀ h, (if (s.subOf k u).openCells.isEmpty then s.takeStack k else (h, s)).2.now = s.now := by
    intro h
    split
    · exact s.updQ_now ..
    · rfl
  unfold State.fillStage
  dsimp only
  split
  · rfl
  · specialize hstack (((s.subOf k u).seg.getLast?.map (·.stack)).getD 0)
    generalize (if (s.subOf k u).openCells.isEmpty then s.takeStack k else _) = x at hstack ⊢
    split
    · rfl
    · rw [State.updSub, State.updQ_now, State.xPut_now, hstack]

theorem SubQ.openCells_single {l : SubQ} {b : Block} (h : l.seg = [b]) (hb : b.state = .filling) : l.openCells = b.cells := by
  simp [SubQ.openCells, h, hb]

theorem SubQ.close_single {l : SubQ} {b : Block} (h : l.seg = [b]) (hb : b.state = .filling) :
    l.close = { l with seg := [{ b with state := .writing }] } := by
  simp [SubQ.close, h, hb]

/-! ## A block written (R141) -/

theorem State.spillWritten_of_none {s : State} {k : Nat} {u : Sub}
    (h : ∀ b ∈ (s.subOf k u).seg, b.state = .writing → s.stackOk b.stack = false) : s.spillWritten k u = s := by
  unfold State.spillWritten
  split
  · rfl
  · next b hb =>
    have hw := List.find?_some hb
    exact if_pos (by simpa using h b (List.mem_of_find?_eq_some hb) (by simpa using hw))

/-- The block in HBM: counted, its cells freed, its bytes added, and stored. -/
theorem State.spillWritten_of_some {s : State} {k : Nat} {u : Sub} {b : Block}
    (h : (s.subOf k u).seg.find? (fun x => x.state = .writing) = some b) (hok : s.stackOk b.stack = true) :
    ∃ c, OnlyBooked c s ∧ s.spillWritten k u =
      ((c.freeCells (b.cells.map (·.idx))).bump .SPILL_BYTES_WRITTEN 0 (256 * b.cells.length)).updSub k u fun l =>
        { l with seg := updBlock .writing (fun b => { b with state := .stored }) l.seg } := by
  refine ⟨_, (OnlyBooked.countStack _ b.stack 0xA0 1).trans
    (OnlyBooked.countQuad s (s.quadOfKey k) 0x62 b.cells.length (cellsPkt b.cells)), ?_⟩
  unfold State.spillWritten
  rw [h]
  exact if_neg (by simp [hok])

/-! ## A block read (R142) -/

theorem State.drainRead_of_not {s : State} {k : Nat} {u : Sub} (h : s.mayDrain (s.subOf k u) = false) :
    s.drainRead k u = s := by
  simp [State.drainRead, h]

theorem State.mayDrain_iff {s : State} {l : SubQ} :
    s.mayDrain l = true ↔
      l.head.length < s.get .DRAIN_WINDOW ∧ s.spillDue.2 ≤ s.now ∧ ∃ b rest, l.seg = b :: rest ∧ b.state = .stored := by
  unfold State.mayDrain
  cases l.seg <;> simp [and_assoc]

/-- The next read of HBM is due once n cells have passed (R429). -/
def State.spaceRead (s : State) (n : Nat) : State :=
  { s with spillDue := (s.spillDue.1, s.now + spillTime (s.get .CAP_STEP) n) }

theorem State.drainRead_of_may {s : State} {k : Nat} {u : Sub} {b : Block} {rest : List Block}
    (h : s.mayDrain (s.subOf k u) = true) (hseg : (s.subOf k u).seg = b :: rest) :
    s.drainRead k u = (s.spaceRead b.cells.length).updSub k u fun l =>
      { l with seg := updBlock .stored (fun b => { b with state := .reading }) l.seg } := by
  simp [State.drainRead, State.spaceRead, h, hseg]

theorem OnQueue.spaceRead {k : Nat} {l : List (Obj × Nat)} (s : State) (n : Nat) : OnQueue k l (s.spaceRead n) s :=
  ⟨fun _ _ => rfl, SameBut.of_objs rfl l, rfl, rfl, rfl⟩

/-! ## A block linked (R142, R307) -/

/-- The block that drain reads is lost: its ECC failed, its stack was isolated while it held it, or is out of service. -/
def State.blockLost (s : State) (ok : Bool) (b : Block) : Bool := !ok || b.lost || !s.stackOk b.stack

/-- The sub-list as drain finds it: the TLPs with a cell in a lost block are marked. -/
def State.drainList (s : State) (k : Nat) (u : Sub) (ok : Bool) (b : Block) : SubQ :=
  if s.blockLost ok b then (s.subOf k u).mark 2 (b.cells.map (·.stamp)) else s.subOf k u

/-- The cells of a block whose TLPs stay. -/
def Block.kept (b : Block) (gone : List Nat) : List Cel := b.cells.filter fun c => !gone.contains c.stamp

/-- The sub-list once the kept cells of its first block are linked to the tail of its head list. -/
def SubQ.linked (l : SubQ) (gone : List Nat) (kept : List Cel) (cs : List Nat) : SubQ :=
  { (l.without gone) with head := (l.without gone).head ++ recell kept cs, seg := (l.without gone).seg.drop 1 }

/-- The packets of the TLPs with some stamps. -/
def SubQ.pktsOfStamps (l : SubQ) (st : List Nat) : List Pkt := (l.whole.filter fun c => st.contains c.stamp).filterMap (·.pkt)

/-- The crossing that a block takes back from its stack. -/
def State.drainXing (s : State) (k : Nat) (b : Block) : Xing := .quadHbm (s.portNow k % 512 / 128) b.stack false

/-- The cells that the reserve gives a queue for n cells of a block. -/
def State.drainCells (s : State) (k n : Nat) : Option (List Nat × State) :=
  s.allocCells (clusterOf (s.portNow k % 512)) (chargeWord 3 (s.portNow k % 512) (keyClass k)) n

theorem State.drainLink_of_nil {s : State} {k : Nat} {u : Sub} (h : (s.subOf k u).seg = []) (ok : Bool) :
    s.drainLink k u ok = s := by
  simp [State.drainLink, h]

theorem State.drainLink_of_not_reading {s : State} {k : Nat} {u : Sub} {b : Block} {rest : List Block}
    (h : (s.subOf k u).seg = b :: rest) (hb : b.state ≠ .reading) (ok : Bool) : s.drainLink k u ok = s := by
  simp [State.drainLink, h, hb]

theorem State.drainLink_of_stalled {s : State} {k : Nat} {u : Sub} {ok : Bool} {b : Block} {rest : List Block}
    (h : (s.subOf k u).seg = b :: rest)
    (hx : s.reserveFree < (b.kept ((s.drainList k u ok b).reached b.cells)).length ∨ s.xFull (s.drainXing k b) = true) :
    s.drainLink k u ok = s := by
  unfold State.drainLink
  rw [h]
  dsimp only
  split
  · rfl
  · exact if_pos hx

theorem State.drainLink_of_no_cells {s : State} {k : Nat} {u : Sub} {ok : Bool} {b : Block} {rest : List Block}
    (h : (s.subOf k u).seg = b :: rest)
    (ha : s.drainCells k (b.kept ((s.drainList k u ok b).reached b.cells)).length = none) : s.drainLink k u ok = s := by
  by_cases hb : b.state ≠ .reading
  · exact State.drainLink_of_not_reading h hb ok
  by_cases hx : s.reserveFree < (b.kept ((s.drainList k u ok b).reached b.cells)).length ∨ s.xFull (s.drainXing k b) = true
  · exact State.drainLink_of_stalled h hx
  unfold State.drainLink
  rw [h]
  refine (if_neg hb).trans ((if_neg hx).trans ?_)
  unfold State.drainCells Block.kept State.drainList State.blockLost at ha
  rw [ha]

/-- The block linked: cells taken from the reserve, the move counted, the lost TLPs captured, the sub-list linked, the
cells that it holds no more freed, and the queue unparked. -/
theorem State.drainLink_links {s a : State} {k : Nat} {u : Sub} {ok : Bool} {b : Block} {rest : List Block} {cs : List Nat}
    {l : SubQ} {gone : List Nat} (h : (s.subOf k u).seg = b :: rest) (hb : b.state = .reading)
    (hl : s.drainList k u ok b = l) (hg : l.reached b.cells = gone) (hroom : (b.kept gone).length ≤ s.reserveFree)
    (hx : s.xFull (s.drainXing k b) = false) (ha : s.drainCells k (b.kept gone).length = some (cs, a)) :
    ∃ c, OnlyBooked c (a.xPut (s.drainXing k b) (256 * b.cells.length)) ∧
      s.drainLink k u ok = (((c.lostPkts k (l.pktsOfStamps gone)).updSub k u fun _ => l.linked gone (b.kept gone) cs).freeCells
        ((s.subOf k u).bufferCells.filter fun c => !(l.without gone).bufferCells.contains c)).unpark k := by
  subst hl hg
  refine ⟨_, (OnlyBooked.countStack _ b.stack 0xA1 1).trans
    (OnlyBooked.countQuad _ ((a.xPut (s.drainXing k b) (256 * b.cells.length)).quadOfKey k) 0x63 b.cells.length
      (cellsPkt b.cells)), ?_⟩
  have hgo : ¬(s.reserveFree < (b.kept ((s.drainList k u ok b).reached b.cells)).length ∨ s.xFull (s.drainXing k b) = true) := by
    rw [hx]
    simpa using hroom
  unfold State.drainLink
  rw [h]
  refine (if_neg (fun hne => hne hb)).trans ((if_neg hgo).trans ?_)
  unfold State.drainCells Block.kept State.drainList State.blockLost at ha
  rw [ha]
  rfl

/-! ## What is left of a sub-list (R307) -/

theorem filter_no_stamps (l : List Cel) : l.filter (fun c => !([] : List Nat).contains c.stamp) = l :=
  List.filter_eq_self.2 fun _ _ => rfl

@[simp] theorem SubQ.without_nil (l : SubQ) : l.without [] = l := by
  have hblocks : l.seg.map (fun b => { b with cells := b.cells.filter fun c => !([] : List Nat).contains c.stamp }) = l.seg :=
    (List.map_congr_left fun b _ => by rw [filter_no_stamps]; rfl).trans (List.map_id l.seg)
  rw [SubQ.without, hblocks, filter_no_stamps, filter_no_stamps]

@[simp] theorem SubQ.pktsOfStamps_nil (l : SubQ) : l.pktsOfStamps [] = [] := by
  have hnone : l.whole.filter (fun c => ([] : List Nat).contains c.stamp) = [] :=
    List.filter_eq_nil_iff.2 fun _ _ => Bool.false_ne_true
  rw [SubQ.pktsOfStamps, hnone, List.filterMap_nil]

@[simp] theorem Block.kept_nil (b : Block) : b.kept [] = b.cells := filter_no_stamps b.cells

/-- A cell in a new place keeps its stamp. -/
theorem stamp_of_mem_recell {l : List Cel} {cs : List Nat} {d : Cel} (h : d ∈ recell l cs) : ∃ c ∈ l, d.stamp = c.stamp := by
  induction l generalizing cs with
  | nil => simp [recell] at h
  | cons c l ih =>
    cases cs with
    | nil => simp [recell] at h
    | cons i cs =>
      rcases List.mem_cons.1 h with rfl | h
      · exact ⟨c, List.mem_cons_self, rfl⟩
      · obtain ⟨e, he, hd⟩ := ih h
        exact ⟨e, List.mem_cons_of_mem _ he, hd⟩

theorem SubQ.stamp_of_mem_without {l : SubQ} {st : List Nat} {d : Cel} (h : d ∈ (l.without st).whole) : d.stamp ∉ st := by
  simp only [SubQ.whole, SubQ.without, List.mem_append, List.mem_flatMap, List.mem_map] at h
  rcases h with (h | ⟨_, ⟨b, -, rfl⟩, h⟩) | h <;> simpa using (List.mem_filter.1 h).2

/-- No cell of a discarded TLP is left in the sub-list. -/
theorem SubQ.stamp_of_mem_linked {l : SubQ} {b : Block} {gone cs : List Nat} {d : Cel}
    (h : d ∈ (l.linked gone (b.kept gone) cs).whole) : d.stamp ∉ gone := by
  have hleft : d ∈ recell (b.kept gone) cs ∨ d ∈ (l.without gone).whole := by
    simp only [SubQ.whole, SubQ.linked, List.mem_append, List.mem_flatMap] at h ⊢
    rcases h with ((h | h) | ⟨x, hx, h⟩) | h
    · exact .inr (.inl (.inl h))
    · exact .inl h
    · exact .inr (.inl (.inr ⟨x, List.mem_of_mem_drop hx, h⟩))
    · exact .inr (.inr h)
  rcases hleft with h | h
  · obtain ⟨c, hc, hd⟩ := stamp_of_mem_recell h
    rw [hd]
    simpa using (List.mem_filter.1 hc).2
  · exact SubQ.stamp_of_mem_without h

theorem SubQ.linked_seg_length (l : SubQ) (gone : List Nat) (kept : List Cel) (cs : List Nat) :
    (l.linked gone kept cs).seg.length = l.seg.length - 1 := by
  simp [SubQ.linked, SubQ.without]

/-- A cell of a lost block stands marked in the sub-list. -/
theorem SubQ.mem_whole_mark {l : SubQ} {b : Block} {rest : List Block} {c : Cel} {p : Pkt} {st : List Nat}
    (h : l.seg = b :: rest) (hc : c ∈ b.cells) (hp : c.pkt = some p) (hs : c.stamp ∈ st) (how : Nat) :
    { c with pkt := some { p with lost := max p.lost how } } ∈ (l.mark how st).whole := by
  have hm : { c with pkt := some { p with lost := max p.lost how } } ∈ markCells how st b.cells :=
    List.mem_map.2 ⟨c, hc, by simp [hs, hp]⟩
  simp only [SubQ.whole, SubQ.mark, h, List.map_cons, List.flatMap_cons, List.mem_append]
  exact .inl (.inr (.inl hm))

/-- The TLP of a cell of a lost block is reached. -/
theorem SubQ.mem_reached_mark {l : SubQ} {b : Block} {rest : List Block} {c : Cel} {p : Pkt}
    (h : l.seg = b :: rest) (hc : c ∈ b.cells) (hp : c.pkt = some p) (hlost : p.lost ≤ 2) :
    c.stamp ∈ (l.mark 2 (b.cells.map (·.stamp))).reached b.cells := by
  have hm := SubQ.mem_whole_mark h hc hp (List.mem_map_of_mem (f := (·.stamp)) hc) 2
  refine List.mem_filter.2 ⟨List.mem_map.2 ⟨_, List.mem_filter.2 ⟨hm, ?_⟩, rfl⟩, ?_⟩
  · simp [hlost]
  · exact List.any_eq_true.2 ⟨c, List.mem_append_right _ hc, by simp⟩

/-! ## The linked state -/

theorem foldl_raise_eq (f : Pkt → Err) (ps : List Pkt) (s : State) :
    ps.foldl (fun s p => s.raise (f p)) s = { s with errs := s.errs ++ ps.map f } := by
  induction ps generalizing s with
  | nil => simp
  | cons p ps ih => rw [List.foldl_cons, ih]; simp [State.raise]

/-- Lost TLPs are captured with the number of their cells (R307). -/
theorem State.lostPkts_errs (s : State) (k : Nat) (ps : List Pkt) :
    (s.lostPkts k ps).errs = s.errs ++ ps.map fun p => { streamErr 0x2010 p with detail := p.cells } := by
  unfold State.lostPkts
  rw [foldl_raise_eq]
  split
  · rfl
  · rw [State.updQ_eq]

theorem State.lostPkts_find {s : State} {k : Nat} {q : Queue} (h : s.queues.find k = some q) (ps : List Pkt) :
    ∃ p, (s.lostPkts k ps).queues.find k = some p := by
  unfold State.lostPkts
  rw [foldl_raise_eq]
  split
  · exact ⟨q, h⟩
  · exact ⟨_, by rw [State.find_updQ, if_pos rfl]; exact congrArg _ h⟩

/-- The end of a link: the sub-list is the one given and the queue is unparked. -/
theorem State.find_linked {s : State} {k : Nat} {q : Queue} (h : s.queues.find k = some q) (u : Sub) (l : SubQ) (cs : List Nat) :
    ∃ p, (((s.updSub k u fun _ => l).freeCells cs).unpark k).queues.find k = some p ∧ p.parked = false ∧ p.sub u = l := by
  have hk : ((s.updSub k u fun _ => l).freeCells cs).queues.find k = some (q.setSub l u) := by
    rw [(OnlyCells.freeCells _ cs).queues, State.updSub, State.find_updQ, if_pos rfl, h, Option.map_some]
  obtain ⟨p, hp, hpark, hsub⟩ := State.find_unpark hk
  exact ⟨p, hp, hpark, (hsub u).trans (Queue.sub_setSub q l u)⟩

/-! ## Commands that change nothing -/

/-- What a command of the spill path leaves where its condition does not hold. -/
theorem idle_frame {s : State} (hs : s.errs = []) (t : Time) :
    ((s.at t).finish s).queues = s.queues ∧ ((s.at t).finish s).SameBut s [] ∧ ((s.at t).finish s).cells = s.cells ∧
      ((s.at t).finish s).rx = s.rx ∧ ((s.at t).finish s).tags = s.tags := by
  have he : (s.at t).errs = [] := (s.at_errs t).trans hs
  exact ⟨(State.finish_queues he s).trans (s.at_queues t), SameBut.trans (SameBut.finish he s []) (SameBut.at s t []),
    (State.finish_cells he s).trans (s.at_cells t), (State.finish_rx he s).trans (s.at_rx t),
    (State.finish_tags he s).trans (s.at_tags t)⟩

/-- The same by the key of a queue: found as before, and so is every other. -/
theorem idle_queue {s : State} (hs : s.errs = []) (t : Time) {k : Nat} {q : Queue} (hq : s.queues.find k = some q) :
    ((s.at t).finish s).queues.find k = some q ∧
      ∀ j ∈ s.queues.keys, j ≠ k → ((s.at t).finish s).queues.find j = s.queues.find j := by
  obtain ⟨hqs, -⟩ := idle_frame hs t
  rw [hqs]
  exact ⟨hq, fun _ _ _ => rfl⟩

/-! ## The commands -/

theorem exec_spillBlockClose (t : Time) (k : Nat) (u : Sub) (s : State) :
    exec (.spillBlockClose t k u) s = .next (((s.at t).spillClose k u).finish s) := unit_next rfl

theorem exec_spillBlockWritten (t : Time) (k : Nat) (u : Sub) (s : State) :
    exec (.spillBlockWritten t k u) s = .next (((s.at t).spillWritten k u).finish s) := unit_next rfl

theorem exec_drainBlockRead (t : Time) (k : Nat) (u : Sub) (s : State) :
    exec (.drainBlockRead t k u) s = .next (((s.at t).drainRead k u).finish s) := unit_next rfl

theorem exec_drainBlockLinked (t : Time) (k : Nat) (u : Sub) (ok : Bool) (s : State) :
    exec (.drainBlockLinked t k u ok) s = .next (((s.at t).drainLink k u ok).finish s) := unit_next rfl

theorem exec_spillExit (t : Time) (k : Nat) (s : State) :
    exec (.spillExit t k) s =
      .next (((s.at t).updQ k fun q => if q.canExit && !(s.at t).spillWaits k then q.exit else q).finish s) :=
  unit_next rfl

section

variable {s : State} {t : Time} {k : Nat} {u : Sub} {q : Queue} {b : Block} {rest : List Block}

theorem at_subOf_of_find (hq : s.queues.find k = some q) : (s.at t).subOf k u = q.sub u :=
  (s.at_subOf t k u).trans (State.subOf_of_find hq u)

/-- A command on the queue of a key, from the state at its instant. -/
theorem OnQueue.ended {l : List (Obj × Nat)} {e : State} (h : OnQueue k l e (s.at t)) (hs : s.errs = []) :
    OnQueue k l (e.finish s) s := (h.trans (.later s t)).finish hs

theorem OnQueue.ended_errs {l : List (Obj × Nat)} {e : State} (h : OnQueue k l e (s.at t)) (hs : s.errs = []) :
    e.errs = [] := (h.trans (.later s t)).errs.trans hs

/-- The write of a stored block is counted in bytes (R141). -/
theorem spillBlockWritten_stores (hs : s.errs = []) (hq : s.queues.find k = some q)
    (hb : (q.sub u).seg.find? (fun x => x.state = .writing) = some b) (hok : s.stackOk b.stack = true) :
    ∃ s', exec (.spillBlockWritten t k u) s = .next s' ∧
      (s'.subOf k u).seg = updBlock .writing (fun b => { b with state := .stored }) (q.sub u).seg ∧
      (∀ c ∈ b.cells, s'.cells.find c.idx = none) ∧
      s'.get .SPILL_BYTES_WRITTEN = (s.get .SPILL_BYTES_WRITTEN + 256 * b.cells.length) % 2 ^ 64 ∧
      OnQueue k [(.SPILL_BYTES_WRITTEN, 0)] s' s := by
  obtain ⟨c, hc, he⟩ := State.spillWritten_of_some (s := s.at t) (k := k) (u := u) (b := b)
    (by rw [at_subOf_of_find hq]; exact hb) (by rw [State.at_stackOk]; exact hok)
  have hcq : c.queues.find k = some q := by
    obtain ⟨⟨_, rfl⟩, -⟩ := hc
    exact (congrArg (·.find k) (s.at_queues t)).trans hq
  have hfree := OnlyCells.freeCells c (b.cells.map (·.idx))
  have frame : OnQueue k [(.SPILL_BYTES_WRITTEN, 0)] ((s.at t).spillWritten k u) (s.at t) := by
    rw [he]
    exact (OnQueue.updQ _ _).trans ((OnQueue.bump _ _ (by simp)).trans ((OnQueue.cells hfree).trans (.booked hc)))
  have hnone := frame.ended_errs hs
  refine ⟨_, exec_spillBlockWritten t k u s, ?_, fun x hx => ?_, ?_, frame.ended hs⟩
  · rw [State.finish_subOf hnone, he, State.subOf_updSub (q := q)]
    exact (congrArg (·.find k) hfree.queues).trans hcq
  · rw [State.finish_cells hnone, he, State.updSub, State.updQ_eq]
    exact State.find_freeCells (List.mem_map_of_mem hx) c
  · have hget : c.get .SPILL_BYTES_WRITTEN = s.get .SPILL_BYTES_WRITTEN := (hc.2 _ _ rfl).trans (s.at_get t rfl _)
    rw [State.finish_get hnone _ rfl, he, State.updSub, State.updQ_get, State.get_bump, if_pos ⟨rfl, rfl⟩, hfree.get, hget]
    rfl

/-- An open block that is due, with nothing staged behind it, starts to be written (R141). -/
theorem spillBlockClose_closes (hs : s.errs = []) (hq : s.queues.find k = some q) (hstage : (q.sub u).stage = [])
    (hseg : (q.sub u).seg = [b]) (hb : b.state = .filling)
    (hdue : b.cells.length = 16 ∨ (b.cells ≠ [] ∧ (q.sub u).lastStage + us 1 ≤ max s.now t)) :
    ∃ s', exec (.spillBlockClose t k u) s = .next s' ∧
      (s'.subOf k u).seg = [{ b with state := .writing }] ∧ (s'.subOf k u).head = (q.sub u).head ∧
      s'.cells = s.cells ∧ OnQueue k [] s' s := by
  have hsub := at_subOf_of_find (t := t) (u := u) hq
  have hfill : (s.at t).fillStage k u = s.at t := State.fillStage_of_empty (by rw [hsub, hstage])
  have hclosed : ((s.at t).updSub k u SubQ.close).subOf k u = (q.sub u).close :=
    State.subOf_updSub (by rw [State.at_queues, hq]) u _
  have he : (s.at t).spillClose k u = (s.at t).updSub k u SubQ.close := by
    rw [State.spillClose_of_due, hfill, State.fillStage_of_empty]
    · rw [hclosed, SubQ.close_single hseg hb]
      exact hstage
    · rw [hfill, State.closeDue, hsub, SubQ.openCells_single hseg hb, State.at_now]
      exact hdue
  have frame : OnQueue k [] ((s.at t).updSub k u SubQ.close) (s.at t) := .updQ _ _
  have hnone := frame.ended_errs hs
  refine ⟨_, (exec_spillBlockClose t k u s).trans (by rw [he]), ?_, ?_, ?_, frame.ended hs⟩
  · rw [State.finish_subOf hnone, hclosed, SubQ.close_single hseg hb]
  · rw [State.finish_subOf hnone, hclosed, SubQ.close_single hseg hb]
  · rw [State.finish_cells hnone, State.updSub, State.updQ_eq]
    exact s.at_cells t

/-- The oldest block in HBM is read where the head list and the power cap allow it (R142, R429). -/
theorem drainBlockRead_reads (hs : s.errs = []) (hq : s.queues.find k = some q) (hseg : (q.sub u).seg = b :: rest)
    (hb : b.state = .stored) (hwin : (q.sub u).head.length < s.get .DRAIN_WINDOW) (hdue : s.spillDue.2 ≤ max s.now t) :
    ∃ s', exec (.drainBlockRead t k u) s = .next s' ∧
      (s'.subOf k u).seg = { b with state := .reading } :: rest ∧
      s'.spillDue = (s.spillDue.1, max s.now t + spillTime (s.get .CAP_STEP) b.cells.length) ∧
      (s'.subOf k u).head = (q.sub u).head ∧ s'.cells = s.cells ∧ OnQueue k [] s' s := by
  have hsub := at_subOf_of_find (t := t) (u := u) hq
  have hmay : (s.at t).mayDrain ((s.at t).subOf k u) = true := by
    rw [State.mayDrain_iff, hsub, s.at_get t rfl, State.at_spillDue, State.at_now]
    exact ⟨hwin, hdue, b, rest, hseg, hb⟩
  have he := State.drainRead_of_may hmay (hsub ▸ hseg)
  have hspaced : ((s.at t).spaceRead b.cells.length).queues.find k = some q := (congrArg (·.find k) (s.at_queues t)).trans hq
  have frame : OnQueue k [] ((s.at t).drainRead k u) (s.at t) := by
    rw [he]
    exact (OnQueue.updQ _ _).trans (.spaceRead _ _)
  have hnone := frame.ended_errs hs
  have hread : ((s.at t).drainRead k u).subOf k u =
      { q.sub u with seg := { b with state := .reading } :: rest } := by
    rw [he, State.subOf_updSub hspaced, hseg, updBlock, if_pos hb]
  refine ⟨_, exec_drainBlockRead t k u s, ?_, ?_, ?_, ?_, frame.ended hs⟩
  · rw [State.finish_subOf hnone, hread]
  · rw [State.finish_spillDue hnone, he, State.updSub, State.updQ_eq]
    simp only [State.spaceRead, State.at_spillDue, State.at_now, s.at_get t (o := .CAP_STEP) rfl]
  · rw [State.finish_subOf hnone, hread]
  · rw [State.finish_cells hnone, he, State.updSub, State.updQ_eq]
    exact s.at_cells t

/-- A block read is linked to the tail of the head list in cells of the reserve, and the queue is not parked (R142,
R151). -/
theorem drainBlockLinked_links {cs : List Nat} (hs : s.errs = []) (hq : s.queues.find k = some q)
    (hseg : (q.sub u).seg = b :: rest) (hb : b.state = .reading) (hroom : b.cells.length ≤ s.reserveFree)
    (hstack : s.stackOk b.stack = true) (hlost : b.lost = false) (hreach : (q.sub u).reached b.cells = [])
    (hx : (s.at t).xFull ((s.at t).drainXing k b) = false)
    (ha : ((s.at t).drainCells k b.cells.length).map (·.1) = some cs) :
    ∃ s', exec (.drainBlockLinked t k u true) s = .next s' ∧
      (s'.subOf k u).seg = rest ∧ (s'.subOf k u).head = (q.sub u).head ++ recell b.cells cs ∧
      (s'.queues.getD { num := 0 } k).parked = false ∧
      (∀ c ∈ cs, s'.cells.find c = some (chargeWord 3 (s.portNow k % 512) (keyClass k))) ∧ OnQueue k [] s' s := by
  obtain ⟨⟨cs', a⟩, halloc, rfl⟩ := Option.map_eq_some_iff.1 ha
  have hsub := at_subOf_of_find (t := t) (u := u) hq
  have hlist : (s.at t).drainList k u true b = q.sub u := by
    simp [State.drainList, State.blockLost, hlost, hstack, State.subOf_of_find hq]
  obtain ⟨c, hc, he⟩ := State.drainLink_links (hsub ▸ hseg) hb hlist hreach (by simpa using hroom) hx (by rw [Block.kept_nil]; exact halloc)
  rw [hsub, Block.kept_nil, SubQ.without_nil] at he
  have hnothing : (q.sub u).bufferCells.filter (fun c => !(q.sub u).bufferCells.contains c) = [] := by
    simp [List.filter_eq_nil_iff]
  have hnobody : c.lostPkts k ((q.sub u).pktsOfStamps []) = c := by
    rw [SubQ.pktsOfStamps_nil]
    rfl
  rw [hnothing, hnobody] at he
  obtain ⟨honly, hcells⟩ := State.allocCells_eq halloc
  have hcq : c.queues.find k = some q ∧ c.cells = a.cells := by
    obtain ⟨⟨_, rfl⟩, -⟩ := hc
    exact ⟨(congrArg (·.find k) (honly.queues.trans (s.at_queues t))).trans hq, rfl⟩
  have frame : OnQueue k [] ((s.at t).drainLink k u true) (s.at t) := by
    rw [he]
    exact (OnQueue.updQ _ _).trans ((OnQueue.cells (.freeCells _ _)).trans ((OnQueue.updQ _ _).trans
      ((OnQueue.booked hc).trans ((OnQueue.xPut _ _ _).trans (.cells honly)))))
  have hnone := frame.ended_errs hs
  obtain ⟨p, hp, hpark, hlinked⟩ := State.find_linked hcq.1 u ((q.sub u).linked [] b.cells cs') []
  rw [← he] at hp
  have hsub' : ((s.at t).drainLink k u true).subOf k u = (q.sub u).linked [] b.cells cs' :=
    (State.subOf_of_find hp u).trans hlinked
  refine ⟨_, exec_drainBlockLinked t k u true s, ?_, ?_, ?_, fun d hd => ?_, frame.ended hs⟩
  · rw [State.finish_subOf hnone, hsub', SubQ.linked, SubQ.without_nil, hseg, List.drop_one, List.tail_cons]
  · rw [State.finish_subOf hnone, hsub', SubQ.linked, SubQ.without_nil]
  · rw [State.finish_queues hnone, Tab.getD, hp, Option.getD_some, hpark]
  · rw [State.finish_cells hnone, he, State.unpark, State.updQ_eq]
    show ((State.updSub c k u _).freeCells []).cells.find d = _
    rw [State.freeCells_cells, List.foldl_nil, State.updSub, State.updQ_eq]
    show c.cells.find d = _
    rw [hcq.2, hcells d (.inl hd), State.at_portNow]

/-- A TLP with a cell in a lost block is discarded whole when drain reaches it, and captured with the number of its
cells (R307). -/
theorem drainLink_discards {ok : Bool} {c : Cel} {p : Pkt} (hq : s.queues.find k = some q) (hseg : (q.sub u).seg = b :: rest)
    (hb : b.state = .reading) (hlost : s.blockLost ok b = true) (hc : c ∈ b.cells) (hp : c.pkt = some p) (hp2 : p.lost ≤ 2)
    (hroom : b.cells.length ≤ s.reserveFree) (ha : ∀ n < b.cells.length + 1, (s.drainCells k n).isSome = true)
    (hx : s.xFull (s.drainXing k b) = false) :
    (∀ d ∈ ((s.drainLink k u ok).subOf k u).whole, d.stamp ≠ c.stamp) ∧
      ((s.drainLink k u ok).subOf k u).seg.length = rest.length ∧
      ∃ e ∈ (s.drainLink k u ok).errs, e.code = 0x2010 ∧ e.detail = p.cells := by
  have hsub := State.subOf_of_find hq u
  let l := (q.sub u).mark 2 (b.cells.map (·.stamp))
  let gone := l.reached b.cells
  have hlist : s.drainList k u ok b = l := by rw [State.drainList, if_pos hlost, hsub]
  have hgone : c.stamp ∈ gone := SubQ.mem_reached_mark hseg hc hp hp2
  have hkept : (b.kept gone).length ≤ b.cells.length := List.length_filter_le ..
  obtain ⟨⟨cs, a⟩, halloc⟩ := Option.isSome_iff_exists.1 (ha (b.kept gone).length (Nat.lt_succ_of_le hkept))
  obtain ⟨w, hw, he⟩ := State.drainLink_links (hsub ▸ hseg) hb hlist rfl (Nat.le_trans hkept hroom) hx halloc
  have hwq : w.queues.find k = some q := by
    obtain ⟨⟨_, rfl⟩, -⟩ := hw
    exact (congrArg (·.find k) (State.allocCells_eq halloc).1.queues).trans hq
  obtain ⟨q1, hq1⟩ := State.lostPkts_find hwq (l.pktsOfStamps gone)
  obtain ⟨p1, hp1, -, hlinked⟩ := State.find_linked hq1 u (l.linked gone (b.kept gone) cs)
    (((s.subOf k u).bufferCells).filter fun c => !(l.without gone).bufferCells.contains c)
  rw [← he] at hp1
  rw [State.subOf_of_find hp1 u, hlinked]
  refine ⟨fun d hd hdc => SubQ.stamp_of_mem_linked hd (hdc ▸ hgone), ?_, ?_⟩
  · rw [SubQ.linked_seg_length]
    simp [l, SubQ.mark, hseg]
  · have herrs : (s.drainLink k u ok).errs = (w.lostPkts k (l.pktsOfStamps gone)).errs := by
      rw [he]
      exact ((OnQueue.updQ (k := k) (l := []) _ _).trans
        ((OnQueue.cells (.freeCells _ _)).trans (.updQ _ _))).errs
    have hmem : { p with lost := max p.lost 2 } ∈ l.pktsOfStamps gone :=
      List.mem_filterMap.2 ⟨_, List.mem_filter.2 ⟨SubQ.mem_whole_mark hseg hc hp (List.mem_map_of_mem hc) 2,
        by simpa using hgone⟩, rfl⟩
    rw [herrs, State.lostPkts_errs]
    exact ⟨_, List.mem_append_right _ (List.mem_map_of_mem hmem), rfl, rfl⟩

/-- A queue whose segments are empty, and for which no TLP waits, leaves spill; else it stays (R140, R143). -/
theorem spillExit_queue (hs : s.errs = []) (hq : s.queues.find k = some q) :
    ∃ s', exec (.spillExit t k) s = .next s' ∧
      s'.queues.find k = some (if q.canExit = true ∧ s.spillWaits k = false then q.exit else q) ∧
      s'.cells = s.cells ∧ OnQueue k [] s' s := by
  have frame : OnQueue k [] ((s.at t).updQ k fun q => if q.canExit && !(s.at t).spillWaits k then q.exit else q) (s.at t) :=
    .updQ _ _
  have hnone := frame.ended_errs hs
  refine ⟨_, exec_spillExit t k s, ?_, ?_, frame.ended hs⟩
  · rw [State.finish_queues hnone, State.find_updQ, if_pos rfl, State.at_queues, hq, Option.map_some, State.at_spillWaits]
    simp
  · rw [State.finish_cells hnone, State.updQ_eq]
    exact s.at_cells t

end

/-! ## Bramble (R145, R146) -/

section

variable {s : State} {t : Time}

/-- The marks of a pass: every stray cell, with the passes that have found it, three at most. -/
def State.passMarks (s : State) : Tab Nat := s.strayCells.map fun c => (c, min 3 (s.leaks.getD 0 c + 1))

/-- The state as a pass ends, before its leaks are reported. -/
def State.passEnded (s : State) (t : Time) : State :=
  { s.at t with leaks := s.passMarks, touched := [] }.bump .BRAMBLE_PASSES

/-- A pass that is not paused ends with its marks, and each cell that two passes have marked is a leak. -/
theorem exec_bramblePassEnd (hrun : ∀ x ∈ s.paused, x.1 ≠ 7) :
    exec (.bramblePassEnd t) s =
      .next ((((s.passMarks.filter fun x => x.2 = 3 && s.leaks.getD 0 x.1 ≠ 3).map (·.1)).foldl State.leak
        (s.passEnded t)).finish s) := by
  have hpaused : ((s.at t).paused.any fun x => x.1 = 7) = false := by
    simpa using hrun
  refine (unit_next (e := if (s.at t).paused.any fun x => x.1 = 7 then s.at t else (s.at t).bramble) rfl).trans ?_
  rw [hpaused, if_neg Bool.false_ne_true, State.bramble, State.at_strayCells, State.at_leaks]
  rfl

theorem exec_bramblePassEnd_paused {x : Nat × Nat} (hx : x ∈ s.paused) (h7 : x.1 = 7) :
    exec (.bramblePassEnd t) s = .next ((s.at t).finish s) := by
  have hpaused : ((s.at t).paused.any fun x => x.1 = 7) = true := by
    rw [State.at_paused]
    exact List.any_eq_true.2 ⟨x, hx, by simpa using h7⟩
  refine (unit_next (e := if (s.at t).paused.any fun x => x.1 = 7 then s.at t else (s.at t).bramble) rfl).trans ?_
  rw [if_pos hpaused]

/-- A pass that reports no leak counts itself and leaves its marks. -/
theorem bramblePassEnd_marks (hs : s.errs = []) (hrun : ∀ x ∈ s.paused, x.1 ≠ 7)
    (hnew : ∀ x ∈ s.passMarks, x.2 = 3 → s.leaks.getD 0 x.1 = 3) :
    ∃ s', exec (.bramblePassEnd t) s = .next s' ∧ s'.leaks = s.passMarks ∧
      s'.get .BRAMBLE_PASSES = (s.get .BRAMBLE_PASSES + 1) % 2 ^ 32 ∧
      s'.SameBut s [(.BRAMBLE_PASSES, 0)] ∧ s'.SameBuffers s := by
  have hquiet : s.passMarks.filter (fun x => x.2 = 3 && s.leaks.getD 0 x.1 ≠ 3) = [] := by
    simpa [List.filter_eq_nil_iff] using hnew
  have hnone : (s.passEnded t).errs = [] := (s.at_errs t).trans hs
  refine ⟨(s.passEnded t).finish s, by rw [exec_bramblePassEnd hrun, hquiet]; rfl, ?_, ?_, ?_, ?_⟩
  · exact State.finish_leaks hnone s
  · rw [State.finish_get hnone s rfl]
    show (State.bump _ _).get _ = _
    rw [State.get_bump, if_pos ⟨rfl, rfl⟩]
    exact congrArg (fun n => (n + 1) % 2 ^ 32) (s.at_get t rfl 0)
  · exact SameBut.trans (SameBut.finish hnone s _)
      (SameBut.trans (SameBut.bump _ 1 (by simp)) (SameBut.trans (SameBut.of_objs rfl _) (SameBut.at s t _)))
  · exact SameBuffers.trans (SameBuffers.finish hnone (s.at_flash t)) (SameBuffers.at s t)

/-- A cell found by the third pass in a row is a leak (R146). -/
theorem bramblePassEnd_leak {c : Nat} (hrun : ∀ x ∈ s.paused, x.1 ≠ 7) (hstray : s.strayCells = [c])
    (htwo : s.leaks.getD 0 c = 2) :
    s.passMarks = [(c, 3)] ∧ exec (.bramblePassEnd t) s = .next (((s.passEnded t).leak c).finish s) := by
  have hmarks : s.passMarks = [(c, 3)] := by simp [State.passMarks, hstray, htwo]
  exact ⟨hmarks, by rw [exec_bramblePassEnd hrun, hmarks]; simp [htwo]⟩

theorem State.passEnded_policy (s : State) (t : Time) : (s.passEnded t).get .BRAMBLE_POLICY = s.get .BRAMBLE_POLICY :=
  (State.get_put_ne (by decide) ..).trans (s.at_get t rfl 0)

/-- A leak is counted, named and recorded, and reclaimed where BRAMBLE_POLICY is 1 (R146). -/
theorem State.leak_of_policy {s : State} (h : s.get .BRAMBLE_POLICY = 1) (c : Nat) :
    s.leak c = ((((s.bump .LEAKS_FOUND).put .LAST_LEAK_CELL 0 c).raise
      { code := 0x1005, kind := 0, idx := 0 }).freeCells [c]).bump .LEAKS_RECLAIMED := by
  unfold State.leak
  exact if_pos (by simpa [State.bump] using h)

theorem State.leak_of_not_policy {s : State} (h : s.get .BRAMBLE_POLICY ≠ 1) (c : Nat) :
    s.leak c = ((s.bump .LEAKS_FOUND).put .LAST_LEAK_CELL 0 c).raise { code := 0x1005, kind := 0, idx := 0 } := by
  unfold State.leak
  exact if_neg (by simpa [State.bump] using h)

end

/-! ## The statement -/

/-- Settles O38, command by command: each does what the rules say where its condition holds and leaves the state of its
instant where it does not. -/
theorem blocksSpillAndLeaksAreFound : Obligations.BlocksSpillAndLeaksAreFound := by
  unfold Obligations.BlocksSpillAndLeaksAreFound
  refine ⟨?closes, ?opened, ?due, ?stores, ?notStored, ?reads, ?notRead, ?links, ?notLinked, ?noBlock, ?link, ?discards,
    ?exits, ?noQueue, ?stays, ?clean, ?marked, ?reclaimed, ?reported, ?pass, ?paused⟩
  case closes =>
    intro s t k u q b hs hq hstage hseg hb hdue
    obtain ⟨s', he, hsegs, hhead, hcells, frame⟩ := spillBlockClose_closes hs hq hstage hseg hb hdue
    exact ⟨s', he, hsegs, hhead, fun j _ => frame.others j, frame.dict, hcells, frame.rx, frame.tags⟩
  case opened =>
    intro s t k u h16 hopen
    rw [exec_spillBlockClose, State.spillClose_of_open]
    rintro (h | ⟨hne, hlate⟩)
    · exact h16 h
    · rw [State.fillStage_now, State.at_now] at hlate
      exact hopen.elim hne (Nat.not_lt.2 hlate)
  case due =>
    intro s t k u hdue
    rw [exec_spillBlockClose, State.spillClose_of_due]
    rw [State.closeDue, State.fillStage_now, State.at_now]
    exact hdue
  case stores =>
    intro s t k u q b hs hq hb hok
    obtain ⟨s', he, hsegs, hcells, hbytes, frame⟩ := spillBlockWritten_stores (t := t) hs hq hb hok
    exact ⟨s', he, hsegs, hcells, hbytes, fun j _ => frame.others j, frame.dict, frame.rx, frame.tags⟩
  case notStored =>
    intro s t k u q hs hq hall
    have he : (s.at t).spillWritten k u = s.at t := State.spillWritten_of_none fun b hb hw => by
      rw [at_subOf_of_find hq] at hb
      simpa [hw] using List.all_eq_true.1 hall b hb
    obtain ⟨hfind, hothers⟩ := idle_queue hs t hq
    obtain ⟨-, hsame, hcells, hrx, htags⟩ := idle_frame hs t
    exact ⟨_, (exec_spillBlockWritten t k u s).trans (by rw [he]), hfind, hothers, hsame, hcells, hrx, htags⟩
  case reads =>
    intro s t k u q b rest hs hq hseg hb hwin hdue
    obtain ⟨s', he, hsegs, hnext, hhead, hcells, frame⟩ := drainBlockRead_reads hs hq hseg hb hwin hdue
    exact ⟨s', he, hsegs, hnext, hhead, fun j _ => frame.others j, frame.dict, hcells, frame.rx, frame.tags⟩
  case notRead =>
    intro s t k u q hs hq hnot
    have he : (s.at t).drainRead k u = s.at t := State.drainRead_of_not (by
      rw [← Bool.not_eq_true, State.mayDrain_iff, at_subOf_of_find hq, State.at_get s t rfl, State.at_spillDue, State.at_now]
      rintro ⟨hwin, hdue, b, rest, hseg, hb⟩
      rcases hnot with hfirst | hfull | hearly
      · simp [hseg, hb] at hfirst
      · exact Nat.not_lt.2 hfull hwin
      · exact Nat.not_lt.2 hdue hearly)
    obtain ⟨hfind, hothers⟩ := idle_queue hs t hq
    obtain ⟨-, hsame, hcells, hrx, htags⟩ := idle_frame hs t
    exact ⟨_, (exec_drainBlockRead t k u s).trans (by rw [he]), hfind, hothers, hsame, hcells, hrx, htags⟩
  case links =>
    intro s t k u q b rest cs hs hq hseg hb hroom hstack hlost hreach hx ha
    obtain ⟨s', he, hsegs, hhead, hpark, hcells, frame⟩ := drainBlockLinked_links hs hq hseg hb hroom hstack hlost hreach
      (by rw [State.drainXing, State.at_portNow]; exact hx) (by rw [State.drainCells, State.at_portNow]; exact ha)
    exact ⟨s', he, hsegs, hhead, hpark, hcells, fun j _ => frame.others j, frame.dict, frame.rx, frame.tags⟩
  case notLinked =>
    intro s t k u q b rest ok hs hq hseg hnot
    have hseg' : ((s.at t).subOf k u).seg = b :: rest := by rw [at_subOf_of_find hq, hseg]
    have he : (s.at t).drainLink k u ok = s.at t := by
      rcases hnot with hb | ⟨rfl, hstack, hlost, hreach, hroom⟩ | hx
      · exact State.drainLink_of_not_reading hseg' hb ok
      · have hkept : b.kept (((s.at t).drainList k u true b).reached b.cells) = b.cells := by
          rw [State.drainList, State.blockLost, State.at_stackOk, hstack, hlost, at_subOf_of_find hq]
          exact (congrArg b.kept hreach).trans b.kept_nil
        rcases hroom with hfull | hcells
        · exact State.drainLink_of_stalled hseg' (.inl (by rw [hkept, State.at_reserveFree]; exact hfull))
        · exact State.drainLink_of_no_cells hseg'
            (by rw [hkept, State.drainCells, State.at_portNow]; exact Option.isNone_iff_eq_none.1 hcells)
      · exact State.drainLink_of_stalled hseg' (.inr (by rw [State.drainXing, State.at_portNow]; exact hx))
    obtain ⟨hfind, hothers⟩ := idle_queue hs t hq
    obtain ⟨-, hsame, hcells, hrx, htags⟩ := idle_frame hs t
    exact ⟨_, (exec_drainBlockLinked t k u ok s).trans (by rw [he]), hfind, hsame, hothers, hcells, hrx, htags⟩
  case noBlock =>
    intro s t k u q ok hs hq hseg
    have he : (s.at t).drainLink k u ok = s.at t := State.drainLink_of_nil (by rw [at_subOf_of_find hq, hseg]) ok
    obtain ⟨hfind, hothers⟩ := idle_queue hs t hq
    obtain ⟨-, hsame, hcells, hrx, htags⟩ := idle_frame hs t
    exact ⟨_, (exec_drainBlockLinked t k u ok s).trans (by rw [he]), hfind, hsame, hothers, hcells, hrx, htags⟩
  case link => exact fun s t k u ok => exec_drainBlockLinked t k u ok s
  case discards =>
    intro s k u q b rest ok c p hq hseg hb hlost hc hp hp2 hroom ha hx
    refine drainLink_discards hq hseg hb ?_ hc hp hp2 hroom (fun n hn => List.all_eq_true.1 ha n (List.mem_range.2 hn)) hx
    rcases hlost with rfl | hlost | hstack <;> simp [State.blockLost, *]
  case exits =>
    intro s t k q hs hq hexit hwaits
    obtain ⟨s', he, hfind, hcells, frame⟩ := spillExit_queue (t := t) hs hq
    rw [if_pos ⟨hexit, hwaits⟩] at hfind
    exact ⟨s', he, hfind, fun j _ => frame.others j, frame.dict, hcells, frame.rx, frame.tags⟩
  case noQueue =>
    intro s t k hs hq
    obtain ⟨hqueues, hsame, hcells, -⟩ := idle_frame hs t
    have he : ∀ f, (s.at t).updQ k f = s.at t := fun f => by rw [State.updQ, State.at_queues, hq]
    exact ⟨_, (exec_spillExit t k s).trans (by rw [he]), hqueues, hsame, hcells⟩
  case stays =>
    intro s t k q hs hq hstays
    obtain ⟨s', he, hfind, hcells, frame⟩ := spillExit_queue (t := t) hs hq
    have hno : ¬(q.canExit = true ∧ s.spillWaits k = false) := by
      rcases hstays with h | h <;> simp [h]
    rw [if_neg hno] at hfind
    exact ⟨s', he, hfind, frame.dict, hcells⟩
  case clean =>
    intro s t hs hrun hstray
    have hmarks : s.passMarks = [] := by rw [State.passMarks, hstray, List.map_nil]
    obtain ⟨s', he, hleaks, hrest⟩ := bramblePassEnd_marks (t := t) hs hrun (by simp [hmarks])
    exact ⟨s', he, hleaks.trans hmarks, hrest⟩
  case marked =>
    intro s t c hs hrun hstray htwo
    have hmarks : s.passMarks = [(c, s.leaks.getD 0 c + 1)] := by
      rw [State.passMarks, hstray, List.map_singleton, Nat.min_eq_right (by omega)]
    obtain ⟨s', he, hleaks, hrest⟩ := bramblePassEnd_marks (t := t) hs hrun (by rw [hmarks]; simp; omega)
    exact ⟨s', he, hleaks.trans hmarks, hrest⟩
  case reclaimed =>
    intro s t c hrun hstray htwo hpolicy
    obtain ⟨hmarks, he⟩ := bramblePassEnd_leak (t := t) hrun hstray htwo
    rw [he, State.leak_of_policy ((s.passEnded_policy t).trans hpolicy), State.passEnded, hmarks]
  case reported =>
    intro s t c hrun hstray htwo hpolicy
    obtain ⟨hmarks, he⟩ := bramblePassEnd_leak (t := t) hrun hstray htwo
    rw [he, State.leak_of_not_policy (by rw [s.passEnded_policy t]; exact hpolicy), State.passEnded, hmarks]
  case pass => exact fun s t hrun => exec_bramblePassEnd hrun
  case paused =>
    intro s t x hs hx h7
    have he : (s.at t).errs = [] := (s.at_errs t).trans hs
    obtain ⟨-, hsame, -⟩ := idle_frame hs t
    exact ⟨_, exec_bramblePassEnd_paused hx h7, (State.finish_leaks he s).trans (s.at_leaks t), hsame,
      SameBuffers.trans (SameBuffers.finish he (s.at_flash t)) (SameBuffers.at s t)⟩

end Sys2Proof.Machine
end

section
/-! SUPPORT. The wake of a queue in the clock of a selection (R152), and the expiry of a twin window's timer while the
copy in order waits (R133, R186): two statements leave these out, and each fails in a state of its own. -/

namespace Sys2Proof.Machine

open Sys2Proof

/-! ## A queue that wakes in the clock of a selection (R152) -/

/-- A sub-list that holds one write of 64 bytes of a partition, in one cell. -/
def oneWrite (part cell : Nat) : SubQ :=
  { head := [{ idx := cell, first := true, last := true, stamp := 0,
               pkt := some { dest := hostGfid part, src := hostGfid part, part := part, cls := 0, inPort := 8,
                             tlp := { kind := .memWrite, data := 64 } } }] }

/-- A chip with two queues of class 0 at port 8: that of partition 3 with start tag 5, and that of partition 4, which
wakes in the present core clock with virtual time 0. -/
def wakesAtSelection : State :=
  { State.reset with
    cells := [(5, chargeWord 1 8 0), (6, chargeWord 1 8 0)]
    queues := [(fqKey 3 8 0 0, { num := 1, port := 8, posted := oneWrite 3 5, tag := 5 }),
               (fqKey 4 8 0 0, { num := 2, port := 8, posted := oneWrite 4 6, woke := some 0 })] }

/-- The selection of the first queue sets virtual time to 5, and the queue that wakes takes it as its start tag. -/
theorem wakesAtSelection_joins :
    ((wakesAtSelection.account 8 (fqKey 3 8 0 0) 64 .posted).queues.find (fqKey 4 8 0 0)).map Queue.tag = some 5 := by
  decide +kernel

/-- Refutes O34: a selection does not leave every other queue as it was. One of the same port and class that wakes in the
clock of the selection takes virtual time as the selection leaves it for its start tag (R152). -/
theorem not_portsSelectTheTlpToSend : ¬ Obligations.PortsSelectTheTlpToSend := by
  intro h
  obtain ⟨-, -, -, -, -, -, -, -, -, -, advances⟩ := h
  obtain ⟨-, -, -, -, others, -⟩ := advances wakesAtSelection 8 (fqKey 3 8 0 0) 64 .posted _ rfl
  have htag := wakesAtSelection_joins
  rw [others (fqKey 4 8 0 0) (by decide) (by decide)] at htag
  exact absurd htag (by decide)

/-! ## A twin window whose copy in order waits when its timer expires (R133, R186) -/

/-- A twin copy with sequence 5 to GFID 700. -/
def copyInOrder : Pkt :=
  { dest := 700, src := hostGfid 3, part := 3, cls := 6, inPort := 8, seq := 5, twin := 1,
    tlp := { kind := .memWrite, data := 64 } }

/-- A chip whose window of reservation 4 holds that copy while 5 is the next sequence to deliver, with a timer that ends
at 9. The flow queue to port 16 for which the copy has waited is there. -/
def copyWaits : State :=
  { State.reset.put .PORT_ROLE 8 3 |>.put .NODE_ID 0 0 |>.put .LOC_NODE 700 0 |>.put .LOC_PORT 700 16 with
    cells := [(7, chargeWord 2 16 6)]
    queues := [(fqKey 3 16 0 6, { num := 1, port := 16 })]
    rsvs := [(4, { x := 5, slots := [(5, copyInOrder, [7])], timer := some 9 })] }

/-- The expiry of a window's timer (R186). -/
theorem exec_twinSkewTimeout_due {s : State} {t x : Time} {r : Nat} (hr : r < 16384) (ht : (s.rsv r).timer = some x)
    (hx : x ≤ max s.now t) : exec (.twinSkewTimeout t r) s = .next (((s.at t).twinExpire r).finish s) := by
  have hdue : ((s.at t).rsv r).timer = some x := by rw [State.rsv, State.at_rsvs]; exact ht
  show execTwinSkewTimeout t r s = _
  unfold execTwinSkewTimeout
  simp only [hdue, State.at_now, hx, decide_true, if_true]
  exact unit_next (decide_eq_true hr)

/-- At the expiry no sequence is missing, and the log takes no record. -/
theorem copyWaits_losesNone :
    (((copyWaits.at 9).twinExpire 4).finish copyWaits).get .LOG_NEXT_SEQ 0 = copyWaits.get .LOG_NEXT_SEQ 0 := by
  rw [finish_get_settled _ _ rfl]
  decide +kernel

/-- The error that the statement gives for 0 lost sequences would take the next record of the log. -/
theorem copyWaits_recordClaimed :
    ((((copyWaits.at 9).updRsv 4 fun h => { h with x := (h.x + 0) % 2 ^ 24, timer := none }).bump .TWIN_LOST 4 0).raise
      { code := 0x2011, kind := 6, idx := 4, detail := 0 } |>.twinDrain 4 4096 |>.finish copyWaits).get .LOG_NEXT_SEQ 0 ≠
        copyWaits.get .LOG_NEXT_SEQ 0 := by
  rw [finish_get_settled _ _ rfl]
  decide +kernel

/-- Refutes O37: where the first copy that a twin window holds is the one in order, no sequence is lost when the timer
expires, and there is no error 0x2011: the copy has waited for a flow queue, and goes to it (R133). -/
theorem not_fabricPacketsKeepTheirOrder : ¬ Obligations.FabricPacketsKeepTheirOrder := by
  intro h
  iterate 33 obtain ⟨-, h⟩ := h
  have claimed := h copyWaits 9 4 0 9 (by decide) rfl (by decide) (by decide)
  have meant := next_inj claimed (exec_twinSkewTimeout_due (x := 9) (by decide) rfl (by decide))
  exact copyWaits_recordClaimed (by rw [meant, copyWaits_losesNone])

end Sys2Proof.Machine
end

section
/-! SUPPORT. The tag table at its two sweeps and the storm trigger: what each does where its condition holds, and that it
does nothing where it does not (R113, R117); the queues that a freed tag unparks (R151); and the statement about them. -/

namespace Sys2Proof.Machine

open Sys2Proof

/-! ## Entries (R110, R113) -/

/-- The entry found for a port and tag is one of that port and tag. -/
theorem State.tagLookup_key {s : State} {port tag n : Nat} {e : TagEntry} (h : s.tagLookup port tag = some (n, e)) :
    e.port = port ∧ e.tag = tag := by
  simpa using List.find?_some h

@[simp] theorem State.at_tagLookup (s : State) (t : Time) (port tag : Nat) :
    (s.at t).tagLookup port tag = s.tagLookup port tag := by
  rw [State.tagLookup, State.at_tags, State.tagLookup]

theorem State.quarantine_eq (s : State) (n : Nat) : s.quarantine n = { s with tags := (s.quarantine n).tags } := by
  unfold State.quarantine
  cases s.tags.find n <;> rfl

theorem State.quarantine_tags {s : State} {n : Nat} {e : TagEntry} (h : s.tags.find n = some e) :
    (s.quarantine n).tags = s.tags.set n { e with quarantined := true } := by
  rw [State.quarantine, h]

theorem State.quarantine_tags_congr {s s' : State} (h : s'.tags = s.tags) (n : Nat) :
    (s'.quarantine n).tags = (s.quarantine n).tags := by
  unfold State.quarantine
  rw [h]
  cases s.tags.find n
  · exact h
  · rfl

theorem State.freeTag_of_find {s : State} {n : Nat} {e : TagEntry} (h : s.tags.find n = some e) :
    s.freeTag n =
      { s with tags := s.tags.erase n, tagFree := s.tagFree.set (e.port * 16384 + e.tag) s.now } := by
  rw [State.freeTag, h]

/-! ## Parked queues (R151) -/

/-- Unparking queues changes the queues alone. -/
theorem State.foldl_unpark_eq (s : State) (ks : List Nat) :
    ks.foldl State.unpark s = { s with queues := (ks.foldl State.unpark s).queues } := by
  induction ks generalizing s with
  | nil => rfl
  | cons k ks ih =>
    rw [List.foldl_cons, ih (s.unpark k)]
    show _ = { s with queues := _ }
    rw [State.unpark, State.updQ_eq]

theorem State.unparkPort_eq (s : State) (port : Nat) :
    s.unparkPort port = { s with queues := (s.unparkPort port).queues } := s.foldl_unpark_eq _

/-- A queue that is unparked, or is not parked and another is unparked, is not parked. -/
theorem State.unpark_parked {s : State} {j k : Nat}
    (h : j = k ∨ (s.queues.getD { num := 0 } j).parked = false) :
    ((s.unpark k).queues.getD { num := 0 } j).parked = false := by
  by_cases hjk : j = k
  · subst hjk
    cases hq : s.queues.find j with
    | none => rw [Tab.getD, State.unpark, State.find_updQ, if_pos rfl, hq]; rfl
    | some q =>
      obtain ⟨p, hp, hpark, -⟩ := State.find_unpark hq
      rw [Tab.getD, hp, Option.getD_some, hpark]
  · rw [Tab.getD, State.unpark, State.find_updQ_ne hjk]
    exact h.resolve_left hjk

theorem State.foldl_unpark_parked {s : State} {ks : List Nat} {j : Nat}
    (h : j ∈ ks ∨ (s.queues.getD { num := 0 } j).parked = false) :
    ((ks.foldl State.unpark s).queues.getD { num := 0 } j).parked = false := by
  induction ks generalizing s with
  | nil => exact h.resolve_left List.not_mem_nil
  | cons k ks ih =>
    rw [List.mem_cons, or_comm (a := j = k), or_assoc] at h
    exact ih (h.imp_right State.unpark_parked)

/-- No queue that a port serves stays parked once the port's queues are unparked. -/
theorem State.unparkPort_parked {s : State} {port k : Nat} (hk : k ∈ s.queues.keys) (hport : s.portNow k = port) :
    ((s.unparkPort port).queues.getD { num := 0 } k).parked = false :=
  State.foldl_unpark_parked (.inl (List.mem_filter.2 ⟨hk, decide_eq_true hport⟩))

/-! ## Storms (R117) -/

theorem State.stormAt_of_below {s : State} {port : Nat}
    (h : s.get .TO_STORM_LIMIT = 0 ∨ s.storm.getD 0 port < s.get .TO_STORM_LIMIT) : s.stormAt port = s := if_pos h

theorem State.stormAt_of_reached {s : State} {port : Nat} (h0 : s.get .TO_STORM_LIMIT ≠ 0)
    (h : s.get .TO_STORM_LIMIT ≤ s.storm.getD 0 port) :
    s.stormAt port = s.raise { code := 0x2005, kind := 2, idx := port, detail := s.storm.getD 0 port } :=
  if_neg (not_or.2 ⟨h0, Nat.not_lt.2 h⟩)

/-! ## A deadline that has passed (R113, R117) -/

theorem OnlyBooked.countPort (s : State) (port code n : Nat) (p : Pkt) : OnlyBooked (s.countPort port code n p) s := by
  unfold State.countPort
  split
  · exact .refl s
  · exact .countAt s ..

/-- A timeout counted for its partition and at its port, with its entry in quarantine. -/
def State.countTimeout (s : State) (n : Nat) (e : TagEntry) : State :=
  ((s.bump .CPL_TIMEOUTS e.part).countPort e.port 0x41 1
    { part := e.part, src := e.reqG, dest := e.cplG, tlp := { kind := .memRead, tc := e.tc } }).quarantine n

/-- The same with the port's number of timeouts in this pip advanced. -/
def State.timedOut (s : State) (n : Nat) (e : TagEntry) : State :=
  { s.countTimeout n e with storm := s.storm.putD 0 e.port (s.storm.getD 0 e.port + 1) }

theorem State.timedOut_storm (s : State) (n : Nat) (e : TagEntry) :
    (s.timedOut n e).storm = s.storm.putD 0 e.port (s.storm.getD 0 e.port + 1) := rfl

/-- Beside its partition's count and booked objects, a timeout counted changes the tag table alone. -/
theorem State.countTimeout_eq (s : State) (n : Nat) (e : TagEntry) :
    (∃ x, s.countTimeout n e = { s with objs := x, tags := (s.quarantine n).tags }) ∧
      ∀ o r, o.booked = false → (s.countTimeout n e).get o r = (s.bump .CPL_TIMEOUTS e.part).get o r := by
  have hc := OnlyBooked.countPort (s.bump .CPL_TIMEOUTS e.part) e.port 0x41 1
    { part := e.part, src := e.reqG, dest := e.cplG, tlp := { kind := .memRead, tc := e.tc } }
  unfold State.countTimeout
  generalize State.countPort _ _ _ _ _ = c at hc
  obtain ⟨⟨x, hx⟩, hget⟩ := hc
  have htags : c.tags = s.tags := by rw [hx]; rfl
  rw [c.quarantine_eq, State.quarantine_tags_congr htags, hx]
  exact ⟨⟨x, rfl⟩, fun o r ho => by rw [← hget o r ho, hx]; rfl⟩

theorem State.timedOut_eq (s : State) (n : Nat) (e : TagEntry) :
    (∃ x, s.timedOut n e = { s with
        objs := x, tags := (s.quarantine n).tags, storm := s.storm.putD 0 e.port (s.storm.getD 0 e.port + 1) }) ∧
      ∀ o r, o.booked = false → (s.timedOut n e).get o r = (s.bump .CPL_TIMEOUTS e.part).get o r := by
  obtain ⟨⟨x, h⟩, hget⟩ := s.countTimeout_eq n e
  exact ⟨⟨x, by rw [State.timedOut, h]⟩, hget⟩

/-- A deadline that has passed: the timeout, and a storm where it reaches the limit. -/
theorem State.deadlinePassed_eq (s : State) (n : Nat) (e : TagEntry) :
    s.deadlinePassed n e =
      if s.storm.getD 0 e.port + 1 = s.get .TO_STORM_LIMIT then (s.timedOut n e).stormAt e.port else s.timedOut n e := by
  obtain ⟨⟨x, h⟩, hget⟩ := s.countTimeout_eq n e
  have hstorm : (s.countTimeout n e).storm = s.storm := by rw [h]
  have hlimit : (s.countTimeout n e).get .TO_STORM_LIMIT = s.get .TO_STORM_LIMIT :=
    (hget _ _ rfl).trans (State.get_put_ne (by decide) ..)
  show (s.countTimeout n e).stormCount e.port = _
  unfold State.stormCount State.timedOut
  rw [hstorm, ← hlimit]
  rfl

/-! ## The sweeps (R113) -/

section

variable {s : State} {port tag n : Nat} {e : TagEntry}

theorem State.deadlineAt_of_none (h : s.tagLookup port tag = none) : s.deadlineAt port tag = s := by
  rw [State.deadlineAt, h]

theorem State.deadlineAt_of_kept (h : s.tagLookup port tag = some (n, e))
    (hk : e.quarantined = true ∨ before40 s.now40 e.deadline = true) : s.deadlineAt port tag = s := by
  rw [State.deadlineAt, h]
  exact if_pos hk

theorem State.deadlineAt_of_passed (h : s.tagLookup port tag = some (n, e)) (hq : e.quarantined = false)
    (hd : before40 s.now40 e.deadline = false) : s.deadlineAt port tag = s.deadlinePassed n e := by
  rw [State.deadlineAt, h]
  exact if_neg (by simp [hq, hd])

theorem State.quarantineEnd_of_none (h : s.tagLookup port tag = none) : s.quarantineEnd port tag = s := by
  rw [State.quarantineEnd, h]

theorem State.quarantineEnd_of_kept (h : s.tagLookup port tag = some (n, e))
    (hk : e.quarantined = false ∨ before40 s.now40 e.qend = true) : s.quarantineEnd port tag = s := by
  rw [State.quarantineEnd, h]
  exact if_pos (by simpa using hk)

theorem State.quarantineEnd_of_over (h : s.tagLookup port tag = some (n, e)) (hq : e.quarantined = true)
    (hd : before40 s.now40 e.qend = false) : s.quarantineEnd port tag = (s.freeTag n).unparkPort port := by
  rw [State.quarantineEnd, h]
  exact if_neg (by simp [hq, hd])

end

/-! ## The commands -/

theorem exec_tagDeadline {port tag : Nat} (hp : port < 512) (ht : tag < 16384) (t : Time) (s : State) :
    exec (.tagDeadline t port tag) s = .next (((s.at t).deadlineAt port tag).finish s) :=
  unit_next (by simp [Instr.wf, hp, ht])

theorem exec_tagQuarantineEnd {port tag : Nat} (hp : port < 512) (ht : tag < 16384) (t : Time) (s : State) :
    exec (.tagQuarantineEnd t port tag) s = .next (((s.at t).quarantineEnd port tag).finish s) :=
  unit_next (by simp [Instr.wf, hp, ht])

theorem exec_cplTimeoutStorm {port : Nat} (hp : port < 512) (t : Time) (s : State) :
    exec (.cplTimeoutStorm t port) s = .next (((s.at t).stormAt port).finish s) :=
  unit_next (decide_eq_true hp)

section

variable {s : State} {port tag n : Nat} {e : TagEntry}

/-- What a command leaves that changes nothing: the tag table, the dictionary, the buffers and the outputs. -/
theorem idle_keeps (hs : s.errs = []) (t : Time) :
    ((s.at t).finish s).tags = s.tags ∧ ((s.at t).finish s).SameBut s [] ∧ ((s.at t).finish s).SameBuffers s ∧
      ((s.at t).finish s).out = s.out := by
  have he : (s.at t).errs = [] := (s.at_errs t).trans hs
  obtain ⟨-, hsame, -, -, htags⟩ := idle_frame hs t
  exact ⟨htags, hsame, SameBuffers.trans (SameBuffers.finish he (s.at_flash t)) (SameBuffers.at s t),
    (State.finish_out he s).trans (s.at_out t)⟩

/-- A deadline that has passed, as a command: the timeout, and a storm where it reaches the limit. -/
theorem exec_tagDeadline_passed (hp : port < 512) (ht : tag < 16384) (t : Time)
    (h : s.tagLookup port tag = some (n, e)) (hq : e.quarantined = false) (hd : before40 (s.at t).now40 e.deadline = false) :
    exec (.tagDeadline t port tag) s =
      .next ((if s.storm.getD 0 e.port + 1 = s.get .TO_STORM_LIMIT then ((s.at t).timedOut n e).stormAt e.port
        else (s.at t).timedOut n e).finish s) := by
  rw [exec_tagDeadline hp ht, State.deadlineAt_of_passed ((s.at_tagLookup t port tag).trans h) hq hd,
    State.deadlinePassed_eq, State.at_storm, s.at_get t rfl]

/-- The timeout of a live entry short of a storm: the entry is in quarantine, and the timeout is counted for its
partition and its port. -/
theorem tagDeadline_quarantines (hp : port < 512) (ht : tag < 16384) (t : Time) (hs : s.errs = [])
    (h : s.tagLookup port tag = some (n, e)) (hfind : s.tags.find n = some e) (hq : e.quarantined = false)
    (hd : before40 (s.at t).now40 e.deadline = false) (hstorm : s.storm.getD 0 port + 1 ≠ s.get .TO_STORM_LIMIT) :
    ∃ s', exec (.tagDeadline t port tag) s = .next s' ∧
      s'.tags.find n = some { e with quarantined := true } ∧
      (∀ m ∈ s.tags.keys, m ≠ n → s'.tags.find m = s.tags.find m) ∧
      s'.get .CPL_TIMEOUTS e.part = (s.get .CPL_TIMEOUTS e.part + 1) % 2 ^ 32 ∧
      s'.storm.getD 0 port = s.storm.getD 0 port + 1 ∧
      s'.SameBut s [(.CPL_TIMEOUTS, e.part)] ∧ s'.cells = s.cells ∧ s'.queues = s.queues ∧ s'.rx = s.rx := by
  obtain ⟨rfl, rfl⟩ := State.tagLookup_key h
  obtain ⟨⟨x, hx⟩, hget⟩ := (s.at t).timedOut_eq n e
  have hnone : ((s.at t).timedOut n e).errs = [] := by rw [hx]; exact (s.at_errs t).trans hs
  have htags : (((s.at t).timedOut n e).finish s).tags = s.tags.set n { e with quarantined := true } := by
    rw [State.finish_tags hnone, hx]
    show ((s.at t).quarantine n).tags = _
    rw [State.quarantine_tags_congr (s.at_tags t), State.quarantine_tags hfind]
  refine ⟨((s.at t).timedOut n e).finish s, ?_, ?_, fun m _ hm => ?_, ?_, ?_, ?_, ?_, ?_, ?_⟩
  · rw [exec_tagDeadline_passed hp ht t h hq hd, if_neg hstorm]
  · rw [htags, Tab.find_set, if_pos rfl]
  · rw [htags, Tab.find_set, if_neg hm.symm]
  · rw [State.finish_get hnone s rfl, hget _ _ rfl, State.get_bump, if_pos ⟨rfl, rfl⟩, s.at_get t rfl]
    rfl
  · rw [State.finish_storm hnone, State.timedOut_storm, Tab.getD_putD, if_pos rfl, State.at_storm]
  · have hcount : ((s.at t).timedOut n e).SameBut (s.at t) [(.CPL_TIMEOUTS, e.part)] :=
      SameBut.trans (fun o r ho _ => hget o r ho) (SameBut.bump (s.at t) 1 (by simp))
    exact SameBut.trans (SameBut.finish hnone s _) (SameBut.trans hcount (SameBut.at s t _))
  · rw [State.finish_cells hnone, hx]
    exact s.at_cells t
  · rw [State.finish_queues hnone, hx]
    exact s.at_queues t
  · rw [State.finish_rx hnone, hx]
    exact s.at_rx t

/-- An entry whose quarantine is over is free, with its tag value, and no queue that its port serves stays parked. -/
theorem tagQuarantineEnd_frees (hp : port < 512) (ht : tag < 16384) (t : Time) (hs : s.errs = [])
    (h : s.tagLookup port tag = some (n, e)) (hfind : s.tags.find n = some e) (hq : e.quarantined = true)
    (hd : before40 (s.at t).now40 e.qend = false) :
    ∃ s', exec (.tagQuarantineEnd t port tag) s = .next s' ∧
      s'.tags.find n = none ∧
      (∀ m ∈ s.tags.keys, m ≠ n → s'.tags.find m = s.tags.find m) ∧
      s'.tagFree.find (port * 16384 + tag) = some (max s.now t) ∧
      (∀ k ∈ s.queues.keys, s.portNow k = port → (s'.queues.getD { num := 0 } k).parked = false) ∧
      s'.SameBut s [] ∧ s'.cells = s.cells ∧ s'.rx = s.rx := by
  obtain ⟨rfl, rfl⟩ := State.tagLookup_key h
  have hfree := State.freeTag_of_find (s := s.at t) ((congrArg (·.find n) (s.at_tags t)).trans hfind)
  have hunpark := ((s.at t).freeTag n).unparkPort_eq e.port
  rw [hfree] at hunpark
  have hnone : (((s.at t).freeTag n).unparkPort e.port).errs = [] := by
    rw [hfree, hunpark]
    exact (s.at_errs t).trans hs
  have htags : ((((s.at t).freeTag n).unparkPort e.port).finish s).tags = s.tags.erase n := by
    rw [State.finish_tags hnone, hfree, hunpark, State.at_tags]
  refine ⟨(((s.at t).freeTag n).unparkPort e.port).finish s, ?_, ?_, fun m _ hm => ?_, ?_, fun k hk hport => ?_, ?_, ?_, ?_⟩
  · rw [exec_tagQuarantineEnd hp ht, State.quarantineEnd_of_over ((s.at_tagLookup t _ _).trans h) hq hd]
  · rw [htags, Tab.find_erase, if_pos rfl]
  · rw [htags, Tab.find_erase, if_neg hm.symm]
  · rw [State.finish_tagFree hnone, hfree, hunpark]
    show ((s.at t).tagFree.set _ (s.at t).now).find _ = _
    rw [Tab.find_set, if_pos rfl, State.at_now]
  · rw [State.finish_queues hnone, hfree]
    refine State.unparkPort_parked ?_ ?_
    · show k ∈ (s.at t).queues.keys
      rwa [State.at_queues]
    · show (s.at t).portNow k = _
      rwa [State.at_portNow]
  · have hobjs : (((s.at t).freeTag n).unparkPort e.port).objs = (s.at t).objs := by rw [hfree, hunpark]
    exact SameBut.trans (SameBut.finish hnone s []) (SameBut.trans (SameBut.of_objs hobjs []) (SameBut.at s t []))
  · rw [State.finish_cells hnone, hfree, hunpark]
    exact s.at_cells t
  · rw [State.finish_rx hnone, hfree, hunpark]
    exact s.at_rx t

/-- The timeout that reaches the limit is a storm at once. -/
theorem tagDeadline_storms (hp : port < 512) (ht : tag < 16384) (t : Time) (h : s.tagLookup port tag = some (n, e))
    (hq : e.quarantined = false) (hd : before40 (s.at t).now40 e.deadline = false)
    (hstorm : s.storm.getD 0 e.port + 1 = s.get .TO_STORM_LIMIT) :
    exec (.tagDeadline t port tag) s = .next ((((s.at t).timedOut n e).stormAt e.port).finish s) := by
  rw [exec_tagDeadline_passed hp ht t h hq hd, if_pos hstorm]

/-- The storm command with the limit reached raises the port's error. -/
theorem cplTimeoutStorm_raises (hp : port < 512) (t : Time) (h0 : s.get .TO_STORM_LIMIT ≠ 0)
    (hreach : s.get .TO_STORM_LIMIT ≤ s.storm.getD 0 port) :
    exec (.cplTimeoutStorm t port) s =
      .next (((s.at t).raise { code := 0x2005, kind := 2, idx := port, detail := s.storm.getD 0 port }).finish s) := by
  rw [exec_cplTimeoutStorm hp, State.stormAt_of_reached, State.at_storm]
  · rwa [s.at_get t rfl]
  · rwa [s.at_get t rfl, State.at_storm]

/-- Below the limit, or with a limit of 0, it does nothing. -/
theorem exec_cplTimeoutStorm_below (hp : port < 512) (t : Time)
    (hb : s.get .TO_STORM_LIMIT = 0 ∨ s.storm.getD 0 port < s.get .TO_STORM_LIMIT) :
    exec (.cplTimeoutStorm t port) s = .next ((s.at t).finish s) := by
  rw [exec_cplTimeoutStorm hp, State.stormAt_of_below]
  rwa [s.at_get t rfl, State.at_storm]

end

/-! ## The statement -/

/-- Settles O36, sweep by sweep: what each does to the entry of its port and tag, and where it changes nothing. -/
theorem tagsTimeOutAndAreFreed : Obligations.TagsTimeOutAndAreFreed := by
  refine ⟨?quarantines, ?deadlineKept, ?frees, ?quarantineKept, ?quarantineNone, ?deadlineNone, ?storms, ?raises, ?below⟩
  case quarantines =>
    intro s t port tag n e hp ht hs h hfind hq hd hstorm
    exact tagDeadline_quarantines hp ht t hs h hfind hq hd hstorm
  case deadlineKept =>
    intro s t port tag n e hp ht hs h hk
    obtain ⟨-, hsame, hbuf, -⟩ := idle_keeps hs t
    refine ⟨(s.at t).finish s, ?_, hsame, hbuf⟩
    rw [exec_tagDeadline hp ht, State.deadlineAt_of_kept ((s.at_tagLookup t port tag).trans h) hk]
  case frees =>
    intro s t port tag n e hp ht hs h hfind hq hd
    exact tagQuarantineEnd_frees hp ht t hs h hfind hq hd
  case quarantineKept =>
    intro s t port tag n e hp ht hs h hk
    obtain ⟨htags, hsame, hbuf, -⟩ := idle_keeps hs t
    refine ⟨(s.at t).finish s, ?_, htags, hsame, hbuf⟩
    rw [exec_tagQuarantineEnd hp ht, State.quarantineEnd_of_kept ((s.at_tagLookup t port tag).trans h) hk]
  case quarantineNone =>
    intro s t port tag hp ht hs h
    obtain ⟨htags, hsame, hbuf, -⟩ := idle_keeps hs t
    refine ⟨(s.at t).finish s, ?_, htags, hsame, hbuf⟩
    rw [exec_tagQuarantineEnd hp ht, State.quarantineEnd_of_none ((s.at_tagLookup t port tag).trans h)]
  case deadlineNone =>
    intro s t port tag hp ht hs h
    obtain ⟨htags, hsame, hbuf, -⟩ := idle_keeps hs t
    refine ⟨(s.at t).finish s, ?_, htags, hsame, hbuf⟩
    rw [exec_tagDeadline hp ht, State.deadlineAt_of_none ((s.at_tagLookup t port tag).trans h)]
  case storms =>
    intro s t port tag n e hp ht h hq hd hstorm
    rw [tagDeadline_storms hp ht t h hq hd hstorm]
    obtain ⟨rfl, -⟩ := State.tagLookup_key h
    rw [State.timedOut, State.at_storm, State.countTimeout]
  case raises =>
    intro s t port hp h0 hreach
    exact cplTimeoutStorm_raises hp t h0 hreach
  case below =>
    intro s t port hp hs hb
    obtain ⟨-, hsame, hbuf, hout⟩ := idle_keeps hs t
    exact ⟨_, exec_cplTimeoutStorm_below hp t hb, hsame, hbuf, hout⟩

end Sys2Proof.Machine
end

section
/-! SUPPORT. Returned credits, shapers that conform and gate entries: what each changes where its condition holds, and that
it changes nothing where it does not (R151, R152, R156, R181); and the statement about them. -/

namespace Sys2Proof.Machine

open Sys2Proof

/-! ## Time goes on -/

@[simp] theorem State.at_age (s : State) (t : Time) : (s.at t).age = s.age + (t - s.now) := by
  obtain ⟨c, h⟩ := s.at_eq t; rw [h]

@[simp] theorem State.at_isFabric (s : State) (t : Time) (port : Nat) : (s.at t).isFabric port = s.isFabric port := by
  simp only [State.isFabric, State.at_get s t (o := .PORT_ROLE) rfl]

@[simp] theorem State.at_pport (s : State) (t : Time) (port : Nat) : (s.at t).pport port = s.pport port := by
  rw [State.pport, State.at_pports, State.pport]

@[simp] theorem State.at_vtime (s : State) (t : Time) (port cls : Nat) : (s.at t).vtime port cls = s.vtime port cls :=
  s.at_get t rfl _

@[simp] theorem State.at_newest (s : State) (t : Time) {o : Obj} (h : o.booked = false) (row : Nat) :
    (s.at t).newest o row = s.newest o row := by
  simp only [State.newest, State.at_pendP, State.at_staged, State.at_pendB, State.at_get s t h]

@[simp] theorem State.at_glVal (s : State) (t : Time) (n : Nat) {o : Obj} (h : o.booked = false) (row : Nat) :
    (s.at t).glVal n o row = s.glVal n o row := by
  simp only [State.glVal, State.orchGet, State.at_node, State.at_newest s t h, State.at_get s t h]

@[simp] theorem State.at_timeline (s : State) (t : Time) (port b : Nat) : (s.at t).timeline port b = s.timeline port b := by
  simp only [State.timeline, State.timelineAt, State.glCycleAt, State.glSumAt, State.glEntriesAt, State.at_node,
    State.at_get s t (o := .PIP_PERIOD) rfl, State.at_glVal s t _ (o := .GL_LENGTH) rfl,
    State.at_glVal s t _ (o := .GL_ENTRY) rfl, State.at_glVal s t _ (o := .GL_CYCLE_PIPS) rfl]

@[simp] theorem State.at_activeBank (s : State) (t : Time) (port : Nat) : (s.at t).activeBank port = s.activeBank port := by
  simp only [State.activeBank, State.at_get s t (o := .GL_ACTIVE_BANK) rfl, State.at_get s t (o := .GL_LENGTH) rfl]

/-! ## Credits (R136, R151) -/

/-- A port's credits with headers and data of type i added. -/
def addCredits (t : Tab Nat) (i : Nat) (n : Nat × Nat) : Tab Nat := (t.updD 0 i (· + n.1)).updD 0 (i + 3) (· + n.2)

/-- A port with the credits of each type added. -/
def PPort.credited (h : PPort) (a b c : Nat × Nat) : PPort :=
  { h with fc := addCredits (addCredits (addCredits h.fc 0 a) 1 b) 2 c }

/-- The state with a port's credits added, before its queues are unparked. -/
def State.credited (s : State) (port : Nat) (a b c : Nat × Nat) : State := s.updPport port (·.credited a b c)

theorem State.creditsIn_eq (s : State) (port : Nat) (a b c : Nat × Nat) :
    s.creditsIn port a b c = (s.credited port a b c).unparkPort port := rfl

/-- Credits that come in change their port and the queues alone. -/
theorem State.creditsIn_frame (s : State) (port : Nat) (a b c : Nat × Nat) :
    s.creditsIn port a b c =
      { s.credited port a b c with queues := (s.creditsIn port a b c).queues } := by
  rw [s.creditsIn_eq]
  exact (s.credited port a b c).unparkPort_eq port

/-- Added credits stand at the type's two places, and every other place is as before. -/
theorem getD_addCredits (t : Tab Nat) (i : Nat) (n : Nat × Nat) (j : Nat) :
    (addCredits t i n).getD 0 j =
      if j = i then t.getD 0 i + n.1 else if j = i + 3 then t.getD 0 (i + 3) + n.2 else t.getD 0 j := by
  have hi : i ≠ i + 3 := by omega
  unfold addCredits
  simp only [Tab.getD_updD, if_neg hi]
  by_cases h0 : j = i
  · subst h0
    rw [if_neg hi.symm, if_pos rfl, if_pos rfl]
  · rw [if_neg h0, if_neg (Ne.symm h0)]
    by_cases h3 : j = i + 3
    · rw [if_pos h3, if_pos h3.symm]
    · rw [if_neg h3, if_neg (Ne.symm h3)]

theorem State.credited_pport (s : State) (port : Nat) (a b c : Nat × Nat) :
    (s.credited port a b c).pport port = (s.pport port).credited a b c := by
  rw [State.pport, State.credited, State.updPport_pports, Tab.getD_updD, if_pos rfl, State.pport]

/-- Unparking queues leaves the others as they are. -/
theorem State.find_foldl_unpark {ks : List Nat} {j : Nat} (h : j ∉ ks) (s : State) :
    (ks.foldl State.unpark s).queues.find j = s.queues.find j := by
  induction ks generalizing s with
  | nil => rfl
  | cons k ks ih =>
    have hk : j ≠ k := fun e => h (List.mem_cons.2 (.inl e))
    have hks : j ∉ ks := fun hj => h (List.mem_cons.2 (.inr hj))
    exact (ih hks (s.unpark k)).trans (State.find_updQ_ne hk s _)

/-- A queue that another port serves is as before once a port's queues are unparked. -/
theorem State.find_unparkPort {s : State} {port k : Nat} (h : s.portNow k ≠ port) :
    (s.unparkPort port).queues.find k = s.queues.find k :=
  State.find_foldl_unpark (fun hk => h (of_decide_eq_true (List.mem_filter.1 hk).2)) s

theorem exec_flowControlUpdate {port : Nat} (hp : port < 512) (t : Time) (a b c : Nat × Nat) (s : State) :
    exec (.flowControlUpdate t port a b c) s =
      .next ((if !(s.at t).isFabric port && ((s.at t).pport port).up then (s.at t).creditsIn port a b c
        else s.at t).finish s) :=
  unit_next (decide_eq_true hp)

/-- Credits that come back at a host or device port whose link is up. -/
theorem flowControlUpdate_credits {s : State} {port : Nat} (hp : port < 512) (t : Time) (a b c : Nat × Nat)
    (hs : s.errs = []) (hrole : s.isFabric port = false) (hup : (s.pport port).up = true) :
    ∃ s', exec (.flowControlUpdate t port a b c) s = .next s' ∧
      s'.pport port = (s.pport port).credited a b c ∧
      (∀ k ∈ s.queues.keys, s.portNow k = port → (s'.queues.getD { num := 0 } k).parked = false) ∧
      (∀ k, s.portNow k ≠ port → s'.queues.find k = s.queues.find k) ∧
      s'.SameBut s [] ∧ s'.cells = s.cells ∧ s'.rx = s.rx ∧ s'.tags = s.tags := by
  have hframe := (s.at t).creditsIn_frame port a b c
  have hqueues : ((s.at t).credited port a b c).queues = s.queues := s.at_queues t
  have hnow : ∀ k, ((s.at t).credited port a b c).portNow k = s.portNow k := s.at_portNow t
  have hnone : ((s.at t).creditsIn port a b c).errs = [] := by
    rw [hframe]
    exact (s.at_errs t).trans hs
  refine ⟨((s.at t).creditsIn port a b c).finish s, ?_, ?_, fun k hk hport => ?_, fun k hport => ?_, ?_, ?_, ?_, ?_⟩
  · rw [exec_flowControlUpdate hp, State.at_isFabric, State.at_pport, hrole, hup]
    rfl
  · rw [State.pport, State.finish_pports hnone, hframe, ← s.at_pport t]
    exact (s.at t).credited_pport port a b c
  · rw [State.finish_queues hnone, State.creditsIn_eq]
    exact State.unparkPort_parked (hqueues ▸ hk) ((hnow k).trans hport)
  · rw [State.finish_queues hnone, State.creditsIn_eq, State.find_unparkPort (by rwa [hnow]), hqueues]
  · have hobjs : ((s.at t).creditsIn port a b c).objs = (s.at t).objs := by rw [hframe]; rfl
    exact SameBut.trans (SameBut.finish hnone s []) (SameBut.trans (SameBut.of_objs hobjs []) (SameBut.at s t []))
  · rw [State.finish_cells hnone, hframe]
    exact s.at_cells t
  · rw [State.finish_rx hnone, hframe]
    exact s.at_rx t
  · rw [State.finish_tags hnone, hframe]
    exact s.at_tags t

/-- At a fabric port, or while the link is down, credits change nothing. -/
theorem exec_flowControlUpdate_idle {s : State} {port : Nat} (hp : port < 512) (t : Time) (a b c : Nat × Nat)
    (h : s.isFabric port = true ∨ (s.pport port).up = false) :
    exec (.flowControlUpdate t port a b c) s = .next ((s.at t).finish s) := by
  have hno : (!(s.at t).isFabric port && ((s.at t).pport port).up) = false := by
    rw [State.at_isFabric, State.at_pport]
    rcases h with h | h <;> simp [h]
  rw [exec_flowControlUpdate hp, hno, if_neg Bool.false_ne_true]

/-! ## Shapers (R152, R156) -/

/-- A queue that conforms: its start tag joins virtual time and its bucket is brought up to now. -/
def State.caughtUp (s : State) (k : Nat) (q : Queue) : Queue :=
  { q with tag := tagMax q.tag (s.vtime (s.portFor k q) (keyClass k)),
           tokens := s.queueTokens k q, tokensAt := s.age, held := false }

theorem State.find_conform {s : State} {k : Nat} {q : Queue} (h : s.queues.find k = some q) :
    (s.conform k).queues.find k = some (if s.queueConforms k q then s.caughtUp k q else q) := by
  rw [State.conform, State.find_updQ, if_pos rfl, h, Option.map_some]
  rfl

theorem State.portNow_of_find {s : State} {k : Nat} {q : Queue} (h : s.queues.find k = some q) :
    s.portNow k = s.portFor k q := by
  rw [State.portNow, h, Option.getD_some]

theorem exec_shaperConform_queue {port cls : Nat} (hp : port < 512) (hc : cls < 8) (t : Time) (k : Nat) (s : State) :
    exec (.shaperConform t port cls (some k)) s =
      .next ((if (s.at t).portNow k = port ∧ keyClass k = cls then (s.at t).conform k else s.at t).finish s) :=
  unit_next (by simp [Instr.wf, hp, hc])

/-- A port's own shaper refills by time alone. -/
theorem exec_shaperConform_class {port cls : Nat} (hp : port < 512) (hc : cls < 8) (t : Time) (s : State) :
    exec (.shaperConform t port cls none) s = .next ((s.at t).finish s) :=
  unit_next (by simp [Instr.wf, hp, hc])

/-- The queue of a key once its shaper is looked at: caught up where it conforms, else as before. -/
theorem shaperConform_queue {s : State} {port cls k : Nat} {q : Queue} (hp : port < 512) (hc : cls < 8) (t : Time)
    (hs : s.errs = []) (hport : s.portNow k = port) (hcls : keyClass k = cls) (hq : s.queues.find k = some q) :
    ∃ s', exec (.shaperConform t port cls (some k)) s = .next s' ∧
      s'.queues.find k = some (if (s.at t).queueConforms k q then (s.at t).caughtUp k q else q) ∧
      s'.cells = s.cells ∧ OnQueue k [] s' s := by
  have frame : OnQueue k [] ((s.at t).conform k) (s.at t) := .updQ _ _
  have hnone := frame.ended_errs hs
  refine ⟨((s.at t).conform k).finish s, ?_, ?_, ?_, frame.ended hs⟩
  · rw [exec_shaperConform_queue hp hc, State.at_portNow, if_pos ⟨hport, hcls⟩]
  · rw [State.finish_queues hnone, State.find_conform (by rw [State.at_queues, hq])]
  · rw [State.finish_cells hnone, State.conform, State.updQ_eq]
    exact s.at_cells t

/-- The shaper of another port's or class's queue is not looked at. -/
theorem exec_shaperConform_other {s : State} {port cls k : Nat} (hp : port < 512) (hc : cls < 8) (t : Time)
    (h : ¬(s.portNow k = port ∧ keyClass k = cls)) :
    exec (.shaperConform t port cls (some k)) s = .next ((s.at t).finish s) := by
  rw [exec_shaperConform_queue hp hc, State.at_portNow, if_neg h]

/-! ## Gate entries (R181) -/

/-- The entry after entry i of a list of n: the first after the last. -/
def entryAfter (n i : Nat) : Nat := if i + 1 < n then i + 1 else 0

theorem entryAfter_lt {n i : Nat} (h : i < n) : entryAfter n i < n := by
  unfold entryAfter
  split <;> omega

/-- The gates of a port when an entry of d ns has ended: the next entry, from the instant at which that one ended. -/
def GateNow.after (g : GateNow) (l : List (Nat × Nat)) (d : Nat) : GateNow :=
  { mask := (l[entryAfter l.length g.entry]?.map (·.2)).getD 0xFF, entry := entryAfter l.length g.entry,
    start := g.start + ns d }

/-- The mask is that of the list's entry. -/
theorem GateNow.after_mask {g : GateNow} {l : List (Nat × Nat)} (h : g.entry < l.length) (d : Nat) :
    (l[(g.after l d).entry]?).map (·.2) = some (g.after l d).mask := by
  simp only [GateNow.after, List.getElem?_eq_getElem (entryAfter_lt h), Option.map_some, Option.getD_some]

section

variable {s : State} {port b d m : Nat}

theorem State.nextGate_of_no_list (h : s.activeBank port = none) : s.nextGate port = s := by
  rw [State.nextGate, h]

theorem State.nextGate_of_past_end (hb : s.activeBank port = some b)
    (h : (s.timeline port b).length ≤ (s.gates.getD {} port).entry) : s.nextGate port = s := by
  simp only [State.nextGate, hb, List.getElem?_eq_none h]

theorem State.nextGate_of_running (hb : s.activeBank port = some b)
    (he : (s.timeline port b)[(s.gates.getD {} port).entry]? = some (d, m))
    (h : s.now < (s.gates.getD {} port).start + ns d) : s.nextGate port = s := by
  simp only [State.nextGate, hb, he]
  exact if_pos h

theorem State.nextGate_of_over (hb : s.activeBank port = some b)
    (he : (s.timeline port b)[(s.gates.getD {} port).entry]? = some (d, m))
    (h : (s.gates.getD {} port).start + ns d ≤ s.now) :
    s.nextGate port =
      { s with gates := s.gates.putD {} port ((s.gates.getD {} port).after (s.timeline port b) d) } := by
  simp only [State.nextGate, hb, he]
  exact if_neg (Nat.not_lt.2 h)

theorem exec_gateEntryStart (hp : port < 512) (t : Time) (s : State) :
    exec (.gateEntryStart t port) s = .next (((s.at t).nextGate port).finish s) :=
  unit_next (decide_eq_true hp)

/-- Where no entry begins, the gates and the rest are as before. -/
theorem gateEntryStart_idle (hp : port < 512) (t : Time) (hs : s.errs = []) (h : (s.at t).nextGate port = s.at t) :
    ∃ s', exec (.gateEntryStart t port) s = .next s' ∧ s'.gates = s.gates ∧ s'.SameBut s [] ∧ s'.SameBuffers s := by
  have hnone : (s.at t).errs = [] := (s.at_errs t).trans hs
  obtain ⟨-, hsame, hbuf, -⟩ := idle_keeps hs t
  exact ⟨(s.at t).finish s, by rw [exec_gateEntryStart hp, h], (State.finish_gates hnone s).trans (s.at_gates t), hsame, hbuf⟩

/-- An entry whose duration has passed gives way to the next. -/
theorem gateEntryStart_next (hp : port < 512) (t : Time) (hs : s.errs = []) (hb : s.activeBank port = some b)
    (he : (s.timeline port b)[(s.gates.getD {} port).entry]? = some (d, m))
    (h : (s.gates.getD {} port).start + ns d ≤ max s.now t) :
    ∃ s', exec (.gateEntryStart t port) s = .next s' ∧
      s'.gates.getD {} port = (s.gates.getD {} port).after (s.timeline port b) d ∧
      s'.SameBut s [] ∧ s'.SameBuffers s := by
  have hnext : (s.at t).nextGate port = { s.at t with
      gates := s.gates.putD {} port ((s.gates.getD {} port).after (s.timeline port b) d) } := by
    rw [State.nextGate_of_over ((s.at_activeBank t port).trans hb) (by rwa [State.at_timeline, State.at_gates])
      (by rwa [State.at_gates, State.at_now]), State.at_timeline, State.at_gates]
  have hnone : ((s.at t).nextGate port).errs = [] := by
    rw [hnext]
    exact (s.at_errs t).trans hs
  have hobjs : ((s.at t).nextGate port).objs = (s.at t).objs := by rw [hnext]
  have hflash : ((s.at t).nextGate port).flash = s.flash := by
    rw [hnext]
    exact s.at_flash t
  have hbuf : ((s.at t).nextGate port).SameBuffers (s.at t) := by
    rw [hnext]
    exact SameBuffers.refl (s.at t)
  refine ⟨((s.at t).nextGate port).finish s, exec_gateEntryStart hp t s, ?_, ?_, ?_⟩
  · rw [State.finish_gates hnone, hnext, Tab.getD_putD, if_pos rfl]
  · exact SameBut.trans (SameBut.finish hnone s []) (SameBut.trans (SameBut.of_objs hobjs []) (SameBut.at s t []))
  · exact SameBuffers.trans (SameBuffers.finish hnone hflash) (SameBuffers.trans hbuf (SameBuffers.at s t))

end

/-! ## The statement -/

/-- Settles O35, command by command: what each changes where its condition holds, and that it changes nothing else. -/
theorem creditsTokensAndGatesMoveOn : Obligations.CreditsTokensAndGatesMoveOn := by
  refine ⟨?credits, ?creditsIdle, ?conforms, ?belowZero, ?otherQueue, ?classShaper, ?noList, ?running, ?pastEnd, ?ended⟩
  case credits =>
    intro s t port a b c hp hs hrole hup
    obtain ⟨s', he, hport, hpark, hothers, hrest⟩ := flowControlUpdate_credits hp t a b c hs hrole hup
    refine ⟨s', he, ?_, ?_, ?_, ?_, ?_, ?_, hpark, fun k _ => hothers k, hrest⟩
    all_goals
      rw [hport]
      simp [PPort.credited, getD_addCredits]
  case creditsIdle =>
    intro s t port a b c hp hs h
    have hnone : (s.at t).errs = [] := (s.at_errs t).trans hs
    obtain ⟨-, hsame, hbuf, hout⟩ := idle_keeps hs t
    exact ⟨_, exec_flowControlUpdate_idle hp t a b c h, (State.finish_pports hnone s).trans (s.at_pports t), hout, hsame, hbuf⟩
  case conforms =>
    intro s t port cls k q hp hc hs hport hcls hq h
    obtain ⟨s', he, hfind, hcells, frame⟩ := shaperConform_queue hp hc t hs hport hcls hq
    rw [h, if_pos rfl] at hfind
    have hget : s'.queues.getD { num := 0 } k = (s.at t).caughtUp k q := by rw [Tab.getD, hfind, Option.getD_some]
    have hserves : (s.at t).portFor k q = port := by
      rw [← State.portNow_of_find (by rw [State.at_queues, hq]), State.at_portNow, hport]
    refine ⟨s', he, ?_, ?_, ?_, fun j _ => frame.others j, frame.dict, hcells, frame.rx, frame.tags⟩
    · rw [hget, State.caughtUp, hserves, hcls, State.at_vtime]
    · rw [hget, State.caughtUp]
    · rw [hget, State.caughtUp, State.at_age]
  case belowZero =>
    intro s t port cls k q hp hc hs hq h
    by_cases hmine : s.portNow k = port ∧ keyClass k = cls
    · obtain ⟨hport, hcls⟩ := hmine
      obtain ⟨s', he, hfind, hcells, frame⟩ := shaperConform_queue hp hc t hs hport hcls hq
      rw [h, if_neg Bool.false_ne_true] at hfind
      exact ⟨s', he, hfind, frame.dict, hcells, frame.rx, frame.tags⟩
    · obtain ⟨hqueues, hrest⟩ := idle_frame hs t
      exact ⟨_, exec_shaperConform_other hp hc t hmine, by rw [hqueues, hq], hrest⟩
  case otherQueue =>
    intro s t port cls k hp hc hs h
    obtain ⟨hqueues, -⟩ := idle_frame hs t
    obtain ⟨-, hsame, hbuf, -⟩ := idle_keeps hs t
    have hother : ¬(s.portNow k = port ∧ keyClass k = cls) := fun ⟨hport, hcls⟩ => h.elim (· hport) (· hcls)
    exact ⟨_, exec_shaperConform_other hp hc t hother, hqueues, hsame, hbuf⟩
  case classShaper =>
    intro s t port cls hp hc hs
    obtain ⟨hqueues, -⟩ := idle_frame hs t
    obtain ⟨-, hsame, hbuf, -⟩ := idle_keeps hs t
    exact ⟨_, exec_shaperConform_class hp hc t s, hqueues, hsame, hbuf⟩
  case noList =>
    intro s t port hp hs hb
    exact gateEntryStart_idle hp t hs (State.nextGate_of_no_list ((s.at_activeBank t port).trans hb))
  case running =>
    intro s t port b d m hp hs hb he h
    exact gateEntryStart_idle hp t hs (State.nextGate_of_running ((s.at_activeBank t port).trans hb)
      (by rwa [State.at_timeline, State.at_gates]) (by rwa [State.at_now, State.at_gates]))
  case pastEnd =>
    intro s t port b hp hs hb h
    exact gateEntryStart_idle hp t hs (State.nextGate_of_past_end ((s.at_activeBank t port).trans hb)
      (by rwa [State.at_timeline, State.at_gates]))
  case ended =>
    intro s t port b d m hp hs hb he h
    obtain ⟨s', hexec, hgate, hsame, hbuf⟩ := gateEntryStart_next hp t hs hb he h
    obtain ⟨hin, -⟩ := List.getElem?_eq_some_iff.1 he
    refine ⟨s', hexec, ?_, ?_, ?_, hsame, hbuf⟩
    · rw [hgate, GateNow.after]
    · rw [hgate, GateNow.after, entryAfter]
    · rw [hgate, GateNow.after_mask hin]

end Sys2Proof.Machine
end

section
/-! SUPPORT. The Orchard Link where the statements about it leave a rule out: a SWAP request that names its flit as it
leaves (R247), a withdrawn port whose own request outlasts the partner's (R213, R216), and a channel minimum that a commit
decision has raised (R175, R211). Each of the three fails in a state of its own. -/

namespace Sys2Proof.Machine

open Sys2Proof

/-! ## The commands -/

@[simp] theorem State.at_link (s : State) (t : Time) (port : Nat) : (s.at t).link port = s.link port := by
  rw [State.link, State.at_links, State.link]

section

variable {s : State} {port : Nat}

/-- A fabric port in ACTIVE whose counts agree with their parity sends its next flit. -/
theorem exec_flitTransmit_sends (hp : port < 512) (t : Time) (hrole : s.isFabric port = true)
    (hpar : (s.link port).parityOk = true) :
    exec (.flitTransmit t port []) s = .next ((((s.at t).transmit port).swapCheck port).finish s) := by
  have hnone : (((s.at t).get .OL_STATE port = 2 && !((s.at t).link port).parityOk) : Bool) = false := by
    rw [State.at_link, hpar, Bool.not_true, Bool.and_false]
  show execFlitTransmit t port [] s = _
  simp only [execFlitTransmit, List.isEmpty_nil, if_true, hnone, Bool.false_eq_true, if_false, State.at_isFabric, hrole]
  exact unit_next (by simp [Instr.wf, hp])

/-- A fabric port takes an INIT flit in. -/
theorem exec_initFlitReceive_fabric (hp : port < 512) (t : Time) (i : Init) (hrole : s.isFabric port = true) :
    exec (.initFlitReceive t port i) s = .next (((s.at t).initIn port i).finish s) := by
  show execInitFlitReceive t port i s = _
  rw [execInitFlitReceive, State.at_isFabric, if_pos hrole]
  exact unit_next (decide_eq_true hp)

/-- A port in ACTIVE takes the minimums that its partner tells. -/
theorem exec_poolUpdate_active (hp : port < 512) (t : Time) (mins : List Nat) (hact : s.get .OL_STATE port = 2) :
    exec (.poolUpdate t port mins) s = .next (((s.at t).peerTold port mins).finish s) := by
  show execPoolUpdate t port mins s = _
  simp only [execPoolUpdate, s.at_get t (o := .OL_STATE) rfl, hact, if_true]
  exact unit_next (decide_eq_true hp)

end

/-! ## A SWAP request that has waited for its turn (R247) -/

/-- A SWAP request for logical lane 2, as it stood when it was put in the queue. -/
def queuedSwap : Ctl := { op := 1, kind := 3, phase := 2, lane := 2, swapFlit := 2048, reqId := 1 }

/-- A fabric port in ACTIVE that has sent 500 flits since it queued the request, which is next to leave. -/
def swapWaits : State :=
  { (State.reset.put .PORT_ROLE 8 3 |>.put .OL_STATE 8 2 |>.put .LINK_WIDTH 8 8) with
    links := [(8, { txCount := 500, ctlq := [queuedSwap], own := some queuedSwap, swapTx := some 2048, reqNum := 1 })] }

/-- The flit that leaves carries the request with a SWAP_FLIT 2,048 flits ahead of the count at which it leaves. -/
theorem swapWaits_stamped :
    ((((swapWaits.at 0).transmit 8).swapCheck 8).finish swapWaits |>.link 8).mem =
      [{ seq := 0, payload := .control { queuedSwap with swapFlit := 2548 }, granules := 4 }] := by
  rfl

/-- Refutes O19: the flit that carries a waiting CONTROL message does not always carry it as it waited. A SWAP request
names its SWAP_FLIT as it leaves, 2,048 flits ahead of the transmit count of that instant (R247). -/
theorem not_flitsKeepTheirSequence : ¬ Obligations.FlitsKeepTheirSequence := by
  intro h
  obtain ⟨sends, -⟩ := h
  obtain ⟨s', hs', -, -, hmem, -⟩ := sends swapWaits 0 8 queuedSwap [] (by decide) rfl rfl rfl rfl rfl
    (by decide) rfl (by decide) rfl
  rw [next_inj hs' (exec_flitTransmit_sends (by decide) 0 rfl (by decide)), swapWaits_stamped] at hmem
  injection hmem with hslot
  cases hslot

/-! ## A withdrawn port whose own request was put off for the partner's (R213, R216) -/

/-- The partner's request for a rate change, which this end has granted. -/
def grantedRateChange : Ctl := { op := 1, kind := 4, rate := 1, reqId := 9 }

/-- This end's request for a physical retrain, put off for the partner's by a collision. -/
def deferredRetrain : Ctl := { op := 1, kind := 5, width := 3, rate := 1, reqId := 4 }

/-- A withdrawn fabric port in INIT, trained at the rate of the partner's request, with its own request to follow. -/
def retrainDeferred : State :=
  { (State.reset.put .PORT_ROLE 8 3 |>.put .OL_STATE 8 1 |>.put .LINK_WIDTH 8 8 |>.put .LINK_RATE 8 0x11
      |>.put .WITHDRAWN 8 1) with
    links := [(8, { theirs := some grantedRateChange, toDone := some grantedRateChange, deferred := some deferredRetrain,
                    wanted := some deferredRetrain })] }

/-- The partner's INIT flit with PEER_SEEN. -/
def partnerInit : Init :=
  { node := 5, width := 8, port := 9, gen := 3, peerSeen := true, seqKept := false, serial := 77, poolUnits := 4096,
    mins := [72, 72, 72, 72, 72, 72, 72, 72], held := [], rxLastGood := 0, txNextSeq := 0, ackCoalesce := 4,
    resumeGranule := 0, ackTimer := 500 }

/-- The link is ACTIVE and the port still withdrawn: the cause of its own request outlasts the partner's. -/
theorem retrainDeferred_staysWithdrawn :
    (((retrainDeferred.at 0).initIn 8 partnerInit).finish retrainDeferred).get .WITHDRAWN 8 = 1 := by
  rfl

/-- Refutes O20: a link that enters ACTIVE from INIT does not always return a withdrawn port to service. Where the port's
own request was put off for the partner's, and its cause still holds, the port stays withdrawn and asks again (R216). -/
theorem not_linksInitialiseAndGoDown : ¬ Obligations.LinksInitialiseAndGoDown := by
  intro h
  obtain ⟨activates, -⟩ := h
  obtain ⟨s', hs', -, -, -, -, -, -, -, hback, -⟩ := activates retrainDeferred 0 8 partnerInit (by decide)
    rfl rfl rfl rfl rfl rfl
  rw [next_inj hs' (exec_initFlitReceive_fabric (by decide) 0 partnerInit rfl)] at hback
  exact hback retrainDeferred_staysWithdrawn

/-! ## A minimum that a commit decision has raised (R175, R211) -/

/-- A fabric port in ACTIVE that enforces 200 units on channel 6 since the commit decision of a reservation. -/
def minimumRaised : State :=
  { (State.reset.put .PORT_ROLE 8 3 |>.put .OL_STATE 8 2 |>.put .LINK_WIDTH 8 8) with
    links := [(8, { peerPool := 4096, peerMins := [72, 72, 72, 72, 72, 72, 200, 72], raised := [(6, 200)] })] }

/-- A POOL_UPDATE of the partner that tells 80 units on every channel leaves channel 6 raised. -/
theorem minimumRaised_stays :
    (((minimumRaised.at 0).peerTold 8 [80, 80, 80, 80, 80, 80, 80, 80]).finish minimumRaised |>.link 8).peerMins =
      [80, 80, 80, 80, 80, 80, 200, 80] := by
  rfl

/-- Refutes O21: a POOL_UPDATE does not always leave the minimums that it tells. One that a commit decision has raised
stays raised where the partner, which applies it at the epoch, still tells less (R175, R211). -/
theorem not_creditsAreAuditedAndNeighboursAsk : ¬ Obligations.CreditsAreAuditedAndNeighboursAsk := by
  intro h
  obtain ⟨-, -, -, -, told, -⟩ := h
  obtain ⟨s', hs', hmins, -⟩ := told minimumRaised 0 8 [80, 80, 80, 80, 80, 80, 80, 80] (by decide) rfl rfl
  rw [next_inj hs' (exec_poolUpdate_active (by decide) 0 _ rfl), minimumRaised_stays] at hmins
  exact absurd hmins (by decide)

end Sys2Proof.Machine
end
